-- ==== Sys2Proof/Word.lean ====
section
/-! DEFINITION. The word types: bytes, byte strings, 32-bit registers, sparse tables. -/

set_option Elab.async false

namespace Sys2Proof

/-- One byte. -/
abbrev Byte := BitVec 8

/-- A byte string, first byte first. -/
abbrev Bytes := List (BitVec 8)

/-- A register of PF BAR0 or VF BAR0: 32 bits (19 R475). -/
abbrev Word := BitVec 32

/-- A sparse indexed table: (index, entry) pairs with indices strictly rising. What an unlisted index reads as is
given by each reader. -/
abbrev Table (α : Type) := List (Nat × α)

end Sys2Proof
end

