-- ==== Sys2Proof/Syntax.lean ====
section
/-! DEFINITION. The commands of the VD9120: one constructor of Instr per row of spec/opcode_table.json, and the
operands they carry. -/

set_option Elab.async false

namespace Sys2Proof

/-- The four accessors of the register blocks (19 R478), and a VF reaching its own queue window (19 R474). -/
inductive Accessor where
  | host | cp0 | cp1 | dbg
  | vf (n : Nat)
  deriving DecidableEq, Repr

/-- One memory request to a BAR (19 R475): byte offset of its first DWORD, DWORD count, byte enables of the first and of
the second DWORD. -/
structure RegAccess where
  off  : Nat
  len  : Nat
  be   : BitVec 4
  be2  : BitVec 4
  deriving DecidableEq, Repr

/-- The right an access needs (05 R121). -/
inductive Right where
  | read | write | fetch
  deriving DecidableEq, Repr

/-- The transfer that met an error response (04 R78, R80, R88). -/
inductive DmaError where
  /-- reading a submission entry of function `fn`, pair `q` -/
  | entryRead (fn q : Nat)
  /-- reading the packet or segment list of the oldest fetched packet -/
  | packetRead
  /-- writing the reply packet of an item at its release -/
  | replyWrite (item : Nat)
  /-- writing the completion entry of an item at its release -/
  | completionWrite (item : Nat)
  deriving DecidableEq, Repr

/-- The two engines of chapter 11 (11 R298, R301). -/
inductive EngineKind where
  | sye | dge
  deriving DecidableEq, Repr

/-- What answers a request (05 R104). -/
inductive Completion where
  /-- pipe 0-31 or digest unit 32-47 -/
  | unit (n : Nat)
  /-- BNE lane and first sub-lane of the resource -/
  | lane (lane sub : Nat)
  /-- the CLC, for the item whose vault operation it holds -/
  | vault (item : Nat)
  deriving DecidableEq, Repr

/-- A cause of leaving P1 or P2 (15 Table 15.15 WAKE). -/
inductive WakeCause where
  | doorbell | bar0 | edge | link | timer | smbus | alarm
  deriving DecidableEq, Repr

/-- A dual-rail error report (16 R411): the wires, the cause and what the fault data carries. -/
structure ErrorReport where
  src       : Nat
  t         : Bool
  c         : Bool
  corrected : Bool
  cause     : Nat
  addr      : Nat
  /-- tenant, item, slot, port or lane the report names, where the source covers several -/
  subject   : Nat
  deriving DecidableEq, Repr

/-- An NVMe drive as the plinth finds it (08 R202, R204). -/
structure Drive where
  usable : Bool
  pages  : Nat
  ident  : Nat
  deriving DecidableEq, Repr

/-- What start-up finds outside the registers: straps, drives, and the results of the integrity checks of what was
kept or stored. -/
structure BootEnv where
  role      : Nat
  id        : Nat
  drive0    : Drive
  drive1    : Drive
  /-- the slot table passes its integrity check (09 R247) -/
  slotsOk   : Bool
  /-- the queue, flow and decanter tables pass theirs (04 R83) -/
  tablesOk  : Bool
  /-- the recorder ring passes its (16 R420) -/
  ringOk    : Bool
  /-- Armature slots A and B pass 17 R435 -/
  imageAOk  : Bool
  imageBOk  : Bool
  /-- the stored vine image reads back as written (09 R272) -/
  vineOk    : Bool
  /-- a superblock copy passes its CMAC under the keys it was written with (08 R213) -/
  superOk   : Bool
  /-- the level-8 node reads back as written (08 R213) -/
  treeOk    : Bool
  /-- the commit log matches its digest (08 R218) -/
  logOk     : Bool
  /-- a stored copy of the update state is valid (17 R434) -/
  updateOk  : Bool
  deriving DecidableEq, Repr

/-- An officer set (09 Table 9.7): threshold, algorithm and key of each officer, and the body as received. -/
structure OfficerSet where
  k    : Nat
  keys : List (Nat × Bytes)
  raw  : Bytes
  deriving DecidableEq, Repr

/-- A mapping table as loaded (03 Table 3.7), with the counter of the message that loaded it. -/
structure MapTable where
  body    : Bytes
  counter : Nat
  deriving DecidableEq, Repr

/-- A slot record (09 Table 9.1) with its tag, cache entry number, unleased count and graft counter. -/
structure Slot where
  key     : Bytes
  type    : Nat
  persist : Bool
  xrst    : Bool
  ucnt    : Bool
  expo    : Bool
  hcache  : Bool
  ovfl    : Bool
  held    : Bool
  usage   : BitVec 16
  owner   : Nat
  parent  : Nat
  gen     : Nat
  stamp   : List Nat
  ucount  : Nat
  expiry  : Nat
  tag     : BitVec 16
  entry   : Option Nat
  unleased : Nat
  gctr    : Nat
  deriving DecidableEq, Repr

/-- A directory entry with the tenant's persistent counters (13 R341, R354; 09 R253). -/
structure Tenant where
  known    : Bool
  epoch    : Nat
  ids      : List Nat
  share    : Nat
  root     : Nat × Nat
  vik      : Nat × Nat
  ctr      : Nat
  recs     : List (Nat × Bytes)
  officers : Option OfficerSet
  map      : Option MapTable
  vgen     : Nat
  mserial  : Nat
  mdigest  : Bytes
  deriving DecidableEq, Repr

/-- A vault record (08 Table 8.4). -/
structure VaultRec where
  kind    : Nat
  pan     : List Nat
  token   : List Nat
  keydig  : Bytes
  created : Nat
  serial  : Nat
  attr    : Bytes
  deriving DecidableEq, Repr

/-- A change of one vault place: tenant, share page, place within the page, record (KIND 0 frees it). -/
structure VaultWrite where
  tenant : Nat
  page   : Nat
  place  : Nat
  val    : VaultRec
  deriving DecidableEq, Repr

/-- An open vault session (08 R229). -/
structure Session where
  first : Nat
  last  : Nat
  kek   : Nat × Nat
  cursor : Nat
  prev  : Nat
  deriving DecidableEq, Repr

/-- The roster (13 Table 13.4). -/
structure Roster where
  hid    : Nat
  period : Nat
  twin   : Bool
  parts  : List (Bytes × Nat × Nat)
  deriving DecidableEq, Repr

/-- A queue pair's configuration and positions as a delta carries them (13 Table 13.6). -/
structure ShadowQueue where
  qid : Nat
  pri : Nat
  size : Nat
  vec : Nat
  cthr : Nat
  ctim : Nat
  sqbase : Nat
  cqbase : Nat
  sqhead : Nat
  cqtail : Nat
  phase : Bool
  deriving DecidableEq, Repr

/-- A context of the active manager as a delta carries it (13 Table 13.6). -/
structure ShadowCtx where
  tenant : Nat
  vf     : Nat
  maxpri : Nat
  fbase  : Nat
  fcount : Nat
  infl   : Nat
  quota  : Nat
  hold   : Bool
  left   : Nat
  queues : List ShadowQueue
  flows  : List (Nat × Nat × Nat)
  deriving DecidableEq, Repr

/-- The content of a delta, or of a resynchronisation snapshot (13 Table 13.6, R356). -/
structure DeltaContent where
  dir      : List (Nat × Tenant)
  roster   : Option Roster
  hctr     : Nat
  hrecs    : List (Nat × Bytes)
  hoff     : Option OfficerSet
  tkeys    : List (Bytes × Bytes)
  mterm    : Nat
  slots    : List (Nat × Slot)
  reserved : List Nat
  vault    : List VaultWrite
  sessions : List (Nat × Session)
  ctxs     : List ShadowCtx
  cycle    : Nat
  deriving DecidableEq, Repr

/-- DELTA (13 R347); `digestOk`: the SHA-384 of the whole delta matches its last frame. -/
structure DeltaMsg where
  cseq     : Nat
  digestOk : Bool
  content  : DeltaContent
  deriving DecidableEq, Repr

/-- BULK (13 R356). -/
inductive BulkMsg where
  | snapshot (cseq : Nat) (c : DeltaContent)
  | extent (w : List VaultWrite)
  | done
  deriving DecidableEq, Repr

/-- EDGE (02 R29): cycle number, held flag, the manager's cycle-unit state (Table 2.7 STATE). -/
structure EdgeMsg where
  num   : Nat
  held  : Bool
  state : Nat
  mterm : Nat
  deriving DecidableEq, Repr

/-- HELLO (13 R335 step 2). -/
structure HelloMsg where
  serial : Bytes
  role   : Nat
  id     : Nat
  hid    : Nat
  mterm  : Nat
  chain  : Bytes
  nonce  : Bytes
  point  : Bytes
  kem    : Bytes
  cseq   : Nat
  deriving DecidableEq, Repr

/-- FINISH (13 R335 step 6). -/
structure FinishMsg where
  sigs    : Bytes
  confirm : Bytes
  width   : Nat
  speed   : Nat
  deriving DecidableEq, Repr

/-- POLL, seen by a worker (13 R359). -/
structure PollMsg where
  mterm : Nat
  deriving DecidableEq, Repr

/-- PLACEMENT (13 Table 13.5): a directory entry, transport keys, or a roster or officer message in its envelope. -/
inductive PlacementBody where
  | entry (tenant : Nat) (t : Tenant)
  | transport (keys : List (Bytes × Bytes))
  | hier (opcode : Nat) (envelope : Bytes)
  deriving DecidableEq, Repr

/-- PLACEMENT with its manager's MTERM. -/
structure PlacementMsg where
  mterm : Nat
  ref   : Nat
  body  : PlacementBody
  deriving DecidableEq, Repr

/-- KEYDIST (13 Table 13.5): slot records of a tenant under its epoch; `complete` closes the set of a placement. -/
structure KeydistMsg where
  mterm    : Nat
  ref      : Nat
  tenant   : Nat
  epoch    : Nat
  slots    : List (Nat × Slot)
  complete : Bool
  deriving DecidableEq, Repr

/-- What a lookup of the source of a PROMOTE by steps 1 to 3 of 09 R240 gave on the part that received the packet: the
slot, or the status and DETAIL of its failure (09 R257, R493). -/
inductive Source where
  | found (p : Slot)
  | failed (status detail : Nat)
  deriving DecidableEq, Repr

/-- FORWARD (08 R219, 09 R254): a packet's opcode and payload, with the source of a PROMOTE. -/
structure ForwardMsg where
  fromId  : Nat
  ref     : Nat
  tenant  : Nat
  epoch   : Nat
  opcode  : Nat
  nowait  : Bool
  payload : Bytes
  source  : Option Source
  deriving DecidableEq, Repr

/-- ANSWER to a forwarded item: a reply, or a rejection that carries the sender's epoch (13 R345). -/
inductive AnswerBody where
  | reply (status detail : Nat) (payload : Bytes)
  | stale (epoch : Nat)
  deriving DecidableEq, Repr

/-- ANSWER (13 Table 13.5). -/
structure AnswerMsg where
  mterm  : Nat
  tenant : Nat
  epoch  : Nat
  item   : Nat
  body   : AnswerBody
  deriving DecidableEq, Repr

/-- A request for a block of uses (09 R244). -/
structure LeaseRequest where
  fromId : Nat
  tenant : Nat
  epoch  : Nat
  slot   : Nat
  deriving DecidableEq, Repr

/-- A block of uses, or a refusal with `uses` 0 (09 R244). -/
structure LeaseGrant where
  slot     : Nat
  gen      : Nat
  uses     : Nat
  unleased : Nat
  mterm    : Nat
  deriving DecidableEq, Repr

/-- An Armature thread (05 R109): its number, its level, the pair it is bound to. -/
structure Thread where
  id    : Nat
  level : Nat
  bound : Option Nat
  deriving DecidableEq, Repr

/-- A PCIe configuration write or MSI-X table write (04 R74, R84, R491). -/
inductive ConfigWrite where
  | vfEnable (enable : Bool) (numVfs : Nat)
  | msixControl (fn : Nat) (enable mask : Bool)
  | msixEntry (fn vec : Nat) (addr : Nat) (data : Nat) (mask : Bool)
  | link (width speed : Nat)
  deriving DecidableEq, Repr

/-- The commands of the VD9120, one constructor per row of spec/opcode_table.json. -/
inductive Instr where
  /-- SQ_TAIL_WRITE (R82). Host writes a new submission tail to SQ_TAIL_q in a queue window, making entries available for fetch. -/
  | sqTailWrite (fn q v : Nat)
  /-- CQ_HEAD_WRITE (R81). Host writes a new completion head to CQ_HEAD_q, freeing completion ring entries so that stalled releases can continue. -/
  | cqHeadWrite (fn q v : Nat)
  /-- SUBMISSION_ENTRY_FETCH (R82). The HFE, by round-robin arbitration and once staging SRAM, INFL and the device-wide limit allow, reads submission entries and then the packet. -/
  | submissionEntryFetch (entry segs : Bytes)
  /-- PACKET_ADMISSION (R50). A fetched packet lands in staging SRAM and passes through the admission checks, becoming a work item or a DIRECT reply. -/
  | packetAdmission (pkt : Bytes)
  /-- HOST_DMA_ERROR (R88). A host DMA meets an error response, putting a queue in the error state or quarantining the context. -/
  | hostDmaError (e : DmaError)
  /-- ITEM_HANDOFF (R105). The dispatcher interrupts an eligible service core with the head item of the highest ready level. -/
  | itemHandoff
  /-- ITEM_RESUME (R106). A resumable item whose request has been answered takes the free issue slot of its own core. -/
  | itemResume (core : Nat)
  /-- WINDOW_GRANT (R123). An item's request through slot 25 for a further buffer is granted by a rule-set swap that adds the window. -/
  | windowGrant (item base len : Nat)
  /-- DECANTER_RELEASE (R113). A complete item whose sequence number equals HEAD, or an unordered item, is released, its completion cycle is stamped and HEAD advances. -/
  | decanterRelease (item : Nat)
  /-- CTIM_EXPIRY (R85). CTIM µs after the first unsignalled completion entry, the queue's MSI-X message is sent. -/
  | ctimExpiry (fn q : Nat)
  /-- VF_FLR (R91). A function-level reset of a VF resets its tenant context, discards replies and returns its ring pointers to 0. -/
  | vfFlr (vf : Nat)
  /-- PF_FLR (R92). A PF function-level reset resets every attached context, deletes every queue and clears VF Enable. -/
  | pfFlr
  /-- TENANT_RESET_COMPLETE (R91). Once the items of a resetting context have ended and the scrub is complete, the context returns to NORMAL or QUARANTINED and the reset replies are sent. -/
  | tenantResetComplete (tenant : Nat)
  /-- FREEZE_COMPLETE (R97). When a freezing context has no item in flight, the FREEZE reply is written. -/
  | freezeComplete (tenant : Nat)
  /-- DELETE_QUEUE_COMPLETE (R96). When a deleted queue's items have been released and written, the pair is removed and DELETE_QUEUE replies. -/
  | deleteQueueComplete (fn q : Nat)
  /-- CYCIN_EDGE (R26). A rising edge on CYCIN is accepted, counted toward acquisition, or found stray, per the cycle unit state. -/
  | cycinEdge (at_ low high : Nat)
  /-- WINDOW_END (R26). A window closing without an edge inserts a held edge or, at held run 8 in CYCLE_LOST, enters UNLOCKED. -/
  | windowEnd
  /-- CYCLE_LOST_TIMEOUT (R26). 2P after the last accepted real edge, a LOCKED unit enters CYCLE_LOST. -/
  | cycleLostTimeout
  /-- ACQUIRE_TIMEOUT (R26). 2P without an edge in ACQUIRE returns the unit to UNLOCKED. -/
  | acquireTimeout
  /-- LOCAL_BOUNDARY (R35). The period timer inserts a local boundary that runs lease renewal, the staged MPU release, the snapshot, the checkpoint and the twin copy. -/
  | localBoundary
  /-- EDGE_MESSAGE (R31). A worker receives an edge message carrying the cycle number, held flag and the manager's state, and forwards it to workers behind it. -/
  | edgeMessage (at_ : Nat) (m : EdgeMsg)
  /-- EDGE_APPLY (R30). A worker applies a received edge exactly 2.5 µs after the manager's edge instant, compensating link latency. -/
  | edgeApply
  /-- CYCLE_SET (R24). Opcode 0C08h sets the cycle number once after reset under the hierarchy officer quorum. -/
  | cycleSet (item : Nat)
  /-- ATTACH (R72). Admin opcode 0001h builds a tenant context bound to a VF or none, with its flow share, INFL and quota. -/
  | attach (item : Nat)
  /-- DETACH (R91). Admin opcode 0002h ends the context's items, deletes its queues and removes the context. -/
  | detach (item : Nat)
  /-- CREATE_QUEUE (R75). Admin opcode 0003h creates a queue pair on a function with its rings, priority and interrupt settings. -/
  | createQueue (item : Nat)
  /-- TENANT_RESET (R91). Admin opcode 0004h resets a tenant context. -/
  | tenantReset (item : Nat)
  /-- DELETE_QUEUE (R96). Admin opcode 0005h stops fetch on a queue pair and deletes it once its items are written. -/
  | deleteQueue (item : Nat)
  /-- SET_QUOTA (R93). Admin opcode 0006h sets quota and policy, taking effect at the next refresh. -/
  | setQuota (item : Nat)
  /-- QUARANTINE (R90). Admin opcode 0007h quarantines a tenant context. -/
  | quarantine (item : Nat)
  /-- QUERY_TENANT (R94). Admin opcode 0008h returns a context's ATTACH fields, state, saved mark, fault source and units left. -/
  | queryTenant (item : Nat)
  /-- FREEZE (R97). Admin opcode 0009h stops fetch on all queues of a context and freezes them. -/
  | freeze (item : Nat)
  /-- SAVE (R98). Admin opcode 000Ah returns a migration blob wrapped for the target part and marks the source context saved. -/
  | save (item : Nat)
  /-- RESTORE (R99). Admin opcode 000Bh checks a migration blob and loads ring positions, flow windows, quota state and DRBG state into a frozen context. -/
  | restore (item : Nat)
  /-- THAW (R86). Admin opcode 000Ch returns an unsaved frozen context to NORMAL. -/
  | thaw (item : Nat)
  /-- GRAFT (R254). Opcode 0101h applies a signed key graft (WRITE, PROMOTE, PRUNE, SCRUB) through the active manager. -/
  | graft (item : Nat)
  /-- PRUNE (R260). Opcode 0102h prunes an ephemeral slot, orphaning its subtree in one slot write. -/
  | prune (item : Nat)
  /-- SCRUB (R261). Opcode 0103h scrubs one ephemeral slot, leaving its descendants usable. -/
  | scrub (item : Nat)
  /-- QUERY (R263). Opcode 0104h returns the attributes of a slot of the tenant. -/
  | query (item : Nat)
  /-- DERIVE (R265). Opcode 0105h derives a new ephemeral key from a parent with DERIVE by SP 800-108. -/
  | derive (item : Nat)
  /-- GENERATE (R266). Opcode 0106h fills a new ephemeral slot under the tenant root from the tenant's DRBG. -/
  | generate (item : Nat)
  /-- OFFICER_SET (R259). Opcode 0107h installs a new tenant officer set by signed envelope. -/
  | officerSet (item : Nat)
  /-- VINE_STATUS (R263). Opcode 0108h returns the tenant's graft counter, officer set and slot counts. -/
  | vineStatus (item : Nat)
  /-- PIN_TRANSLATE (R143). Opcode 0201h deciphers, checks and re-enciphers a PIN block into another format and key. -/
  | pinTranslate (item : Nat)
  /-- PIN_VERIFY (R146). Opcode 0202h verifies a PIN against a reference value. -/
  | pinVerify (item : Nat)
  /-- PIN_CHANGE (R147). Opcode 0203h optionally verifies the old PIN and returns the new reference value. -/
  | pinChange (item : Nat)
  /-- PIN_GENERATE (R148). Opcode 0204h generates a random or natural PIN and returns its block and reference value. -/
  | pinGenerate (item : Nat)
  /-- CVV_GENERATE (R149). Opcode 0301h computes a card verification value. -/
  | cvvGenerate (item : Nat)
  /-- CVV_VERIFY (R149). Opcode 0302h verifies a card verification value in constant time. -/
  | cvvVerify (item : Nat)
  /-- ARQC_VERIFY (R152). Opcode 0303h verifies an ARQC and optionally builds an ARPC. -/
  | arqcVerify (item : Nat)
  /-- SCRIPT_MAC (R154). Opcode 0304h computes an issuer script MAC under a derived session key. -/
  | scriptMac (item : Nat)
  /-- SCRIPT_ENCRYPT (R155). Opcode 0305h enciphers script data or a PIN change block under a derived session key. -/
  | scriptEncrypt (item : Nat)
  /-- DUKPT_DERIVE (R159). Opcode 0401h derives a DUKPT working key into a new ephemeral slot. -/
  | dukptDerive (item : Nat)
  /-- DUKPT_PIN_TRANSLATE (R161). Opcode 0402h translates a PIN block from a derived DUKPT PIN key. -/
  | dukptPinTranslate (item : Nat)
  /-- DUKPT_CIPHER (R162). Opcode 0403h encrypts or decrypts data under a derived DUKPT data key. -/
  | dukptCipher (item : Nat)
  /-- DUKPT_MAC (R163). Opcode 0404h generates or verifies a MAC under a derived DUKPT MAC key. -/
  | dukptMac (item : Nat)
  /-- MAC_GENERATE (R174). Opcode 0501h computes a MAC. -/
  | macGenerate (item : Nat)
  /-- MAC_VERIFY (R175). Opcode 0502h verifies a MAC in constant time. -/
  | macVerify (item : Nat)
  /-- ENCRYPT (R177). Opcode 0601h encrypts data in ECB, CBC, CTR or GCM. -/
  | encrypt (item : Nat)
  /-- DECRYPT (R178). Opcode 0602h decrypts data, holding GCM plaintext until the tag is checked. -/
  | decrypt (item : Nat)
  /-- KEY_WRAP (R180). Opcode 0603h wraps an exportable key by KW or KWP. -/
  | keyWrap (item : Nat)
  /-- KEY_UNWRAP (R181). Opcode 0604h unwraps a key into a new ephemeral slot. -/
  | keyUnwrap (item : Nat)
  /-- DIGEST (R182). Opcode 0701h hashes a message. -/
  | digest (item : Nat)
  /-- STREAM_START (R183). Opcode 0702h opens a hash or HMAC stream on an ordered flow. -/
  | streamStart (item : Nat)
  /-- STREAM_UPDATE (R184). Opcode 0703h adds a part to a stream. -/
  | streamUpdate (item : Nat)
  /-- STREAM_FINISH (R184). Opcode 0704h returns the stream digest or HMAC and frees the context. -/
  | streamFinish (item : Nat)
  /-- RSA_SIGN (R189). Opcode 0801h produces an RSA signature. -/
  | rsaSign (item : Nat)
  /-- RSA_VERIFY (R189). Opcode 0802h checks the modulus and verifies an RSA signature. -/
  | rsaVerify (item : Nat)
  /-- RSA_DECRYPT (R190). Opcode 0803h performs RSAES-OAEP decryption. -/
  | rsaDecrypt (item : Nat)
  /-- ECDSA_SIGN (R191). Opcode 0804h produces an ECDSA signature. -/
  | ecdsaSign (item : Nat)
  /-- ECDSA_VERIFY (R191). Opcode 0805h validates Q and verifies an ECDSA signature. -/
  | ecdsaVerify (item : Nat)
  /-- ECDH (R192). Opcode 0806h performs ECDH or X25519 and derives a key into a new slot. -/
  | ecdh (item : Nat)
  /-- EDDSA_SIGN (R193). Opcode 0807h produces an Ed25519 signature. -/
  | eddsaSign (item : Nat)
  /-- EDDSA_VERIFY (R193). Opcode 0808h verifies an Ed25519 signature. -/
  | eddsaVerify (item : Nat)
  /-- MLKEM_ENCAPS (R194). Opcode 0809h encapsulates to an ML-KEM key and stores the shared key in a new slot. -/
  | mlkemEncaps (item : Nat)
  /-- MLKEM_DECAPS (R194). Opcode 080Ah decapsulates with implicit rejection into a new slot. -/
  | mlkemDecaps (item : Nat)
  /-- MLDSA_SIGN (R195). Opcode 080Bh produces an ML-DSA signature. -/
  | mldsaSign (item : Nat)
  /-- MLDSA_VERIFY (R195). Opcode 080Ch verifies an ML-DSA signature. -/
  | mldsaVerify (item : Nat)
  /-- KEYGEN (R196). Opcode 080Dh generates a key pair into a new slot and returns the public key. -/
  | keygen (item : Nat)
  /-- PUBKEY_READ (R197). Opcode 080Eh returns the public key of a private key. -/
  | pubkeyRead (item : Nat)
  /-- KB_IMPORT (R199). Opcode 0901h imports an X9.143 key block into a new ephemeral slot. -/
  | kbImport (item : Nat)
  /-- KB_EXPORT (R200). Opcode 0902h exports an exportable key as an X9.143 key block. -/
  | kbExport (item : Nat)
  /-- TOKENISE (R226). Opcode 0A01h tokenises a PAN in deterministic or random mode. -/
  | tokenise (item : Nat)
  /-- DETOKENISE (R228). Opcode 0A02h recovers a PAN from a token. -/
  | detokenise (item : Nat)
  /-- DELETE (R228). Opcode 0A03h turns both vault records of a token into tombstones. -/
  | delete (item : Nat)
  /-- EXPORT_OPEN (R229). Opcode 0A04h opens a signed vault export session. -/
  | exportOpen (item : Nat)
  /-- EXPORT_NEXT (R230). Opcode 0A05h exports the next chunk of token records under the KEK. -/
  | exportNext (item : Nat)
  /-- VAULT_QUERY (R231). Opcode 0A06h returns the vault share's counts and flags. -/
  | vaultQuery (item : Nat)
  /-- RANDOM (R331). Opcode 0B01h returns random bytes from the tenant's DRBG instance. -/
  | random (item : Nat)
  /-- DRBG_STATUS (R330). Opcode 0B02h returns the tenant instance's and the conditioner's state. -/
  | drbgStatus (item : Nat)
  /-- HIER_CONFIG (R340). Opcode 0C01h applies a signed hierarchy roster. -/
  | hierConfig (item : Nat)
  /-- HIER_OFFICERS (R338). Opcode 0C02h installs a new hierarchy officer set. -/
  | hierOfficers (item : Nat)
  /-- TENANT_CREATE (R341). Opcode 0C03h creates a directory entry with tenant root, vault index key and officer set. -/
  | tenantCreate (item : Nat)
  /-- TENANT_DELETE (R342). Opcode 0C04h unplaces a tenant, deletes its vault and prunes its root. -/
  | tenantDelete (item : Nat)
  /-- PLACE (R343). Opcode 0C05h changes a tenant's placement, advancing its epoch and distributing its slots. -/
  | place (item : Nat)
  /-- HANDOVER (R353). Opcode 0C06h makes a planned, lossless change of active manager. -/
  | handover (item : Nat)
  /-- FORCE_ACTIVE (R355). Opcode 0C07h makes an unsynchronised standby active, losing the missing state. -/
  | forceActive (item : Nat)
  /-- HIER_QUERY (R360). Opcode 0C09h returns the part's hierarchy state. -/
  | hierQuery (item : Nat)
  /-- DIR_QUERY (R354). Opcode 0C0Ah returns a tenant's directory entry. -/
  | dirQuery (item : Nat)
  /-- TKEY_READ (R339). Opcode 0C0Bh returns the active manager's graft transport encapsulation key. -/
  | tkeyRead (item : Nat)
  /-- LC_STATUS (R406). Opcode 0D01h returns the life-cycle, debug and power status. -/
  | lcStatus (item : Nat)
  /-- LC_TRANSITION (R390). Opcode 0D02h makes a signed life-cycle transition through intent row, erasures and copy rows. -/
  | lcTransition (item : Nat)
  /-- LC_ERASE_COMPLETE (R390). When a transition's erasures finish, the copies are programmed, the reply is written and the part resets. -/
  | lcEraseComplete
  /-- KROOT_SET (R394). Opcode 0D03h chooses KROOT_MODE in PERSO. -/
  | krootSet (item : Nat)
  /-- HOFF_INSTALL (R393). Opcode 0D04h installs the first hierarchy officer set in PERSO. -/
  | hoffInstall (item : Nat)
  /-- DEBUG_OPEN (R398). Opcode 0D05h checks a debug certificate, erases what must not be seen and opens the debug port. -/
  | debugOpen (item : Nat)
  /-- POWER_CTL (R401). Opcode 0D06h sets P1EN and P1IDLE and may request entry to P2. -/
  | powerCtl (item : Nat)
  /-- ADAPTER_RECORD (R66). Opcode 0E01h maps a fixed-length record through the tenant's table to an inner command and back. -/
  | adapterRecord (item : Nat)
  /-- MAP_LOAD (R63). Opcode 0E02h loads or removes a tenant's mapping table by signed envelope. -/
  | mapLoad (item : Nat)
  /-- MAP_QUERY (R68). Opcode 0E03h returns the digest and counter of the current mapping table. -/
  | mapQuery (item : Nat)
  /-- REC_READ (R426). Opcode 0F01h returns ring records from an index at or above a severity. -/
  | recRead (item : Nat)
  /-- REC_ACK (R426). Opcode 0F02h frees held records up to an index that are flushed or of severity 0. -/
  | recAck (item : Nat)
  /-- JRNL_READ (R426). Opcode 0F03h returns journal slots. -/
  | jrnlRead (item : Nat)
  /-- FAULT_STATUS (R425). Opcode 0F04h returns the collector's state summary. -/
  | faultStatus (item : Nat)
  /-- UPDATE (R445). Opcode 0F10h applies a signed update of code, curve entry, cut-offs or guard class. -/
  | update (item : Nat)
  /-- UPDATE_IMAGE_WRITTEN (R444). A code image finishes writing to the non-current slot, is read back, and the directory records it with the new U. -/
  | updateImageWritten (good : Bool)
  /-- GROUP_RELOAD_COMPLETE (R445). A drained group finishes loading and its self-test, returns online and the next group starts draining. -/
  | groupReloadComplete (pass : Bool)
  /-- RESTART (R448). Opcode 0F11h writes its reply and resets the part as PERST_N would. -/
  | restart (item : Nat)
  /-- UPDATE_STATUS (R451). Opcode 0F12h returns image slots, versions, U and floors. -/
  | updateStatus (item : Nat)
  /-- CELLAR_FORMAT (R449). Opcode 0F13h reformats a CLOSED cellar under the hierarchy officer quorum. -/
  | cellarFormat (item : Nat)
  /-- TAMPER_CLEAR (R372). Opcode 0F20h clears named sticky tamper flags under the hierarchy officer quorum. -/
  | tamperClear (item : Nat)
  /-- LANE_TEST (R296). Opcode 0F30h runs a public-operand test on a named BNE lane. -/
  | laneTest (item : Nat)
  /-- CURVE_QUERY (R296). Opcode 0F31h returns a curve entry's digest and use count. -/
  | curveQuery (item : Nat)
  /-- UNIT_TEST (R315). Opcode 0F32h runs the known-answer suite on an SYE pipe or DGE unit. -/
  | unitTest (item : Nat)
  /-- ENGINE_REQUEST_START (R116). A free SYE or DGE unit takes the head request of its queue and makes the vine lookup. -/
  | engineRequestStart (k : EngineKind)
  /-- SEGMENT_END (R117). At the end of a 64 KiB segment, the unit suspends the message or goes on to the next segment. -/
  | segmentEnd (unit : Nat)
  /-- ENGINE_REQUEST_COMPLETE (R104). An engine, vault or DRBG request is answered and its item becomes resumable. -/
  | engineRequestComplete (src : Completion)
  /-- BNE_REQUEST_START (R277). A free BNE resource of the right shape takes a queued request, or a lane is reserved for it. -/
  | bneRequestStart
  /-- HCACHE_FILL_WRITEBACK (R305). A finished fill is written back only if the slot's GEN and entry assignment are unchanged. -/
  | hcacheFillWriteback
  /-- LANE_DRAIN_COMPLETE (R295). A draining lane's last operation ends, its areas are zeroed and the new image is written. -/
  | laneDrainComplete (lane : Nat)
  /-- LANE_KAT_COMPLETE (R295). A lane's known-answer suite ends, bringing it ONLINE or OFFLINE. -/
  | laneKatComplete (lane failed : Nat)
  /-- UNIT_KAT_COMPLETE (R313). An engine unit's known-answer suite ends, bringing it ONLINE or OFFLINE. -/
  | unitKatComplete (unit failed : Nat)
  /-- GROUP_DRAIN_COMPLETE (R108). The last resident item of a draining service group ends and the group goes offline. -/
  | groupDrainComplete (group : Nat)
  /-- SWEEPER_STEP (R262). Every microsecond the sweeper examines the next slot and reclaims it if reclaimable. -/
  | sweeperStep
  /-- VINE_BASE_REWRITE (R271). When the active half's log reaches 1 MiB, a new base is written into the other half and named active. -/
  | vineBaseRewrite
  /-- LEASE_BLOCK_REQUEST (R244). The active manager receives a request for a block of uses and grants it, after the standby's acknowledgement where synchronised. -/
  | leaseBlockRequest (m : LeaseRequest)
  /-- LEASE_BLOCK_GRANT (R244). A part receives a use block and its waiting lookups proceed. -/
  | leaseBlockGrant (m : LeaseGrant)
  /-- STARTUP_TEST_COMPLETE (R319). A noise source's 1,024-sample startup test ends, passing to HEALTHY or counting a failure. -/
  | startupTestComplete (src : Nat) (pass apt : Bool)
  /-- HEALTH_TEST_FAIL (R320). A repetition-count or adaptive-proportion cut-off is reached, isolating the source. -/
  | healthTestFail (src : Nat) (apt : Bool)
  /-- HEALTHY_RUN_COUNT (R320). After 2^20 samples without failure, a source's failure count returns to 0. -/
  | healthyRunCount (src : Nat)
  /-- CONDITIONER_BLOCK_CLOSE (R323). A block of 1,024 samples closes and yields 256 bits of conditioned output. -/
  | conditionerBlockClose (samples : Bytes)
  /-- DRBG_DRAW (R329). A draw on a DRBG instance is served, waits or is refused per Table 12.6. -/
  | drbgDraw
  /-- DRAW_TIMEOUT (R329). A draw unserved after 50 ms is answered NO_ENTROPY. -/
  | drawTimeout
  /-- CELLAR_READ_COMPLETE (R211). A cellar page read completes and is checked against the tree. -/
  | cellarReadComplete (item : Nat) (good : Bool)
  /-- COMMIT_LOG_WRITTEN (R215). The commit log write finishes and the pending root is recorded, which is the durable point. -/
  | commitLogWritten
  /-- COMMIT_FLUSH_DONE (R215). The in-place writes are flushed and the committed serial and root advance. -/
  | commitFlushDone
  /-- NVME_PORT_FAILURE (R205). Three failed writes or a link loss take an NVMe root port offline and close the cellar. -/
  | nvmePortFailure (port : Nat)
  /-- SMART_WARNING (R205). A drive's SMART critical warning is recorded at severity 1. -/
  | smartWarning (drive : Nat)
  /-- VAULT_SWEEPER_STEP (R222). In idle time the vault sweeper examines a page and frees tombstones no path needs. -/
  | vaultSweeperStep (tenant page : Nat)
  /-- PAGE_MESSAGE (R211). Page-repair plaintext arrives over the twin link and the page is rewritten if its digest matches. -/
  | pageMessage (page : Nat) (digestMatches : Bool)
  /-- HELLO_MESSAGE (R335). A HELLO is received and the peer's chain, roster entry, position and HID are checked. -/
  | helloMessage (port : Nat) (m : HelloMsg)
  /-- FINISH_MESSAGE (R335). A FINISH is received and the link becomes UP. -/
  | finishMessage (port : Nat) (m : FinishMsg)
  /-- LINK_RETRY (R335). Every 1 s a REJECTED link is attempted again. -/
  | linkRetry (port : Nat)
  /-- FRAME_TAG_FAILURE (R336). A frame failing its tag is dropped and resent, and sixteen in 1 ms take the port down. -/
  | frameTagFailure (port at_ : Nat)
  /-- FRAME_COUNTER_LIMIT (R336). A frame counter reaching 2^40 repeats the handshake and changes the link keys. -/
  | frameCounterLimit (port : Nat)
  /-- POLL_TIMER (R359). Every 1 ms the manager sends POLL and workers answer STATUS. -/
  | pollTimer (at_ : Nat) (m : Option PollMsg)
  /-- MANAGER_LOST (R359). 3 ms without a valid manager message puts a worker in HOLD. -/
  | managerLost
  /-- HOLD_LIMIT (R359). When the HOLD count reaches 64 the worker enters PURGED and scrubs every ephemeral slot. -/
  | holdLimit
  /-- RESYNC_COMPLETE (R359). A worker's comparison with the manager completes and it returns to SERVING. -/
  | resyncComplete
  /-- PLACEMENT_MESSAGE (R344). A part receives a placement message, adopts the new epoch and acknowledges it. -/
  | placementMessage (at_ : Nat) (m : PlacementMsg)
  /-- KEYDIST_MESSAGE (R254). A placed part receives persistent slot records, applies them and acknowledges. -/
  | keydistMessage (at_ : Nat) (m : KeydistMsg)
  /-- KEYDIST_ACK (R254). The active manager receives a placed part's acknowledgement, releasing the reply once all are in. -/
  | keydistAck (fromId ref : Nat)
  /-- EPOCH_HOLD_TIMEOUT (R345). A message held for a higher epoch is rejected 1 ms after arrival if no placement update came. -/
  | epochHoldTimeout
  /-- FORWARD_MESSAGE (R254). The active manager receives forwarded tenant-kind or vault work and executes it. -/
  | forwardMessage (at_ : Nat) (m : ForwardMsg)
  /-- ANSWER_MESSAGE (R219). A forwarding part receives the active manager's answer and its item completes. -/
  | answerMessage (at_ : Nat) (m : AnswerMsg)
  /-- TAKEOVER_MESSAGE (R346). A part receives TAKEOVER with a new MTERM and adopts it, ending items waiting on the former manager. -/
  | takeoverMessage (at_ mterm : Nat) (serial : Bytes)
  /-- DELTA_MESSAGE (R347). The standby receives a whole delta, applies it in CSEQ order and answers DACK. -/
  | deltaMessage (at_ : Nat) (m : DeltaMsg)
  /-- DACK_MESSAGE (R349). The active manager receives a DACK, finishing the twin copy for waiting vault writes and grafts. -/
  | dackMessage (cseq mterm : Nat)
  /-- BULK_MESSAGE (R356). A resynchronising standby receives snapshot or vault extent data. -/
  | bulkMessage (m : BulkMsg)
  /-- TWIN_HOLD_TOGGLE (R350). Every 1 µs the active manager inverts TWIN_HOLD_P and TWIN_HOLD_N and reads them back. -/
  | twinHoldToggle (at_ : Nat) (p n : Bool)
  /-- MISSED_TOGGLES (R351). After 3 µs without a valid toggle, a synchronised standby takes over. -/
  | missedToggles (at_ : Nat)
  /-- ARBITRATION_TIMEOUT (R355). An arbitrating manager's takeover delay ends with the pair undriven, so it becomes active. -/
  | arbitrationTimeout
  /-- TAMPER_DETECT (R365). A tamper source becomes active and the response of its class starts. -/
  | tamperDetect (at_ src : Nat)
  /-- RESPONSE_COMPLETE (R373). A response completes and the part resets or enters HELD. -/
  | responseComplete (stillActive : BitVec 20)
  /-- HELD_TIMEOUT (R373). 1 ms with no source active moves the guard from HELD to ARMING. -/
  | heldTimeout
  /-- ARMING_TIMEOUT (R373). Monitors valid for 10 µs with no source active move the guard to WATCHING and release the plinth. -/
  | armingTimeout
  /-- MAIN_POWER_UP (R373). The main rails come within limits, the guard leaves BATTERY and the power-cycle count advances. -/
  | mainPowerUp (at_ : Nat)
  /-- MAIN_POWER_LOSS (R375). The main rails fall out of range and the guard enters BATTERY watch. -/
  | mainPowerLoss (at_ : Nat)
  /-- BATTERY_TAMPER (R375). On battery a watched source is detected, the flag, stamp and UNREP are set, and for class C sap is cleared. -/
  | batteryTamper (at_ src : Nat)
  /-- VBAT_COLD_START (R376). VBAT applied with an invalid marker cold-starts and zeroes backup-domain memory. -/
  | vbatColdStart (at_ : Nat) (seeds : List Nat)
  /-- VBAT_WARNING (R377). VBAT below 2.60 V sets BATWARN, drives ALERT_N and records once per start-up. -/
  | vbatWarning (millivolts : Nat)
  /-- DEBUG_PORT_LOCKED_ACCESS (R128). A debug-port access to a locked region is refused and recorded, and the sixteenth in a second raises DEBUG_PROBE. -/
  | debugPortLockedAccess (at_ addr : Nat) (right : Right)
  /-- FAULT_REPORT (R412). The collector takes a dual-rail error report and classifies it as corrected, contained or fatal.
  `more`: the other reports of the same fabric clock cycle. -/
  | faultReport (at_ : Nat) (r : ErrorReport) (more : List ErrorReport)
  /-- ISOLATION_TIMEOUT (R414). A unit not quiet 10 µs after a contained fault makes the fault fatal with ESCAL set. -/
  | isolationTimeout (src : Nat)
  /-- ERR_PULSE_END (R416). At the end of the pulse ERR_N follows FCR_ERRPIN HOLD. -/
  | errPulseEnd
  /-- HEARTBEAT_WRITE (R418). A control pair writes FCR_HBEAT, restarting the heartbeat watch. -/
  | heartbeatWrite (at_ pair : Nat)
  /-- HEARTBEAT_TIMEOUT (R357). 4 ms without a heartbeat starts the recovery sequencer. -/
  | heartbeatTimeout
  /-- SEQUENCER_FLUSH_DONE (R357). The sequencer's recorder flush ends and the part resets, keeping the tables. -/
  | sequencerFlushDone
  /-- SEQUENCER_ERROR (R358). The sequencer reports an error and the part stays closed with ERR_N held low. -/
  | sequencerError
  /-- JOURNAL_FLUSH (R422). With unflushed records and no flush running, a background flush to the journal starts. -/
  | journalFlush
  /-- PWRFAIL_N_ASSERT (R423). PWRFAIL_N recognised writes record 0003h and flushes the unflushed set. -/
  | pwrfailNAssert (at_ : Nat)
  /-- PERST_N_ASSERT (R491). An assertion of PERST_N resets the part, returning configuration space to its defaults. -/
  | perstNAssert (at_ : Nat)
  /-- RESET_N_ASSERT (R466). RESET_N low for 1 µs resets the part as PERST_N would, keeping the straps. -/
  | resetNAssert (at_ : Nat)
  /-- PERST_N_RELEASE (R437). Release of PERST_N samples the straps and starts the plinth. -/
  | perstNRelease (at_ : Nat) (env : BootEnv)
  /-- BOOT_READY (R437). Start-up reaches READY, reports UNREP bits, commits a trial image and resumes kept queues. -/
  | bootReady
  /-- P1_ENTRY (R400). After P1IDLE of idleness with P1EN set, the part gates clocks and enters P1. -/
  | p1Entry
  /-- P1_WAKE (R400). A wake source returns the part from P1 to P0 within 5 µs. -/
  | p1Wake (cause : WakeCause)
  /-- P2_ENTRY (R401). Once the POWER_CTL completion entry is visible, the part enters P2. -/
  | p2Entry
  /-- P2_WAKE (R402). A P2 wake source restores the part, which restarts entropy and refills caches. -/
  | p2Wake (cause : WakeCause) (enough : Bool)
  /-- HEALTH_GET (R427). The SMBus port answers HEALTH_GET with eight status registers and releases SMB_ALERT_N. -/
  | healthGet
  /-- MCTP_CONTROL (R427). The SMBus port answers an MCTP control message in hardware. -/
  | mctpControl (msg : Bytes)
  /-- TAP_BYPASS (R456). The TAP instruction BYPASS is executed. -/
  | tapBypass (bits : List Bool)
  /-- TAP_IDCODE (R456). The TAP instruction IDCODE shifts out the GEN_STEP value. -/
  | tapIdcode
  /-- TAP_SAMPLE_PRELOAD (R456). Boundary-scan SAMPLE/PRELOAD runs only with debug open and the SCAN right. -/
  | tapSamplePreload (bits : List Bool)
  /-- TAP_EXTEST (R456). Boundary-scan EXTEST runs only with debug open and the SCAN right. -/
  | tapExtest (bits : List Bool)
  /-- RC_REGISTER_READ (R481). A read of an RC register returns the reader's own copy and clears it. -/
  | rcRegisterRead (a : Accessor) (r : RegAccess)
  /-- LATCH_LOW_READ (R38). A read of a low half latches the high bits into the reader's latch half. -/
  | latchLowRead (a : Accessor) (r : RegAccess)
  /-- PMU_EVT_WRITE (R428). A write to PMU_EVT sets the counter's event, zeroes it and clears OVF. -/
  | pmuEvtWrite (a : Accessor) (be : BitVec 4) (v : Word)
  /-- PMU_OVF_CLEAR (R430). Writing 1 to a bit of PMU_OVFL or PMU_OVFH clears that counter's OVF. -/
  | pmuOvfClear (a : Accessor) (hi : Bool) (be : BitVec 4) (v : Word)
  /-- PMU_COUNTER_WRAP (R430). A counter wrapping from 2^48 − 1 carries into its odd neighbour under chaining or sets OVF. -/
  | pmuCounterWrap (n : Nat)
  /-- ERRPIN_HOLD_WRITE (R416). A write of FCR_ERRPIN HOLD holds or releases ERR_N after the pulse. -/
  | errpinHoldWrite (a : Accessor) (be : BitVec 4) (v : Word)
  /-- MPU_RULE_WRITE (R486). A control pair writes MPU_ILO or MPU_IHI, changing the inactive set or the pending template. -/
  | mpuRuleWrite (a : Accessor) (hi : Bool) (be : BitVec 4) (v : Word)
  /-- MPU_SWAP_NOW (R486). MPU_CMD OP 001b swaps the selected master's sets at once, or commits the template at once. -/
  | mpuSwapNow (a : Accessor)
  /-- MPU_SWAP_STAGED (R486). MPU_CMD OP 010b stages a swap or template commit for the next boundary. -/
  | mpuSwapStaged (a : Accessor)
  /-- MPU_CANCEL (R486). MPU_CMD OP 011b cancels a staged swap or commit. -/
  | mpuCancel (a : Accessor)
  /-- MPU_COPY_ACTIVE (R486). MPU_CMD OP 100b copies the active set into the inactive set, or the committed template into the pending one. -/
  | mpuCopyActive (a : Accessor)
  /-- AQ_ENABLE (R439). Setting GEN_AQCFG EN creates PF queue pair 0 from the GEN address registers. -/
  | aqEnable (a : Accessor) (v : Word)
  /-- AQ_DISABLE (R439). Clearing GEN_AQCFG EN deletes PF queue pair 0 as DELETE_QUEUE does. -/
  | aqDisable (a : Accessor) (v : Word)
  /-- REGISTER_WRITE (R479). A write to a register without a row of its own is stored, ignored or dropped and counted in GEN_ACCERR. -/
  | registerWrite (a : Accessor) (r : RegAccess) (v w : Word)
  /-- VALID_TOGGLES (R355). An arbitrating or standby manager sees valid toggles of TWIN_HOLD_P and TWIN_HOLD_N driven by its partner and becomes or stays standby. -/
  | validToggles (at_ : Nat) (partnerCseq : Option Nat)
  /-- CONTROL_THREAD_READY (R109). An Armature thread becomes ready on a control list and pre-empts the pair running the lowest-level thread, or waits in order of entry. -/
  | controlThreadReady (t : Thread)
  /-- CONFIGURATION_WRITE (R74). A PCIe configuration write sets VF Enable, NumVFs or MSI-X control, making VFs visible and changing which vectors may send messages. -/
  | configurationWrite (w : ConfigWrite)
  /-- PWRFAIL_N_RELEASE (R423). PWRFAIL_N returns high without a power loss and the part stays in service, so falling rails no longer count as an announced power-down. -/
  | pwrfailNRelease (at_ : Nat)
  /-- ANNOUNCED_POWER_DOWN (R467). 1 ms after PWRFAIL_N is recognised, main rails that fall below their window take the guard to BATTERY without raising VCORE_WINDOW or VIO_WINDOW. -/
  | announcedPowerDown (at_ : Nat)
  /-- JOURNAL_FLUSH_COMPLETE (R422). A background or PWRFAIL_N flush of the unflushed set finishes its QSPI programs, and its records become flushed and may be freed by REC_ACK. -/
  | journalFlushComplete
  /-- FLUSH_RESET_TIMEOUT (R468). 6 ms after PERST_N or RESET_N is asserted during a running flush, the deferred reset takes effect even though the flush has not ended. -/
  | flushResetTimeout
  deriving DecidableEq, Repr

end Sys2Proof
end

