-- ==== Sys2Proof/Decode.lean ====
section
/-! DEFINITION. Reading a command from a word of the opcode table. -/

set_option Elab.async false

namespace Sys2Proof

/-- The command that a word spells by the table's bits. The VD9120 is a block: spec/opcode_table.json gives no row any
bits (95 lists its commands as steps, not as encodings), so no word spells a command. -/
def decodeTableWord (_nbits _w : Nat) : Option Instr := none

end Sys2Proof
end

