-- ==== Sys2Proof/Config.lean ====
section
/-! DEFINITION. What the spec leaves open and no register states: the free values (opaque, no body) and the digests
and checks of byte formats that the manual does not give. -/

set_option Elab.async false

namespace Sys2Proof.Config

/-- FREE VALUE. The n-th value that an open choice of the spec takes (log 7). -/
opaque freeNat : Nat → Nat

/-- FREE VALUE. The generation of slot `idx` after the `epoch`-th loss of the slot table; the reader keeps it nonzero
and below 65,536 (09 R235, log 10). -/
opaque freeGen : Nat → Nat → Nat

/-- FREE VALUE. Whether a chain of certificates, whose format the spec does not give, verifies to the Moante device
root for a serial (13 R335 step 3, log 15). -/
opaque chainVerifies : Bytes → Bytes → Bool

/-- FREE VALUE. Whether the signatures and the confirmation of a FINISH, whose transcript the spec does not lay out,
verify for the peer's HELLO (13 R335 step 6, log 15). -/
opaque finishVerifies : Bytes → Bytes → Bool

/-- FREE VALUE. The key of a link direction after the n-th handshake of a port (13 R335 step 5, log 15). -/
opaque linkKey : Nat → Nat → Bytes

/-- FREE VALUE. The chain digest of the vine image after one more record, whose byte form the spec does not give
(09 R271, log 16). -/
opaque chainDigest : Bytes → Nat → Bytes

/-- FREE VALUE. A digest of a cellar structure whose byte form the spec does not give: the tree root or the log digest
of the n-th batch (08 R210, R215, log 12). -/
opaque cellarDigest : Nat → Bytes

/-- FREE VALUE. The answer to an MCTP control message, which the spec leaves to MCTP (16 R427, log 18). -/
opaque mctpAnswer : Bytes → Bytes

/-- FREE VALUE. The rule of a slot of DMA5's sets, which are fixed in silicon to the recorder ring and the journal region
(19 R488, log 90). -/
opaque dma5Rule : Nat → Nat

end Sys2Proof.Config
end

