-- ==== Sys2Proof/Machine/Requests.lean ====
section
/-! DEFINITION. Requests that items and the part itself place with the engines, the ENT and the CLC: plain data. -/

set_option Elab.async false

namespace Sys2Proof.Machine

/-- A key lookup that a request makes when a unit takes it (09 R240): handle, tenant, accepted types, whether PERSIST is
demanded (07 R169), usage bits needed, whether one of them suffices (07 R197), and whether the lookup makes steps 1 to 3
alone and charges nothing (09 R257). -/
structure KeyReq where
  idx     : Nat
  gen     : Nat
  tenant  : Nat
  types   : List Nat
  persist : Bool
  need    : BitVec 16
  anyOf   : Bool
  bare    : Bool
  deriving DecidableEq, Repr

/-- A derivation inside a request (11 R299): the derived key replaces the first key of the request. -/
inductive KeyStep where
  /-- ICC master key (06 R150): PAN digits, PSN digits -/
  | icc (pan psn : List Nat)
  /-- session key (06 R151): diversification value -/
  | session (r : Bytes)
  /-- TDES DUKPT working key (06 R156): KSN, WKT -/
  | dukptTdes (ksn : Bytes) (wkt : Nat)
  /-- AES DUKPT working key (06 R156): KSN, WKT, WKLEN -/
  | dukptAes (ksn : Bytes) (wkt wklen : Nat)
  deriving DecidableEq, Repr

/-- What a request computes. Keys stand in the order of its lookups. -/
inductive EngineOp where
  -- SYE (11 Table 11.1)
  | lookupOnly
  | pinDecipher (fmt : Nat) (pan : List Nat) (blocks : List Bytes)
  /-- PINs of blocks under the first key, and what the second enciphers for their reference values (06 R145) -/
  | pinRef (fmt : Nat) (pan : List Nat) (blocks : List Bytes) (method : Nat) (vdata : Bytes) (pvki : Nat)
  | pinEncipher (fmt : Nat) (pan pin : List Nat) (fill : Bytes)
  /-- `drawn`: the IV is from the tenant's generator (07 R177) -/
  | cipher (mode : Nat) (enc drawn : Bool) (iv aad data tag : Bytes) (taglen : Nat)
  | mac (alg padm maclen : Nat) (msg : Bytes)
  | cvv (digits : List Nat)
  | arqc (arpcm : Nat) (arqc arpcin pad td : Bytes)
  | scriptPin (ifmt padm : Nat) (pan : List Nat) (block : Bytes)
  | scriptData (padm : Nat) (data : Bytes)
  | wrap (kwp : Bool)
  | unwrap (kwp : Bool) (data : Bytes)
  | kbImport (block : Bytes)
  | kbExport (header fill : Bytes)
  | ff1 (enc : Bool) (tweak : Bytes) (digits : List Nat)
  | kdf (label : Bytes) (outlen : Nat)
  /-- the material of a graft, under its KEK or under a shared secret in the request's holding (09 R256) -/
  | graftUnwrap (type : Nat) (data : Bytes)
  -- DGE (11 R301)
  | hash (alg outlen : Nat) (msg : Bytes)
  | hmac (alg maclen : Nat) (msg : Bytes)
  /-- one part of a stream, and the whole message where it is the last (07 R184) -/
  | stream (alg outlen : Nat) (part whole : Bytes)
  -- BNE (10 Table 10.1)
  | rsaSign (scheme hash saltlen : Nat) (salt digest : Bytes)
  | rsaVerify (scheme hash saltlen modbits : Nat) (n e sig digest : Bytes)
  | rsaDecrypt (hash : Nat) (label ct : Bytes)
  | ecdsaSign (curve : Nat) (digest : Bytes)
  | ecdsaVerify (curve : Nat) (q sig digest : Bytes)
  | ecdh (curve : Nat) (peer otherInfo : Bytes)
  | eddsaSign (msg : Bytes)
  | eddsaVerify (pub sig msg : Bytes)
  | kemEncaps (pset : Nat) (ek : Bytes)
  | kemDecaps (pset : Nat) (ct : Bytes)
  | dsaSign (pset mode : Nat) (ctx msg : Bytes)
  | dsaVerify (pset : Nat) (pk sig ctx msg : Bytes)
  | keygen (kt param : Nat)
  | pubkey
  | modexp (modbits : Nat) (n e base : Bytes)
  | scalarMul (curve : Nat) (scalar point : Bytes)
  | pointCheck (curve : Nat) (point : Bytes)
  | katSuite
  /-- the entry's body and the bases of its primality tests (10 R290) -/
  | curveCheck (body bases : Bytes)
  deriving DecidableEq, Repr

/-- A slot that a request or service writes (06 R159, 07 R167, R168): `life` in cycles, or its expiry cycle once the
request has made its lookups; `fromKey`: its parent is the first key's slot, else the tenant root. -/
structure NewSlot where
  idx    : Nat
  tenant : Nat
  type   : Nat
  usage  : BitVec 16
  ucnt   : Nat
  life   : Nat
  xrst   : Bool
  expo   : Bool
  fromKey : Bool
  deriving DecidableEq, Repr

/-- Who is told of a request's end. -/
inductive Client where
  | item (id : Nat)
  /-- an HMAC cache fill (11 R305): slot and GEN at its start -/
  | fill (slot gen : Nat)
  deriving DecidableEq, Repr

/-- A request in an engine queue or on a unit (05 R116, R117, 10 R277). -/
structure Request where
  id      : Nat
  level   : Nat
  client  : Client
  tenant  : Nat
  flow    : Nat
  keys    : List KeyReq
  chain   : List KeyStep
  op      : EngineOp
  dest    : Option NewSlot
  /-- secret bytes from the ENT (10 R281) -/
  holding : Bytes
  /-- the lane it names (10 R296), where it names one -/
  lane    : Option Nat
  /-- segments already done, and whether it continues a suspended message (05 R117, 11 R310) -/
  segs    : Nat
  cont    : Bool
  /-- keys delivered by the lookups so far: policy word and material; the stamp of a slot under the first -/
  got     : List (BitVec 32 × Bytes)
  stamp   : List Nat
  deriving DecidableEq, Repr

/-- What a request, draw or forwarded message answers its item with. -/
inductive Answer where
  | ok (b : Bytes)
  | nums (l : List Nat)
  | err (status detail : Nat)
  deriving DecidableEq, Repr

/-- STATUS, DETAIL and reply payload (03 Table 3.2). -/
structure Reply where
  status  : Nat
  detail  : Nat
  payload : Bytes
  deriving DecidableEq, Repr

end Sys2Proof.Machine
end

