-- ==== Sys2Proof/Machine/State.lean ====
section
/-! DEFINITION. The state of the VD9120 as plain data, block by block, and State.reset. Every field names the rule of
spec/ that gives it. -/

set_option Elab.async false

namespace Sys2Proof.Machine

/-- Why a step could stop with a fault. Every behaviour the spec calls an error is an effect on State (a status, a fault
record, a tamper response), so no meaning raises one. -/
inductive Fault where
  /-- Raised by no command; safe: it allows nothing. -/
  | none_
  deriving DecidableEq, Repr

/-- Why a command could have no meaning. -/
inductive Refusal where
  /-- Raised by an arm of exec whose meaning is not written yet; safe: the model stops. -/
  | notModelled (mnemonic : String)
  deriving DecidableEq, Repr

/-! ## What the part sends and drives -/

/-- A completion entry (04 Table 4.4). -/
structure Completed where
  fn : Nat
  q : Nat
  pos : Nat
  status : Nat
  detail : Nat
  rlen : Nat
  phase : Bool
  trunc : Bool
  direct : Bool
  rmark : Bool
  tag : Nat
  deriving DecidableEq, Repr

/-- A message of the trellis and twin links that the part sends (13 Table 13.5). -/
inductive LinkMsg where
  | hello | finish
  | edge (m : EdgeMsg)
  | poll | status
  | placement (m : PlacementMsg)
  | keydist (m : KeydistMsg)
  | keydistAck (ref : Nat)
  | forward (m : ForwardMsg)
  | answer (m : AnswerMsg)
  | stale (ref epoch : Nat)
  | leaseRequest (m : LeaseRequest)
  | leaseGrant (m : LeaseGrant)
  | leaseRecord (slot uses : Nat)
  | takeover (mterm : Nat) (serial : Bytes)
  | delta (m : DeltaMsg)
  | dack (cseq : Nat)
  | pageAsk (page : Nat)
  | page (page : Nat)
  | bulk (m : BulkMsg)
  deriving DecidableEq, Repr

/-- What leaves the part, in order (log 4). -/
inductive Out where
  /-- a reply packet written at RADDR for a function's queue (04 R78) -/
  | replyPacket (fn raddr : Nat) (bytes : Bytes)
  | completion (c : Completed)
  | msix (fn vec : Nat)
  /-- a register read's answer; `abort`: Completer Abort (19 R475) -/
  | readData (a : Accessor) (data : List Word) (abort : Bool)
  | link (port : Nat) (m : LinkMsg)
  | cycout
  | errPulse
  | smbus (bytes : Bytes)
  | tdo (bits : List Bool)
  | debugError
  deriving DecidableEq, Repr

/-! ## OTP, backup domain, guard (14, 15) -/

/-- Life-cycle codes (15 Table 15.1). -/
inductive LifeCycle where
  | blank | test | perso | field | analysis | void
  deriving DecidableEq, Repr

/-- KROOT_MODE (15 R394). -/
inductive KRoot where
  | unset | independent | maquette
  deriving DecidableEq, Repr

/-- One-time-programmable memory (15 R386, R392; 14 R364; 17 R436) and the state in force (15 R387). -/
structure Otp where
  copy1  : List Nat
  copy2  : List Nat
  copy3  : List Nat
  intent : List Nat
  force  : LifeCycle
  kroot  : KRoot
  klock  : Bool
  /-- fuse secret, 32 bytes; none before TEST→PERSO -/
  fuse   : Option Bytes
  raiseB : BitVec 20
  raiseC : BitVec 20
  floorArm : Nat
  floorSvc : Nat
  floorBne : Nat
  deriving DecidableEq, Repr

/-- The cellar root record (14 Table 14.6); `crcOk` its CRC. -/
structure RootRec where
  cserial : Nat
  croot   : Bytes
  pserial : Nat
  proot   : Bytes
  logdig  : Bytes
  crcOk   : Bool
  deriving DecidableEq, Repr

/-- The freshness record (14 Table 14.7). -/
structure Fresh where
  half  : Bool
  count : Nat
  chain : Bytes
  crcOk : Bool
  deriving DecidableEq, Repr

/-- Last stamp and count of a tamper source (14 R371, R381, Table 14.5 EVENTS). -/
structure TamperEvent where
  sec   : Nat
  sub   : Nat
  batt  : Bool
  count : Nat
  deriving DecidableEq, Repr

/-- Backup-domain memory (14 Table 14.5) and the time-stamp counter's origin (R381). -/
structure Backup where
  valid   : Bool
  sap     : Bytes
  sapCrc  : Nat
  pwrcyc  : Nat
  /-- operating seconds before the last rise of main power -/
  opsecs  : Nat
  gctr    : Nat
  gdig    : Bytes
  /-- none: all 128 bytes zero (R383) -/
  root    : Option RootRec
  fresh   : Fresh
  mseed   : List Nat
  classes : Table Nat
  flags   : BitVec 20
  unrep   : BitVec 20
  events  : Table TamperEvent
  tsZero  : Nat
  deriving DecidableEq, Repr

/-- Guard states (14 Table 14.3). -/
inductive GuardState where
  | battery | arming | watching | responding | held | dormant
  deriving DecidableEq, Repr

/-- Power states (15 Table 15.7). -/
inductive Power where
  | p0 | p1 | p2 | p3
  deriving DecidableEq, Repr

/-- The guard (14), the debug gate (15 R396) and the power states (15 R400). -/
structure Guard where
  st      : GuardState
  active  : BitVec 20
  pend    : BitVec 20
  lastId  : Nat
  lastCls : Nat
  /-- class being applied: 0 none, 1 A, 2 B, 3 C -/
  cls     : Nat
  cold    : Bool
  /-- the backup domain has cold-started since the last start-up (14 R376) -/
  coldNext : Bool
  sapClr  : Bool
  batWarn : Bool
  batRec  : Bool
  vbat    : Nat
  temp    : BitVec 8
  dbgOpen : Bool
  rights  : BitVec 16
  erased  : Bool
  dbgAcc  : List Nat
  power   : Power
  p1en    : Bool
  p1idle  : Nat
  wake    : Nat
  /-- the POWER_CTL item whose completion entry P2 waits for (15 R401) -/
  p2item  : Option Nat
  p2go    : Bool
  powerUpAt : Nat
  deriving DecidableEq, Repr

/-! ## Start-up, pins, flash (17, 18) -/

/-- Reset causes (16 Table 16.5 code 0002h). -/
inductive ResetCause where
  | powerUp | perst | resetPin | tamper | sequencer | lifecycle
  deriving DecidableEq, Repr

/-- GEN_BOOT, GEN_AQ registers, pins and the reset in progress (17 Table 17.9-17.11; 18 R464-R468). -/
structure Boot where
  phase     : Nat
  trial     : Bool
  slotB     : Bool
  fellback  : Bool
  freshroot : Bool
  vinefail  : Bool
  closed    : Bool
  /-- the roll-forward of this start-up had to run (15 Table 15.10 VALID bit 3) -/
  rollfwd   : Bool
  cause     : ResetCause
  /-- straps as latched; none before the first release of PERST_N -/
  straps    : Option (Nat × Nat)
  env       : BootEnv
  perst     : Bool
  pwrfail   : Bool
  pwrfailAt : Nat
  /-- a reset put off while a flush runs: its cause and the instant it takes effect at the latest (18 R468) -/
  deferred  : Option (ResetCause × Nat)
  /-- output gates closed (14 R365, 16 R415) -/
  gates     : Bool
  /-- tables kept by the reset in progress, with the status of their abort replies (04 R83) -/
  kept      : Option (Nat × Nat)
  aqsql     : Word
  aqsqh     : Word
  aqcql     : Word
  aqcqh     : Word
  aqcfg     : Word
  deriving DecidableEq, Repr

/-- A code image in a flash slot (17 Table 17.2). -/
structure Image where
  ver : Nat
  svn : Nat
  /-- the update counter U with which it was installed -/
  u   : Nat
  deriving DecidableEq, Repr

/-- A code kind's two slots and the directory's words on them (17 R434). -/
structure ImageKind where
  a       : Image
  b       : Image
  curB    : Bool
  pend    : Bool
  tried   : Bool
  deriving DecidableEq, Repr

/-- A running UPDATE (17 R443-R446): its item, UTYPE, the units still to reload, those done, the image, USTATE (Table 17.8),
and whether the unit at hand loads the previous image again. -/
structure Updating where
  item    : Nat
  utype   : Nat
  targets : List Nat
  done    : Nat
  image   : Image
  counter : Nat
  digest  : Bytes
  stage   : Nat
  retry   : Bool
  deriving DecidableEq, Repr

/-- The QSPI flash (17 Table 17.1): image directory, update state, running update. -/
structure Flash where
  arm     : ImageKind
  svc     : ImageKind
  bne     : ImageKind
  u       : Nat
  urec    : Option (Nat × Bytes)
  upd     : Option Updating
  curves  : Table Bytes
  crs     : Table Nat
  cas     : Table Nat
  /-- the event journal's part in the user region (16 R422) -/
  journal : Table Bytes
  deriving DecidableEq, Repr

/-! ## Cycle unit (02) -/

/-- Cycle unit states (02 Table 2.7 STATE). -/
inductive CycleState where
  | unlocked | acquire | locked | lost
  deriving DecidableEq, Repr

/-- The cycle unit (02 R17-R38). Instants and periods in ns. -/
structure Cyu where
  st       : CycleState
  /-- the last cycle number, or none before the first lock since reset (R23) -/
  num      : Option Nat
  held     : Bool
  run      : Nat
  lostSeen : Bool
  setDone  : Bool
  setN     : Option Nat
  trellis  : Bool
  /-- P in µs in force, and P at the next reset (R18) -/
  period   : Nat
  nextPer  : Nat
  ivals    : List Nat
  lastReal : Nat
  base     : Nat
  lastAdv  : Nat
  /-- the interval that the next accepted edge ends can count (R20) -/
  counts   : Bool
  /-- R27's number exceeded: no lock before a reset (R23) -/
  ended    : Bool
  acq      : Nat
  acqLast  : Nat
  timer    : Nat
  skew     : Nat
  msgs     : List (Nat × EdgeMsg)
  deriving DecidableEq, Repr

/-! ## Host front end (04) -/

/-- Context states (04 Table 4.7). -/
inductive CtxState where
  | normal | quarantined | resetting | frozen
  deriving DecidableEq, Repr

/-- A tenant context (04 Table 4.6). -/
structure Ctx where
  vf      : Nat
  maxpri  : Nat
  fbase   : Nat
  fcount  : Nat
  infl    : Nat
  quota   : Nat
  hold    : Bool
  /-- quota units left in the cycle; meaningless with quota 0 -/
  left    : Nat
  staged  : Option (Nat × Bool)
  st      : CtxState
  saved   : Bool
  fsrc    : Nat
  /-- DETAIL of the reset in progress (R91), items whose replies wait for it, and the state it ends in -/
  rdetail : Nat
  waiters : List Nat
  quarAfter : Option Nat
  flr     : Bool
  gone    : Bool
  inst    : Option Nat
  freezer : List Nat
  deriving DecidableEq, Repr

/-- Queue pair states (04 Table 4.5 Q_STATE). -/
inductive QState where
  | enabled | frozen | error
  deriving DecidableEq, Repr

/-- A queue pair (04 R75-R85). -/
structure Queue where
  st      : QState
  pri     : Nat
  size    : Nat
  vec     : Nat
  cthr    : Nat
  ctim    : Nat
  sqbase  : Nat
  cqbase  : Nat
  sqtail  : Nat
  sqhead  : Nat
  cqhead  : Nat
  cqtail  : Nat
  phase   : Bool
  /-- completion entries since the last message, and when the first was written (R85) -/
  unsig   : Nat
  unsigAt : Nat
  /-- deletion in progress, with the items that wait for it (R96) -/
  del     : Bool
  delers  : List Nat
  /-- the RMARK entry of a reset that kept the pair is still to be written (R83) -/
  rmark   : Bool
  deriving DecidableEq, Repr

/-- A submission entry fetched, its packet not yet admitted (04 R77, R82). -/
structure Fetched where
  fn    : Nat
  q     : Nat
  pos   : Nat
  tag   : Nat
  raddr : Nat
  rcap  : Nat
  dlen  : Nat
  /-- it landed, and its DIRECT reply waits for room in the completion ring (log 38) -/
  stuck : Bool
  deriving DecidableEq, Repr

/-- An MSI-X entry (04 R84) and its pending bit. -/
structure Msix where
  addr : Nat
  data : Nat
  mask : Bool
  pend : Bool
  deriving DecidableEq, Repr

/-- The host front end. Queue keys are 16 × function + pair, MSI-X keys 128 × function + vector. -/
structure Hfe where
  ctxs    : Table Ctx
  queues  : Table Queue
  fetched : List Fetched
  rrFn    : Nat
  rrQ     : Table Nat
  events  : Table (BitVec 4)
  lost    : BitVec 65
  vfen    : Bool
  numvf   : Nat
  width   : Nat
  speed   : Nat
  msix    : Table Msix
  msixFn  : Table (Bool × Bool)
  saveCyc : Nat
  saves   : Nat
  deriving DecidableEq, Repr

/-! ## Dispatcher (05) -/

/-- What an item's service waits for (05 R104). -/
inductive Wait where
  | engine (req : Nat)
  | draw
  | forward
  /-- the twin copy that carries the item's vault write: batch number (08 R216) -/
  | twin (batch : Nat)
  /-- a cellar read -/
  | page
  /-- a completion that another command brings (reset, freeze, deletion, acknowledgements, format, erasure, update) -/
  | event
  deriving DecidableEq, Repr

/-- Where a work item stands (05 R103-R112). Core and context number of a resident item. -/
inductive Phase where
  /-- held for quota (03 R53) -/
  | held
  /-- on its service list; for a flow-serial opcode, when the flow allows -/
  | ready
  | running (core ctx : Nat)
  | waiting (core ctx : Nat) (w : Wait)
  | resumable (core ctx : Nat) (at_ : Nat)
  /-- complete: its reply waits for release -/
  | complete
  deriving DecidableEq, Repr

/-- A work item (03 Table 3.1; 05). -/
structure Item where
  fn      : Nat
  q       : Nat
  pos     : Nat
  tag     : Nat
  raddr   : Nat
  rcap    : Nat
  opcode  : Nat
  tenant  : Nat
  flow    : Nat
  ord     : Bool
  seq     : Nat
  nowait  : Bool
  pcrc    : Bool
  key     : Nat
  epoch   : Nat
  notafter : Nat
  payload : Bytes
  /-- header bytes kept for steps 9-11 when a held packet re-enters (R53): reserved bits set, KEY, delivered CRC good -/
  rsvd    : Bool
  crcOk   : Bool
  sn      : Nat
  arr     : Nat
  level   : Nat
  phase   : Phase
  answers : List Answer
  holding : Bytes
  /-- slot reserved for the item (06 R159), and slot it has written -/
  slot    : Option Nat
  wrote   : Option Nat
  /-- mapping table sampled at hand-off (03 R67) -/
  map     : Option MapTable
  windows : List (BitVec 64)
  /-- an adapter item that runs its inner command: the matched entry, and the outer payload (03 R66) -/
  outer   : Option (Nat × Bytes)
  reply   : Option Reply
  /-- the source that a forwarded PROMOTE brought (09 R257) -/
  source  : Option Source
  deriving DecidableEq, Repr

/-- A flow's counters (05 R111). -/
structure Flow where
  head : Nat
  next : Nat
  deriving DecidableEq, Repr

/-- A service group (05 R108, 17 R445). -/
inductive GroupState where
  | online | draining | offline | fault
  deriving DecidableEq, Repr

/-- A group: state and the image version it runs (17 R446). -/
structure Group where
  st  : GroupState
  ver : Nat
  deriving DecidableEq, Repr

/-- An MPU: its two rule sets, the active one, a staged swap, its last denial (05 R125, 19 R485). -/
structure Mpu where
  a      : Table (BitVec 64)
  b      : Table (BitVec 64)
  actB   : Bool
  pend   : Bool
  vaddr  : Nat
  vright : Option Right
  deriving DecidableEq, Repr

/-- The dispatcher (05). -/
structure Dsp where
  items   : Table Item
  flows   : Table Flow
  arr     : Nat
  rrLevel : Table Nat
  rrGroup : Nat
  groups  : Table Group
  pair0   : Option Thread
  pair1   : Option Thread
  control : List Thread
  off0    : Bool
  off1    : Bool
  mpus    : Table Mpu
  tmpl    : Table (BitVec 64)
  ptmpl   : Table (BitVec 64)
  tpend   : Bool
  deriving DecidableEq, Repr

/-! ## Engines (10, 11) -/

/-- Unit states (11 Table 11.8). -/
inductive UnitState where
  | testing | online | offline
  deriving DecidableEq, Repr

/-- A pipe or digest unit (11 R313). `testers`: the UNIT_TEST items that wait for it (R315; log 66). -/
structure EngineUnit where
  st     : UnitState
  faults : Nat
  req    : Option Request
  testers : List Nat
  deriving DecidableEq, Repr

/-- An HMAC cache entry (11 Table 11.4). -/
structure CacheEntry where
  slot : Nat
  gen  : Nat
  v256 : Bool
  v512 : Bool
  i256 : Bytes
  o256 : Bytes
  i512 : Bytes
  o512 : Bytes
  deriving DecidableEq, Repr

/-- A saved segment context (11 Table 11.6), in engine context save memory. -/
structure SavedCtx where
  ctr  : Nat
  req  : Nat
  item : Nat
  seg  : Nat
  deriving DecidableEq, Repr

/-- A stream context (07 R183): tenant, ALG, OUTLEN, key handle, next PART, message so far. -/
structure Stream where
  tenant : Nat
  alg    : Nat
  outlen : Nat
  key    : Nat
  part   : Nat
  data   : Bytes
  deriving DecidableEq, Repr

/-- The symmetric and digest engines (11). Units 0-31 are pipes, 32-47 digest units. -/
structure Eng where
  syeQ    : List Request
  dgeQ    : List Request
  units   : Table EngineUnit
  saved   : Table SavedCtx
  savectr : Nat
  ekey    : Option Bytes
  cache   : Table CacheEntry
  /-- source numbers of the last unit of each kind to go OFFLINE (R314) -/
  offSye  : Nat
  offDge  : Nat
  offBne  : Nat
  lastUnit : Nat
  lastSrc : Nat
  noneSye : Bool
  noneDge : Bool
  noneBne : Bool
  streams : Table Stream
  reqs    : Nat
  deriving DecidableEq, Repr

/-- Lane states (10 Table 10.9). -/
inductive LaneState where
  | online | draining | loading | testing | offline
  deriving DecidableEq, Repr

/-- Lane modes (10 Table 10.12 MODE). -/
inductive LaneMode where
  | idle | whole | split | ntt
  deriving DecidableEq, Repr

/-- An operation on a lane: its request, its first sub-lane and how many, and when it finishes (10 R277, R283). -/
structure LaneOp where
  req   : Request
  sub   : Nat
  width : Nat
  fin   : Nat
  deriving DecidableEq, Repr

/-- A lane (10 Table 10.12). -/
structure Lane where
  st      : LaneState
  mode    : LaneMode
  ops     : List LaneOp
  ver     : Nat
  uctr    : Nat
  fault   : Nat
  katfail : Bool
  deriving DecidableEq, Repr

/-- The big-number engine (10). -/
structure Bne where
  queue : List Request
  lanes : Table Lane
  resv  : Option (Nat × Nat)
  deriving DecidableEq, Repr

/-! ## Vine key store (09) -/

/-- The root in use (09 R234, R268; 17 R441). -/
inductive RootUse where
  | none_ | rootstock | maquette
  deriving DecidableEq, Repr

/-- The persistent state of the vine image (09 Table 14), with the root it is enciphered under. -/
structure VineImage where
  root    : Bytes
  slots   : Table Slot
  tenants : Table Tenant
  hwm     : Nat
  tkeySeed : Bytes
  deriving DecidableEq, Repr

/-- The vine key store. -/
structure Vks where
  slots    : Table Slot
  epoch    : Nat
  freed    : List Nat
  reserved : List Nat
  sweep    : Nat
  use      : RootUse
  root     : Bytes
  img      : Option VineImage
  half     : Bool
  logBytes : Nat
  count    : Nat
  chain    : Bytes
  imgSt    : Nat
  /-- the image lies in the cellar, not in the QSPI flash (09 R270) -/
  imgIn    : Bool
  hwm      : Nat
  /-- requests whose lookup waits for a lease block: slot, request, unit (R244) -/
  leaseW   : List (Nat × Request × Nat)
  /-- blocks that wait for the standby's acknowledgement: slot, part, uses (R244) -/
  leaseP   : List (Nat × Nat × Nat)
  deriving DecidableEq, Repr

/-! ## Entropy (12) -/

/-- Noise source states (12 Table 12.1). -/
inductive SourceState where
  | startup | healthy | retest | failed
  deriving DecidableEq, Repr

/-- A noise source. -/
structure Noise where
  st    : SourceState
  fails : Nat
  apt   : Bool
  cr    : Nat
  ca    : Nat
  deriving DecidableEq, Repr

/-- Conditioner states (12 Table 12.3). -/
inductive CondState where
  | starting | seeding | running | stopped
  deriving DecidableEq, Repr

/-- A CTR_DRBG state (12 R326, R328). -/
structure Drbg where
  tenant : Nat
  key    : Bytes
  v      : Bytes
  reqs   : Nat
  bytes  : Nat
  /-- its seed has arrived -/
  seeded : Bool
  /-- it has been instantiated before and waits for a reseed only -/
  made   : Bool
  deriving DecidableEq, Repr

/-- What a seed is for (12 R325). -/
inductive SeedUse where
  | instantiate (inst : Nat)
  | reseed (inst : Nat)
  /-- a prediction-resistant draw -/
  | fresh (draw : Nat)
  /-- a reserve seed taken is replaced -/
  | refill
  deriving DecidableEq, Repr

/-- A draw (12 R329): its number, its item, its generator, bytes asked and got, additional input, secret, instant asked. -/
structure Draw where
  id     : Nat
  item   : Nat
  inst   : Nat
  n      : Nat
  pr     : Bool
  nowait : Bool
  adata  : Bytes
  secret : Bool
  got    : Bytes
  since  : Nat
  deriving DecidableEq, Repr

/-- The entropy unit (12). -/
structure Ent where
  src     : Table Noise
  cond    : CondState
  seeded  : Bool
  ekey    : Bool
  buf     : Bytes
  reserve : List Bytes
  urgent  : List SeedUse
  normal  : List SeedUse
  insts   : Table Drbg
  /-- draws asked and not yet taken, then draws that wait -/
  asked   : List Draw
  waiting : List Draw
  draws   : Nat
  deriving DecidableEq, Repr

/-! ## Cellar and vault (08) -/

/-- Cellar states (08 Table 8.3). -/
inductive CellarState where
  | absent | opened | closed | formatting
  deriving DecidableEq, Repr

/-- A batch of cellar writes (08 R215): its number, its changes, the pages of its log. -/
structure Batch where
  num    : Nat
  writes : List VaultWrite
  pages  : Nat
  deriving DecidableEq, Repr

/-- A closed batch whose twin copy has not finished (08 R216): whether its durable point has passed, and the delta that
the standby still has to acknowledge. -/
structure Copying where
  batch   : Batch
  durable : Bool
  delta   : Option Nat
  deriving DecidableEq, Repr

/-- A tenant's vault share (08 R220, R226): extents in allocation order, next SERIAL. -/
structure Share where
  extents : List Nat
  serial  : Nat
  deriving DecidableEq, Repr

/-- An overflow key object (08 R208): owner, type, material. -/
structure KeyObject where
  owner : Nat
  type  : Nat
  key   : Bytes
  deriving DecidableEq, Repr

/-- The cellar controller. Vault places are keyed by (tenant, page, place) as one number. -/
structure Clc where
  st       : CellarState
  drive0   : Drive
  drive1   : Drive
  off0     : Bool
  off1     : Bool
  pages    : Nat
  format   : Nat
  fmtRoot  : Bytes
  /-- the open batch, the one after it, the number and log pages of the batch being committed -/
  batch    : Batch
  next     : Batch
  closing  : Option (Nat × Nat)
  copies   : List Copying
  lag      : Bool
  replay   : Bool
  /-- pages asked of the standby (R211), pages marked bad -/
  repairs  : List Nat
  bad      : List Nat
  vault    : Table VaultRec
  shares   : Table Share
  sessions : Table Session
  objects  : Table KeyObject
  journal  : Table Bytes
  /-- items whose vault lookup waits for a page, with the page -/
  reads    : Table Nat
  deriving DecidableEq, Repr

/-! ## Hierarchy and links (13) -/

/-- LNK_STATUS MSTATE (13 Table 13.12). -/
inductive MState where
  | noRoster | arbitrating | active | standbySync | standbyResync | standbyUnsync | serving | hold | purged | resync
  deriving DecidableEq, Repr

/-- Port states (13 Table 13.13). -/
inductive PortState where
  | down | training | auth | up | rejected
  deriving DecidableEq, Repr

/-- A trellis sub-link or the twin port; keys are LNK_PSEL values (13 Table 13.11). -/
structure Port where
  st     : PortState
  width  : Nat
  speed  : Nat
  failst : Nat
  peer   : Option Nat
  hello  : Option HelloMsg
  key    : Bytes
  shakes : Nat
  tagAt  : List Nat
  deriving DecidableEq, Repr

/-- A placement that the part holds (13 R344): epoch, whether it is placed here, complete slot set received. -/
structure Placed where
  epoch : Nat
  here  : Bool
  full  : Bool
  deriving DecidableEq, Repr

/-- A reply that waits for acknowledgements and the twin copy (09 R254, 13 R343): its item, the message's tenant, COUNTER
and digest, the parts still to acknowledge `ref`, the tenant whose placement goes out once they have, and where to, the delta that must be acknowledged,
the items of duplicates. -/
structure Apply where
  ref     : Nat
  item    : Nat
  gate    : Nat
  counter : Nat
  digest  : Bytes
  reply   : Reply
  await   : List Nat
  after   : Option (List Nat × Nat)
  delta   : Option Nat
  also    : List Nat
  deriving DecidableEq, Repr

/-- A message held for a higher epoch (13 R345). -/
inductive HeldMsg where
  | keydist (m : KeydistMsg)
  | forward (m : ForwardMsg)
  | answer (m : AnswerMsg)
  | lease (m : LeaseRequest)
  deriving DecidableEq, Repr

/-- Hierarchy state and the link fabric. -/
structure Hier where
  roster   : Option Roster
  hctr     : Nat
  hrecs    : List (Nat × Bytes)
  hoff     : Option OfficerSet
  mst      : MState
  mterm    : Nat
  cseq     : Nat
  /-- sequence number of the last delta closed, deltas closed and not acknowledged, size in KiB of the last -/
  closed   : Nat
  out      : List Nat
  lastKib  : Nat
  synced   : Bool
  late     : Bool
  delta    : DeltaContent
  twinAct  : Bool
  driving  : Bool
  holdP    : Bool
  toggleAt : Nat
  mism     : Nat
  undriven : Bool
  undrivenAt : Nat
  arbAt    : Nat
  dir      : Table Tenant
  placed   : Table Placed
  ports    : Table Port
  portsHeld : Bool
  tkeys    : List (Bytes × Bytes)
  ownTkey  : Bytes
  gseed    : Bytes
  partner  : Bytes
  applies  : List Apply
  refs     : Nat
  msgs     : List (Nat × HeldMsg)
  /-- items whose FORWARD waits for a manager (13 R359) -/
  fwd      : List Nat
  holdCnt  : Nat
  heard    : Nat
  shadows  : List ShadowCtx
  resyncN  : Nat
  /-- the HANDOVER item in progress, and the extra delta that it waits for (R353) -/
  handover : Option (Nat × Option Nat)
  /-- KIND 10h and 11h messages that a part which is not linked still has to receive (R338): opcode and envelope, by ID -/
  owed     : Table (List (Nat × Bytes))
  deriving DecidableEq, Repr

/-! ## Faults, recorder, counters (16) -/

/-- Collector states (16 Table 16.3). -/
inductive ColState where
  | startup | normal | test | recovery | halted
  deriving DecidableEq, Repr

/-- What the collector keeps of a source (16 Table 16.14, R413). -/
structure FaultSrc where
  last   : Nat
  isol   : Bool
  wire   : Bool
  errsel : Bool
  winAt  : Nat
  winN   : Nat
  deriving DecidableEq, Repr

/-- A recorder record (16 Table 16.4) with its place in the flush. -/
structure Record where
  index   : Nat
  sev     : Nat
  source  : Nat
  code    : Nat
  tenant  : Nat
  late    : Bool
  bytes   : Bytes
  flushed : Bool
  deriving DecidableEq, Repr

/-- The fault collector and recorder (16). -/
structure Fcr where
  st      : ColState
  hold    : Bool
  locked  : Bool
  pulse   : Bool
  /-- a pulse has begun since the last reset: from then on ERR_N follows HOLD between pulses (R416) -/
  pulsed  : Bool
  hblate  : Bool
  fatal   : Bool
  lastF   : Nat
  lastC   : Nat
  /-- FCR_LASTF as it stood before the last reset (Table 16.5), and the last contained fault since it (Table 16.8) -/
  wasF    : Nat
  lastCr  : Nat
  srcs    : Table FaultSrc
  ring    : List Record
  ridx    : Nat
  unfl    : List Record
  flush   : List Record
  flushing : Bool
  pwrFlush : Bool
  jpos    : Nat
  seqRun  : Bool
  beatAt  : Option Nat
  smbAlert : Bool
  ckpt    : List Nat
  deriving DecidableEq, Repr

/-- A performance counter (16 R428-R430): its event word (Table 16.16, OVF apart) and count. -/
structure Counter where
  evt : BitVec 32
  cnt : Nat
  ovf : Bool
  deriving DecidableEq, Repr

/-- One accessor's copies (19 R481): select registers, latch halves, RC counters. -/
structure Copies where
  tsel : Nat
  fsel : Nat
  lsel : Nat
  psel : Nat
  gsel : Nat
  ssel : Nat
  csel : Nat
  msel : Nat
  cyuH : Nat
  cseqH : Nat
  tsH  : Nat
  sstH : Nat
  pmuH : Nat
  accerr : Nat
  direct : Nat
  dmaerr : Nat
  mpuviol : Nat
  heldN : Nat
  stray : Nat
  lkfail : Nat
  lops : Table Nat
  susp : Nat
  ctxfail : Nat
  hcmiss : Nat
  seeds : Nat
  hfail : Nat
  badpg : Nat
  nverr : Nat
  perr : Table Nat
  corr : Nat
  cont : Nat
  jskip : Nat
  drop : Table Nat
  scorr : Table Nat
  deriving DecidableEq, Repr

/-- What fabrication puts into the part (13 R335, 15 R388, Table 15.5; log 5). -/
structure Fab where
  serial : Bytes
  moante : List Bytes
  dbgKey : Bytes
  deriving DecidableEq, Repr

/-- The whole part, and the queue of commands that wait. -/
structure State where
  pending : List Instr
  now  : Nat
  out  : List Out
  free : Nat
  fab  : Fab
  otp  : Otp
  bk   : Backup
  grd  : Guard
  boot : Boot
  flash : Flash
  cyu  : Cyu
  hfe  : Hfe
  dsp  : Dsp
  eng  : Eng
  bne  : Bne
  vks  : Vks
  ent  : Ent
  clc  : Clc
  hier : Hier
  fcr  : Fcr
  pmu  : Table Counter
  host : Copies
  cp0  : Copies
  cp1  : Copies
  dbg  : Copies
  deriving DecidableEq, Repr

end Sys2Proof.Machine

namespace Sys2Proof

/-- No drive. -/
def Drive.none_ : Drive := { usable := false, pages := 0, ident := 0 }

/-- Start-up surroundings before the first release of PERST_N: no drives, everything kept passes its check. -/
def BootEnv.reset : BootEnv :=
  { role := 0, id := 0, drive0 := .none_, drive1 := .none_, slotsOk := true, tablesOk := true, ringOk := true,
    imageAOk := true, imageBOk := true, vineOk := true, superOk := true, treeOk := true, logOk := true, updateOk := true }

/-- A delta with nothing in it. -/
def DeltaContent.empty : DeltaContent :=
  { dir := [], roster := none, hctr := 0, hrecs := [], hoff := none, tkeys := [], mterm := 0, slots := [], reserved := [],
    vault := [], sessions := [], ctxs := [], cycle := 0 }

end Sys2Proof

namespace Sys2Proof.Machine

/-! ## Reset: the as-fabricated part with main power, PERST_N low (log 6) -/

/-- A byte string of zeros. -/
def zeros (n : Nat) : Bytes := List.replicate n 0

/-- Reset values of one accessor's copies (19 R482, Table 19.18). -/
def Copies.reset : Copies :=
  { tsel := 0, fsel := 0, lsel := 0, psel := 0, gsel := 1, ssel := 0x100, csel := 0, msel := 0, cyuH := 0xFFFF, cseqH := 0,
    tsH := 0, sstH := 0, pmuH := 0, accerr := 0, direct := 0, dmaerr := 0, mpuviol := 0, heldN := 0, stray := 0, lkfail := 0,
    lops := [], susp := 0, ctxfail := 0, hcmiss := 0, seeds := 0, hfail := 0, badpg := 0, nverr := 0, perr := [], corr := 0,
    cont := 0, jskip := 0, drop := [], scorr := [] }

def Otp.reset : Otp :=
  { copy1 := [], copy2 := [], copy3 := [], intent := [], force := .blank, kroot := .unset, klock := false, fuse := none,
    raiseB := 0, raiseC := 0, floorArm := 0, floorSvc := 0, floorBne := 0 }

def Backup.reset : Backup :=
  { valid := true, sap := zeros 64, sapCrc := 0, pwrcyc := 1, opsecs := 0, gctr := 0, gdig := zeros 32, root := none,
    fresh := { half := false, count := 0, chain := zeros 32, crcOk := false }, mseed := [0, 0, 0, 0], classes := [],
    flags := 0, unrep := 0, events := [], tsZero := 0 }

def Guard.reset : Guard :=
  { st := .watching, active := 0, pend := 0, lastId := 0, lastCls := 0, cls := 0, cold := false, coldNext := false, sapClr := false,
    batWarn := false, batRec := false, vbat := 3000, temp := 25, dbgOpen := true, rights := 0x7FFF, erased := false,
    dbgAcc := [], power := .p0, p1en := false, p1idle := 10, wake := 0, p2item := none, p2go := false, powerUpAt := 0 }

def Boot.reset : Boot :=
  { phase := 0, trial := false, slotB := false, fellback := false, freshroot := false, vinefail := false, closed := false,
    rollfwd := false, cause := .powerUp, straps := none, env := .reset, perst := true,
    pwrfail := false, pwrfailAt := 0, deferred := none, gates := false, kept := none, aqsql := 0,
    aqsqh := 0, aqcql := 0, aqcqh := 0, aqcfg := 0xFF00 }

def ImageKind.reset : ImageKind :=
  { a := { ver := 0, svn := 0, u := 0 }, b := { ver := 0, svn := 0, u := 0 }, curB := false, pend := false, tried := false }

def Flash.reset : Flash :=
  { arm := .reset, svc := .reset, bne := .reset, u := 0, urec := none, upd := none, curves := [], crs := [], cas := [], journal := [] }

def Cyu.reset : Cyu :=
  { st := .unlocked, num := none, held := false, run := 0, lostSeen := false, setDone := false, setN := none,
    trellis := false, period := 10000, nextPer := 10000, ivals := [], lastReal := 0, base := 0, lastAdv := 0, counts := false, ended := false, acq := 0, acqLast := 0, timer := 0, skew := 0, msgs := [] }

def Hfe.reset : Hfe :=
  { ctxs := [], queues := [], fetched := [], rrFn := 0, rrQ := [], events := [], lost := 0, vfen := false, numvf := 0,
    width := 0, speed := 0, msix := [], msixFn := [], saveCyc := 0, saves := 0 }

def Dsp.reset : Dsp :=
  { items := [], flows := [], arr := 0, rrLevel := [], rrGroup := 0, groups := [], pair0 := none, pair1 := none,
    control := [], off0 := false, off1 := false, mpus := [], tmpl := [], ptmpl := [], tpend := false }

def Eng.reset : Eng :=
  { syeQ := [], dgeQ := [], units := [], saved := [], savectr := 1, ekey := none, cache := [], offSye := 0, offDge := 0, offBne := 0, lastUnit := 0,
    lastSrc := 0, noneSye := false, noneDge := false, noneBne := false, streams := [], reqs := 0 }

def Bne.reset : Bne := { queue := [], lanes := [], resv := none }

def Vks.reset : Vks :=
  { slots := [], epoch := 0, freed := [], reserved := [], sweep := 0x100, use := .none_, root := [], img := none,
    half := false, logBytes := 0, count := 0, chain := zeros 32, imgSt := 0, imgIn := false, hwm := 0,
    leaseW := [], leaseP := [] }

def Ent.reset : Ent :=
  { src := [], cond := .starting, seeded := false, ekey := false, buf := [], reserve := [], urgent := [], normal := [],
    insts := [], asked := [], waiting := [], draws := 0 }

def Batch.empty (n : Nat) : Batch := { num := n, writes := [], pages := 0 }

def Clc.reset : Clc :=
  { st := .absent, drive0 := .none_, drive1 := .none_, off0 := false, off1 := false, pages := 0, format := 0, fmtRoot := [],
    batch := .empty 0, next := .empty 1, closing := none, copies := [], lag := false, replay := false, repairs := [], bad := [],
    vault := [], shares := [], sessions := [], objects := [], journal := [], reads := [] }

def Hier.reset : Hier :=
  { roster := none, hctr := 0, hrecs := [], hoff := none, mst := .noRoster, mterm := 0, cseq := 0, closed := 0, out := [],
    lastKib := 0, synced := false, late := false, delta := .empty, twinAct := false, driving := false, holdP := true,
    toggleAt := 0, mism := 0, undriven := true, undrivenAt := 0, arbAt := 0, dir := [], placed := [], ports := [],
    portsHeld := false, tkeys := [], ownTkey := [], gseed := [], partner := zeros 16, applies := [], refs := 0, msgs := [],
    fwd := [], holdCnt := 0, heard := 0, shadows := [], resyncN := 0, handover := none, owed := [] }

def Fcr.reset : Fcr :=
  { st := .startup, hold := false, locked := false, pulse := false, pulsed := false, hblate := false, fatal := false, lastF := 0, lastC := 0, wasF := 0, lastCr := 0,
    srcs := [], ring := [], ridx := 0, unfl := [], flush := [], flushing := false, pwrFlush := false, jpos := 0,
    seqRun := false, beatAt := none, smbAlert := false, ckpt := [0, 0, 0, 0] }

/-- Fabricated identity (log 5): the spec gives no part's serial or keys. -/
def Fab.reset : Fab := { serial := zeros 16, moante := [[], [], []], dbgKey := [] }

/-- The part right after reset: every field at the value the spec states, or at the value a log entry names. -/
def State.reset : State :=
  { pending := [], now := 0, out := [], free := 0, fab := .reset, otp := .reset, bk := .reset, grd := .reset, boot := .reset,
    flash := .reset, cyu := .reset, hfe := .reset, dsp := .reset, eng := .reset, bne := .reset, vks := .reset, ent := .reset,
    clc := .reset, hier := .reset, fcr := .reset, pmu := [], host := .reset, cp0 := .reset, cp1 := .reset, dbg := .reset }

end Sys2Proof.Machine
end

