-- ==== Sys2Proof/Machine/Ops.lean ====
section
/-! DEFINITION. The operations every block shares: sparse tables, byte strings, time, what leaves the part, free values,
performance counters. -/

set_option Elab.async false

namespace Sys2Proof.Machine

/-! ## Sparse tables: indices strictly rising -/

/-- The entry at an index, if one is listed. -/
def tfind {α : Type} (t : Table α) (k : Nat) : Option α :=
  match t with
  | [] => none
  | (i, v) :: r => if i = k then some v else tfind r k

/-- The entry at an index, or what an unlisted index reads as. -/
def tget {α : Type} (t : Table α) (k : Nat) (d : α) : α := (tfind t k).getD d

/-- Sets an entry, keeping the indices rising. -/
def tput {α : Type} (t : Table α) (k : Nat) (v : α) : Table α :=
  match t with
  | [] => [(k, v)]
  | (i, w) :: r => if k < i then (k, v) :: (i, w) :: r else if i = k then (k, v) :: r else (i, w) :: tput r k v

/-- Removes an entry. -/
def terase {α : Type} (t : Table α) (k : Nat) : Table α := t.filter (fun e => e.1 != k)

/-- Changes an entry where one is listed. -/
def tmod {α : Type} (t : Table α) (k : Nat) (f : α → α) : Table α :=
  match t with
  | [] => []
  | (i, v) :: r => if i = k then (i, f v) :: r else (i, v) :: tmod r k f

/-- Changes every entry. -/
def tmap {α : Type} (t : Table α) (f : Nat → α → α) : Table α := t.map (fun e => (e.1, f e.1 e.2))

/-- The canonical form: indices strictly rising. -/
def tsorted {α : Type} : Table α → Bool
  | [] => true
  | [_] => true
  | (i, _) :: (j, w) :: r => decide (i < j) && tsorted ((j, w) :: r)

/-! ## Byte strings -/

/-- The number a byte string spells, first byte most significant (00 R6). -/
def beNat (b : Bytes) : Nat := b.foldl (fun a x => a * 256 + x.toNat) 0

/-- The number a byte string spells, first byte least significant (04 R76). -/
def leNat (b : Bytes) : Nat := b.foldr (fun x a => x.toNat + 256 * a) 0

/-- `n` in `k` bytes, least significant first. -/
def toLE (k n : Nat) : Bytes :=
  match k with
  | 0 => []
  | j + 1 => BitVec.ofNat 8 n :: toLE j (n / 256)

/-- `n` in `k` bytes, most significant first. -/
def toBE (k n : Nat) : Bytes := (toLE k n).reverse

/-- `n` bytes from an offset, zero past the end. -/
def slice (b : Bytes) (off n : Nat) : Bytes :=
  let c := (b.drop off).take n
  c ++ List.replicate (n - c.length) 0

/-- A big-endian field. -/
def fld (b : Bytes) (off n : Nat) : Nat := beNat (slice b off n)

/-- A little-endian field. -/
def fldLE (b : Bytes) (off n : Nat) : Nat := leNat (slice b off n)

/-- Every byte of a field is zero. -/
def isZero (b : Bytes) : Bool := b.all (· == 0)

/-- A byte string brought to a length: cut, or filled with zeros at its end. -/
def padTo (n : Nat) (b : Bytes) : Bytes := slice b 0 n

/-- The exclusive-or of two byte strings, byte by byte, to the length of the shorter. -/
def xorB (a b : Bytes) : Bytes := List.zipWith (· ^^^ ·) a b

/-- Bit `i` of a number. -/
def bit (n i : Nat) : Bool := n / 2 ^ i % 2 == 1

/-- Bits `hi` down to `lo` of a number. -/
def bits (n hi lo : Nat) : Nat := n / 2 ^ lo % 2 ^ (hi + 1 - lo)

/-- A Boolean as a field value. -/
def b2n (b : Bool) : Nat := if b then 1 else 0

/-- A saturating sum. -/
def satAdd (limit a n : Nat) : Nat := if a + n < limit then a + n else limit

/-- The 32-bit registers that count saturate there. -/
def max32 : Nat := 2 ^ 32 - 1

/-- The ASCII bytes of a string. -/
def ascii (s : String) : Bytes := s.toList.map (fun c => BitVec.ofNat 8 c.toNat)

/-- Removes the first element that satisfies a test. -/
def removeFirst {α : Type} (p : α → Bool) : List α → List α
  | [] => []
  | x :: r => if p x then r else x :: removeFirst p r

/-- The pieces of a list in runs of `n`, by `fuel` at most. -/
def chunks {α : Type} (n : Nat) : Nat → List α → List (List α)
  | 0, _ => []
  | f + 1, l => if l.isEmpty then [] else l.take n :: chunks n f (l.drop n)

/-- A byte string in blocks of `n` bytes, the last one perhaps short. -/
def blocks (n : Nat) (b : Bytes) : List Bytes := chunks n (b.length + 1) b

/-- `f` applied `n` times. -/
def iter {α : Type} (f : α → α) : Nat → α → α
  | 0, x => x
  | n + 1, x => iter f n (f x)

/-! ## Time, outputs, free values -/

/-- Brings the model's clock to an instant, never back (log 3). -/
def State.at_ (s : State) (t : Nat) : State := { s with now := max s.now t }

/-- Appends to what leaves the part (log 4). -/
def emit (o : Out) (s : State) : State := { s with out := s.out ++ [o] }

/-- The next free value below a bound, and the state that has taken it (log 7). -/
def takeFree (bound : Nat) (s : State) : Nat × State :=
  (Config.freeNat s.free % (max bound 1), { s with free := s.free + 1 })

/-- Changes all four accessors' copies (19 R481). -/
def eachCopy (f : Copies → Copies) (s : State) : State :=
  { s with host := f s.host, cp0 := f s.cp0, cp1 := f s.cp1, dbg := f s.dbg }

/-! ## Performance counters (16 R428-R430) -/

/-- An unlisted counter. -/
def Counter.zero : Counter := { evt := 0, cnt := 0, ovf := false }

def Counter.event (c : Counter) : Nat := (c.evt.extractLsb' 0 12).toNat
def Counter.en (c : Counter) : Bool := c.evt.getLsbD 12
def Counter.chain (c : Counter) : Bool := c.evt.getLsbD 13
def Counter.tfilt (c : Counter) : Bool := c.evt.getLsbD 14
def Counter.tenant (c : Counter) : Nat := (c.evt.extractLsb' 16 10).toNat

/-- Counter `n` is even, chains, and the collector's state lets it (R430). -/
def chained (s : State) (n : Nat) : Bool :=
  n % 2 == 0 && (tget s.pmu n .zero).chain && s.fcr.st == .normal

/-- One wrap of counter `n`: a carry into the odd neighbour under chaining, else OVF (R430). The neighbour's own wrap
sets its OVF. -/
def pmuWrapped (n : Nat) (s : State) : State :=
  if chained s n then
    let c := tget s.pmu (n + 1) .zero
    let c' := if c.cnt + 1 < 2 ^ 48 then { c with cnt := c.cnt + 1 } else { c with cnt := 0, ovf := true }
    { s with pmu := tput s.pmu (n + 1) c' }
  else { s with pmu := tmod s.pmu n (fun c => { c with ovf := true }) }

/-- Counter `n` counts event `ev` of tenant `ten` (R429; an odd counter under a chaining neighbour counts carries
alone, R430). -/
def counts (s : State) (n : Nat) (c : Counter) (ev : Nat) (ten : Option Nat) : Bool :=
  c.en && c.event == ev && (!c.tfilt || ten == some c.tenant) && !(n % 2 == 1 && chained s (n - 1))

/-- `k` occurrences (below 2^48) on counter `n`. -/
def pmuAdd (n k : Nat) (s : State) : State :=
  let c := tget s.pmu n .zero
  if c.cnt + k < 2 ^ 48 then { s with pmu := tput s.pmu n { c with cnt := c.cnt + k } }
  else pmuWrapped n { s with pmu := tput s.pmu n { c with cnt := c.cnt + k - 2 ^ 48 } }

/-- `k` occurrences of an event, perhaps attributed to a tenant, on every counter that counts it. -/
def countN (ev k : Nat) (ten : Option Nat) (s : State) : State :=
  s.pmu.foldl (fun s' e => if counts s e.1 e.2 ev ten then pmuAdd e.1 k s' else s') s

/-- One occurrence of an event. -/
def count (ev : Nat) (ten : Option Nat := none) (s : State) : State := countN ev 1 ten s

/-! ## The cycle number and the clocks as sampled -/

/-- The cycle number that a sampling point sees; none while UNLOCKED or ACQUIRE (02 R36, R37). -/
def State.cycle (s : State) : Option Nat :=
  match s.cyu.st with
  | .locked => s.cyu.num
  | .lost => s.cyu.num
  | .unlocked => none
  | .acquire => none

/-- The 48-bit marker of an unlocked unit (02 R23). -/
def noCycle : Nat := 2 ^ 48 - 1

/-- Main power is on (14 Table 14.3). -/
def State.powered (s : State) : Bool := s.grd.st != .battery

/-- Operating seconds so far (14 R381). -/
def State.opSecs (s : State) : Nat :=
  s.bk.opsecs + (if s.powered then (s.now - s.grd.powerUpAt) / 1000000000 else 0)

/-- The time-stamp counter: seconds and sub-seconds (14 R381). -/
def State.tsSec (s : State) : Nat := (s.now - s.bk.tsZero) / 1000000000 % 2 ^ 32
def State.tsSub (s : State) : Nat := (s.now - s.bk.tsZero) % 1000000000 * 32768 / 1000000000

end Sys2Proof.Machine
end

