-- ==== Sys2Proof/Machine/Sha.lean ====
section
/-! DEFINITION. The digests of 00 Table 0.5: SHA-1, SHA-2 (FIPS 180-4), SHA-3 and SHAKE (FIPS 202), HMAC (FIPS 198-1),
and the part's CRCs. The spec names the standards and their limits; how they compute is the standards' (PRESUMED,
log 13). -/

set_option Elab.async false

namespace Sys2Proof.Machine

/-! ## CRCs -/

/-- One bit of CRC-16, polynomial 1021h (09 R239). -/
def crc16bit (c : BitVec 16) : BitVec 16 := if c.msb then (c <<< 1) ^^^ 0x1021 else c <<< 1

/-- CRC-16: initial value FFFFh, no reflection, no final XOR (09 R239). -/
def crc16 (b : Bytes) : BitVec 16 :=
  b.foldl (fun (c : BitVec 16) x => iter crc16bit 8 (c ^^^ (x.zeroExtend 16).shiftLeft 8)) (0xFFFF : BitVec 16)

/-- One bit of the reflected CRC-32C. -/
def crc32bit (c : BitVec 32) : BitVec 32 := if c.getLsbD 0 then (c >>> 1) ^^^ 0x82F63B78 else c >>> 1

/-- CRC-32C (Castagnoli), as HCRC and PCRC (03 R41). -/
def crc32c (b : Bytes) : BitVec 32 :=
  ~~~ b.foldl (fun c x => iter crc32bit 8 (c ^^^ x.zeroExtend 32)) (0xFFFFFFFF : BitVec 32)

/-! ## SHA-2 -/

/-- The integer `k`-th root of `n`, found bit by bit. -/
def iroot (k n : Nat) : Nat → Nat → Nat
  | 0, r => r
  | b + 1, r => if (r + 2 ^ b) ^ k ≤ n then iroot k n b (r + 2 ^ b) else iroot k n b r

/-- No number from 2 to `d` + 1 divides `n`. -/
def noDivisor (n : Nat) : Nat → Bool
  | 0 => true
  | d + 1 => n % (d + 2) != 0 && noDivisor n d

/-- The primes below 512, of which SHA-2 takes the first 80. -/
def primes : List Nat := (List.range 512).filter (fun n => 2 ≤ n && noDivisor n (n - 2))

/-- The first `w` bits of the fractional part of the `k`-th root of a prime. -/
def rootFrac (k w p : Nat) : BitVec w := BitVec.ofNat w (iroot k (p * 2 ^ (k * w)) (w + 10) 0)

/-- Cuts a byte string into words of `n` bytes. -/
def words (w n : Nat) (b : Bytes) : List (BitVec w) := (blocks n b).map (fun x => BitVec.ofNat w (beNat x))

/-- The rotations of a SHA-2 size. -/
structure Sha2 where
  w : Nat
  rounds : Nat
  s0 : Nat × Nat × Nat
  s1 : Nat × Nat × Nat
  e0 : Nat × Nat × Nat
  e1 : Nat × Nat × Nat

def sha256p : Sha2 :=
  { w := 32, rounds := 64, s0 := (7, 18, 3), s1 := (17, 19, 10), e0 := (2, 13, 22), e1 := (6, 11, 25) }

def sha512p : Sha2 :=
  { w := 64, rounds := 80, s0 := (1, 8, 7), s1 := (19, 61, 6), e0 := (28, 34, 39), e1 := (14, 18, 41) }

def sigmaS {w : Nat} (r : Nat × Nat × Nat) (x : BitVec w) : BitVec w :=
  x.rotateRight r.1 ^^^ x.rotateRight r.2.1 ^^^ (x >>> r.2.2)

def sigmaB {w : Nat} (r : Nat × Nat × Nat) (x : BitVec w) : BitVec w :=
  x.rotateRight r.1 ^^^ x.rotateRight r.2.1 ^^^ x.rotateRight r.2.2

/-- One round on the eight working words. -/
def sha2Round (P : Sha2) (k m : BitVec P.w) (v : List (BitVec P.w)) : List (BitVec P.w) :=
  match v with
  | [a, b, c, d, e, f, g, h] =>
    let t1 := h + sigmaB P.e1 e + ((e &&& f) ^^^ (~~~e &&& g)) + k + m
    let t2 := sigmaB P.e0 a + ((a &&& b) ^^^ (a &&& c) ^^^ (b &&& c))
    [t1 + t2, a, b, c, d + t1, e, f, g]
  | _ => v

/-- The rounds, with the sixteen message words that come next. -/
def sha2Rounds (P : Sha2) : List (BitVec P.w) → List (BitVec P.w) → List (BitVec P.w) → List (BitVec P.w)
  | [], _, v => v
  | k :: ks, m, v =>
    let n := sigmaS P.s1 (m.getD 14 0) + m.getD 9 0 + sigmaS P.s0 (m.getD 1 0) + m.headD 0
    sha2Rounds P ks (m.tail ++ [n]) (sha2Round P k (m.headD 0) v)

/-- Compression of one block. -/
def sha2Block (P : Sha2) (v : List (BitVec P.w)) (b : Bytes) : List (BitVec P.w) :=
  List.zipWith (· + ·) v
    (sha2Rounds P ((primes.take P.rounds).map (rootFrac 3 P.w)) (words P.w (P.w / 8) b) v)

/-- A message padded with 80h, zeros and its bit length in `l` bytes, to blocks of `n` bytes. -/
def mdPad (n l : Nat) (b : Bytes) : Bytes :=
  b ++ [0x80] ++ List.replicate ((n - (b.length + 1 + l) % n) % n) 0 ++ toBE l (8 * b.length)

/-- The chaining value after whole blocks. -/
def sha2Chain (P : Sha2) (iv : List (BitVec P.w)) (b : Bytes) : List (BitVec P.w) :=
  (blocks (2 * P.w) b).foldl (sha2Block P) iv

def wordsOut {w : Nat} (v : List (BitVec w)) : Bytes := v.flatMap (fun x => toBE (w / 8) x.toNat)

def sha2 (P : Sha2) (iv : List (BitVec P.w)) (n : Nat) (b : Bytes) : Bytes :=
  (wordsOut (sha2Chain P iv (mdPad (2 * P.w) (P.w / 4) b))).take n

def iv256 : List (BitVec 32) := (primes.take 8).map (rootFrac 2 32)
def iv512 : List (BitVec 64) := (primes.take 8).map (rootFrac 2 64)
def iv384 : List (BitVec 64) := ((primes.drop 8).take 8).map (rootFrac 2 64)
def iv224 : List (BitVec 32) := iv384.map (fun x => x.truncate 32)

def sha224 (b : Bytes) : Bytes := sha2 sha256p iv224 28 b
def sha256 (b : Bytes) : Bytes := sha2 sha256p iv256 32 b
def sha384 (b : Bytes) : Bytes := sha2 sha512p iv384 48 b
def sha512 (b : Bytes) : Bytes := sha2 sha512p iv512 64 b

/-! ## SHA-1 (for EMV option B, 06 R150) -/

/-- The round function and constant of SHA-1 round `t`. -/
def sha1f (t : Nat) (b c d : BitVec 32) : BitVec 32 × BitVec 32 :=
  if t < 20 then ((b &&& c) ||| (~~~b &&& d), 0x5A827999)
  else if t < 40 then (b ^^^ c ^^^ d, 0x6ED9EBA1)
  else if t < 60 then ((b &&& c) ||| (b &&& d) ||| (c &&& d), 0x8F1BBCDC)
  else (b ^^^ c ^^^ d, 0xCA62C1D6)

def sha1Rounds : Nat → List (BitVec 32) → List (BitVec 32) → List (BitVec 32)
  | 0, _, v => v
  | n + 1, m, v =>
    match v with
    | [a, b, c, d, e] =>
      let f := sha1f (79 - n) b c d
      let t := a.rotateLeft 5 + f.1 + e + f.2 + m.headD 0
      let x := (m.getD 13 0 ^^^ m.getD 8 0 ^^^ m.getD 2 0 ^^^ m.headD 0).rotateLeft 1
      sha1Rounds n (m.tail ++ [x]) [t, a, b.rotateLeft 30, c, d]
    | _ => v

def sha1 (b : Bytes) : Bytes :=
  wordsOut ((blocks 64 (mdPad 64 8 b)).foldl
    (fun v x => List.zipWith (· + ·) v (sha1Rounds 80 (words 32 4 x) v))
    [0x67452301, 0xEFCDAB89, 0x98BADCFE, 0x10325476, 0xC3D2E1F0])

/-! ## Keccak -/

/-- The lane (x, y) of a Keccak state, kept as 25 lanes at 5 y + x. -/
def lane (a : List (BitVec 64)) (x y : Nat) : BitVec 64 := a.getD (5 * (y % 5) + x % 5) 0

/-- The state whose lane (x, y) is `f x y`. -/
def lanes (f : Nat → Nat → BitVec 64) : List (BitVec 64) := (List.range 25).map (fun i => f (i % 5) (i / 5))

/-- The rotation of lane (x, y), by walking the lanes in Keccak's order. -/
def rhoWalk (x y : Nat) : Nat → Nat → Nat → Nat → Nat
  | 0, _, _, _ => 0
  | n + 1, t, u, v => if u == x && v == y then (t + 1) * (t + 2) / 2 % 64 else rhoWalk x y n (t + 1) v ((2 * u + 3 * v) % 5)

def rho (x y : Nat) : Nat := if x == 0 && y == 0 then 0 else rhoWalk x y 24 0 1 0

/-- The LFSR of the round constants: its bit at step `t`. -/
def rcStep (r : BitVec 8) : BitVec 8 := if r.msb then (r <<< 1) ^^^ 0x71 else r <<< 1
def rcBit (t : Nat) : Bool := (iter rcStep (t % 255) 1).getLsbD 0

def roundConst (i : Nat) : BitVec 64 :=
  (List.range 7).foldl (fun c j => if rcBit (j + 7 * i) then c ||| (1 <<< (2 ^ j - 1)) else c) 0

/-- The rotations, once. -/
def rhoTable : List Nat := (List.range 25).map (fun i => rho (i % 5) (i / 5))

def keccakRound (a : List (BitVec 64)) (rc : BitVec 64) : List (BitVec 64) :=
  let c := (List.range 5).map (fun x => lane a x 0 ^^^ lane a x 1 ^^^ lane a x 2 ^^^ lane a x 3 ^^^ lane a x 4)
  let d := (List.range 5).map (fun x => c.getD ((x + 4) % 5) 0 ^^^ (c.getD ((x + 1) % 5) 0).rotateLeft 1)
  let t := lanes (fun x y => lane a x y ^^^ d.getD x 0)
  let b := lanes (fun x y => let u := (x + 3 * y) % 5; (lane t u x).rotateLeft (rhoTable.getD (5 * x + u) 0))
  let e := lanes (fun x y => lane b x y ^^^ (~~~lane b (x + 1) y &&& lane b (x + 2) y))
  (e.headD 0 ^^^ rc) :: e.tail

/-- The round constants, once. -/
def roundConsts : List (BitVec 64) := (List.range 24).map roundConst

def keccakF (a : List (BitVec 64)) : List (BitVec 64) := roundConsts.foldl keccakRound a

def absorb (rate : Nat) (a : List (BitVec 64)) (b : Bytes) : List (BitVec 64) :=
  keccakF (List.zipWith (· ^^^ ·) a
    ((blocks 8 (padTo 200 (b.take rate))).map (fun x => BitVec.ofNat 64 (leNat x))))

def keccakOut (a : List (BitVec 64)) : Bytes := a.flatMap (fun x => toLE 8 x.toNat)

def squeeze (rate : Nat) : Nat → List (BitVec 64) → Bytes
  | 0, _ => []
  | n + 1, a => (keccakOut a).take rate ++ squeeze rate n (keccakF a)

/-- The sponge with a domain byte: `n` bytes of output. -/
def sponge (rate : Nat) (dom : Byte) (b : Bytes) (n : Nat) : Bytes :=
  let z := (rate - (b.length + 1) % rate) % rate
  let p := if z == 0 then b ++ [dom ||| 0x80] else b ++ [dom] ++ List.replicate (z - 1) 0 ++ [0x80]
  (squeeze rate (n / rate + 1) ((blocks rate p).foldl (absorb rate) (List.replicate 25 0))).take n

def sha3 (n : Nat) (b : Bytes) : Bytes := sponge (200 - 2 * n) 0x06 b n
def shake128 (b : Bytes) (n : Nat) : Bytes := sponge 168 0x1F b n
def shake256 (b : Bytes) (n : Nat) : Bytes := sponge 136 0x1F b n

/-! ## HMAC and derivation -/

/-- HMAC over a digest with blocks of `n` bytes. -/
def hmac (h : Bytes → Bytes) (n : Nat) (key msg : Bytes) : Bytes :=
  let k := padTo n (if n < key.length then h key else key)
  h (k.map (· ^^^ 0x5C) ++ h (k.map (· ^^^ 0x36) ++ msg))

def hmac256 (key msg : Bytes) : Bytes := hmac sha256 64 key msg
def hmac384 (key msg : Bytes) : Bytes := hmac sha384 128 key msg
def hmac512 (key msg : Bytes) : Bytes := hmac sha512 128 key msg

/-- The first block of HKDF's expansion with SHA-384: up to 48 bytes (17 R441). -/
def hkdf384 (ikm info : Bytes) (n : Nat) : Bytes := (hmac384 (hmac384 (zeros 48) ikm) (info ++ [1])).take n

end Sys2Proof.Machine
end

