-- ==== Sys2Proof/Machine/Cipher.lean ====
section
/-! DEFINITION. The block ciphers and modes of 00 Table 0.5: AES (FIPS 197), TDES (SP 800-67), the modes of SP 800-38A,
B, D, F and G, the MACs of ISO/IEC 9797-1, CTR_DRBG (SP 800-90A). PRESUMED, log 13: the spec names the standards. -/

set_option Elab.async false

namespace Sys2Proof.Machine

/-! ## AES -/

/-- Multiplication by x in GF(2^8). -/
def xtime (a : Byte) : Byte := if a.msb then (a <<< 1) ^^^ 0x1B else a <<< 1

/-- The product of GF(2^8), over the low `n` bits of `b`. -/
def gmul (a b : Byte) : Nat → Byte
  | 0 => 0
  | n + 1 => (if b.getLsbD n then iter xtime n a else 0) ^^^ gmul a b n

/-- The inverse in GF(2^8) (0 for 0): the 254th power. -/
def ginv (a : Byte) : Byte :=
  let sq := fun x : Byte => gmul x x 8
  let a2 := sq a
  let p := (List.range 6).foldl (fun (u : Byte × Byte) _ => let x := sq u.2; (gmul u.1 x 8, x)) (a2, a2)
  p.1

def sboxOf (a : Byte) : Byte :=
  let x := ginv a
  x ^^^ x.rotateLeft 1 ^^^ x.rotateLeft 2 ^^^ x.rotateLeft 3 ^^^ x.rotateLeft 4 ^^^ 0x63

def sboxTable : List Byte := (List.range 256).map (fun i => sboxOf (BitVec.ofNat 8 i))
def invSboxTable : List Byte := (List.range 256).map (fun i => BitVec.ofNat 8 (sboxTable.idxOf (BitVec.ofNat 8 i)))
def sbox (a : Byte) : Byte := sboxTable.getD a.toNat 0
def invSbox (a : Byte) : Byte := invSboxTable.getD a.toNat 0

/-- The key schedule: words after the first `nk`, newest last. -/
def aesExpand (nk : Nat) : Nat → Nat → Byte → List Bytes → List Bytes
  | 0, _, _, w => w
  | n + 1, i, rc, w =>
    let t := w.getLastD []
    let u :=
      if i % nk == 0 then xorB ((t.drop 1 ++ t.take 1).map sbox) [rc, 0, 0, 0]
      else if 6 < nk && i % nk == 4 then t.map sbox else t
    aesExpand nk n (i + 1) (if i % nk == 0 then xtime rc else rc) (w ++ [xorB (w.getD (i - nk) []) u])

/-- The round keys of an AES key of 16, 24 or 32 bytes. -/
def aesKeys (key : Bytes) : List Bytes :=
  let nk := key.length / 4
  blocks 16 (aesExpand nk (4 * (nk + 7) - nk) nk 1 (blocks 4 key)).flatten

/-- Byte `i` of a block moves to row and column as ShiftRows does; `d` 1 forward, 3 back. -/
def shiftRows (d : Nat) (b : Bytes) : Bytes :=
  (List.range 16).map (fun i => b.getD ((i + 4 * d * (i % 4)) % 16) 0)

def mixCol (m : List Byte) (c : Bytes) : Bytes :=
  (List.range 4).map (fun r => ((List.range 4).map (fun j => gmul (c.getD j 0) (m.getD ((j + 4 - r) % 4) 0) 8)).foldl (· ^^^ ·) 0)

def mixColumns (m : List Byte) (b : Bytes) : Bytes := (blocks 4 b).flatMap (mixCol m)

/-- AES encryption of one block. -/
def aesEnc (key b : Bytes) : Bytes :=
  match aesKeys key with
  | [] => b
  | k0 :: ks =>
    let s := ks.dropLast.foldl (fun s k => xorB (mixColumns [2, 3, 1, 1] (shiftRows 1 (s.map sbox))) k) (xorB b k0)
    xorB (shiftRows 1 (s.map sbox)) (ks.getLastD [])

/-- AES decryption of one block. -/
def aesDec (key b : Bytes) : Bytes :=
  match (aesKeys key).reverse with
  | [] => b
  | k0 :: ks =>
    let s := ks.dropLast.foldl (fun s k => mixColumns [14, 11, 13, 9] (xorB ((shiftRows 3 s).map invSbox) k)) (xorB b k0)
    xorB ((shiftRows 3 s).map invSbox) (ks.getLastD [])

/-! ## DES and TDES -/

/-- A permutation of bits: the output lists bits of the input, 1 the most significant of `w`. -/
def permute (w : Nat) (p : List Nat) (x : Nat) : Nat := p.foldl (fun a i => 2 * a + x / 2 ^ (w - i) % 2) 0

def desIP : List Nat :=
  [2, 4, 6, 8, 1, 3, 5, 7].flatMap (fun r => (List.range 8).map (fun c => 8 * (7 - c) + r))

def desFP : List Nat := (List.range 64).map (fun i => desIP.idxOf (i + 1) + 1)

def desE : List Nat := (List.range 8).flatMap (fun i => (List.range 6).map (fun j => (4 * i + j + 31) % 32 + 1))

def desP : List Nat :=
  [16, 7, 20, 21, 29, 12, 28, 17, 1, 15, 23, 26, 5, 18, 31, 10, 2, 8, 24, 14, 32, 27, 3, 9, 19, 13, 30, 6, 22, 11, 4, 25]

def desPC1 : List Nat :=
  [57, 49, 41, 33, 25, 17, 9, 1, 58, 50, 42, 34, 26, 18, 10, 2, 59, 51, 43, 35, 27, 19, 11, 3, 60, 52, 44, 36] ++
  [63, 55, 47, 39, 31, 23, 15, 7, 62, 54, 46, 38, 30, 22, 14, 6, 61, 53, 45, 37, 29, 21, 13, 5, 28, 20, 12, 4]

def desPC2 : List Nat :=
  [14, 17, 11, 24, 1, 5, 3, 28, 15, 6, 21, 10, 23, 19, 12, 4, 26, 8, 16, 7, 27, 20, 13, 2] ++
  [41, 52, 31, 37, 47, 55, 30, 40, 51, 45, 33, 48, 44, 49, 39, 56, 34, 53, 46, 42, 50, 36, 29, 32]

/-- The S-boxes, each row as sixteen hexadecimal digits. -/
def desS : List (List Nat) :=
  [[0xE4D12FB83A6C5907, 0x0F74E2D1A6CB9538, 0x41E8D62BFC973A50, 0xFC8249175B3EA06D],
   [0xF18E6B34972DC05A, 0x3D47F28EC01A69B5, 0x0E7BA4D158C6932F, 0xD8A13F42B67C05E9],
   [0xA09E63F51DC7B428, 0xD709346A285ECBF1, 0xD6498F30B12C5AE7, 0x1AD069874FE3B52C],
   [0x7DE3069A1285BC4F, 0xD8B56F03472C1AE9, 0xA690CB7DF13E5284, 0x3F06A1D8945BC72E],
   [0x2C417AB6853FD0E9, 0xEB2C47D150FA3986, 0x421BAD78F9C5630E, 0xB8C71E2D6F09A453],
   [0xC1AF92680D34E75B, 0xAF427C9561DE0B38, 0x9EF528C3704A1DB6, 0x432C95FABE17608D],
   [0x4B2EF08D3C975A61, 0xD0B7491AE35C2F86, 0x14BDC37EAF680592, 0x6BD814A7950FE23C],
   [0xD2846FB1A93E50C7, 0x1FD8A374C56B0E92, 0x7B419CE206ADF358, 0x21E74A8DFC90356B]]

def desF (r k : Nat) : Nat :=
  let x := permute 32 desE r ^^^ k
  let y := (List.range 8).foldl (fun a i =>
    let v := x / 2 ^ (42 - 6 * i) % 64
    16 * a + ((desS.getD i []).getD (2 * (v / 32) + v % 2) 0) / 2 ^ (60 - 4 * (v / 2 % 16)) % 16) 0
  permute 32 desP y

def rotl28 (n x : Nat) : Nat := (x * 2 ^ n + x / 2 ^ (28 - n)) % 2 ^ 28

/-- The sixteen round keys of a DES key of 8 bytes. -/
def desKeys (key : Bytes) : List Nat :=
  let c := permute 64 desPC1 (beNat key)
  (List.range 16).map (fun i =>
    let n := [1, 2, 4, 6, 8, 10, 12, 14, 15, 17, 19, 21, 23, 25, 27, 28].getD i 0
    permute 56 desPC2 (rotl28 n (c / 2 ^ 28) * 2 ^ 28 + rotl28 n (c % 2 ^ 28)))

def desRun (ks : List Nat) (b : Bytes) : Bytes :=
  let x := permute 64 desIP (beNat b)
  let p := ks.foldl (fun (u : Nat × Nat) k => (u.2, u.1 ^^^ desF u.2 k)) (x / 2 ^ 32, x % 2 ^ 32)
  toBE 8 (permute 64 desFP (p.2 * 2 ^ 32 + p.1))

def desEnc (key b : Bytes) : Bytes := desRun (desKeys key) b
def desDec (key b : Bytes) : Bytes := desRun (desKeys key).reverse b

/-- Two-key TDES keys have 16 bytes, three-key ones 24. -/
def tdesEnc (key b : Bytes) : Bytes :=
  desEnc (if key.length == 24 then slice key 16 8 else slice key 0 8) (desDec (slice key 8 8) (desEnc (slice key 0 8) b))
def tdesDec (key b : Bytes) : Bytes :=
  desDec (slice key 0 8) (desEnc (slice key 8 8) (desDec (if key.length == 24 then slice key 16 8 else slice key 0 8) b))

/-! ## A cipher by key type: blocks of 16 bytes under AES, of 8 under TDES -/

structure Cipher where
  n   : Nat
  enc : Bytes → Bytes
  dec : Bytes → Bytes

def aesC (key : Bytes) : Cipher := { n := 16, enc := aesEnc key, dec := aesDec key }
def tdesC (key : Bytes) : Cipher := { n := 8, enc := tdesEnc key, dec := tdesDec key }

def ecbEnc (c : Cipher) (b : Bytes) : Bytes := (blocks c.n b).flatMap c.enc
def ecbDec (c : Cipher) (b : Bytes) : Bytes := (blocks c.n b).flatMap c.dec

def cbcEnc (c : Cipher) (iv b : Bytes) : Bytes :=
  ((blocks c.n b).foldl (fun (u : Bytes × Bytes) x => let y := c.enc (xorB x u.1); (y, u.2 ++ y)) (iv, [])).2

def cbcDec (c : Cipher) (iv b : Bytes) : Bytes :=
  ((blocks c.n b).foldl (fun (u : Bytes × Bytes) x => (x, u.2 ++ xorB (c.dec x) u.1)) (iv, [])).2

/-- The key stream of CTR, its counter incremented modulo 2^(8 `w`) in its last `w` bytes. -/
def ctrEnc (c : Cipher) (w : Nat) (iv b : Bytes) : Bytes :=
  ((blocks c.n b).foldl (fun (u : Bytes × Bytes) x =>
    (u.1.take (c.n - w) ++ toBE w (beNat (u.1.drop (c.n - w)) + 1), u.2 ++ xorB x (c.enc u.1))) (iv, [])).2

/-- Doubling in the field of the block length, for CMAC. -/
def dbl (b : Bytes) : Bytes :=
  let m := 2 ^ (8 * b.length)
  let x := 2 * beNat b
  toBE b.length (if x < m then x else (x - m) ^^^ (if b.length == 16 then 0x87 else 0x1B))

/-- The last block of a CBC chain from zero. -/
def cbcMac (c : Cipher) (b : Bytes) : Bytes := (blocks c.n b).foldl (fun u x => c.enc (xorB x u)) (zeros c.n)

/-- CMAC (SP 800-38B). -/
def cmac (c : Cipher) (b : Bytes) : Bytes :=
  let k1 := dbl (c.enc (zeros c.n))
  let full := b.length % c.n == 0 && !b.isEmpty
  let l := if b.isEmpty then 0 else (b.length - 1) / c.n * c.n
  let last := if full then xorB (b.drop l) k1 else xorB (padTo c.n (b.drop l ++ [0x80])) (dbl k1)
  cbcMac c (b.take l ++ last)

/-- Padding of ISO/IEC 9797-1: method 1 zeros, method 2 80h and zeros, to blocks of `n`. -/
def isoPad (padm n : Nat) (b : Bytes) : Bytes :=
  let c := if padm == 2 then b ++ [0x80] else b
  let c := c ++ List.replicate ((n - c.length % n) % n) 0
  if c.isEmpty then zeros n else c

/-- MAC algorithm 3 of ISO/IEC 9797-1 with single DES and a key of 16 bytes. -/
def retailMac (key b : Bytes) : Bytes :=
  let k := slice key 0 8
  let c : Cipher := { n := 8, enc := desEnc k, dec := desDec k }
  desEnc k (desDec (slice key 8 8) (cbcMac c b))

/-! ## GCM -/

def gfHalve (x : BitVec 128) : BitVec 128 :=
  if x.getLsbD 0 then (x >>> 1) ^^^ (0xE1 <<< 120) else x >>> 1

/-- The product of GHASH. -/
def gfMul (x y : BitVec 128) : BitVec 128 :=
  ((List.range 128).foldl (fun (u : BitVec 128 × BitVec 128) i =>
    (if x.getMsbD i then u.1 ^^^ u.2 else u.1, gfHalve u.2)) (0, y)).1

def ghash (h : BitVec 128) (b : Bytes) : BitVec 128 :=
  (blocks 16 b).foldl (fun y x => gfMul (y ^^^ BitVec.ofNat 128 (beNat (padTo 16 x))) h) 0

def pad16 (b : Bytes) : Bytes := b ++ List.replicate ((16 - b.length % 16) % 16) 0

/-- The full tag of GCM with a 12-byte IV. -/
def gcmTag (key iv aad ct : Bytes) : Bytes :=
  let h := BitVec.ofNat 128 (beNat (aesEnc key (zeros 16)))
  let s := ghash h (pad16 aad ++ pad16 ct ++ toBE 8 (8 * aad.length) ++ toBE 8 (8 * ct.length))
  xorB (toBE 16 s.toNat) (aesEnc key (iv ++ [0, 0, 0, 1]))

def gcmCrypt (key iv b : Bytes) : Bytes := ctrEnc (aesC key) 4 (iv ++ [0, 0, 0, 2]) b

/-- GCM encryption: ciphertext and 16-byte tag. -/
def gcmEnc (key iv aad pt : Bytes) : Bytes × Bytes :=
  let ct := gcmCrypt key iv pt
  (ct, gcmTag key iv aad ct)

/-! ## Key wrap (SP 800-38F) -/

/-- One pass over the registers in wrapping: A, registers, step number. -/
def wrapPass (key : Bytes) : List Bytes → Bytes → Nat → Bytes × List Bytes × Nat
  | [], a, t => (a, [], t)
  | r :: rs, a, t =>
    let b := aesEnc key (a ++ r)
    let u := wrapPass key rs (xorB (b.take 8) (toBE 8 t)) (t + 1)
    (u.1, b.drop 8 :: u.2.1, u.2.2)

/-- W: the wrapping function over a semiblock A and the others. -/
def wrapW (key a : Bytes) (rs : List Bytes) : Bytes :=
  let u := (List.range 6).foldl (fun (u : Bytes × List Bytes × Nat) _ => wrapPass key u.2.1 u.1 u.2.2) (a, rs, 1)
  u.1 ++ u.2.1.flatten

/-- One pass in unwrapping, the registers last first. -/
def unwrapPass (key : Bytes) : List Bytes → Bytes → Nat → Bytes × List Bytes × Nat
  | [], a, t => (a, [], t)
  | r :: rs, a, t =>
    let b := aesDec key (xorB a (toBE 8 t) ++ r)
    let u := unwrapPass key rs (b.take 8) (t - 1)
    (u.1, b.drop 8 :: u.2.1, u.2.2)

/-- W inverted: A and the plaintext. -/
def unwrapW (key b : Bytes) : Bytes × Bytes :=
  let rs := (blocks 8 (b.drop 8)).reverse
  let u := (List.range 6).foldl (fun (u : Bytes × List Bytes × Nat) _ => unwrapPass key u.2.1 u.1 u.2.2)
    (b.take 8, rs, 6 * rs.length)
  (u.1, u.2.1.reverse.flatten)

def kwWrap (key b : Bytes) : Bytes := wrapW key (List.replicate 8 0xA6) (blocks 8 b)

def kwpWrap (key b : Bytes) : Bytes :=
  let a : Bytes := [0xA6, 0x59, 0x59, 0xA6] ++ toBE 4 b.length
  let p := b ++ List.replicate ((8 - b.length % 8) % 8) 0
  if p.length == 8 then aesEnc key (a ++ p) else wrapW key a (blocks 8 p)

def kwUnwrap (key b : Bytes) : Option Bytes :=
  let u := unwrapW key b
  if b.length % 8 == 0 && 24 ≤ b.length && u.1 == List.replicate 8 0xA6 then some u.2 else none

def kwpUnwrap (key b : Bytes) : Option Bytes :=
  let u := if b.length == 16 then let x := aesDec key b; (x.take 8, x.drop 8) else unwrapW key b
  let n := beNat (u.1.drop 4)
  if b.length % 8 == 0 && 16 ≤ b.length && u.1.take 4 == [0xA6, 0x59, 0x59, 0xA6] && n ≤ u.2.length &&
      u.2.length < n + 8 && 0 < n && isZero (u.2.drop n) then some (u.2.take n) else none

/-! ## FF1 (SP 800-38G), radix 10 -/

def digitsNat (d : List Nat) : Nat := d.foldl (fun a x => 10 * a + x) 0

/-- `n` in `k` decimal digits. -/
def natDigits (k n : Nat) : List Nat :=
  match k with
  | 0 => []
  | j + 1 => natDigits j (n / 10) ++ [n % 10]

/-- The number of bytes that hold any `v`-digit number. -/
def ff1Bytes (v : Nat) : Nat := (Nat.log2 (10 ^ v - 1) + 1 + 7) / 8

/-- The round function of FF1: its value, before reduction. -/
def ff1Y (key tweak : Bytes) (n u v i : Nat) (b : List Nat) : Nat :=
  let bl := ff1Bytes v
  let p : Bytes := [1, 2, 1, 0, 0, 10, 10, BitVec.ofNat 8 u] ++ toBE 4 n ++ toBE 4 tweak.length
  let q := tweak ++ List.replicate ((16 - (tweak.length + bl + 1) % 16) % 16) 0 ++ [BitVec.ofNat 8 i] ++ toBE bl (digitsNat b)
  let r := cbcMac (aesC key) (p ++ q)
  let d := 4 * ((bl + 3) / 4) + 4
  let s := r ++ (List.range ((d + 15) / 16 - 1)).flatMap (fun j => aesEnc key (xorB r (toBE 16 (j + 1))))
  beNat (s.take d)

def ff1Enc (key tweak : Bytes) (x : List Nat) : List Nat :=
  let n := x.length
  let u := n / 2
  let v := n - u
  let w := (List.range 10).foldl (fun (w : List Nat × List Nat) i =>
    let m := if i % 2 == 0 then u else v
    (w.2, natDigits m ((digitsNat w.1 + ff1Y key tweak n u v i w.2) % 10 ^ m))) (x.take u, x.drop u)
  w.1 ++ w.2

def ff1Dec (key tweak : Bytes) (x : List Nat) : List Nat :=
  let n := x.length
  let u := n / 2
  let v := n - u
  let w := (List.range 10).foldl (fun (w : List Nat × List Nat) j =>
    let i := 9 - j
    let m := if i % 2 == 0 then u else v
    (natDigits m ((digitsNat w.2 + 10 ^ m - ff1Y key tweak n u v i w.1 % 10 ^ m) % 10 ^ m), w.1)) (x.take u, x.drop u)
  w.1 ++ w.2

/-! ## CTR_DRBG with AES-256, no derivation function (12 R326) -/

/-- V + 1. -/
def incV (v : Bytes) : Bytes := toBE 16 (beNat v + 1)

/-- The update function: new key and V from 48 bytes. -/
def drbgUpdate (data key v : Bytes) : Bytes × Bytes :=
  let v1 := incV v
  let v2 := incV v1
  let t := xorB (aesEnc key v1 ++ aesEnc key v2 ++ aesEnc key (incV v2)) data
  (t.take 32, t.drop 32)

/-- `n` blocks of output: the bytes and V. -/
def drbgBlocks (key : Bytes) : Nat → Bytes → Bytes × Bytes
  | 0, v => ([], v)
  | n + 1, v =>
    let v' := incV v
    let u := drbgBlocks key n v'
    (padTo 16 (aesEnc key v') ++ u.1, u.2)

/-- Generate: output, new key, new V, with additional input of at most 48 bytes. -/
def drbgGenerate (key v adata : Bytes) (n : Nat) : Bytes × Bytes × Bytes :=
  let a := padTo 48 adata
  let kv := if adata.isEmpty then (key, v) else drbgUpdate a key v
  let o := drbgBlocks kv.1 ((n + 15) / 16) kv.2
  let e := drbgUpdate a kv.1 o.2
  (o.1.take n, e.1, e.2)

end Sys2Proof.Machine
end

