-- ==== Sys2Proof/Machine/Mapping.lean ====
section
/-! DEFINITION. The record adapter's mapping table: its layout, its checks, its descriptors (03 R62-R66). -/

set_option Elab.async false

namespace Sys2Proof.Machine

/-- The record size that RSIZE encodes (Table 3.6). -/
def recordSize (rsize : Nat) : Option Nat :=
  match rsize with
  | 0 => some 80
  | 1 => some 128
  | 2 => some 256
  | _ => none

/-- A descriptor (Table 3.8). -/
structure Desc where
  op     : Nat
  src    : Nat
  srcoff : Nat
  dstoff : Nat
  n      : Nat
  deriving DecidableEq, Repr

def descOf (b : Bytes) : Desc := { op := fld b 0 1, src := fld b 1 1, srcoff := fld b 2 2, dstoff := fld b 4 2, n := fld b 6 2 }

/-- `n` descriptors. -/
def descs (n : Nat) (b : Bytes) : List Desc := (List.range n).map (fun i => descOf (slice b (8 * i) 8))

/-- A mapping entry (Table 3.8). -/
structure MapEntry where
  typeval : Bytes
  opcode  : Nat
  key     : Nat
  plen    : Nat
  nin     : Nat
  nout    : Nat
  rsvd    : Bool
  ins     : List Desc
  outs    : List Desc
  deriving DecidableEq, Repr

def MapEntry.size (e : MapEntry) : Nat := 20 + 8 * e.nin + 8 * e.nout

def mapEntryOf (b : Bytes) : MapEntry :=
  let ni := fld b 16 1
  let no := fld b 17 1
  { typeval := slice b 0 8, opcode := fld b 8 2, key := fld b 10 4, plen := fld b 14 2, nin := ni, nout := no, rsvd := fld b 18 2 != 0, ins := descs ni (b.drop 20), outs := descs no (b.drop (20 + 8 * ni)) }

/-- `n` entries, one after another, and what follows; none where they run past the end. -/
def mapEntries : Nat → Bytes → Option (List MapEntry × Bytes)
  | 0, b => some ([], b)
  | n + 1, b =>
    let e := mapEntryOf b
    if b.length < 20 || b.length < e.size then none
    else (mapEntries n (b.drop e.size)).map (fun u => (e :: u.1, u.2))

/-- The fields of a table body (Table 3.7). -/
def mapNtypes (b : Bytes) : Nat := fld b 4 2
def mapTypeoff (b : Bytes) : Nat := fld b 6 2
def mapTypelen (b : Bytes) : Nat := fld b 8 1
def mapNstat (b : Bytes) : Nat := fld b 9 1
def mapCplen (b : Bytes) : Nat := fld b 12 2
def mapRsize (b : Bytes) : Nat := (recordSize (fld b 2 1)).getD 0
def mapTemplateAt (b : Bytes) : Nat := 528 + 4 * mapNstat b
def mapPoolAt (b : Bytes) : Nat := mapTemplateAt b + mapRsize b
def mapEntriesAt (b : Bytes) : Nat := mapPoolAt b + mapCplen b
def mapPool (b : Bytes) : Bytes := slice b (mapPoolAt b) (mapCplen b)
def mapTemplate (b : Bytes) : Bytes := slice b (mapTemplateAt b) (mapRsize b)
/-- A byte through XIN or XOUT. -/
def xin (b : Bytes) (x : Byte) : Byte := b.getD (16 + x.toNat) 0
def xout (b : Bytes) (x : Byte) : Byte := b.getD (272 + x.toNat) 0

/-- The entries of a body that has passed the checks. -/
def mapList (b : Bytes) : List MapEntry := ((mapEntries (mapNtypes b) (b.drop (mapEntriesAt b))).map (·.1)).getD []

/-! ## The checks of a load (R63, R64) -/

/-- Bytes that a descriptor writes (Table 3.9). -/
def Desc.wide (d : Desc) : Nat :=
  match d.op with
  | 0x03 => d.n / 2
  | 0x04 => 2 * d.n
  | 0x05 => 2
  | _ => d.n

/-- OP, direction and SRC form a pair of Table 3.9. -/
def Desc.pair (inbound : Bool) (d : Desc) : Bool :=
  match d.op with
  | 0x01 => d.src ≤ 2
  | 0x02 => d.src ≤ 1
  | 0x03 => inbound && d.src == 0 && d.n % 2 == 0
  | 0x04 => !inbound && d.src == 1
  | 0x05 => !inbound
  | _ => false

/-- The ranges of a descriptor lie in bounds; those of an inner reply are known at run time only. -/
def Desc.fits (rsize cplen dst : Nat) (d : Desc) : Bool :=
  d.dstoff + d.wide ≤ dst &&
    (d.op == 5 || d.src == 1 || d.srcoff + d.n ≤ (if d.src == 0 then rsize else cplen))

/-- The layout of a table: 0110h where it is inconsistent. -/
def mapLayout (b : Bytes) : Bool :=
  528 ≤ b.length && fld b 0 2 == 1 && (recordSize (fld b 2 1)).isSome && fld b 3 1 ≤ 1 && mapNtypes b ≤ 256 &&
    1 ≤ mapTypelen b && mapTypelen b ≤ 8 && mapNstat b ≤ 32 && mapCplen b ≤ 4096 &&
    mapTypeoff b + mapTypelen b ≤ mapRsize b && mapEntriesAt b ≤ b.length &&
    (match mapEntries (mapNtypes b) (b.drop (mapEntriesAt b)) with
      | some (l, []) => l.all (fun e => e.plen ≤ 4096 && e.nin ≤ 16 && e.nout ≤ 16) && decide (l.map (·.typeval)).Nodup
      | _ => false)

/-- A reserved field of a table or of its entries is set. -/
def mapRsvd (b : Bytes) : Bool := fld b 14 2 != 0 || (mapList b).any (·.rsvd)

/-- A descriptor out of bounds, or a pair outside Table 3.9: 0111h. -/
def mapBounds (b : Bytes) : Bool :=
  (mapList b).all (fun e =>
    e.ins.all (fun d => d.pair true && d.fits (mapRsize b) (mapCplen b) e.plen) &&
      e.outs.all (fun d => d.pair false && d.fits (mapRsize b) (mapCplen b) (mapRsize b)))

/-! ## Running a table (R65, R66) -/

/-- The entry that a record matches, with its index. -/
def mapMatch (b record : Bytes) : Option (Nat × MapEntry) :=
  let n := mapTypelen b
  let v := slice record (mapTypeoff b) n
  let l := mapList b
  (List.range l.length).findSome? (fun i =>
    match l[i]? with
    | some e => if e.typeval.take n == v then some (i, e) else none
    | none => none)

/-- Bytes written over a byte string at an offset. -/
def overlay (b : Bytes) (off : Nat) (x : Bytes) : Bytes := b.take off ++ x ++ b.drop (off + x.length)

/-- A hexadecimal character. -/
def hexDigit (x : Byte) : Option Nat :=
  let n := x.toNat
  if 48 ≤ n && n ≤ 57 then some (n - 48)
  else if 65 ≤ n && n ≤ 70 then some (n - 55)
  else if 97 ≤ n && n ≤ 102 then some (n - 87)
  else none

/-- Pairs of hexadecimal characters. -/
def hexBytes : Bytes → Option Bytes
  | a :: b :: r =>
    match hexDigit a, hexDigit b, hexBytes r with
    | some x, some y, some l => some (BitVec.ofNat 8 (16 * x + y) :: l)
    | _, _, _ => none
  | [] => some []
  | [_] => none

/-- A nibble as an upper-case character. -/
def hexUpper (n : Nat) : Byte := BitVec.ofNat 8 (if n < 10 then 48 + n else 55 + n)

/-- Runs an inbound descriptor on the inner payload. One whose source is the inner reply finds none and is skipped (log
46). -/
def runIn (b record : Bytes) (d : Desc) (inner : Bytes) : Option Bytes :=
  let src := slice (if d.src == 2 then mapPool b else record) d.srcoff d.n
  if d.src == 1 then some inner
  else
  match d.op with
  | 0x02 => some (overlay inner d.dstoff (src.map (xin b)))
  | 0x03 => (hexBytes (src.map (xin b))).map (overlay inner d.dstoff)
  | _ => some (overlay inner d.dstoff src)

/-- The inner payload of an entry; none where a character does not convert. -/
def innerPayload (b record : Bytes) (e : MapEntry) : Option Bytes :=
  e.ins.foldl (fun (a : Option Bytes) d => a.bind (runIn b record d)) (some (List.replicate e.plen 0))

/-- The two-character code of a status. -/
def statCode (b : Bytes) (status : Nat) : Bytes :=
  ((List.range (mapNstat b)).findSome? (fun i =>
    if fld b (528 + 4 * i) 2 == status then some (slice b (530 + 4 * i) 2) else none)).getD (slice b 10 2)

/-- Runs an outbound descriptor on the reply record. -/
def runOut (b record reply : Bytes) (status : Nat) (out : Bytes) (d : Desc) : Bytes :=
  let from_ := if d.src == 2 then mapPool b else if d.src == 0 then record else reply
  let src := slice from_ d.srcoff d.n
  if d.op == 5 then overlay out d.dstoff (statCode b status)
  else if d.src == 1 && reply.length < d.srcoff + d.n then out
  else
    match d.op with
    | 0x02 => overlay out d.dstoff (src.map (xout b))
    | 0x04 => overlay out d.dstoff (src.flatMap (fun x => [xout b (hexUpper (x.toNat / 16)), xout b (hexUpper (x.toNat % 16))]))
    | _ => overlay out d.dstoff src

/-- The reply payload of an adapter item: RSIZE, CSET, ENTRY and a record. -/
def adapterPayload (b : Bytes) (entry : Nat) (record : Bytes) : Bytes := slice b 2 2 ++ toBE 2 entry ++ record

/-- The reply of an adapter item whose inner command has answered. -/
def adapterReply (b : Bytes) (entry : Nat) (payload : Bytes) (r : Reply) : Reply :=
  let record := payload.drop 4
  let outs := (((mapList b)[entry]?).map (·.outs)).getD []
  { r with payload := adapterPayload b entry (outs.foldl (runOut b record r.payload r.status) (mapTemplate b)) }

end Sys2Proof.Machine
end

