-- ==== Sys2Proof/Machine/Recorder.lean ====
section
/-! DEFINITION. The event recorder, the fault collector's own registers and ERR_N (16 R408-R427): what every block uses
to report. Containment, which reaches into the other blocks, is in Faults.lean. -/

set_option Elab.async false

namespace Sys2Proof.Machine

/-- Record sources that are not faults (16 R410). -/
def srcCycle : Nat := 0x1100
def srcTamper (id : Nat) : Nat := 0x1200 + id
def srcArmature : Nat := 0x1300
def srcVks : Nat := 0x1400
def srcClc : Nat := 0x1500
def srcLnk : Nat := 0x1600
/-- No tenant (16 Table 16.4). -/
def noTenant : Nat := 0xFFFF

/-- The 64 bytes of a record (16 Table 16.4). -/
def recordBytes (s : State) (sev source code tenant : Nat) (late : Bool) (data : Bytes) : Bytes :=
  let t := s.opSecs
  let sevb := sev + 64 * b2n late + 128 * b2n s.cyu.held
  let b := toBE 4 (t / 3600) ++ toBE 2 (t % 3600) ++ toBE 4 s.bk.pwrcyc ++ toBE 6 (s.cycle.getD noCycle) ++
    toBE 1 sevb ++ toBE 2 source ++ toBE 2 code ++ toBE 2 tenant ++ toBE 4 s.fcr.ridx ++ padTo 34 data
  b ++ toBE 2 (crc16 b).toNat ++ [0]

/-- The lowest severity among records. -/
def lowestSev (l : List Record) : Nat := l.foldl (fun a r => min a r.sev) 3

/-- Places a record in the ring (16 R420): in a free slot, or over the oldest record of the lowest severity where that
is not above its own; none where it is dropped. -/
def ringAdd (ring : List Record) (r : Record) : Option (List Record) :=
  if ring.length < 16384 then some (ring ++ [r])
  else if lowestSev ring ≤ r.sev then some (removeFirst (fun x => x.sev == lowestSev ring) ring ++ [r])
  else none

/-- Joins the unflushed set (16 R421): the set, and how many records are not journalled for it. -/
def unflAdd (set : List Record) (r : Record) : List Record × Nat :=
  if set.length < 64 then (set ++ [r], 0)
  else if lowestSev set < r.sev then (removeFirst (fun x => x.sev == lowestSev set) set ++ [r], 1)
  else (set, 1)

/-- Writes a record (16 R419-R421). -/
def record (sev source code : Nat) (data : Bytes) (tenant : Nat := noTenant) (late : Bool := false) (s : State) : State :=
  let r : Record :=
    { index := s.fcr.ridx, sev := sev, source := source, code := code, tenant := tenant, late := late,
      bytes := recordBytes s sev source code tenant late data, flushed := false }
  let ck := s.fcr.ckpt.modify sev (· + 1)
  let f := { s.fcr with ridx := (s.fcr.ridx + 1) % 2 ^ 32, ckpt := ck }
  let s := count (0xE4 + sev) none { s with fcr := f }
  match ringAdd f.ring r with
  | none =>
    count 0xE8 none (eachCopy (fun c => { c with drop := tput c.drop sev (satAdd max32 (tget c.drop sev 0) 1) }) s)
  | some ring =>
    let u := if sev == 0 then (f.unfl, 0) else unflAdd f.unfl r
    countN 0xE9 u.2 none
      (eachCopy (fun c => { c with jskip := satAdd max32 c.jskip u.2 })
        { s with fcr := { f with ring := ring, unfl := u.1 } })

/-- A record of an Armature event: Armature, not the spec, defines its code and data, so both are a free value (Table
16.5, log 21). -/
def armatureRecord (sev source : Nat) (s : State) : State :=
  let u := takeFree (0x7000 * 2 ^ 272) s
  record sev source (0x1000 + u.1 % 0x7000) (toBE 34 (u.1 / 0x7000)) noTenant false u.2

/-! ## Fault data and reports -/

/-- Causes (16 Table 16.6). -/
def causeEcc1 : Nat := 1
def causeEcc2 : Nat := 2
def causeParity : Nat := 3
def causeCompare : Nat := 4
def causeError : Nat := 5
def causeMpu : Nat := 6
def causeTimeout : Nat := 7
def causeSelf : Nat := 8
def causeTag : Nat := 9
def causeWire : Nat := 0xA

/-- DATA bytes 4-37 of a fault record (16 Table 16.6). -/
def faultData (cls : Nat) (wire escal rep : Bool) (cause addr cnt items : Nat) : Bytes :=
  toBE 1 cls ++ toBE 1 (b2n wire + 2 * b2n escal + 4 * b2n rep) ++ toBE 2 cause ++ toBE 8 addr ++
    toBE 2 (min cnt 0xFFFF) ++ toBE 2 (min items 0xFFFF)

/-- What the collector keeps of a source that has not reported. -/
def FaultSrc.zero : FaultSrc :=
  { last := 0, isol := false, wire := false, errsel := false, winAt := 0, winN := 0 }

def fsrc (s : State) (n : Nat) : FaultSrc := tget s.fcr.srcs n .zero

def setFsrc (n : Nat) (f : FaultSrc → FaultSrc) (s : State) : State :=
  { s with fcr := { s.fcr with srcs := tput s.fcr.srcs n (f (fsrc s n)) } }

/-- The window in which 1,024 corrected errors of one source change its records (16 R413), in ns: 2^30 cycles of the
1 GHz fabric clock. -/
def corrWindow : Nat := 2 ^ 30

/-- A corrected error (16 R413). -/
def corrected (src cause addr : Nat) (s : State) : State :=
  let f := fsrc s src
  let fresh := f.winN == 0 || corrWindow ≤ s.now - f.winAt
  let n := if fresh then 1 else f.winN + 1
  let s := setFsrc src (fun f => { f with last := 1, winAt := if fresh then s.now else f.winAt, winN := n }) s
  let s := eachCopy (fun c =>
    { c with
      corr := satAdd max32 c.corr 1
      scorr := tput c.scorr src (satAdd max32 (tget c.scorr src 0) 1) }) s
  let s := count 0xE0 none s
  if n < 1024 then record 0 src 0x0010 (faultData 0 false false false cause addr 1 0) noTenant false s
  else if n == 1024 then record 1 src 0x0010 (faultData 0 false false false cause addr n 0) noTenant false s
  else s

/-- Starts an ERR_N pulse; a running pulse is not lengthened (16 R416). -/
def errPulse (s : State) : State :=
  if s.fcr.pulse then s else emit .errPulse { s with fcr := { s.fcr with pulse := true, pulsed := true } }

/-- The collector's part in a contained fault: record, counters, ERR_N, SMB_ALERT_N (16 R414, R416, R427). -/
def containedReport (src cause addr items : Nat) (wire rep : Bool) (s : State) : State :=
  let s := record 2 src 0x0011 (faultData 1 wire false rep cause addr 0 items) noTenant false s
  let s := eachCopy (fun c => { c with cont := satAdd max32 c.cont 1 }) s
  let s := count 0xE1 none (setFsrc src (fun f => { f with last := 2 }) s)
  let s := { s with fcr := { s.fcr with lastC := src, lastCr := src, smbAlert := true } }
  if (fsrc s src).errsel then errPulse s else s

/-- A manager stops driving TWIN_HOLD and drops TWIN_ACT (14 R369, 13 R350). -/
def dropTwinHold (s : State) : State := { s with hier := { s.hier with twinAct := false, driving := false } }

/-- Closes the output gates (14 R365, 16 R415). -/
def closeGates (s : State) : State := dropTwinHold { s with boot := { s.boot with gates := true } }

/-- A fatal fault starts the recovery sequencer, steps 1 to 4: gates, record, ERR_N, flush (16 R415-R417, 13 R357). -/
def fatalFault (src cause addr : Nat) (wire escal : Bool) (s : State) : State :=
  let s := closeGates s
  let s := { s with fcr := { s.fcr with st := .recovery, lastF := src, seqRun := true, smbAlert := true } }
  let s := setFsrc src (fun f => { f with last := 3 }) s
  let s := count 0xE2 none (record 3 src 0x0012 (faultData 2 wire escal false cause addr 0 0) noTenant false s)
  let s := errPulse s
  { s with fcr := { s.fcr with flush := s.fcr.unfl, flushing := true } }

/-- A fatal fault, unless a fatal fault or a tamper response already governs (16 R415, 14 R369). -/
def fatal (src cause addr : Nat) (s : State) : State :=
  if s.fcr.st == .recovery || s.fcr.st == .halted then s else fatalFault src cause addr false false s

/-- A cycle event record (16 Table 16.5, code 0030h): kind and cycles added. -/
def cycleRecord (sev kind added : Nat) (s : State) : State :=
  record sev srcCycle 0x0030 (toBE 1 kind ++ toBE 6 added) noTenant false s

/-- A cellar event record (16 Table 16.5, code 0050h): page or drive, and a kind whose values the table does not give, so
a free one (log 21). -/
def cellarRecord (sev page : Nat) (s : State) : State :=
  let u := takeFree 256 s
  record sev srcClc 0x0050 (toBE 8 page ++ toBE 1 u.1) noTenant false u.2

/-- An MPU denial record (16 Table 16.5, code 0020h). -/
def mpuRecord (master addr : Nat) (r : Right) (tenant : Nat) (s : State) : State :=
  let code := match r with
    | .read => 1
    | .write => 2
    | .fetch => 4
  record 2 (0x0D00 + master) 0x0020 (toBE 8 addr ++ toBE 1 code) tenant false s

/-- The boundary checkpoint (16 Table 16.5, code 0001h). -/
def checkpoint (s : State) : State :=
  let d := s.fcr.ckpt.flatMap (toBE 4)
  record 0 srcArmature 0x0001 d noTenant false { s with fcr := { s.fcr with ckpt := [0, 0, 0, 0] } }

/-- The journal's records: 131,072 slots, from JPOS on (16 R422). -/
def journalSlots : Nat := 131072

/-- The cellar takes the journal while it is OPEN, else the QSPI flash (16 R422, 08 R214). -/
def journalOf (s : State) : Table Bytes := if s.clc.st == .opened then s.clc.journal else s.flash.journal

/-- A journal flush into the cellar is a commit of its own: the committed serial and root advance (16 R422, R424; log 59). -/
def journalCommit (s : State) : State :=
  if s.clc.st == .opened then
    { s with
      free := s.free + 1
      bk := { s.bk with root := s.bk.root.map (fun r =>
        { r with cserial := r.cserial + 1, pserial := r.pserial + 1, croot := Config.cellarDigest s.free }) } }
  else s

/-- Writes the flushed records to the journal and marks them in the ring (16 R422). -/
def journalWrite (s : State) : State :=
  let done := s.fcr.flush.map (·.index)
  let u := s.fcr.flush.foldl (fun (u : Nat × Table Bytes) r => ((u.1 + 1) % journalSlots, tput u.2 u.1 r.bytes))
    (s.fcr.jpos, journalOf s)
  let f := { s.fcr with
    jpos := u.1, flush := [], flushing := false, pwrFlush := false,
    unfl := s.fcr.unfl.filter (fun r => !done.contains r.index),
    ring := s.fcr.ring.map (fun r => if done.contains r.index then { r with flushed := true } else r) }
  let s := journalCommit s
  let s := countN 0xEA ((done.length + 63) / 64) none { s with fcr := f }
  if s.clc.st == .opened then { s with clc := { s.clc with journal := u.2 } } else { s with flash := { s.flash with journal := u.2 } }

end Sys2Proof.Machine
end

