-- ==== Sys2Proof/Machine/Items.lean ====
section
/-! DEFINITION. Work items, flows and the monad in which the services of the opcodes are written (03, 05 R101-R116). -/

set_option Elab.async false

namespace Sys2Proof.Machine

/-! ## Items -/

/-- The class of an opcode (03 Table 3.1). -/
def opClass (op : Nat) : Nat := op / 256

/-- The classes that the PF alone takes and that name no tenant context (03 R51). -/
def pfClass (op : Nat) : Bool := [0x00, 0x0C, 0x0D, 0x0F].contains (opClass op)

/-- The function number of work that another part has forwarded: it has no queue here (09 R254; log 30). -/
def fnForward : Nat := 65

/-- The context an item belongs to: none for the PF's own classes (03 R51), and none for forwarded work. -/
def Item.owner (it : Item) : Option Nat := if (it.fn == 0 && pfClass it.opcode) || 64 < it.fn then none else some it.tenant

def getItem (s : State) (id : Nat) : Option Item := tfind s.dsp.items id

def modItem (id : Nat) (f : Item → Item) (s : State) : State :=
  { s with dsp := { s.dsp with items := tmod s.dsp.items id f } }

/-- Items of a context, with their entry numbers. -/
def itemsOf (s : State) (tenant : Nat) : List (Nat × Item) := s.dsp.items.filter (fun e => e.2.owner == some tenant)

def Item.isComplete (it : Item) : Bool := it.phase == .complete

/-- The core and context an item is resident on (05 R104). -/
def Item.seat (it : Item) : Option (Nat × Nat) :=
  match it.phase with
  | .held => none
  | .ready => none
  | .running c x => some (c, x)
  | .waiting c x _ => some (c, x)
  | .resumable c x _ => some (c, x)
  | .complete => none

/-- The item is on a core (05 R104). -/
def Item.resident (it : Item) : Bool := it.seat != none

/-- The group of a core: 48 cores in 8 groups (00 Table 0.2). -/
def groupOf (core : Nat) : Nat := core / 6

/-- The opcodes marked flow-serial (07 R182). -/
def flowSerial (op : Nat) : Bool := op == 0x0702 || op == 0x0703 || op == 0x0704

/-- Every earlier ordered item of the flow is complete (05 R103). -/
def earlierDone (s : State) (it : Item) : Bool :=
  let f := tget s.dsp.flows it.flow { head := 0, next := 0 }
  s.dsp.items.all (fun e =>
    !(e.2.ord && e.2.flow == it.flow && (e.2.sn + 65536 - f.head) % 65536 < (it.sn + 65536 - f.head) % 65536) ||
      e.2.isComplete)

/-- A ready item may stand on its service list (05 R103). -/
def mayEnter (s : State) (it : Item) : Bool := !(flowSerial it.opcode && it.ord) || earlierDone s it

/-- The item stands on its service list. -/
def Item.listed (it : Item) : Bool := it.phase == .ready && it.arr != 0

/-- Puts a ready item on its service list, at its end (05 R103). -/
def enterList (id : Nat) (s : State) : State :=
  match getItem s id with
  | none => s
  | some it =>
    if it.phase == .ready && it.arr == 0 && mayEnter s it then
      let n := s.dsp.arr + 1
      count (0x30 + it.level) it.owner
        (modItem id (fun i => { i with arr := n }) { s with dsp := { s.dsp with arr := n } })
    else s

/-- Every ready item that may stand on its list stands there: those of a flow after one of its items has completed. -/
def enterLists (flow : Nat) (s : State) : State :=
  s.dsp.items.foldl (fun s' e => if e.2.flow == flow then enterList e.1 s' else s') s

/-- Gives back what an item held: the slot index reserved for it and not written (06 R159). -/
def freeReserved (it : Item) (s : State) : State :=
  match it.slot with
  | none => s
  | some i =>
    if it.wrote == some i then s else { s with vks := { s.vks with reserved := s.vks.reserved.filter (· != i) } }

/-- Drops the draws of an item that has ended. -/
def dropDraws (id : Nat) (s : State) : State :=
  let gone := ((s.ent.asked ++ s.ent.waiting).filter (fun d => d.item == id)).map (·.id)
  if gone.isEmpty then s
  else
    { s with ent := { s.ent with
      asked := s.ent.asked.filter (fun d => d.item != id), waiting := s.ent.waiting.filter (fun d => d.item != id),
      urgent := s.ent.urgent.filter (fun u => match u with | .fresh d => !gone.contains d | _ => true) } }

/-- Closes the stream of a flow (07 R185). -/
def closeStream (flow : Nat) (s : State) : State := { s with eng := { s.eng with streams := terase s.eng.streams flow } }

/-! ## One signed message at a time (09 R254) -/

/-- The counter that an opcode's envelope takes: a tenant's, H, the guard's, U, or the life-cycle's. -/
def gateOf (op tenant : Nat) : Option Nat :=
  if [0x0101, 0x0107, 0x0E02, 0x0A04].contains op then some tenant
  else if [0x0C01, 0x0C02, 0x0C03, 0x0C04, 0x0C05, 0x0C07, 0x0C08, 0x0D03].contains op then some 2000
  else if op == 0x0F20 then some 2001
  else if op == 0x0F10 || op == 0x0F13 then some 2002
  else if op == 0x0D02 || op == 0x0D04 then some 2003
  else none

/-- The gate an item passes: that of its counter, or that of the key digest its vault operation names, once it has it (08
R217). -/
def Item.gate (it : Item) : Option Nat :=
  if [0x0A01, 0x0A02, 0x0A03].contains it.opcode then
    match it.answers with
    | .nums [1] :: .nums [] :: .ok d :: _ => some (4096 + beNat d)
    | _ => none
  else gateOf it.opcode it.tenant

/-- The answers an item has had when it reaches its gate. -/
def Item.gateAt (it : Item) : Nat := if opClass it.opcode == 0x0A && it.opcode != 0x0A04 then 3 else 1

/-- The item's vault write is placed: it waits for the twin copy alone. -/
def Item.copied (it : Item) : Bool := opClass it.opcode == 0x0A && it.wrote.isSome

/-- The item's message is being checked: past the gate, and neither applied nor the duplicate of one that is, nor a running
UPDATE, beside which a second one is refused (17 R443). -/
def checking (s : State) (g : Nat) (e : Nat × Item) : Bool :=
  e.2.gate == some g && !e.2.isComplete && e.2.gateAt < e.2.answers.length && !e.2.copied &&
    s.hier.applies.all (fun a => a.item != e.1 && !a.also.contains e.1) && (s.flash.upd.map (·.item)) != some e.1

def gateFree (s : State) (g : Nat) : Bool := s.dsp.items.all (fun e => !checking s g e)

/-- An item waits at the gate. -/
def Item.atGate (it : Item) (g : Nat) : Bool :=
  it.gate == some g && it.answers.length == it.gateAt &&
    (match it.phase with | .waiting _ _ .event => true | _ => false)

/-- The item that reached a gate first (log 31). -/
def firstAtGate (s : State) (g : Nat) : Option Nat :=
  (s.dsp.items.foldl (fun (a : Option (Nat × Nat)) e =>
    if e.2.atGate g then
      match a with
      | none => some (e.1, e.2.arr)
      | some u => if e.2.arr < u.2 then some (e.1, e.2.arr) else some u
    else a) none).map (·.1)

/-- Lets the next message of a counter through, where none is being checked. -/
def wakeGate (g : Option Nat) (s : State) : State :=
  match g with
  | none => s
  | some g =>
    if gateFree s g then
      match firstAtGate s g with
      | none => s
      | some id =>
        modItem id (fun i =>
          match i.phase with
          | .waiting c x _ => { i with phase := .resumable c x s.now, answers := i.answers ++ [.nums []] }
          | _ => i) s
    else s

/-- The statuses that end an item from outside its service. -/
def aborting (status : Nat) : Bool := [0x0202, 0x0701, 0x0702, 0x0703, 0x0704, 0xFFFF].contains status

/-- An adapter item's own reply: the inner command's, mapped into a record (03 R66). -/
def outerReply (it : Item) (r : Reply) : Reply :=
  match it.outer, it.map with
  | some u, some m => if aborting r.status then r else adapterReply m.body u.1 u.2 r
  | _, _ => r

/-- An adapter item carries its own opcode again. -/
def outerItem (it : Item) : Item :=
  match it.outer with
  | some u => { it with opcode := 0x0E01, key := 0, payload := u.2, outer := none }
  | none => it

/-- An UPDATE whose item has ended runs no longer (17 R443). -/
def endUpdate (id : Nat) (s : State) : State :=
  { s with flash := { s.flash with upd := s.flash.upd.filter (fun u => u.item != id) } }

/-- An item becomes complete with its reply (05 R112). A stream opcode that ends otherwise than DONE closes its flow's
stream (07 R185). -/
def itemDone (id : Nat) (r : Reply) (s : State) : State :=
  match getItem s id with
  | none => s
  | some it =>
    if it.isComplete then s
    else
      let s := modItem id
        (fun i => { outerItem i with phase := .complete, reply := some (outerReply it r), slot := none, holding := [], windows := [], answers := [] }) s
      let s := endUpdate id (dropDraws id (freeReserved it s))
      let s := if (it.opcode == 0x0703 || it.opcode == 0x0704) && r.status != 0 then closeStream it.flow s else s
      wakeGate it.gate (enterLists it.flow (count 0x50 it.owner s))

/-- A reply without payload. -/
def Reply.bare (status detail : Nat) : Reply := { status := status, detail := detail, payload := [] }

/-- Ends an item with a status and no payload. -/
def itemEnd (id status detail : Nat) (s : State) : State := itemDone id (.bare status detail) s

/-- Ends an item with INTERNAL: the index of the record written for it is the DETAIL (03 Table 3.5). -/
def itemInternal (id : Nat) (s : State) : State :=
  let ix := s.fcr.ridx % 65536
  itemEnd id 0xFFFF ix (armatureRecord 2 srcArmature s)

/-- Ends every item that satisfies a test (05 R115). -/
def endItems (p : Nat → Item → Bool) (status detail : Nat) (s : State) : State :=
  s.dsp.items.foldl (fun s' e => if p e.1 e.2 then itemEnd e.1 status detail s' else s') s

/-- How many items a test holds for. -/
def countItems (p : Nat → Item → Bool) (s : State) : Nat := s.dsp.items.countP (fun e => p e.1 e.2)

/-! ## Requests -/

/-- A queue of requests, by level and then by arrival (05 R116). -/
def enqueue (r : Request) : List Request → List Request
  | [] => [r]
  | x :: l => if x.level < r.level then r :: x :: l else x :: enqueue r l

/-- The engine kinds with a queue (05 R116). -/
inductive Engine where
  | sye | dge | bne
  deriving DecidableEq, Repr

/-- Places a request in the queue of its engine. -/
def placeRequest (k : Engine) (r : Request) (s : State) : State :=
  match k with
  | .sye => { s with eng := { s.eng with syeQ := enqueue r s.eng.syeQ } }
  | .dge => { s with eng := { s.eng with dgeQ := enqueue r s.eng.dgeQ } }
  | .bne => { s with bne := { s.bne with queue := enqueue r s.bne.queue } }

/-- The item gives up its issue slot and waits (05 R104). -/
def itemWait (id : Nat) (w : Wait) (s : State) : State :=
  modItem id (fun i =>
    match i.phase with
    | .running c x => { i with phase := .waiting c x w }
    | _ => i) s

/-- The item's wait has been answered: it becomes resumable (05 R104). -/
def itemAnswer (id : Nat) (a : Answer) (s : State) : State :=
  modItem id (fun i =>
    match i.phase with
    | .waiting c x _ => { i with phase := .resumable c x s.now, answers := i.answers ++ [a] }
    | _ => i) s

/-- The item waits for `w`. -/
def waitsFor (s : State) (id : Nat) (w : Wait) : Bool :=
  match getItem s id with
  | some it =>
    match it.phase with
    | .waiting _ _ v => v == w
    | _ => false
  | none => false

/-! ## Services

A service runs from its start at every resumption, on the answers it has had so far; what it decides from state it
records among them, so that a later run decides the same. It stops where it must wait, or with its reply. -/

/-- Where a run stops. -/
inductive Stop where
  | wait (s : State)
  | reply (r : Reply) (s : State)

/-- A running service: the answers not yet taken, and the state. -/
structure Run where
  rest  : List Answer
  state : State

abbrev Svc := StateT Run (Except Stop)

/-- The state as it stands. -/
def Svc.state : Svc State := fun r => .ok (r.state, r)

/-- Changes the state. -/
def Svc.update (f : State → State) : Svc Unit := fun r => .ok ((), { r with state := f r.state })

/-- Ends the service with a reply. -/
def Svc.finish {α : Type} (status detail : Nat) (payload : Bytes := []) : Svc α :=
  fun r => .error (.reply { status := status, detail := detail, payload := payload } r.state)

/-- Ends the service with a status where a check fails. -/
def Svc.check (ok : Bool) (status detail : Nat) : Svc Unit := if ok then pure () else Svc.finish status detail

/-- Takes the next answer; where there is none yet, changes the state and stops to wait. -/
def Svc.await (place : State → State) : Svc Answer := fun r =>
  match r.rest with
  | a :: l => .ok (a, { r with rest := l })
  | [] => .error (.wait (place r.state))

/-- Takes the next answer; an error answer ends the service with it. -/
def Svc.awaitOk (place : State → State) : Svc Answer := do
  match ← Svc.await place with
  | .err st d => Svc.finish st d
  | a => pure a

/-- Decides from the state once, and records the decision among the item's answers. -/
def Svc.decide (id : Nat) (f : State → Answer × State) : Svc Answer := fun r =>
  match r.rest with
  | a :: l => .ok (a, { r with rest := l })
  | [] =>
    let u := f r.state
    .ok (u.1, { r with state := modItem id (fun i => { i with answers := i.answers ++ [u.1] }) u.2 })

/-- The bytes of an answer. -/
def Answer.bytes : Answer → Bytes
  | .ok b => b
  | _ => []

def Answer.nat : Answer → Nat
  | .nums (n :: _) => n
  | _ => 0

/-- Runs a service on its item. -/
def runService (id : Nat) (svc : Item → Svc Reply) (s : State) : State :=
  match getItem s id with
  | none => s
  | some it =>
    match (svc it).run { rest := it.answers, state := s } with
    | .ok (r, run) => itemDone id r run.state
    | .error (.reply r s') => itemDone id r s'
    | .error (.wait s') => s'

/-- Runs the service of an opcode: the item holds an issue slot and carries that opcode, else nothing happens (log 2). -/
def runOpcode (op id : Nat) (svc : Item → Svc Reply) (s : State) : State :=
  match getItem s id with
  | none => s
  | some it =>
    match it.phase with
    | .running _ _ => if it.opcode == op && it.outer.isNone then runService id svc s else s
    | _ => s

/-- The reply DONE. -/
def done (payload : Bytes := []) : Svc Reply := pure { status := 0, detail := 0, payload := payload }

/-- The next request number. -/
def nextReq (s : State) : Nat := s.eng.reqs

/-- A request of an item, with the secret bytes it holds (10 R281). -/
def itemRequest (id : Nat) (it : Item) (keys : List KeyReq) (chain : List KeyStep) (op : EngineOp)
    (dest : Option NewSlot) (s : State) : Request :=
  { id := nextReq s, level := it.level, client := .item id, tenant := it.tenant, flow := it.flow, keys := keys, chain := chain,
    op := op, dest := dest, holding := ((getItem s id).map (·.holding)).getD [], lane := none, segs := 0, cont := false,
    got := [], stamp := [] }

/-- Places an item's request and makes the item wait for it. -/
def askEngine (k : Engine) (id : Nat) (r : State → Request) (s : State) : State :=
  let q := r s
  let s := { s with eng := { s.eng with reqs := s.eng.reqs + 1 } }
  itemWait id (.engine q.id) (placeRequest k q (modItem id (fun i => { i with holding := [] }) s))

/-- An engine request of a service: its answer, or the end of the item where it is an error. -/
def Svc.engine (k : Engine) (id : Nat) (it : Item) (keys : List KeyReq) (chain : List KeyStep) (op : EngineOp)
    (dest : Option NewSlot := none) : Svc Answer :=
  Svc.awaitOk (askEngine k id (itemRequest id it keys chain op dest))

/-- The DRBG instance of a tenant's context (12 R327). -/
def instOf (s : State) (tenant : Nat) : Nat := ((tfind s.hfe.ctxs tenant).bind (·.inst)).getD 0

/-- Asks the ENT for random bytes and waits (12 R329). -/
def askDraw (id : Nat) (it : Item) (inst : State → Nat) (n : Nat) (pr : Bool) (adata : Bytes) (secret : Bool) (s : State) :
    State :=
  let d : Draw :=
    { id := s.ent.draws, item := id, inst := inst s, n := n, pr := pr, nowait := it.nowait, adata := adata, secret := secret,
      got := [], since := s.now }
  itemWait id .draw { s with ent := { s.ent with draws := s.ent.draws + 1, asked := s.ent.asked ++ [d] } }

/-- Random bytes from the tenant's instance (12 R329). -/
def Svc.draw (id : Nat) (it : Item) (n : Nat) : Svc Bytes := do
  let a ← Svc.awaitOk (askDraw id it (fun s => instOf s it.tenant) n false [] false)
  pure a.bytes

/-- Secret random bytes: they go to the item's next request and to no master (10 R281). -/
def Svc.drawSecret (id : Nat) (it : Item) (n : Nat) : Svc Unit := do
  let _ ← Svc.awaitOk (askDraw id it (fun s => instOf s it.tenant) n false [] true)
  pure ()

/-- Random bytes from Armature's own instance, number 0 (12 R326). -/
def Svc.drawArmature (id : Nat) (it : Item) (n : Nat) : Svc Bytes := do
  let a ← Svc.awaitOk (askDraw id { it with nowait := false } (fun _ => 0) n false [] false)
  pure a.bytes

/-- Waits for what another command brings. -/
def Svc.event (id : Nat) (w : Wait) (f : State → State) : Svc Answer := Svc.awaitOk (fun s => itemWait id w (f s))

end Sys2Proof.Machine
end

