-- ==== Sys2Proof/Machine/Operands.lean ====
section
/-! DEFINITION. The operand forms: the command and reply headers (03 Table 3.1, 3.2), the submission entry (04 Table
4.2), the opcode table with its lengths and KEY forms (03 R46, R54, R57, R59, R490), the PAN field (06 Table 6.1), the
signed envelope (09 Table 9.4). -/

set_option Elab.async false

namespace Sys2Proof.Machine

/-! ## Opcodes -/

/-- What an opcode's payload table says of KEY, of LEN 0 (where its largest or only LEN is 0) and of its largest LEN. -/
structure OpForm where
  op  : Nat
  /-- KEY carries a handle -/
  key : Bool
  /-- LEN 0 is permitted -/
  zero : Bool
  max : Nat
  deriving DecidableEq, Repr

/-- The largest LEN where a payload table sets no bound (03 R490). -/
def lenMax : Nat := 16777215

/-- The largest envelope with a body of `n` bytes: 16 entries of ML-DSA-65 (09 Table 9.4, 9.5). -/
def envMax (n : Nat) : Nat := 44 + n + 16 * 3313

/-- The largest officer set body (09 Table 9.7). -/
def officerMax : Nat := 4 + 16 * 1956

/-- An opcode with one fixed LEN. -/
def fixedForm (key : Bool) (op n : Nat) : OpForm := { op := op, key := key, zero := n == 0, max := n }

/-- An opcode whose LEN varies up to `n`. -/
def varForm (key : Bool) (op n : Nat) : OpForm := { op := op, key := key, zero := false, max := n }

/-- Classes 00h and 01h (04 Table 4.9, 09 Table 9.8). -/
def forms01 : List OpForm :=
  [fixedForm false 0x0001 24, fixedForm false 0x0002 0, fixedForm false 0x0003 32, fixedForm false 0x0004 0,
    fixedForm false 0x0005 4, fixedForm false 0x0006 8, fixedForm false 0x0007 0, fixedForm false 0x0008 0,
    fixedForm false 0x0009 0, fixedForm false 0x000A 16, varForm false 0x000B lenMax, fixedForm false 0x000C 0,
    varForm false 0x0101 (envMax 5252), fixedForm true 0x0102 0, fixedForm true 0x0103 0, fixedForm true 0x0104 0,
    varForm true 0x0105 272, fixedForm false 0x0106 12, varForm false 0x0107 (envMax officerMax), fixedForm false 0x0108 0]

/-- Classes 02h to 07h (06 Tables 6.6, 6.14, 6.23; 07 Tables 7.6, 7.9, 7.11). -/
def forms27 : List OpForm :=
  [fixedForm true 0x0201 36, fixedForm true 0x0202 64, fixedForm true 0x0203 80, fixedForm true 0x0204 48,
    fixedForm true 0x0301 20, fixedForm true 0x0302 24, varForm true 0x0303 1068, varForm true 0x0304 1052,
    varForm true 0x0305 1072, fixedForm true 0x0401 24, fixedForm true 0x0402 52, varForm true 0x0403 1048616,
    varForm true 0x0404 1048616, varForm true 0x0501 lenMax, varForm true 0x0502 lenMax, varForm true 0x0601 lenMax,
    varForm true 0x0602 lenMax, fixedForm true 0x0603 8, varForm true 0x0604 92, varForm false 0x0701 lenMax,
    varForm true 0x0702 lenMax, varForm false 0x0703 lenMax, varForm false 0x0704 lenMax]

/-- Classes 08h to 0Bh (07 Table 7.14, R199, R200; 08 Table 8.5; 12 Table 12.8). -/
def forms8B : List OpForm :=
  [varForm true 0x0801 lenMax, varForm false 0x0802 lenMax, varForm true 0x0803 lenMax, varForm true 0x0804 lenMax,
    varForm false 0x0805 lenMax, varForm true 0x0806 405, varForm true 0x0807 lenMax, varForm false 0x0808 lenMax,
    varForm false 0x0809 1584, varForm true 0x080A 1584, varForm true 0x080B lenMax, varForm false 0x080C lenMax,
    fixedForm false 0x080D 16, fixedForm true 0x080E 0, varForm true 0x0901 10015, fixedForm true 0x0902 12,
    fixedForm false 0x0A01 84, fixedForm false 0x0A02 36, fixedForm false 0x0A03 16, varForm false 0x0A04 (envMax 24),
    fixedForm false 0x0A05 8, fixedForm false 0x0A06 0, varForm false 0x0B01 56, fixedForm false 0x0B02 0]

/-- Classes 0Ch to 0Fh (13 Table 13.3; 15 Table 15.9; 03 R62-R68; 16 Table 16.7; 17 Table 17.7; 14 R372; 10 R296;
11 R315). -/
def formsCF : List OpForm :=
  [varForm false 0x0C01 (envMax 376), varForm false 0x0C02 (envMax officerMax), varForm false 0x0C03 (envMax (4 + officerMax)),
    varForm false 0x0C04 (envMax 0), varForm false 0x0C05 (envMax 8), fixedForm false 0x0C06 0,
    varForm false 0x0C07 (envMax 16), varForm false 0x0C08 (envMax 8), fixedForm false 0x0C09 0, fixedForm false 0x0C0A 0,
    fixedForm false 0x0C0B 0, fixedForm false 0x0D01 0, varForm false 0x0D02 (envMax 4), varForm false 0x0D03 (envMax 4),
    varForm false 0x0D04 (envMax officerMax), varForm false 0x0D05 (132 + 15 * 3313), fixedForm false 0x0D06 4,
    varForm false 0x0E01 260, varForm false 0x0E02 (envMax 75664), fixedForm false 0x0E03 0, fixedForm false 0x0F01 8,
    fixedForm false 0x0F02 8, fixedForm false 0x0F03 8, fixedForm false 0x0F04 0, varForm false 0x0F10 (envMax (288 + 3145728)),
    fixedForm false 0x0F11 0, fixedForm false 0x0F12 0, varForm false 0x0F13 (envMax 8), varForm false 0x0F20 (envMax 8),
    varForm false 0x0F30 2088, fixedForm false 0x0F31 8, fixedForm false 0x0F32 4]

def opForms : List OpForm := forms01 ++ forms27 ++ forms8B ++ formsCF

/-- The form of an opcode, where the operation exists. -/
def opForm (op : Nat) : Option OpForm := opForms.find? (fun f => f.op == op)

/-- A class is accepted on the PF, or on VFs (03 Table 3.4). -/
def classOn (pf : Bool) (op : Nat) : Bool :=
  match opClass op with
  | 0x00 => pf
  | 0x01 => true
  | 0x0C => pf
  | 0x0D => pf
  | 0x0E => !pf || op == 0x0E02 || op == 0x0E03
  | 0x0F => pf
  | _ => !pf

/-- The opcodes of the PF's own classes whose TENANT names the target tenant (04 R94, 13 Table 13.3). -/
def namesTenant (op : Nat) : Bool :=
  [0x0001, 0x0002, 0x0004, 0x0006, 0x0007, 0x0008, 0x0009, 0x000A, 0x000B, 0x000C, 0x0C03, 0x0C04, 0x0C05, 0x0C0A].contains op

/-- The largest reply payload of an opcode's table (05 R123). -/
def replyMax (op : Nat) : Nat :=
  match op with
  | 0x0008 => 32
  | 0x000A => lenMax
  | 0x0101 => 8
  | 0x0104 => 32
  | 0x0105 => 8
  | 0x0106 => 8
  | 0x0108 => 64
  | 0x0201 => 16
  | 0x0203 => 8
  | 0x0204 => 24
  | 0x0301 => 4
  | 0x0303 => 8
  | 0x0304 => 8
  | 0x0305 => 1040
  | 0x0401 => 8
  | 0x0402 => 16
  | 0x0403 => 1048576
  | 0x0404 => 16
  | 0x0501 => 64
  | 0x0601 => lenMax
  | 0x0602 => lenMax
  | 0x0603 => 72
  | 0x0604 => 8
  | 0x0701 => 8192
  | 0x0704 => 8192
  | 0x0801 => 1024
  | 0x0803 => 1024
  | 0x0804 => 132
  | 0x0806 => 8
  | 0x0807 => 64
  | 0x0809 => 1576
  | 0x080A => 8
  | 0x080B => 4627
  | 0x080D => 2600
  | 0x080E => 2592
  | 0x0901 => 8
  | 0x0902 => 9999
  | 0x0A01 => 24
  | 0x0A02 => 80
  | 0x0A05 => 64 + 128 * 8192
  | 0x0A06 => 40
  | 0x0B01 => 1048576
  | 0x0B02 => 16
  | 0x0C09 => 64
  | 0x0C0A => 32
  | 0x0C0B => 1568
  | 0x0D01 => 32
  | 0x0E01 => 260
  | 0x0E03 => 40
  | 0x0F01 => 8 + 64 * 256
  | 0x0F02 => 8
  | 0x0F03 => 8 + 64 * 256
  | 0x0F04 => 32
  | 0x0F12 => 32
  | 0x0F20 => 4
  | 0x0F30 => 1032
  | 0x0F31 => 40
  | 0x0F32 => 8
  | _ => 0

/-! ## Headers -/

/-- A command header (03 Table 3.1). -/
structure Header where
  opcode : Nat
  tenantF : Nat
  flowF : Nat
  seq : Nat
  lenF : Nat
  key : Nat
  epoch : Nat
  notafter : Nat
  deriving DecidableEq, Repr

def headerOf (b : Bytes) : Header :=
  { opcode := fld b 2 2, tenantF := fld b 4 2, flowF := fld b 6 2, seq := fld b 8 4, lenF := fld b 12 4, key := fld b 16 4,
    epoch := fld b 20 4, notafter := fld b 24 4 }

def Header.tenant (h : Header) : Nat := h.tenantF % 1024
def Header.flow (h : Header) : Nat := h.flowF % 32768
def Header.ord (h : Header) : Bool := bit h.flowF 15
def Header.len (h : Header) : Nat := h.lenF % 2 ^ 25
def Header.nowait (h : Header) : Bool := bit h.lenF 25
def Header.pcrc (h : Header) : Bool := bit h.lenF 26
/-- A reserved header bit is set (03 Table 3.1). -/
def Header.rsvd (h : Header) : Bool := bits h.tenantF 15 10 != 0 || bits h.lenF 31 27 != 0
/-- The declared length (03 R43). -/
def Header.declared (h : Header) : Nat := 32 + h.len + (if h.pcrc then 4 else 0)

/-- A reply packet (03 Table 3.2): header with its HCRC, payload, payload CRC. -/
def replyBytes (opcode tenantF flowF seq : Nat) (pcrc direct : Bool) (r : Reply) (epoch notafter : Nat) : Bytes :=
  let l := r.payload.length + 2 ^ 26 * b2n pcrc + 2 ^ 27 * b2n direct
  let h : Bytes := [0xD9, 0x01] ++ toBE 2 opcode ++ toBE 2 tenantF ++ toBE 2 flowF ++ toBE 4 seq ++ toBE 4 l ++
    toBE 2 r.status ++ toBE 2 r.detail ++ toBE 4 epoch ++ toBE 4 notafter
  let c := if pcrc then toBE 4 (crc32c r.payload).toNat else []
  h ++ toBE 4 (crc32c h).toNat ++ r.payload ++ c

/-- The low half of the cycle number, or FFFFFFFFh while unlocked (03 Table 3.2, 02 R37). -/
def stampCycle (s : State) : Nat :=
  match s.cycle with
  | some c => c % 2 ^ 32
  | none => 2 ^ 32 - 1

/-- The deadline of NOTAFTER has passed (03 R52): the number whose low half it is, nearest the current cycle, is below
it. -/
def deadlinePassed (notafter cycle : Nat) : Bool :=
  let d := (notafter + 2 ^ 32 - cycle % 2 ^ 32) % 2 ^ 32
  2 ^ 31 ≤ d

/-! ## PAN fields and digits (06 R131, Table 6.1) -/

/-- The nibbles of a byte string, the high one of each byte first. -/
def nibbles (b : Bytes) : List Nat := b.flatMap (fun x => [x.toNat / 16, x.toNat % 16])

/-- Nibbles packed into bytes. -/
def packNibbles : List Nat → Bytes
  | a :: b :: r => BitVec.ofNat 8 (16 * a + b) :: packNibbles r
  | [a] => [BitVec.ofNat 8 (16 * a)]
  | [] => []

/-- A PAN field's digits; none where it is malformed or PANLEN is outside the range. -/
def panField (b : Bytes) (lo hi : Nat) : Option (List Nat) :=
  let n := fld b 0 1
  let d := nibbles (slice b 2 10)
  if lo ≤ n && n ≤ hi && (d.take n).all (· < 10) && (d.drop n).all (· == 15) then some (d.take n) else none

/-- A PAN field from its digits. -/
def panBytes (d : List Nat) : Bytes :=
  toBE 1 d.length ++ [0] ++ packNibbles (d ++ List.replicate (20 - d.length) 15)

/-! ## Envelopes (09 Tables 9.4, 9.5) -/

/-- A signature entry. -/
structure SigEntry where
  officer : Nat
  alg : Nat
  slen : Nat
  sig : Bytes
  deriving DecidableEq, Repr

/-- A signed envelope, as far as its lengths reach. -/
structure Envelope where
  gver : Nat
  kind : Nat
  tenantF : Nat
  dserial : Bytes
  counter : Nat
  blen : Nat
  body : Bytes
  nsig : Nat
  sigs : List SigEntry
  /-- 44 + BLEN and the entries make up the whole length -/
  fits : Bool
  /-- a reserved field is set -/
  rsvd : Bool
  /-- the signed data, bytes 0 to 39 + BLEN -/
  signed : Bytes
  deriving DecidableEq, Repr

/-- `n` signature entries and what follows them; none where they run past the end. -/
def sigEntries : Nat → Bytes → Option (List SigEntry × Bytes)
  | 0, b => some ([], b)
  | n + 1, b =>
    let l := fld b 2 2
    if b.length < 4 + l then none
    else
      match sigEntries n (b.drop (4 + l)) with
      | none => none
      | some u => some ({ officer := fld b 0 1, alg := fld b 1 1, slen := l, sig := slice b 4 l } :: u.1, u.2)

def envelopeOf (b : Bytes) : Envelope :=
  let bl := fld b 32 4
  let n := fld b (40 + bl) 1
  let e := sigEntries n (b.drop (44 + bl))
  { gver := fld b 0 2, kind := fld b 2 1, tenantF := fld b 4 2, dserial := slice b 8 16, counter := fld b 24 8, blen := bl,
    body := slice b 40 bl, nsig := n, sigs := (e.map (·.1)).getD [],
    fits := 44 + bl ≤ b.length && (match e with | some (_, []) => true | _ => false),
    rsvd := fld b 3 1 != 0 || bits (fld b 4 2) 15 10 != 0 || fld b 6 2 != 0 || fld b 36 4 != 0 || fld b (41 + bl) 3 != 0,
    signed := b.take (40 + bl) }

def Envelope.tenant (e : Envelope) : Nat := e.tenantF % 1024

end Sys2Proof.Machine
end

