-- ==== Sys2Proof/Machine/Payment.lean ====
section
/-! DEFINITION. What the cipher pipes compute for payments: PIN blocks, reference values, card verification values, EMV
and DUKPT derivations, MACs, key blocks (06, 07 R173-R201). -/

set_option Elab.async false

namespace Sys2Proof.Machine

/-! ## Key types (09 Table 9.2) -/

def isTdes (t : Nat) : Bool := t == 1 || t == 2
def isAes (t : Nat) : Bool := t == 3 || t == 4 || t == 5
def tdesTypes : List Nat := [1, 2]
def aesTypes : List Nat := [3, 4, 5]
def blockTypes : List Nat := [1, 2, 3, 4, 5]

/-- The cipher of a key of a type. -/
def cipherOf (t : Nat) (key : Bytes) : Cipher := if isTdes t then tdesC key else aesC key

/-- Key bytes of a type that a new-slot block names; 32 for HMAC (07 Table 7.3). -/
def typeLen (t : Nat) : Nat :=
  match t with
  | 1 => 16
  | 2 => 24
  | 3 => 16
  | 4 => 24
  | _ => 32

/-- A byte adjusted to odd parity in its low bit. -/
def oddByte (b : Byte) : Byte :=
  let ones := (List.range 7).countP (fun i => b.getLsbD (i + 1))
  BitVec.ofNat 8 (b.toNat / 2 * 2 + (1 - ones % 2))

def oddParity (b : Bytes) : Bytes := b.map oddByte

/-- Strength (07 R200). -/
def strength (t len : Nat) : Nat :=
  match t with
  | 1 => 1
  | 2 => 2
  | 3 => 3
  | 4 => 4
  | 5 => 5
  | _ => if len < 24 then 3 else if len < 32 then 4 else 5

/-! ## PIN blocks (06 R138, Table 6.4) -/

/-- The PAN field of formats 0 and 3, 8 bytes. -/
def panField8 (pan : List Nat) : Bytes :=
  let d := pan.dropLast
  let r := d.drop (d.length - 12)
  packNibbles ([0, 0, 0, 0] ++ List.replicate (12 - r.length) 0 ++ r)

/-- The PAN field of format 4, 16 bytes. -/
def panField16 (pan : List Nat) : Bytes :=
  packNibbles ([pan.length - 12] ++ pan ++ List.replicate (31 - pan.length) 0)

/-- A clear block's PIN, where it passes its format's check. -/
def pinCheck (fmt : Nat) (nib : List Nat) : Option (List Nat) :=
  let n := nib.getD 1 0
  let pin := (nib.drop 2).take n
  let fill := ((nib.take 16).drop 2).drop n
  let good :=
    match fmt with
    | 0 => fill.all (· == 15)
    | 2 => fill.all (· == 15)
    | 3 => fill.all (10 ≤ ·)
    | 4 => fill.all (· == 10)
    | _ => true
  if nib.headD 0 == fmt && 4 ≤ n && n ≤ 12 && pin.all (· < 10) && good then some pin else none

/-- The PIN of an enciphered block. -/
def pinOpen (fmt : Nat) (c : Cipher) (pan : List Nat) (block : Bytes) : Option (List Nat) :=
  if fmt == 4 then pinCheck 4 (nibbles (c.dec (xorB (c.dec (padTo 16 block)) (panField16 pan))))
  else
    let x := c.dec (padTo 8 block)
    pinCheck fmt (nibbles (if fmt == 0 || fmt == 3 then xorB x (panField8 pan) else x))

/-- The clear content that a format makes; `fill` holds the drawn nibbles, or the random half of format 4. -/
def pinClear (fmt : Nat) (pin : List Nat) (fill : Bytes) : Bytes :=
  let f := fill.map (fun b => b.toNat % 16)
  let rest :=
    match fmt with
    | 1 => f
    | 3 => f
    | 4 => List.replicate 14 10
    | _ => List.replicate 14 15
  let x := packNibbles (([fmt, pin.length] ++ pin ++ rest).take 16)
  if fmt == 4 then x ++ padTo 8 fill else x

/-- An enciphered block, 16 bytes (06 R132). -/
def pinSeal (fmt : Nat) (c : Cipher) (pan pin : List Nat) (fill : Bytes) : Bytes :=
  let x := pinClear fmt pin fill
  if fmt == 4 then c.enc (xorB (c.enc x) (panField16 pan))
  else padTo 16 (c.enc (if fmt == 0 || fmt == 3 then xorB x (panField8 pan) else x))

/-- `n` decimal digits collected from nibbles: the decimal ones first, then Ah-Fh less 10 (06 R145). -/
def collect (n : Nat) (x : List Nat) : List Nat := (x.filter (· < 10) ++ (x.filter (10 ≤ ·)).map (· - 10)).take n

/-- The natural PIN from the enciphered validation data. -/
def naturalPin (dtab x : List Nat) (chklen : Nat) : List Nat := (x.take chklen).map (fun v => dtab.getD v 0)

/-- The offset of a PIN. -/
def pinOffset (pin nat : List Nat) : List Nat := List.zipWith (fun p n => (p + 10 - n) % 10) pin nat

/-- The 8 bytes that the verification value method enciphers. -/
def pvvInput (pan : List Nat) (pvki : Nat) (pin : List Nat) : Bytes :=
  let d := pan.dropLast
  packNibbles (d.drop (d.length - 11) ++ [pvki] ++ pin.take 4)

/-- The 32 nibbles of a card verification value (06 R149), and the value. -/
def cvvOf (key : Bytes) (digits : List Nat) (n : Nat) : List Nat :=
  let x := packNibbles ((digits ++ List.replicate 32 0).take 32)
  let y := desEnc (key.take 8) (x.take 8)
  collect n (nibbles (tdesEnc key (xorB y (x.drop 8))))

/-! ## EMV derivations (06 R150, R151) -/

/-- The ICC master key: type and bytes. The AES forms are EMV Book 2's (log 13). -/
def iccKey (t : Nat) (key : Bytes) (pan psn : List Nat) : Bytes :=
  let d := pan ++ psn
  if isTdes t then
    let y :=
      if pan.length ≤ 16 then packNibbles (List.replicate (16 - d.length) 0 ++ d.drop (d.length - 16))
      else
        let p := if d.length % 2 == 1 then 0 :: d else d
        packNibbles (collect 16 (nibbles (sha1 (packNibbles p))))
    oddParity (tdesEnc key y ++ tdesEnc key (xorB y (List.replicate 8 0xFF)))
  else
    let y := packNibbles (List.replicate (32 - d.length) 0 ++ d)
    (aesEnc key y ++ aesEnc key (xorB y (List.replicate 16 0xFF))).take key.length

/-- The session key under an ICC master key. -/
def sessionKey (t : Nat) (key r : Bytes) : Bytes :=
  if isTdes t then
    let f (x : Byte) := tdesEnc key ((padTo 8 r).set 2 x)
    f 0xF0 ++ f 0x0F
  else if key.length == 16 then aesEnc key (padTo 16 r)
  else (aesEnc key ((padTo 16 r).set 2 0xF0) ++ aesEnc key ((padTo 16 r).set 2 0x0F)).take key.length

/-! ## DUKPT (06 R156; the standards' own steps, log 13) -/

def dukptMask : Bytes := [0xC0, 0xC0, 0xC0, 0xC0, 0, 0, 0, 0]
def dukptMask16 : Bytes := dukptMask ++ dukptMask

/-- The non-reversible key generation process of ANSI X9.24-1. -/
def nrkg (key reg : Bytes) : Bytes :=
  let half (k : Bytes) := xorB (desEnc (k.take 8) (xorB (k.drop 8) reg)) (k.drop 8)
  half (xorB key dukptMask16) ++ half key

/-- The future key of a counter through its one bits, from bit 20 down. -/
def dukptFuture (ipek base : Bytes) (ctr : Nat) : Bytes :=
  ((List.range 21).foldl (fun (u : Bytes × Nat) i =>
    let b := 2 ^ (20 - i)
    if ctr / b % 2 == 1 then (nrkg u.1 (toBE 8 (beNat base + u.2 + b)), u.2 + b) else u) (ipek, 0)).1

/-- The variant mask of a working key type (06 Table 6.22). -/
def dukptVariant (wkt : Nat) : Bytes :=
  match wkt with
  | 1 => toBE 8 0xFF
  | 2 => toBE 8 0xFF00
  | 3 => toBE 8 0xFF000000
  | 5 => toBE 8 0xFF0000
  | _ => toBE 8 0xFF00000000

def dukptTdesKey (bdk ksn : Bytes) (wkt : Nat) : Bytes :=
  let k := beNat (padTo 10 ksn)
  let init := toBE 10 (k / 2 ^ 21 * 2 ^ 21)
  let ipek := tdesEnc bdk (init.take 8) ++ tdesEnc (xorB bdk dukptMask16) (init.take 8)
  let fk := dukptFuture ipek (init.drop 2) (k % 2 ^ 21)
  let v := xorB fk (dukptVariant wkt ++ dukptVariant wkt)
  oddParity (if wkt == 5 || wkt == 6 then tdesEnc v (v.take 8) ++ tdesEnc v (v.drop 8) else v)

/-- Key usage of a working key type in ANSI X9.24-3. -/
def dukptUsage (wkt : Nat) : Nat :=
  match wkt with
  | 1 => 0x1000
  | 2 => 0x2000
  | 3 => 0x2001
  | 4 => 0x2002
  | 5 => 0x3000
  | 6 => 0x3001
  | _ => 0x3002

/-- The algorithm indicator of an AES key of `n` bytes. -/
def aesIndicator (n : Nat) : Nat := if n == 16 then 2 else if n == 24 then 3 else 4

/-- One derivation of ANSI X9.24-3: `n` bytes for a usage and a context of 8 bytes. -/
def dukptStep (key : Bytes) (usage n : Nat) (context : Bytes) : Bytes :=
  ((List.range ((n + 15) / 16)).flatMap (fun i =>
    aesEnc key ([0x01, BitVec.ofNat 8 (i + 1)] ++ toBE 2 usage ++ toBE 2 (aesIndicator n) ++ toBE 2 (8 * n) ++ context))).take n

def dukptAesKey (bdk ksn : Bytes) (wkt wklen : Nat) : Bytes :=
  let n := bdk.length
  let ctr := fld ksn 8 4
  let der := slice ksn 4 4
  let ik := dukptStep bdk 0x8001 n (slice ksn 0 8)
  let u := (List.range 32).foldl (fun (u : Bytes × Nat) i =>
    let b := 2 ^ (31 - i)
    if ctr / b % 2 == 1 then (dukptStep u.1 0x8000 n (der ++ toBE 4 (u.2 + b)), u.2 + b) else u) (ik, 0)
  dukptStep u.1 (dukptUsage wkt) (if wklen == 2 then 32 else 16) (der ++ toBE 4 ctr)

/-- Type and bytes of a key after a derivation. -/
def keyStep (k : Nat × Bytes) (c : KeyStep) : Nat × Bytes :=
  match c with
  | .icc pan psn => (k.1, iccKey k.1 k.2 pan psn)
  | .session r => (k.1, sessionKey k.1 k.2 r)
  | .dukptTdes ksn wkt => (1, dukptTdesKey k.2 ksn wkt)
  | .dukptAes ksn wkt wklen => (if wklen == 2 then 5 else 3, dukptAesKey k.2 ksn wkt wklen)

/-! ## MACs (07 R174) -/

/-- ISO 9797-1 padding by method. -/
def macPad (padm n : Nat) (m : Bytes) : Bytes :=
  if padm == 3 then toBE n (8 * m.length) ++ m ++ List.replicate ((n - m.length % n) % n) 0 else isoPad padm n m

/-- The whole MAC: ALG 01h, 03h and 10h of 07 Table 7.7; FFh takes algorithm 3 under TDES and CMAC under AES over the
padded message (06 R152, R154); FEh the same with CMAC over the message itself (06 R163). -/
def macOf (alg padm t : Nat) (key m : Bytes) : Bytes :=
  let c := cipherOf t key
  match alg with
  | 0x01 => cbcMac c (macPad padm c.n m)
  | 0x03 => retailMac key (macPad padm 8 m)
  | 0xFF => if isTdes t then retailMac key (isoPad 2 8 m) else cmac c (isoPad 2 16 m)
  | 0xFE => if isTdes t then retailMac key (isoPad padm 8 m) else cmac c m
  | _ => cmac c m

/-- HMAC by ALG 30h-33h. -/
def hmacOf (alg : Nat) (key m : Bytes) : Bytes :=
  match alg with
  | 0x30 => hmac sha224 64 key m
  | 0x31 => hmac256 key m
  | 0x32 => hmac384 key m
  | _ => hmac512 key m

/-- SP 800-108 in counter mode (09 R265). -/
def kdf108 (t : Nat) (key label : Bytes) (n : Nat) : Bytes :=
  let prf (m : Bytes) := if t == 8 then hmac256 key m else cmac (aesC key) m
  ((List.range 2).flatMap (fun i => prf (toBE 4 (i + 1) ++ label ++ [0] ++ toBE 4 (8 * n)))).take n

/-! ## Key blocks (07 R198-R201) -/

/-- A character of a key block. -/
def chr (b : Bytes) (i : Nat) : Nat := (b.getD i 0).toNat

def isDigit (c : Nat) : Bool := 0x30 ≤ c && c ≤ 0x39
def isHex (c : Nat) : Bool := isDigit c || (0x41 ≤ c && c ≤ 0x46)
def isPrint (c : Nat) : Bool := 0x20 ≤ c && c ≤ 0x7E
def hexVal (c : Nat) : Nat := if isDigit c then c - 0x30 else c - 0x37
def hexChar (n : Nat) : Byte := BitVec.ofNat 8 (if n < 10 then 0x30 + n else 0x37 + n)
def hexNat (b : Bytes) : Nat := b.foldl (fun a c => 16 * a + hexVal c.toNat) 0
def decNat (b : Bytes) : Nat := b.foldl (fun a c => 10 * a + hexVal c.toNat) 0
def fromHex (b : Bytes) : Bytes := packNibbles (b.map (fun c => hexVal c.toNat))
def toHex (b : Bytes) : Bytes := (nibbles b).map hexChar

/-- Where `n` optional blocks that begin at an offset end; none where one is malformed. A length of 00 is followed by the
length's own size, 02, and a length of four digits, as X9.143 gives (log 13). -/
def kbOptional (b : Bytes) : Nat → Nat → Option Nat
  | 0, o => some o
  | n + 1, o =>
    let l := slice b (o + 2) 2
    if b.length < o + 4 || !(l.all (fun c => isHex c.toNat)) then none
    else
      let v := hexNat l
      let ext := slice b (o + 6) 4
      if v == 0 then
        if o + 10 ≤ b.length && slice b (o + 4) 2 == ascii "02" && ext.all (fun c => isHex c.toNat) && 10 ≤ hexNat ext &&
            o + hexNat ext ≤ b.length then kbOptional b n (o + hexNat ext)
        else none
      else if v < 4 || b.length < o + v then none
      else kbOptional b n (o + v)

/-- A key block's parts. -/
structure KeyBlock where
  version : Nat
  usage : Nat
  alg : Nat
  mode : Nat
  expo : Nat
  /-- header with its optional blocks -/
  head : Bytes
  data : Bytes
  mac  : Bytes

/-- The block and MAC lengths of a version. -/
def kbBlock (v : Nat) : Nat := if v == 0x44 then 16 else 8
def kbMac (v : Nat) : Nat := if v == 0x44 then 16 else if v == 0x43 then 4 else 8

/-- Check 1 of 07 R199: the parts of a well-formed block. -/
def kbParse (b : Bytes) : Option KeyBlock :=
  let v := chr b 0
  let digits := slice b 1 4
  let nopt := slice b 12 2
  if b.length < 16 || !(v == 0x42 || v == 0x43 || v == 0x44) || !digits.all (fun c => isDigit c.toNat) ||
      decNat digits != b.length || !b.all (fun c => isPrint c.toNat) || !nopt.all (fun c => isDigit c.toNat) ||
      slice b 14 2 != ascii "00" || !([0x45, 0x4E, 0x53].contains (chr b 11)) then none
  else
    match kbOptional b (decNat nopt) 16 with
    | none => none
    | some o =>
      let rest := b.drop o
      let m := 2 * kbMac v
      if rest.length < m || !rest.all (fun c => isHex c.toNat) then none
      else
        let d := fromHex (rest.take (rest.length - m))
        if rest.length % 2 == 1 || d.isEmpty || d.length % kbBlock v != 0 then none
        else
          some { version := v, usage := fld b 5 2, alg := chr b 7, mode := chr b 8, expo := chr b 11, head := b.take o,
                 data := d, mac := fromHex (rest.drop (rest.length - m)) }

/-- Usage bits by name (06 Table 6.2, 07 Table 7.1, 09 Table 9.3). -/
def uENC : BitVec 16 := 0x0001
def uDEC : BitVec 16 := 0x0002
def uMACG : BitVec 16 := 0x0004
def uMACV : BitVec 16 := 0x0008
def uWRAP : BitVec 16 := 0x0010
def uUNWRAP : BitVec 16 := 0x0020
def uSIGN : BitVec 16 := 0x0040
def uAGREE : BitVec 16 := 0x0080
def uTOKEN : BitVec 16 := 0x0100
def uDERIVE : BitVec 16 := 0x0200
def uPINENC : BitVec 16 := 0x0400
def uPINVER : BitVec 16 := 0x0800
def uCVK : BitVec 16 := 0x1000
def uICCMK : BitVec 16 := 0x2000
def uBDK : BitVec 16 := 0x4000

/-- The usage mask of a pair of one-way halves by mode. -/
def halves (mode both one other : Nat) (a b : BitVec 16) : Option (BitVec 16) :=
  if mode == both then some (a ||| b) else if mode == one then some a else if mode == other then some b else none

/-- Table 7.21: key usage, algorithm and mode onto a slot usage mask. Usages are their two ASCII characters. -/
def kbUsage (usage alg mode : Nat) : Option (BitVec 16) :=
  let ta := alg == 0x54 || alg == 0x41
  let t := alg == 0x54
  let x (m : BitVec 16) (ok : Bool) (c : Nat) : Option (BitVec 16) := if ok && mode == c then some m else none
  match usage with
  | 0x4230 => x uBDK ta 0x58
  | 0x4330 => x uCVK t 0x43
  | 0x4430 => if ta then halves mode 0x42 0x45 0x44 uENC uDEC else none
  | 0x4530 => x (uICCMK ||| uMACG ||| uMACV) ta 0x58
  | 0x4531 => x (uICCMK ||| uENC) ta 0x58
  | 0x4532 => x (uICCMK ||| uMACG) ta 0x58
  | 0x4B30 => if ta then halves mode 0x42 0x45 0x44 uWRAP uUNWRAP else none
  | 0x4B31 => if ta then halves mode 0x42 0x45 0x44 uWRAP uUNWRAP else none
  | 0x4D31 => if ta then halves mode 0x43 0x47 0x56 uMACG uMACV else none
  | 0x4D36 => if ta then halves mode 0x43 0x47 0x56 uMACG uMACV else none
  | 0x4D33 => if t then halves mode 0x43 0x47 0x56 uMACG uMACV else none
  | 0x4D37 => if alg == 0x48 then halves mode 0x43 0x47 0x56 uMACG uMACV else none
  | 0x5030 => x uPINENC ta 0x42
  | 0x5631 => x uPINVER t 0x43
  | 0x5632 => x uPINVER t 0x43
  | _ => none

/-- The key type of an algorithm and a length in bits, where they suit each other and the usage (07 R199 check 4). -/
def kbType (usage alg nbits : Nat) : Option Nat :=
  let two := [0x4230, 0x4330, 0x4530, 0x4531, 0x4532, 0x4D33].contains usage
  match alg with
  | 0x54 => if nbits == 128 then some 1 else if nbits == 192 && !two then some 2 else none
  | 0x41 => if nbits == 128 then some 3 else if nbits == 192 then some 4 else if nbits == 256 then some 5 else none
  | _ => if 128 ≤ nbits && nbits ≤ 512 && nbits % 8 == 0 then some 8 else none

/-- The algorithm letter of a key type. -/
def kbAlg (t : Nat) : Nat := if isTdes t then 0x54 else if isAes t then 0x41 else 0x48

/-- The derived encryption key (0) or MAC key (1) of a KBPK for versions B and D. -/
def kbDerive (t : Nat) (kbpk : Bytes) (use : Nat) : Bytes :=
  let c := cipherOf t kbpk
  let ind := match t with
    | 1 => 0
    | 2 => 1
    | 3 => 2
    | 4 => 3
    | _ => 4
  let n := kbpk.length
  ((List.range ((n + c.n - 1) / c.n)).flatMap (fun i =>
    cmac c ([BitVec.ofNat 8 (i + 1)] ++ toBE 2 use ++ [0] ++ toBE 2 ind ++ toBE 2 (8 * n)))).take n

/-- The clear key data of a block, where its MAC verifies. -/
def kbOpen (t : Nat) (kbpk : Bytes) (k : KeyBlock) : Option Bytes :=
  if k.version == 0x43 then
    let ek := kbpk.map (· ^^^ 0x45)
    let mk := kbpk.map (· ^^^ 0x4D)
    let m := (cbcMac (tdesC mk) (isoPad 1 8 (k.head ++ k.data))).take 4
    if m == k.mac then some (cbcDec (tdesC ek) (k.head.take 8) k.data) else none
  else
    let p := cbcDec (cipherOf t (kbDerive t kbpk 0)) k.mac k.data
    if cmac (cipherOf t (kbDerive t kbpk 1)) (k.head ++ p) == k.mac then some p else none

/-- The key of clear key data: its length in bits, and its bytes where they fit. -/
def kbKey (p : Bytes) : Nat × Option Bytes :=
  let n := fld p 0 2
  (n, if n % 8 == 0 && 2 + n / 8 ≤ p.length then some (slice p 2 (n / 8)) else none)

/-- A block of version B or D around a key (07 R200): header without its length, padding bytes. -/
def kbSeal (t : Nat) (kbpk : Bytes) (version : Nat) (usage mode expo kvn : Bytes) (alg : Nat) (key fill : Bytes) : Bytes :=
  let bl := kbBlock version
  let d := toBE 2 (8 * key.length) ++ key
  let p := d ++ padTo ((bl - d.length % bl) % bl) fill
  let total := 16 + 2 * p.length + 2 * kbMac version
  let dec := (natDigits 4 total).map hexChar
  let head := [BitVec.ofNat 8 version] ++ dec ++ usage ++ [BitVec.ofNat 8 alg] ++ mode ++ kvn ++ expo ++ ascii "0000"
  let m := cmac (cipherOf t (kbDerive t kbpk 1)) (head ++ p)
  head ++ toHex (cbcEnc (cipherOf t (kbDerive t kbpk 0)) m p) ++ toHex m

end Sys2Proof.Machine
end

