-- ==== Sys2Proof/Machine/Pubkey.lean ====
section
/-! DEFINITION. Public-key arithmetic of 00 Table 0.5: RSA, elliptic curves, X25519, Ed25519, ML-KEM (FIPS 203), ML-DSA
(FIPS 204). PRESUMED, log 13: the spec names the standards; the checks and their order are those of 10 R286-R288. -/

set_option Elab.async false

namespace Sys2Proof.Machine

/-! ## Modular arithmetic -/

/-- `b ^ e` modulo `m`, over the low `n` bits of `e`, most significant first. -/
def powGo (b e m : Nat) : Nat → Nat → Nat
  | 0, a => a
  | n + 1, a => powGo b e m n (if bit e n then a * a % m * b % m else a * a % m)

def powMod (b e m : Nat) : Nat := powGo (b % m) e m (Nat.log2 e + 1) (1 % m)

/-- The inverse modulo a prime. -/
def invMod (a p : Nat) : Nat := powMod a (p - 2) p

def subMod (a b p : Nat) : Nat := (a % p + (p - b % p)) % p

/-- The bit length of a number. -/
def bitLen (n : Nat) : Nat := if n == 0 then 0 else Nat.log2 n + 1

/-! ## RSA -/

/-- An RSA key object (09 R256). -/
structure RsaKey where
  modbits : Nat
  n : Nat
  e : Nat
  elen : Nat
  p : Nat
  q : Nat
  dp : Nat
  dq : Nat
  qinv : Nat

def RsaKey.nb (k : RsaKey) : Nat := (k.modbits + 7) / 8

def rsaParse (b : Bytes) : RsaKey :=
  let mb := fld b 0 2
  let nb := (mb + 7) / 8
  let el := fld b 2 1
  let h := nb / 2
  let o := 4 + nb + el
  { modbits := mb, n := fld b 4 nb, e := fld b (4 + nb) el, elen := el, p := fld b o h, q := fld b (o + h) h,
    dp := fld b (o + 2 * h) h, dq := fld b (o + 3 * h) h, qinv := fld b (o + 4 * h) h }

/-- The length of an RSA key object with its MODBITS and ELEN. -/
def rsaLen (b : Bytes) : Nat := let nb := (fld b 0 2 + 7) / 8; 4 + nb + fld b 2 1 + 5 * (nb / 2)

/-- The private operation by CRT. -/
def rsaPrivate (k : RsaKey) (c : Nat) : Nat :=
  let m1 := powMod c k.dp k.p
  let m2 := powMod c k.dq k.q
  m2 + subMod m1 m2 k.p * k.qinv % k.p * k.q

/-- The private result matches its input under E (10 R293). -/
def rsaChecks (k : RsaKey) (c m : Nat) : Bool := powMod m k.e k.n == c % k.n

def mgf1 (h : Bytes → Bytes) (hl n : Nat) (seed : Bytes) : Bytes :=
  ((List.range (n / hl + 1)).flatMap (fun i => h (seed ++ toBE 4 i))).take n

/-- The hash of a code of 07 Table 7.4, with `n` the output of a SHAKE. -/
def hashOf (alg n : Nat) (b : Bytes) : Bytes :=
  match alg with
  | 0x01 => sha224 b
  | 0x02 => sha256 b
  | 0x03 => sha384 b
  | 0x04 => sha512 b
  | 0x11 => sha3 32 b
  | 0x12 => sha3 48 b
  | 0x13 => sha3 64 b
  | 0x21 => shake128 b n
  | 0x22 => shake256 b n
  | _ => []

/-- Output bytes of a code of 07 Table 7.4; 0 for SHAKE and for no code. -/
def hashLen (alg : Nat) : Nat :=
  match alg with
  | 0x01 => 28
  | 0x02 => 32
  | 0x03 => 48
  | 0x04 => 64
  | 0x11 => 32
  | 0x12 => 48
  | 0x13 => 64
  | _ => 0

/-- The DigestInfo before the digest of PKCS #1 v1.5. -/
def digestInfo (alg : Nat) : Bytes :=
  let oid := match alg with
    | 0x02 => (1 : Nat)
    | 0x03 => 2
    | 0x04 => 3
    | 0x11 => 8
    | 0x12 => 9
    | _ => 10
  let l := hashLen alg
  [0x30, BitVec.ofNat 8 (l + 17), 0x30, 0x0D, 0x06, 0x09, 0x60, 0x86, 0x48, 0x01, 0x65, 0x03, 0x04, 0x02,
    BitVec.ofNat 8 oid, 0x05, 0x00, 0x04, BitVec.ofNat 8 l]

/-- EMSA-PKCS1-v1_5; none where it does not fit. -/
def pkcs1Encode (alg nb : Nat) (digest : Bytes) : Option Bytes :=
  let t := digestInfo alg ++ digest
  if nb < t.length + 11 then none
  else some ([0x00, 0x01] ++ List.replicate (nb - t.length - 3) 0xFF ++ [0x00] ++ t)

/-- EMSA-PSS encoding for `mb` - 1 bits; none where it does not fit. -/
def pssEncode (alg mb : Nat) (salt digest : Bytes) : Option Bytes :=
  let hl := hashLen alg
  let em := (mb - 1 + 7) / 8
  if em < hl + salt.length + 2 then none
  else
    let h := hashOf alg 0 (zeros 8 ++ digest ++ salt)
    let db := zeros (em - salt.length - hl - 2) ++ [0x01] ++ salt
    let m := xorB db (mgf1 (hashOf alg 0) hl db.length h)
    let m0 := toBE m.length (beNat m % 2 ^ (8 * m.length - (8 * em - (mb - 1))))
    some (m0 ++ h ++ [0xBC])

/-- EMSA-PSS verification with exactly `sl` bytes of salt. -/
def pssVerify (alg mb sl : Nat) (digest em : Bytes) : Bool :=
  let hl := hashLen alg
  let n := em.length
  if n < hl + sl + 2 || em.getLastD 0 != 0xBC then false
  else
    let m := em.take (n - hl - 1)
    let h := slice em (n - hl - 1) hl
    let free := 8 * m.length - (8 * n - (mb - 1))
    let db := toBE m.length (beNat (xorB m (mgf1 (hashOf alg 0) hl m.length h)) % 2 ^ free)
    let pad := n - hl - sl - 2
    beNat m < 2 ^ free && isZero (db.take pad) && db.getD pad 0 == 0x01 &&
      hashOf alg 0 (zeros 8 ++ digest ++ db.drop (pad + 1)) == h

/-- RSAES-OAEP decoding; none where it fails. -/
def oaepDecode (alg : Nat) (label em : Bytes) : Option Bytes :=
  let hl := hashLen alg
  let n := em.length
  if n < 2 * hl + 2 then none
  else
    let mdb := em.drop (1 + hl)
    let seed := xorB (slice em 1 hl) (mgf1 (hashOf alg 0) hl hl mdb)
    let db := xorB mdb (mgf1 (hashOf alg 0) hl mdb.length seed)
    let r := (db.drop hl).dropWhile (· == 0)
    if em.headD 0 == 0 && db.take hl == hashOf alg 0 label && r.headD 0 == 0x01 then some r.tail else none

/-! ## Short Weierstrass curves -/

/-- A curve: its prime, coefficients, generator, order, cofactor, and the byte lengths of p and n. -/
structure Curve where
  p : Nat
  a : Nat
  b : Nat
  gx : Nat
  gy : Nat
  n : Nat
  h : Nat
  l : Nat
  ln : Nat

def p256 : Curve :=
  let p := 2 ^ 256 - 2 ^ 224 + 2 ^ 192 + 2 ^ 96 - 1
  { p := p, a := p - 3, b := 0x5AC635D8AA3A93E7B3EBBD55769886BC651D06B0CC53B0F63BCE3C3E27D2604B,
    gx := 0x6B17D1F2E12C4247F8BCE6E563A440F277037D812DEB33A0F4A13945D898C296,
    gy := 0x4FE342E2FE1A7F9B8EE7EB4A7C0F9E162BCE33576B315ECECBB6406837BF51F5,
    n := 0xFFFFFFFF00000000FFFFFFFFFFFFFFFFBCE6FAADA7179E84F3B9CAC2FC632551, h := 1, l := 32, ln := 32 }

def p384 : Curve :=
  let p := 2 ^ 384 - 2 ^ 128 - 2 ^ 96 + 2 ^ 32 - 1
  { p := p, a := p - 3,
    b := 0xB3312FA7E23EE7E4988E056BE3F82D19181D9C6EFE8141120314088F5013875AC656398D8A2ED19D2A85C8EDD3EC2AEF,
    gx := 0xAA87CA22BE8B05378EB1C71EF320AD746E1D3B628BA79B9859F741E082542A385502F25DBF55296C3A545E3872760AB7,
    gy := 0x3617DE4A96262C6F5D9E98BF9292DC29F8F41DBD289A147CE9DA3113B5F0B8C00A60B1CE1D7E819D7A431D7C90EA0E5F,
    n := 0xFFFFFFFFFFFFFFFFFFFFFFFFFFFFFFFFFFFFFFFFFFFFFFFFC7634D81F4372DDF581A0DB248B0A77AECEC196ACCC52973,
    h := 1, l := 48, ln := 48 }

def p521 : Curve :=
  let p := 2 ^ 521 - 1
  { p := p, a := p - 3,
    b := 0x0051953EB9618E1C9A1F929A21A0B68540EEA2DA725B99B315F3B8B489918EF109E156193951EC7E937B1652C0BD3BB1BF073573DF883D2C34F1EF451FD46B503F00,
    gx := 0x00C6858E06B70404E9CD9E3ECB662395B4429C648139053FB521F828AF606B4D3DBAA14B5E77EFE75928FE1DC127A2FFA8DE3348B3C1856A429BF97E7E31C2E5BD66,
    gy := 0x011839296A789A3BC0045C8A5FB42C7D1BD998F54449579B446817AFBD17273E662C97EE72995EF42640C550B9013FAD0761353C7086A272C24088BE94769FD16650,
    n := 0x01FFFFFFFFFFFFFFFFFFFFFFFFFFFFFFFFFFFFFFFFFFFFFFFFFFFFFFFFFFFFFFFFFA51868783BF2F966B7FCC0148F709A5D03BB5C9B8899C47AEBB6FB71E91386409,
    h := 1, l := 66, ln := 66 }

/-- A point: none at infinity. -/
abbrev Point := Option (Nat × Nat)

def onCurve (c : Curve) (x y : Nat) : Bool := y * y % c.p == ((x * x + c.a) * x + c.b) % c.p

/-- The sum of two points. -/
def ecAdd (c : Curve) (u v : Point) : Point :=
  match u, v with
  | none, w => w
  | w, none => w
  | some (x1, y1), some (x2, y2) =>
    if x1 == x2 && (y1 + y2) % c.p == 0 then none
    else
      let m :=
        if x1 == x2 then (3 * x1 * x1 + c.a) % c.p * invMod (2 * y1) c.p % c.p
        else subMod y2 y1 c.p * invMod (subMod x2 x1 c.p) c.p % c.p
      let x3 := subMod (m * m) (x1 + x2) c.p
      some (x3, subMod (m * subMod x1 x3 c.p) y1 c.p)

/-- A multiple of a point, over the low `b` bits of `k`. -/
def ecMulGo (c : Curve) (k : Nat) (p : Point) : Nat → Point → Point
  | 0, a => a
  | b + 1, a => let d := ecAdd c a a; ecMulGo c k p b (if bit k b then ecAdd c d p else d)

def ecMul (c : Curve) (k : Nat) (p : Point) : Point := ecMulGo c k p (bitLen k) none

def Curve.g (c : Curve) : Point := some (c.gx, c.gy)

/-- The encoding 04h, X, Y (07 R187). -/
def pointBytes (c : Curve) (p : Point) : Bytes :=
  match p with
  | some (x, y) => [0x04] ++ toBE c.l x ++ toBE c.l y
  | none => []

/-- Validation of a public point, in the order of 10 R287: the point, or the DETAIL of INVALID_POINT. -/
def pointCheck (c : Curve) (b : Bytes) : Except Nat (Nat × Nat) :=
  let x := fld b 1 c.l
  let y := fld b (1 + c.l) c.l
  if c.p ≤ x || c.p ≤ y then .error 4
  else if !onCurve c x y then .error 1
  else if 1 < c.h && ecMul c c.n (some (x, y)) != none then .error 3
  else .ok (x, y)

/-- A digest as an integer of at most the bits of n. -/
def truncDigest (c : Curve) (d : Bytes) : Nat :=
  let e := beNat d
  let nb := bitLen c.n
  if 8 * d.length ≤ nb then e else e / 2 ^ (8 * d.length - nb)

/-- An ECDSA signature with nonce `k`: none where r or s is zero. -/
def ecdsaSignWith (c : Curve) (d k : Nat) (digest : Bytes) : Option Bytes :=
  match ecMul c k c.g with
  | none => none
  | some (x, _) =>
    let r := x % c.n
    let s := invMod k c.n * (truncDigest c digest + r * d) % c.n
    if r == 0 || s == 0 then none else some (toBE c.ln r ++ toBE c.ln s)

/-- The nonce that a draw gives (07 R191). -/
def ecNonce (c : Curve) (draw : Bytes) : Nat := beNat draw % (c.n - 1) + 1

/-- ECDSA verification under a valid point. -/
def ecdsaVerifyAt (c : Curve) (q : Nat × Nat) (sig digest : Bytes) : Bool :=
  let r := fld sig 0 c.ln
  let s := fld sig c.ln c.ln
  if r == 0 || c.n ≤ r || s == 0 || c.n ≤ s then false
  else
    let w := invMod s c.n
    match ecAdd c (ecMul c (truncDigest c digest * w % c.n) c.g) (ecMul c (r * w % c.n) (some q)) with
    | none => false
    | some (x, _) => x % c.n == r

/-! ## Curve 25519 -/

def p255 : Nat := 2 ^ 255 - 19

/-- One step of the Montgomery ladder over bit `n` of the scalar: (x2, z2), (x3, z3) and the swap. -/
def ladder (u k : Nat) : Nat → Nat × Nat → Nat × Nat → Nat × Nat
  | 0, a, _ => a
  | n + 1, a, b =>
    let s := bit k n
    let (x2, z2) := if s then b else a
    let (x3, z3) := if s then a else b
    let p := p255
    let aa := (x2 + z2) * (x2 + z2) % p
    let bb := subMod x2 z2 p * subMod x2 z2 p % p
    let e := subMod aa bb p
    let da := subMod x3 z3 p * (x2 + z2) % p
    let cb := (x3 + z3) * subMod x2 z2 p % p
    let n3 := ((da + cb) * (da + cb) % p, u * (subMod da cb p * subMod da cb p % p) % p)
    let n2 := (aa * bb % p, e * (aa + 121665 * e) % p)
    ladder u k n (if s then n3 else n2) (if s then n2 else n3)

/-- X25519 (RFC 7748): clamped scalar, masked and reduced u. -/
def x25519 (k u : Bytes) : Bytes :=
  let kn := leNat k % 2 ^ 254 / 8 * 8 + 2 ^ 254
  let un := leNat u % 2 ^ 255 % p255
  let r := ladder un kn 255 (1, 0) (un, 1)
  toLE 32 (r.1 * invMod r.2 p255 % p255)

def x25519Base : Bytes := toLE 32 9

def edD : Nat := subMod 0 (121665 * invMod 121666 p255) p255
def edL : Nat := 2 ^ 252 + 27742317777372353535851937790883648493

/-- The x of a y with a given sign; none where there is none. -/
def edX (y sign : Nat) : Option Nat :=
  let p := p255
  let u := subMod (y * y) 1 p
  let v := (edD * (y * y) + 1) % p
  let x2 := u * invMod v p % p
  let x := powMod x2 ((p + 3) / 8) p
  let x := if x * x % p == x2 then x else x * powMod 2 ((p - 1) / 4) p % p
  if x * x % p != x2 then none
  else if x == 0 && sign == 1 then none
  else some (if x % 2 == sign then x else p - x)

/-- Points (X : Y : Z : T) of the twisted Edwards curve. -/
structure EdPoint where
  x : Nat
  y : Nat
  z : Nat
  t : Nat

def edZero : EdPoint := { x := 0, y := 1, z := 1, t := 0 }
def edAffine (x y : Nat) : EdPoint := { x := x, y := y, z := 1, t := x * y % p255 }

def edAdd (u v : EdPoint) : EdPoint :=
  let p := p255
  let a := subMod u.y u.x p * subMod v.y v.x p % p
  let b := (u.y + u.x) * (v.y + v.x) % p
  let c := 2 * u.t * v.t % p * edD % p
  let d := 2 * u.z * v.z % p
  let e := subMod b a p
  let f := subMod d c p
  let g := (d + c) % p
  let h := (b + a) % p
  { x := e * f % p, y := g * h % p, z := f * g % p, t := e * h % p }

def edMulGo (k : Nat) (q : EdPoint) : Nat → EdPoint → EdPoint
  | 0, a => a
  | b + 1, a => let d := edAdd a a; edMulGo k q b (if bit k b then edAdd d q else d)

def edMul (k : Nat) (q : EdPoint) : EdPoint := edMulGo k q (bitLen k) edZero

def edEq (u v : EdPoint) : Bool :=
  u.x * v.z % p255 == v.x * u.z % p255 && u.y * v.z % p255 == v.y * u.z % p255

def edEncode (u : EdPoint) : Bytes :=
  let zi := invMod u.z p255
  let x := u.x * zi % p255
  let y := u.y * zi % p255
  toLE 32 (y + 2 ^ 255 * (x % 2))

/-- Decoding as FIPS 186-5: the point, or why there is none (10 Table 10.5: 4 y not below p, 1 no point). -/
def edDecode (b : Bytes) : Except Nat EdPoint :=
  let y := leNat b % 2 ^ 255
  if p255 ≤ y then .error 4
  else
    match edX y (leNat b / 2 ^ 255 % 2) with
    | none => .error 1
    | some x => .ok (edAffine x y)

/-- The generator: y = 4/5, x even. -/
def edBase : EdPoint :=
  let y := 4 * invMod 5 p255 % p255
  edAffine ((edX y 0).getD 0) y

def edScalar (key : Bytes) : Nat := leNat ((sha512 key).take 32) % 2 ^ 254 / 8 * 8 + 2 ^ 254
def edPublic (key : Bytes) : Bytes := edEncode (edMul (edScalar key) edBase)

def edSign (key msg : Bytes) : Bytes :=
  let a := edScalar key
  let pub := edPublic key
  let r := leNat (sha512 ((sha512 key).drop 32 ++ msg)) % edL
  let rb := edEncode (edMul r edBase)
  let k := leNat (sha512 (rb ++ pub ++ msg)) % edL
  rb ++ toLE 32 ((r + k * a) % edL)

/-- Verification with the cofactored equation: .error d is INVALID_POINT with DETAIL d (07 R193). -/
def edVerify (pub sig msg : Bytes) : Except Nat Bool :=
  match edDecode pub with
  | .error d => .error d
  | .ok a =>
    if edEq (edMul 8 a) edZero then .error 3
    else
      let s := fldLE sig 32 32
      match edDecode (sig.take 32) with
      | .error _ => .ok false
      | .ok r =>
        if edL ≤ s then .ok false
        else
          let k := leNat (sha512 (sig.take 32 ++ pub ++ msg)) % edL
          .ok (edEq (edMul 8 (edMul s edBase)) (edMul 8 (edAdd r (edMul k a))))

/-! ## Polynomials of the lattice schemes: lists of 256 coefficients -/

def bitRev : Nat → Nat → Nat
  | 0, _ => 0
  | n + 1, x => x % 2 * 2 ^ n + bitRev n (x / 2)

/-- The number-theoretic transform over `l` levels from node `i`, `z` giving each node's twiddle. -/
def ntt (q : Nat) (z : Nat → Nat) : Nat → Nat → List Nat → List Nat
  | 0, _, f => f
  | l + 1, i, f =>
    let lo := f.take (f.length / 2)
    let hi := (f.drop (f.length / 2)).map (fun x => x * z i % q)
    ntt q z l (2 * i) (List.zipWith (fun a b => (a + b) % q) lo hi) ++
      ntt q z l (2 * i + 1) (List.zipWith (fun a b => (a + q - b) % q) lo hi)

/-- Its inverse. -/
def intt (q : Nat) (z : Nat → Nat) : Nat → Nat → List Nat → List Nat
  | 0, _, f => f
  | l + 1, i, f =>
    let a := intt q z l (2 * i) (f.take (f.length / 2))
    let b := intt q z l (2 * i + 1) (f.drop (f.length / 2))
    let half := (q + 1) / 2
    let zi := invMod (z i) q
    List.zipWith (fun x y => (x + y) * half % q) a b ++
      List.zipWith (fun x y => (x + q - y) * half % q * zi % q) a b

def polyAdd (q : Nat) (a b : List Nat) : List Nat := List.zipWith (fun x y => (x + y) % q) a b
def polySub (q : Nat) (a b : List Nat) : List Nat := List.zipWith (fun x y => (x + q - y) % q) a b
def polyZero : List Nat := List.replicate 256 0

/-- Numbers of `w` bits packed least significant bit first. -/
def packBits (w : Nat) (l : List Nat) : Bytes :=
  toLE (w * l.length / 8) (l.foldr (fun x a => x + 2 ^ w * a) 0)

def unpackGo (w : Nat) : Nat → Nat → List Nat
  | 0, _ => []
  | n + 1, x => x % 2 ^ w :: unpackGo w n (x / 2 ^ w)

def unpackBits (w n : Nat) (b : Bytes) : List Nat := unpackGo w n (leNat b)

/-! ## ML-KEM -/

structure KemSet where
  k : Nat
  eta1 : Nat
  du : Nat
  dv : Nat

def kemSet (pset : Nat) : KemSet :=
  match pset with
  | 1 => { k := 2, eta1 := 3, du := 10, dv := 4 }
  | 2 => { k := 3, eta1 := 2, du := 10, dv := 4 }
  | _ => { k := 4, eta1 := 2, du := 11, dv := 5 }

def kq : Nat := 3329
def kz (i : Nat) : Nat := powMod 17 (bitRev 7 i) kq
def kntt (f : List Nat) : List Nat := ntt kq kz 7 1 f
def kintt (f : List Nat) : List Nat := intt kq kz 7 1 f

/-- Products of degree-one leaves, leaf `i` modulo X² - ζ^(2 BitRev7(i) + 1). -/
def kmulGo : Nat → Nat → List Nat → List Nat → List Nat
  | 0, _, _, _ => []
  | n + 1, i, f, g =>
    let a0 := f.headD 0
    let a1 := f.getD 1 0
    let b0 := g.headD 0
    let b1 := g.getD 1 0
    (a0 * b0 + a1 * b1 % kq * powMod 17 (2 * bitRev 7 i + 1) kq) % kq :: (a0 * b1 + a1 * b0) % kq ::
      kmulGo n (i + 1) (f.drop 2) (g.drop 2)

def kmul (f g : List Nat) : List Nat := kmulGo 128 0 f g
def kdot (a b : List (List Nat)) : List Nat := (List.zipWith kmul a b).foldl (polyAdd kq) polyZero

def kemSample (b : Bytes) : List Nat :=
  ((blocks 3 (shake128 b 2688)).flatMap (fun x =>
    let v := leNat x
    [v % 4096, v / 4096].filter (· < kq))).take 256

def kemA (S : KemSet) (rho : Bytes) : List (List (List Nat)) :=
  (List.range S.k).map (fun i => (List.range S.k).map (fun j =>
    kemSample (rho ++ [BitVec.ofNat 8 j, BitVec.ofNat 8 i])))

def transpose (k : Nat) (m : List (List (List Nat))) : List (List (List Nat)) :=
  (List.range k).map (fun i => m.map (fun r => r.getD i []))

def cbd (eta : Nat) (b : Bytes) : List Nat :=
  (unpackBits (2 * eta) 256 b).map (fun v =>
    let ones := fun n => (List.range eta).countP (fun i => bit n i)
    (ones (v % 2 ^ eta) + kq - ones (v / 2 ^ eta)) % kq)

def kemPrf (eta : Nat) (s : Bytes) (n : Nat) : List Nat := cbd eta (shake256 (s ++ [BitVec.ofNat 8 n]) (64 * eta))

def compress (d x : Nat) : Nat := (x * 2 ^ d + kq / 2) / kq % 2 ^ d
def decompress (d y : Nat) : Nat := (y * kq + 2 ^ (d - 1)) / 2 ^ d

/-- K-PKE key pair from a seed d: ŝ and the encapsulation key. -/
def kemKeys (pset : Nat) (d : Bytes) : List (List Nat) × Bytes :=
  let S := kemSet pset
  let g := sha3 64 (d ++ [BitVec.ofNat 8 S.k])
  let s := (List.range S.k).map (fun i => kntt (kemPrf S.eta1 (g.drop 32) i))
  let e := (List.range S.k).map (fun i => kntt (kemPrf S.eta1 (g.drop 32) (S.k + i)))
  let t := List.zipWith (fun row e => polyAdd kq (kdot row s) e) (kemA S (g.take 32)) e
  (s, t.flatMap (packBits 12) ++ g.take 32)

def kemEncrypt (pset : Nat) (ek m r : Bytes) : Bytes :=
  let S := kemSet pset
  let t := (blocks 384 (ek.take (384 * S.k))).map (fun b => (unpackBits 12 256 b).map (· % kq))
  let y := (List.range S.k).map (fun i => kntt (kemPrf S.eta1 r i))
  let u := ((transpose S.k (kemA S (ek.drop (384 * S.k)))).zipIdx).map (fun ri =>
    polyAdd kq (kintt (kdot ri.1 y)) (kemPrf 2 r (S.k + ri.2)))
  let mu := (unpackBits 1 256 m).map (decompress 1)
  let v := polyAdd kq (polyAdd kq (kintt (kdot t y)) (kemPrf 2 r (2 * S.k))) mu
  u.flatMap (fun f => packBits S.du (f.map (compress S.du))) ++ packBits S.dv (v.map (compress S.dv))

def kemDecrypt (pset : Nat) (s : List (List Nat)) (c : Bytes) : Bytes :=
  let S := kemSet pset
  let u := (blocks (32 * S.du) (c.take (32 * S.du * S.k))).map (fun b =>
    (unpackBits S.du 256 b).map (decompress S.du))
  let v := (unpackBits S.dv 256 (c.drop (32 * S.du * S.k))).map (decompress S.dv)
  packBits 1 ((polySub kq v (kintt (kdot s (u.map kntt)))).map (compress 1))

/-- The modulus check of an encapsulation key (07 R194). -/
def kemEkOk (pset : Nat) (ek : Bytes) : Bool :=
  let k := (kemSet pset).k
  (unpackBits 12 (256 * k) (ek.take (384 * k))).all (· < kq)

/-- Encapsulation: shared secret and ciphertext. -/
def kemEncaps (pset : Nat) (ek m : Bytes) : Bytes × Bytes :=
  let g := sha3 64 (m ++ sha3 32 ek)
  (g.take 32, kemEncrypt pset ek m (g.drop 32))

/-- Decapsulation from the seed d ‖ z, with implicit rejection. -/
def kemDecaps (pset : Nat) (seed c : Bytes) : Bytes :=
  let kp := kemKeys pset (seed.take 32)
  let m := kemDecrypt pset kp.1 c
  let g := sha3 64 (m ++ sha3 32 kp.2)
  if kemEncrypt pset kp.2 m (g.drop 32) == c then g.take 32 else shake256 (slice seed 32 32 ++ c) 32

def kemEkLen (pset : Nat) : Nat := 384 * (kemSet pset).k + 32
def kemCtLen (pset : Nat) : Nat := 32 * ((kemSet pset).du * (kemSet pset).k + (kemSet pset).dv)

/-! ## ML-DSA -/

structure DsaSet where
  k : Nat
  l : Nat
  eta : Nat
  tau : Nat
  lambda : Nat
  gamma1 : Nat
  gamma2 : Nat
  beta : Nat
  omega : Nat

def dq : Nat := 8380417

def dsaSet (pset : Nat) : DsaSet :=
  match pset with
  | 1 => { k := 4, l := 4, eta := 2, tau := 39, lambda := 128, gamma1 := 2 ^ 17, gamma2 := (dq - 1) / 88, beta := 78, omega := 80 }
  | 2 => { k := 6, l := 5, eta := 4, tau := 49, lambda := 192, gamma1 := 2 ^ 19, gamma2 := (dq - 1) / 32, beta := 196, omega := 55 }
  | _ => { k := 8, l := 7, eta := 2, tau := 60, lambda := 256, gamma1 := 2 ^ 19, gamma2 := (dq - 1) / 32, beta := 120, omega := 75 }

def dz (i : Nat) : Nat := powMod 1753 (bitRev 8 i) dq
def dntt (f : List Nat) : List Nat := ntt dq dz 8 1 f
def dintt (f : List Nat) : List Nat := intt dq dz 8 1 f
def dmul (f g : List Nat) : List Nat := List.zipWith (fun x y => x * y % dq) f g
def ddot (a b : List (List Nat)) : List Nat := (List.zipWith dmul a b).foldl (polyAdd dq) polyZero

/-- The absolute value of the centred residue. -/
def dnorm (x : Nat) : Nat := min (x % dq) (dq - x % dq)
def vnorm (v : List (List Nat)) : Nat := v.foldl (fun a f => f.foldl (fun b x => max b (dnorm x)) a) 0

def dsaA (S : DsaSet) (rho : Bytes) : List (List (List Nat)) :=
  (List.range S.k).map (fun r => (List.range S.l).map (fun s =>
    (((blocks 3 (shake128 (rho ++ [BitVec.ofNat 8 s, BitVec.ofNat 8 r]) 1680)).map
      (fun x => leNat x % 2 ^ 23)).filter (· < dq)).take 256))

def halfByte (eta b : Nat) : List Nat :=
  if eta == 2 then (if b < 15 then [(2 + dq - b % 5) % dq] else [])
  else (if b < 9 then [(4 + dq - b) % dq] else [])

def dsaS (S : DsaSet) (rho : Bytes) (r : Nat) : List Nat :=
  ((shake256 (rho ++ toLE 2 r) 1088).flatMap (fun z => halfByte S.eta (z.toNat % 16) ++ halfByte S.eta (z.toNat / 16))).take 256

def dsaMask (S : DsaSet) (rho : Bytes) (kappa : Nat) : List (List Nat) :=
  let c := bitLen (S.gamma1 - 1) + 1
  (List.range S.l).map (fun r =>
    (unpackBits c 256 (shake256 (rho ++ toLE 2 (kappa + r)) (32 * c))).map (fun v => (S.gamma1 + dq - v) % dq))

/-- The challenge polynomial: positions from `i` up, from the bytes still to read. -/
def ballGo (h tau : Nat) : Nat → Nat → Bytes → List Nat → List Nat
  | 0, _, _, c => c
  | _ + 1, _, [], c => c
  | f + 1, i, j :: r, c =>
    if 256 ≤ i then c
    else if i < j.toNat then ballGo h tau f i r c
    else ballGo h tau f (i + 1) r ((c.set i (c.getD j.toNat 0)).set j.toNat (if bit h (i + tau - 256) then dq - 1 else 1))

def sampleInBall (S : DsaSet) (seed : Bytes) : List Nat :=
  let o := shake256 seed 1088
  ballGo (leNat (o.take 8)) S.tau 1088 (256 - S.tau) (o.drop 8) polyZero

/-- High and low part of a coefficient; the low part modulo q. -/
def decompose (S : DsaSet) (r : Nat) : Nat × Nat :=
  let a := 2 * S.gamma2
  let m := r % a
  let r0 := if m ≤ S.gamma2 then m else m + dq - a
  let hi := (r + dq - r0) % dq
  if hi == dq - 1 then (0, (r0 + dq - 1) % dq) else (hi / a, r0)

def highBits (S : DsaSet) (r : Nat) : Nat := (decompose S r).1
def w1Encode (S : DsaSet) (w : List (List Nat)) : Bytes :=
  w.flatMap (packBits (if S.gamma2 == (dq - 1) / 88 then 6 else 4))

/-- The parts of a key pair from its seed: ρ, K, tr, s1, s2, t0, public key. -/
structure DsaKey where
  rho : Bytes
  kk  : Bytes
  tr  : Bytes
  s1  : List (List Nat)
  s2  : List (List Nat)
  t0  : List (List Nat)
  pk  : Bytes

def dsaKeys (pset : Nat) (xi : Bytes) : DsaKey :=
  let S := dsaSet pset
  let g := shake256 (xi ++ [BitVec.ofNat 8 S.k, BitVec.ofNat 8 S.l]) 128
  let s1 := (List.range S.l).map (dsaS S (slice g 32 64))
  let s2 := (List.range S.k).map (fun r => dsaS S (slice g 32 64) (S.l + r))
  let t := List.zipWith (fun row s => polyAdd dq (dintt (ddot row (s1.map dntt))) s) (dsaA S (g.take 32)) s2
  let r0 := fun x : Nat => let m := x % 8192; if m ≤ 4096 then m else m + dq - 8192
  let pk := g.take 32 ++ t.flatMap (fun f => packBits 10 (f.map (fun x => (x + dq - r0 x) % dq / 8192)))
  { rho := g.take 32, kk := g.drop 96, tr := shake256 pk 64, s1 := s1, s2 := s2, t0 := t.map (·.map r0), pk := pk }

/-- The message as signed: pure ML-DSA with a context string. -/
def dsaMsg (ctx msg : Bytes) : Bytes := [0, BitVec.ofNat 8 ctx.length] ++ ctx ++ msg

def hintPack (S : DsaSet) (h : List (List Bool)) : Bytes :=
  let pos := h.map (fun f => (f.zipIdx.filter (·.1)).map (fun e => BitVec.ofNat 8 e.2))
  let cnt := (List.range S.k).map (fun i => BitVec.ofNat 8 (((pos.take (i + 1)).map List.length).foldl (· + ·) 0))
  padTo S.omega pos.flatten ++ cnt

/-- One polynomial's hint positions rise strictly. -/
def rising : Bytes → Bool
  | a :: b :: r => decide (a < b) && rising (b :: r)
  | _ => true

/-- The hint positions per polynomial; none where malformed. -/
def hintUnpack (S : DsaSet) (y : Bytes) : Option (List Bytes) :=
  let ends := 0 :: (y.drop S.omega).map (·.toNat)
  let runs := (List.range S.k).map (fun i => (y.take (ends.getD (i + 1) 0)).drop (ends.getD i 0))
  let mono := (List.range S.k).all (fun i => ends.getD i 0 ≤ ends.getD (i + 1) 0 && ends.getD (i + 1) 0 ≤ S.omega)
  if mono && runs.all rising && isZero ((y.take S.omega).drop (ends.getD S.k 0)) then some runs else none

/-- One pass of the rejection loop: the signature, where the candidate passes. -/
def dsaTry (S : DsaSet) (K : DsaKey) (a : List (List (List Nat))) (mu rho2 : Bytes) (kappa : Nat) : Option Bytes :=
  let y := dsaMask S rho2 kappa
  let yh := y.map dntt
  let w := a.map (fun row => dintt (ddot row yh))
  let ct := shake256 (mu ++ w1Encode S (w.map (·.map (highBits S)))) (S.lambda / 4)
  let c := dntt (sampleInBall S ct)
  let z := List.zipWith (fun yi s => polyAdd dq yi (dintt (dmul c (dntt s)))) y K.s1
  let r := List.zipWith (fun wi s => polySub dq wi (dintt (dmul c (dntt s)))) w K.s2
  let r0 := r.map (·.map (fun x => (decompose S x).2))
  let ct0 := K.t0.map (fun t => dintt (dmul c (dntt t)))
  let h := List.zipWith (fun ri t => List.zipWith (fun x u => highBits S ((x + u) % dq) != highBits S x) ri t) r ct0
  let ones := (h.map (fun f => f.countP id)).foldl (· + ·) 0
  if S.gamma1 - S.beta ≤ vnorm z || S.gamma2 - S.beta ≤ vnorm r0 || S.gamma2 ≤ vnorm ct0 || S.omega < ones then none
  else
    let zb := z.flatMap (fun f => packBits (bitLen (S.gamma1 - 1) + 1) (f.map (fun x => (S.gamma1 + dq - x) % dq)))
    some (ct ++ zb ++ hintPack S h)

/-- The rejection loop: the signature and the number of its iterations. -/
def dsaLoop (S : DsaSet) (K : DsaKey) (a : List (List (List Nat))) (mu rho2 : Bytes) : Nat → Nat → Option (Bytes × Nat)
  | 0, _ => none
  | n + 1, kappa =>
    match dsaTry S K a mu rho2 kappa with
    | some s => some (s, kappa / S.l + 1)
    | none => dsaLoop S K a mu rho2 n (kappa + S.l)

/-- An ML-DSA signature and its iterations; none after 814 (10 R285). -/
def dsaSign (pset : Nat) (xi ctx msg rnd : Bytes) : Option (Bytes × Nat) :=
  let S := dsaSet pset
  let K := dsaKeys pset xi
  let mu := shake256 (K.tr ++ dsaMsg ctx msg) 64
  dsaLoop S K (dsaA S K.rho) mu (shake256 (K.kk ++ rnd ++ mu) 64) 814 0

def dsaPkLen (pset : Nat) : Nat := 32 + 320 * (dsaSet pset).k
def dsaSigLen (pset : Nat) : Nat :=
  let S := dsaSet pset
  S.lambda / 4 + 32 * S.l * (bitLen (S.gamma1 - 1) + 1) + S.omega + S.k

def dsaVerify (pset : Nat) (pk sig ctx msg : Bytes) : Bool :=
  let S := dsaSet pset
  let zl := bitLen (S.gamma1 - 1) + 1
  let ct := sig.take (S.lambda / 4)
  let z := (blocks (32 * zl) (slice sig (S.lambda / 4) (32 * zl * S.l))).map (fun b =>
    (unpackBits zl 256 b).map (fun v => (S.gamma1 + dq - v) % dq))
  match hintUnpack S (sig.drop (S.lambda / 4 + 32 * zl * S.l)) with
  | none => false
  | some h =>
    let t1 := (blocks 320 (pk.drop 32)).map (fun b => dntt ((unpackBits 10 256 b).map (fun x => x * 8192 % dq)))
    let c := dntt (sampleInBall S ct)
    let zh := z.map dntt
    let w := List.zipWith (fun row t => dintt (polySub dq (ddot row zh) (dmul c t))) (dsaA S (pk.take 32)) t1
    let m := (dq - 1) / (2 * S.gamma2)
    let w1 := List.zipWith (fun (f : List Nat) (hs : Bytes) => (f.zipIdx).map (fun e =>
      let d := decompose S e.1
      if hs.contains (BitVec.ofNat 8 e.2) then
        (if d.2 != 0 && d.2 ≤ S.gamma2 then (d.1 + 1) % m else (d.1 + m - 1) % m)
      else d.1)) w h
    let mu := shake256 (shake256 pk 64 ++ dsaMsg ctx msg) 64
    vnorm z < S.gamma1 - S.beta && shake256 (mu ++ w1Encode S w1) (S.lambda / 4) == ct

end Sys2Proof.Machine
end

