-- ==== Sys2Proof/Machine/Compute.lean ====
section
/-! DEFINITION. What an engine unit or a lane computes for a request, from its keys, its operands and the secret bytes it
holds: one function over EngineOp (06, 07, 10 R286-R292, 11 R298-R301). -/

set_option Elab.async false

namespace Sys2Proof.Machine

/-- How a computation ends. -/
inductive Result where
  | ok (a : Answer)
  | err (status detail : Nat)
  /-- a key for the request's new slot, and what follows its handle in the reply -/
  | made (type : Nat) (usage : BitVec 16) (expo : Bool) (key extra : Bytes)
  /-- a check of the lane on its own result fails (10 R293) -/
  | fault
  /-- r or s is zero: the signature is made again under a new nonce (07 R191, 10 R283) -/
  | again
  /-- a known-answer suite: its end brings the number of failed vectors -/
  | kat
  deriving DecidableEq, Repr

/-! ## Policy words (09 R240) -/

/-- TYPE, USAGE and EXPORTABLE as a lookup hands them to a unit. -/
def policyOf (p : Slot) : BitVec 32 :=
  BitVec.ofNat 32 (p.type + 256 * p.usage.toNat + 2 ^ 24 * b2n p.expo)

def polType (w : BitVec 32) : Nat := w.toNat % 256
def polUsage (w : BitVec 32) : BitVec 16 := BitVec.ofNat 16 (w.toNat / 256)
def polExpo (w : BitVec 32) : Bool := w.getLsbD 24

/-- The `i`-th key of a request: its type and bytes, with the derivations applied to the first (11 R299). -/
def reqKey (r : Request) (i : Nat) : Nat × Bytes :=
  match r.got[i]? with
  | none => (0, [])
  | some g => if i == 0 then r.chain.foldl keyStep (polType g.1, g.2) else (polType g.1, g.2)

def badParam (d : Nat) : Result := .err 0x0105 d
def verifyFail : Result := .err 0x0501 0

/-! ## Symmetric work -/

/-- A recovered PIN among an answer's numbers: its length and digits, or 0 for a block that fails its check. -/
def pinNums : Option (List Nat) → List Nat
  | none => [0]
  | some d => d.length :: d

/-- The PINs of an answer. -/
def numsPins : Nat → List Nat → List (Option (List Nat))
  | 0, _ => []
  | _ + 1, [] => []
  | f + 1, 0 :: r => none :: numsPins f r
  | f + 1, n :: r => some (r.take n) :: numsPins f (r.drop n)

/-- The 16 nibbles that a PVK gives for a PIN; twelve zeros stand for a PIN that was not recovered (06 R145, R146). -/
def refNibbles (pvk : Bytes) (pan : List Nat) (method : Nat) (vdata : Bytes) (pvki : Nat) (pin : Option (List Nat)) : List Nat :=
  nibbles (tdesEnc pvk (if method == 0 then vdata else pvvInput pan pvki (pin.getD (List.replicate 12 0))))

/-- A request whose first key is a block-cipher key. -/
def cipherJob (mode : Nat) (enc drawn : Bool) (iv aad data tag : Bytes) (taglen t : Nat) (key : Bytes) : Result :=
  let c := cipherOf t key
  let v := if drawn && isTdes t then padTo 16 (iv.take 8) else padTo 16 iv
  let out (b : Bytes) : Result := .ok (.ok (if enc then v ++ b else b))
  if isTdes t && !isZero (v.drop 8) then badParam 0x0153
  else if mode < 2 && data.length % c.n != 0 then badParam 0x0152
  else
    match mode with
    | 0 => out (if enc then ecbEnc c data else ecbDec c data)
    | 1 => out (if enc then cbcEnc c (v.take c.n) data else cbcDec c (v.take c.n) data)
    | 2 => out (ctrEnc c 16 v data)
    | _ =>
      if enc then
        let r := gcmEnc key (v.take 12) aad data
        out (r.1 ++ r.2.take taglen)
      else if padTo 16 ((gcmTag key (v.take 12) aad data).take taglen) == padTo 16 tag then out (gcmCrypt key (v.take 12) data)
      else verifyFail

/-- A script's plaintext enciphered under its session key (06 R155). -/
def scriptJob (padm t : Nat) (key plain : Bytes) : Result :=
  let c := cipherOf t key
  if padm == 0 && plain.length % c.n != 0 then badParam 0x0131
  else .ok (.ok (cbcEnc c (zeros c.n) (if padm == 0 then plain else isoPad 2 c.n plain)))

/-- ARQC verification and the ARPC (06 R152). -/
def arqcJob (arpcm : Nat) (arqc arpcin pad td : Bytes) (t : Nat) (key : Bytes) : Result :=
  let mac (m : Bytes) := (macOf 0xFF 0 t key m).take 8
  if mac td != arqc then verifyFail
  else
    match arpcm with
    | 1 =>
      let x := xorB arqc (padTo 8 (arpcin.take 2))
      .ok (.ok (if isTdes t then tdesEnc key x else (aesEnc key (padTo 16 x)).take 8))
    | 2 => .ok (.ok (padTo 8 ((mac (arqc ++ arpcin ++ pad)).take 4)))
    | _ => .ok (.ok [])

/-- Wrapping a key (07 R180). -/
def wrapJob (kwp : Bool) (kek : Bytes) (w : BitVec 32) (key : Bytes) : Result :=
  if !polExpo w then badParam 0x0170
  else if !kwp && key.length % 8 != 0 then badParam 0x0172
  else .ok (.ok (if kwp then kwpWrap kek key else kwWrap kek key))

/-- An unwrapped length suits a type (07 R181). -/
def lenSuits (t n : Nat) : Bool := if t == 8 then 16 ≤ n && n ≤ 64 else n == typeLen t

/-- A TDES key has odd parity wherever it is stored (09 R238). -/
def asType (t : Nat) (key : Bytes) : Bytes := if isTdes t then oddParity key else key

/-- Unwrapping a key into a new slot (07 R181). -/
def unwrapJob (kwp : Bool) (data kek : Bytes) (d : NewSlot) : Result :=
  match (if kwp then kwpUnwrap kek data else kwUnwrap kek data) with
  | none => verifyFail
  | some k => if lenSuits d.type k.length then .made d.type d.usage d.expo (asType d.type k) [] else verifyFail

/-- Checks 4 and 5 of a key-block import (07 R199). -/
def importJob (block : Bytes) (t : Nat) (kbpk : Bytes) : Result :=
  match kbParse block with
  | none => badParam 0x0190
  | some b =>
    match kbOpen t kbpk b with
    | none => verifyFail
    | some p =>
      match kbKey p with
      | (_, none) => verifyFail
      | (n, some k) =>
        match kbType b.usage b.alg n with
        | none => verifyFail
        | some kt => .made kt ((kbUsage b.usage b.alg b.mode).getD 0) (b.expo == 0x45) (asType kt k) []

/-- A key-block export (07 R200): version, usage, mode, exportability and version number in `header`. -/
def exportJob (header fill : Bytes) (t : Nat) (kbpk : Bytes) (w : BitVec 32) (key : Bytes) : Result :=
  let v := fld header 0 1
  let use := fld header 1 2
  let alg := kbAlg (polType w)
  if !polExpo w then badParam 0x0170
  else if (v == 0x42) != isTdes t then badParam 0x0193
  else
    match kbUsage use alg (fld header 3 1) with
    | none => badParam 0x0191
    | some m =>
      if m &&& ~~~(polUsage w) != 0 then badParam 0x0192
      else if strength t kbpk.length < strength (polType w) key.length then badParam 0x0192
      else .ok (.ok (kbSeal t kbpk v (slice header 1 2) (slice header 3 1) (slice header 4 1) (slice header 5 2) alg key fill))

/-- SP 800-108 into a new slot (09 R265). -/
def kdfJob (label : Bytes) (t : Nat) (key : Bytes) (d : NewSlot) : Result :=
  if strength t key.length < strength d.type (typeLen d.type) then badParam 0x01B6
  else .made d.type d.usage d.expo (asType d.type (kdf108 t key label (typeLen d.type))) []

/-! ## Curves -/

/-- A loaded entry's curve from its body (10 Table 10.6). -/
def curveBody (b : Bytes) : Curve :=
  let l := (fld b 4 2 + 7) / 8
  let ln := (fld b 6 2 + 7) / 8
  { p := fld b 24 l, a := fld b (24 + l) l, b := fld b (24 + 2 * l) l, gx := fld b (24 + 3 * l) l, gy := fld b (24 + 4 * l) l,
    n := fld b (24 + 5 * l) ln, h := fld b 3 1, l := l, ln := ln }

/-- The curve of a CURVE code (07 Table 7.13); none for an empty entry and for any other code. -/
def curveOf (curves : Table Bytes) (code : Nat) : Option Curve :=
  match code with
  | 1 => some p256
  | 2 => some p384
  | 3 => some p521
  | _ => if 0x20 ≤ code && code < 0x40 then (tfind curves (code - 0x20)).map curveBody else none

/-- The CURVE code of an elliptic-curve key type. -/
def typeCurve (t : Nat) : Nat :=
  match t with
  | 0x10 => 1
  | 0x11 => 2
  | 0x12 => 3
  | 0x19 => 0x11
  | _ => t

/-- The key type of a CURVE code. -/
def curveType (code : Nat) : Nat :=
  match code with
  | 1 => 0x10
  | 2 => 0x11
  | 3 => 0x12
  | 0x11 => 0x19
  | _ => code

/-- The derivation after an agreement (07 R192). -/
def agreeKey (z other : Bytes) (n : Nat) : Bytes :=
  (sha256 (toBE 4 1 ++ z ++ other) ++ sha256 (toBE 4 2 ++ z ++ other)).take n

/-- ECDH and X25519 (07 R192). -/
def ecdhJob (curves : Table Bytes) (code : Nat) (peer other key : Bytes) (d : NewSlot) : Result :=
  let make (z : Bytes) : Result := .made d.type d.usage d.expo (agreeKey z other (typeLen d.type)) []
  if code == 0x11 then
    let z := x25519 key peer
    if isZero z then .err 0x0502 3 else make z
  else
    match curveOf curves code with
    | none => badParam 0x0180
    | some c =>
      match pointCheck c peer with
      | .error e => .err 0x0502 e
      | .ok q =>
        match ecMul c (beNat key) (some q) with
        | none => .err 0x0502 2
        | some u => make (toBE c.l u.1)

/-- A scalar in 1 to n - 1 that fits L bytes, from Ln + 8 drawn bytes (10 R286, by the rule of 07 R191; log 25). -/
def newScalar (c : Curve) (draw : Bytes) : Bytes := toBE c.l (beNat draw % (min c.n (2 ^ (8 * c.l)) - 1) + 1)

/-- The public key of a private key (07 R197). -/
def publicOf (curves : Table Bytes) (t : Nat) (key : Bytes) : Option Bytes :=
  match t with
  | 0x18 => some (edPublic key)
  | 0x19 => some (x25519 key x25519Base)
  | 0x50 => some ((key.take 2) ++ slice key 2 2 ++ slice key 4 ((fld key 0 2 + 7) / 8 + fld key 2 1))
  | _ =>
    if 0x40 ≤ t && t ≤ 0x42 then some (kemKeys (t - 0x3F) (key.take 32)).2
    else if 0x44 ≤ t && t ≤ 0x46 then some (dsaKeys (t - 0x43) key).pk
    else (curveOf curves (typeCurve t)).map (fun c => pointBytes c (ecMul c (beNat key) c.g))

/-- The type of a generated key kind (07 Table 7.18). -/
def kindType (kt param : Nat) : Nat :=
  match kt with
  | 3 => 0x18
  | 4 => 0x19
  | 5 => 0x3F + param
  | 6 => 0x43 + param
  | _ => curveType param

/-- KEYGEN (07 R196). -/
def keygenJob (curves : Table Bytes) (kt param : Nat) (draw : Bytes) (d : NewSlot) : Result :=
  let t := kindType kt param
  let key : Option Bytes := if kt ≤ 2 then (curveOf curves param).map (newScalar · draw) else some draw
  match key with
  | none => badParam 0x0180
  | some k =>
    match publicOf curves t k with
    | none => badParam 0x0180
    | some pub => .made t d.usage d.expo k pub

/-! ## RSA (07 R189, R190; 10 Table 10.5) -/

def rsaSignJob (scheme hash : Nat) (salt digest key : Bytes) : Result :=
  let k := rsaParse key
  match (if scheme == 0 then pkcs1Encode hash k.nb digest else pssEncode hash k.modbits salt digest) with
  | none => badParam 0x0183
  | some em =>
    let m := rsaPrivate k (beNat em)
    if rsaChecks k (beNat em) m then .ok (.ok (toBE k.nb m)) else .fault

/-- The modulus checks, in order. -/
def modulusCheck (modbits : Nat) (n : Bytes) : Option Nat :=
  if modbits < 1024 || 8192 < modbits then some 2
  else if !bit (beNat n) (modbits - 1) then some 3
  else if beNat n % 2 == 0 then some 1
  else none

def rsaVerifyJob (scheme hash saltlen modbits : Nat) (n e sig digest : Bytes) : Result :=
  match modulusCheck modbits n with
  | some d => .err 0x0505 d
  | none =>
    if beNat e % 2 == 0 || beNat e < 3 then badParam 0x0181
    else if beNat n ≤ beNat sig then verifyFail
    else
      let m := powMod (beNat sig) (beNat e) (beNat n)
      let good :=
        if scheme == 0 then pkcs1Encode hash n.length digest == some (toBE n.length m)
        else
          let em := (modbits - 1 + 7) / 8
          m < 2 ^ (8 * em) && pssVerify hash modbits saltlen digest (toBE em m)
      if good then .ok (.ok []) else verifyFail

def rsaDecryptJob (hash : Nat) (label ct key : Bytes) : Result :=
  let k := rsaParse key
  if ct.length != k.nb then badParam 0x0183
  else if k.n ≤ beNat ct then verifyFail
  else
    let m := rsaPrivate k (beNat ct)
    if !rsaChecks k (beNat ct) m then .fault
    else
      match oaepDecode hash label (toBE k.nb m) with
      | none => verifyFail
      | some x => .ok (.ok x)

/-! ## Tests of public operands (10 R296, Table 10.5) -/

def modexpJob (modbits : Nat) (n e base : Bytes) : Result :=
  match modulusCheck modbits n with
  | some d => .err 0x0505 d
  | none =>
    if beNat n ≤ beNat base then badParam 0x01C2
    else .ok (.ok (toBE n.length (powMod (beNat base) (beNat e) (beNat n))))

/-- The point is validated before the scalar (log 26). -/
def scalarJob (curves : Table Bytes) (code : Nat) (scalar point : Bytes) : Result :=
  match curveOf curves code with
  | none => badParam 0x01C1
  | some c =>
    match pointCheck c point with
    | .error d => .err 0x0502 d
    | .ok q =>
      if beNat scalar == 0 then .err 0x0503 1
      else if c.n ≤ beNat scalar then .err 0x0503 2
      else
        match ecMul c (beNat scalar) (some q) with
        | none => .err 0x0502 2
        | some u => .ok (.ok (pointBytes c (some u)))

/-! ## Curve entry checks (10 R290, Table 10.7) -/

/-- One Miller-Rabin round: `n` - 1 = d · 2^s, base `a`. -/
def mrRound (n d s a : Nat) : Bool :=
  let x := powMod a d n
  x == 1 || (List.range s).any (fun i => powMod x (2 ^ i) n == n - 1)

/-- The even part of a number: how often 2 divides it, within `fuel`. -/
def twos : Nat → Nat → Nat
  | 0, _ => 0
  | f + 1, n => if n % 2 == 0 && n != 0 then 1 + twos f (n / 2) else 0

/-- The Jacobi symbol of `a` and odd `n`, as 1, 0 or `none` for -1. -/
def jacobi : Nat → Nat → Nat → Option Nat
  | 0, _, _ => some 0
  | f + 1, a, n =>
    if n == 1 then some 1
    else if a % n == 0 then some 0
    else
      let a := a % n
      let t := twos a a
      let m := a / 2 ^ t
      let flip := (t % 2 == 1 && (n % 8 == 3 || n % 8 == 5)) != (m % 4 == 3 && n % 4 == 3)
      match jacobi f (n % m) m with
      | some 0 => some 0
      | some _ => if flip then none else some 1
      | none => if flip then some 1 else none

/-- The discriminant of the Lucas test: the first of 5, -7, 9, -11, … with symbol -1, modulo `n`. -/
def lucasD (n : Nat) : Nat → Nat → Option Nat
  | 0, _ => none
  | f + 1, k =>
    let d := if k % 4 == 1 then k % n else (n - k % n) % n
    if jacobi (2 * bitLen n + 4) d n == none then some d else lucasD n f (k + 2)

/-- U and V of the Lucas sequence with P = 1 over the low `b` bits of `k` below its top bit, modulo `n`. -/
def lucasUV (n d k : Nat) : Nat → Nat × Nat → Nat × Nat
  | 0, u => u
  | b + 1, u =>
    let h := (n + 1) / 2
    let u2 := u.1 * u.2 % n
    let v2 := (u.2 * u.2 + d * (u.1 * u.1 % n)) % n * h % n
    lucasUV n d k b (if bit k b then ((u2 + v2) * h % n, (d * u2 + v2) * h % n) else (u2, v2))

/-- One Lucas test (FIPS 186-5 B.3.3; log 13). -/
def lucasTest (n : Nat) : Bool :=
  let r := Nat.sqrt n
  if r * r == n then false
  else
    match lucasD n 512 5 with
    | none => false
    | some d => (lucasUV n d (n + 1) (bitLen (n + 1) - 1) (1, 1)).1 == 0

/-- 64 Miller-Rabin rounds with bases drawn, then one Lucas test. -/
def primeTest (n l : Nat) (bases : Bytes) : Bool :=
  if n < 4 || n % 2 == 0 then n == 2 || n == 3
  else
    let s := twos (bitLen n) (n - 1)
    (List.range 64).all (fun i => mrRound n ((n - 1) / 2 ^ s) s (fld bases (l * i) l % (n - 3) + 2)) && lucasTest n

/-- Checks 3 to 12: the number of the first that fails. -/
def curveCheckGo (b bases : Bytes) : Option Nat :=
  let c := curveBody b
  let pb := fld b 4 2
  let nb := fld b 6 2
  let order := c.p + 1
  let hn := c.h * c.n
  let diff := if order < hn then hn - order else order - hn
  if bitLen c.p != pb || c.p % 2 == 0 then some 3
  else if !primeTest c.p c.l bases then some 4
  else if c.p ≤ c.a || c.p ≤ c.b || c.p ≤ c.gx || c.p ≤ c.gy then some 5
  else if (4 * c.a ^ 3 + 27 * c.b ^ 2) % c.p == 0 then some 6
  else if !onCurve c c.gx c.gy then some 7
  else if bitLen c.n != nb || !primeTest c.n c.ln (bases.drop (64 * c.l)) then some 8
  else if c.n == c.p then some 9
  else if 4 * c.p < diff * diff then some 10
  else if ecMul c c.n c.g != none then some 11
  else if (List.range 100).any (fun k => powMod c.p (k + 1) c.n == 1) then some 12
  else none

/-! ## Every request -/

/-- The new slot a request asks for. -/
def reqDest (r : Request) : NewSlot :=
  r.dest.getD { idx := 0, tenant := 0, type := 0, usage := 0, ucnt := 0, life := 0, xrst := false, expo := false, fromKey := false }

/-- A key and an answer that shares it: ML-KEM's new slot (07 R194). -/
def kemMade (d : NewSlot) (k ct : Bytes) : Result := .made d.type d.usage d.expo (k.take (typeLen d.type)) ct

/-- Bytes of the material of a type, where the type fixes them (09 Table 9.2). -/
def materialLen (curves : Table Bytes) (t : Nat) (key : Bytes) : Nat :=
  if t == 0x50 then rsaLen key
  else if 0x44 ≤ t && t ≤ 0x46 then 32
  else if 0x40 ≤ t && t ≤ 0x42 then 64
  else if t == 0x18 then 32
  else if 0x10 ≤ t && t < 0x40 then ((curveOf curves (typeCurve t)).map (·.l)).getD 32
  else typeLen t

/-- The content of the material suits its type (09 R256). -/
def materialOk (curves : Table Bytes) (t : Nat) (key : Bytes) : Bool :=
  if t == 0x50 then
    let k := rsaParse key
    2048 ≤ k.modbits && k.modbits ≤ 8192 && 1 ≤ k.elen && fld key 3 1 == 0 && k.n == k.p * k.q
  else if t == 0x10 || t == 0x11 || t == 0x12 || (0x20 ≤ t && t < 0x40) then
    match curveOf curves (typeCurve t) with
    | none => false
    | some c => 1 ≤ beNat key && beNat key < c.n
  else true

/-- Unwrapped graft material is checked and handed on (09 R256); TDES keys are brought to odd parity (log 32). -/
def graftJob (curves : Table Bytes) (t : Nat) (data kek : Bytes) : Result :=
  match kwpUnwrap kek data with
  | none => verifyFail
  | some k =>
    if 0x20 ≤ t && t < 0x40 && (curveOf curves t).isNone then badParam 0x01B8
    else if (if t == 8 then !lenSuits 8 k.length else k.length != materialLen curves t k) then verifyFail
    else if !materialOk curves t k then badParam 0x01B8
    else .made t 0 false (asType t k) []

/-- What the request computes. -/
def compute (curves : Table Bytes) (r : Request) : Result :=
  let k := reqKey r 0
  let k2 := reqKey r 1
  let d := reqDest r
  match r.op with
  | .lookupOnly =>
    match r.dest with
    | some d => .made k.1 d.usage d.expo k.2 []
    | none => .ok (.ok [])
  | .pinDecipher fmt pan bs => .ok (.nums (bs.flatMap (fun b => pinNums (pinOpen fmt (cipherOf k.1 k.2) pan b))))
  | .pinRef fmt pan bs method vdata pvki =>
    let pins := bs.map (pinOpen fmt (cipherOf k.1 k.2) pan)
    .ok (.nums (pins.flatMap pinNums ++ pins.flatMap (refNibbles k2.2 pan method vdata pvki)))
  | .pinEncipher fmt pan pin fill => .ok (.ok (pinSeal fmt (cipherOf k.1 k.2) pan pin fill))
  | .cipher mode enc drawn iv aad data tag taglen => cipherJob mode enc drawn iv aad data tag taglen k.1 k.2
  | .mac alg padm maclen msg =>
    if isTdes k.1 && 8 < maclen then badParam 0x0150 else .ok (.ok ((macOf alg padm k.1 k.2 msg).take maclen))
  | .cvv digits => .ok (.nums (cvvOf k.2 digits 5))
  | .arqc arpcm arqc arpcin pad td => arqcJob arpcm arqc arpcin pad td k.1 k.2
  | .scriptPin ifmt padm pan block =>
    match pinOpen ifmt (cipherOf k2.1 k2.2) pan block with
    | none => badParam 0x0120
    | some pin => scriptJob padm k.1 k.2 (pinClear 2 pin [])
  | .scriptData padm data => scriptJob padm k.1 k.2 data
  | .wrap kwp => wrapJob kwp k.2 ((r.got.getD 1 (0, [])).1) k2.2
  | .unwrap kwp data => unwrapJob kwp data k.2 d
  | .kbImport block => importJob block k.1 k.2
  | .kbExport header fill => exportJob header fill k.1 k.2 ((r.got.getD 1 (0, [])).1) k2.2
  | .ff1 enc tweak digits => .ok (.nums (if enc then ff1Enc k.2 tweak digits else ff1Dec k.2 tweak digits))
  | .kdf label _ => kdfJob label k.1 k.2 d
  | .graftUnwrap t data => graftJob curves t data (if r.keys.isEmpty then r.holding else k.2)
  | .hash alg outlen msg => .ok (.ok (hashOf alg outlen msg))
  | .hmac alg maclen msg => .ok (.ok ((hmacOf alg k.2 msg).take maclen))
  | .stream alg outlen _ whole => .ok (.ok (if 0x30 ≤ alg then (hmacOf alg k.2 whole).take outlen else hashOf alg outlen whole))
  | .rsaSign scheme hash _ salt digest => rsaSignJob scheme hash salt digest k.2
  | .rsaVerify scheme hash saltlen modbits n e sig digest => rsaVerifyJob scheme hash saltlen modbits n e sig digest
  | .rsaDecrypt hash label ct => rsaDecryptJob hash label ct k.2
  | .ecdsaSign code digest =>
    match curveOf curves code with
    | none => badParam 0x0180
    | some c =>
      match ecdsaSignWith c (beNat k.2) (ecNonce c r.holding) digest with
      | none => .again
      | some s => .ok (.ok s)
  | .ecdsaVerify code q sig digest =>
    match curveOf curves code with
    | none => badParam 0x0180
    | some c =>
      match pointCheck c q with
      | .error e => .err 0x0502 e
      | .ok p => if ecdsaVerifyAt c p sig digest then .ok (.ok []) else verifyFail
  | .ecdh code peer other => ecdhJob curves code peer other k.2 d
  | .eddsaSign msg => .ok (.ok (edSign k.2 msg))
  | .eddsaVerify pub sig msg =>
    match edVerify pub sig msg with
    | .error e => .err 0x0502 e
    | .ok good => if good then .ok (.ok []) else verifyFail
  | .kemEncaps pset ek =>
    if !kemEkOk pset ek then badParam 0x0184
    else
      let x := kemEncaps pset ek r.holding
      kemMade d x.1 x.2
  | .kemDecaps pset ct => kemMade d (kemDecaps pset k.2 ct) []
  | .dsaSign pset mode ctx msg =>
    match dsaSign pset k.2 ctx msg (if mode == 0 then padTo 32 r.holding else zeros 32) with
    | none => .err 0xFFFF 0
    | some s => .ok (.ok s.1)
  | .dsaVerify pset pk sig ctx msg => if dsaVerify pset pk sig ctx msg then .ok (.ok []) else verifyFail
  | .keygen kt param => keygenJob curves kt param r.holding d
  | .pubkey =>
    match publicOf curves k.1 k.2 with
    | none => badParam 0x0180
    | some b => .ok (.ok b)
  | .modexp modbits n e base => modexpJob modbits n e base
  | .scalarMul code scalar point => scalarJob curves code scalar point
  | .pointCheck code point =>
    match curveOf curves code with
    | none => badParam 0x01C1
    | some c =>
      match pointCheck c point with
      | .error e => .err 0x0502 e
      | .ok _ => .ok (.ok [])
  | .katSuite => .kat
  | .curveCheck body bases =>
    match curveCheckGo body bases with
    | some n => .err 0x0504 n
    | none => .ok (.ok [])

/-! ## Shapes and fixed times of the BNE (10 R276, R283-R285, Tables 10.1-10.4) -/

/-- Sub-lanes a request takes, and the lane mode it needs. -/
structure Shape where
  width : Nat
  mode  : LaneMode
  deriving DecidableEq, Repr

/-- The length class of a curve by the bytes of its prime: 0 EC256, 1 EC512, 2 EC521. -/
def ecClass (l : Nat) : Nat := if l ≤ 32 then 0 else if l ≤ 64 then 1 else 2

/-- The class of a CURVE code or key type; Ed25519 and X25519 are EC256. -/
def codeClass (curves : Table Bytes) (code : Nat) : Nat := ((curveOf curves code).map (fun c => ecClass c.l)).getD 0

def ecShape (cls : Nat) : Shape :=
  if cls == 0 then { width := 1, mode := .split } else if cls == 1 then { width := 2, mode := .split } else { width := 4, mode := .whole }

def wholeShape : Shape := { width := 4, mode := .whole }
def nttShape : Shape := { width := 4, mode := .ntt }

/-- The shape of the public key of a key type. -/
def typeShape (curves : Table Bytes) (t : Nat) : Shape :=
  if t == 0x50 then wholeShape else if 0x40 ≤ t && t ≤ 0x46 then nttShape else ecShape (codeClass curves (typeCurve t))

/-- The shape of a request; `t` is the type of the key it names. -/
def shapeOf (curves : Table Bytes) (op : EngineOp) (t : Nat) : Shape :=
  match op with
  | .ecdsaSign code _ => ecShape (codeClass curves code)
  | .ecdsaVerify code _ _ _ => ecShape (codeClass curves code)
  | .ecdh code _ _ => ecShape (codeClass curves code)
  | .eddsaSign _ => ecShape 0
  | .eddsaVerify _ _ _ => ecShape 0
  | .kemEncaps _ _ => nttShape
  | .kemDecaps _ _ => nttShape
  | .dsaSign _ _ _ _ => nttShape
  | .dsaVerify _ _ _ _ _ => nttShape
  | .keygen kt param => typeShape curves (kindType kt param)
  | .pubkey => typeShape curves t
  | .scalarMul code _ _ => ecShape (codeClass curves code)
  | .pointCheck code _ => ecShape (codeClass curves code)
  | _ => wholeShape

/-- A row of µs by class, in ns. -/
def us (l : List Nat) (i : Nat) : Nat := 1000 * l.getD i 0

/-- RSA length classes by modulus bits. -/
def rsaClass (mb : Nat) : Nat := if mb ≤ 2048 then 0 else if mb ≤ 3072 then 1 else if mb ≤ 4096 then 2 else if mb ≤ 6144 then 3 else 4

def rsaShort (mb : Nat) : Nat := us [7, 15, 26, 58, 102] (rsaClass mb)
def rsaLong (mb : Nat) : Nat := us [95, 212, 375, 840, 1490] (rsaClass mb)
/-- The public operation by its exponent. -/
def rsaPublicTime (mb e : Nat) : Nat := if e < 2 ^ 17 then rsaShort mb else rsaLong mb

/-- The private operation. -/
def rsaPrivateTime (key : Bytes) : Nat :=
  let k := rsaParse key
  us [120, 390, 923, 3110, 7380] (rsaClass k.modbits) + (rsaPublicTime k.modbits k.e - rsaShort k.modbits)

/-- Added for a cofactor above 1. -/
def cofTime (curves : Table Bytes) (code : Nat) : Nat :=
  match curveOf curves code with
  | some c => if 1 < c.h then us [140, 320, 500] (ecClass c.l) else 0
  | none => 0

/-- The public key of a type. -/
def pubTime (curves : Table Bytes) (t : Nat) : Nat :=
  if t == 0x18 then 110000
  else if t == 0x19 then 120000
  else if 0x40 ≤ t && t ≤ 0x42 then us [25, 40, 58] (t - 0x40)
  else if 0x44 ≤ t && t ≤ 0x46 then us [45, 75, 115] (t - 0x44)
  else if t == 0x50 then 0
  else us [150, 340, 530] (codeClass curves (typeCurve t))

/-- The execution time of a request that has its keys, in ns. -/
def opTime (curves : Table Bytes) (r : Request) : Nat :=
  let k := reqKey r 0
  match r.op with
  | .rsaSign _ _ _ _ _ => rsaPrivateTime k.2
  | .rsaDecrypt _ _ _ => rsaPrivateTime k.2
  | .rsaVerify _ _ _ mb _ e _ _ => rsaPublicTime mb (beNat e)
  | .modexp mb _ e _ => rsaPublicTime mb (beNat e)
  | .ecdsaSign code _ => us [160, 360, 560] (codeClass curves code)
  | .ecdsaVerify code _ _ _ => us [320, 720, 1120] (codeClass curves code) + cofTime curves code
  | .ecdh code _ _ => if code == 0x11 then 120000 else us [150, 340, 530] (codeClass curves code) + cofTime curves code
  | .eddsaSign _ => 130000
  | .eddsaVerify _ _ _ => 300000
  | .kemEncaps pset _ => us [30, 48, 70] (pset - 1)
  | .kemDecaps pset _ => us [38, 60, 86] (pset - 1)
  | .dsaSign pset mode ctx msg =>
    let i := ((dsaSign pset k.2 ctx msg (if mode == 0 then padTo 32 r.holding else zeros 32)).map (·.2)).getD 814
    us [28, 40, 60] (pset - 1) + [17000, 23500, 33000].getD (pset - 1) 0 * i
  | .dsaVerify pset _ _ _ _ => us [50, 80, 125] (pset - 1)
  | .keygen kt param => pubTime curves (kindType kt param)
  | .pubkey => pubTime curves k.1
  | .scalarMul code _ _ => us [150, 340, 530] (codeClass curves code) + cofTime curves code
  | .pointCheck code _ => us [2, 4, 6] (codeClass curves code) + cofTime curves code
  | _ => 0

end Sys2Proof.Machine
end

