-- ==== Sys2Proof/Machine/Rings.lean ====
section
/-! DEFINITION. Queue pairs, completion entries, MSI-X messages and the states of tenant contexts: the operations of the
host front end that several commands share (04 R69-R91). -/

set_option Elab.async false

namespace Sys2Proof.Machine

/-- The key of a queue pair in the queue table. -/
def qkey (fn q : Nat) : Nat := 16 * fn + q

def getQueue (s : State) (fn q : Nat) : Option Queue := tfind s.hfe.queues (qkey fn q)

def modQueue (fn q : Nat) (f : Queue → Queue) (s : State) : State :=
  { s with hfe := { s.hfe with queues := tmod s.hfe.queues (qkey fn q) f } }

/-- Changes every queue pair of a function. -/
def modQueuesOf (fn : Nat) (f : Queue → Queue) (s : State) : State :=
  { s with hfe := { s.hfe with queues := tmap s.hfe.queues (fun k v => if k / 16 == fn then f v else v) } }

/-- A completion ring has a free entry: at most size - 1 are outstanding (04 R81). -/
def Queue.room (q : Queue) : Bool := (q.cqtail + 1) % q.size != q.cqhead

/-! ## Contexts -/

def getCtx (s : State) (t : Nat) : Option Ctx := tfind s.hfe.ctxs t

def modCtx (t : Nat) (f : Ctx → Ctx) (s : State) : State := { s with hfe := { s.hfe with ctxs := tmod s.hfe.ctxs t f } }

/-- The tenant whose context is bound to a VF (04 R72). -/
def tenantOfVf (s : State) (vf : Nat) : Option Nat :=
  if vf == 0 then none else (s.hfe.ctxs.find? (fun e => e.2.vf == vf)).map (·.1)

/-- A flow lies in a context's share (04 R74). -/
def Ctx.hasFlow (c : Ctx) (flow : Nat) : Bool := c.fbase ≤ flow && flow < c.fbase + c.fcount

/-- The context whose share holds a flow. -/
def ctxOfFlow (s : State) (flow : Nat) : Option (Nat × Ctx) := s.hfe.ctxs.find? (fun e => e.2.hasFlow flow)

/-! ## MSI-X (04 R84, R85) -/

/-- A vector's entry before any write: masked (log 9). -/
def Msix.reset : Msix := { addr := 0, data := 0, mask := true, pend := false }

def msixKey (fn vec : Nat) : Nat := 128 * fn + vec

/-- The function's event vector: the last entry of its table. -/
def eventVec (fn : Nat) : Nat := if fn == 0 then 127 else 29

/-- The function's MSI-X state lets a vector send. -/
def msixOpen (s : State) (fn vec : Nat) : Bool :=
  let f := tget s.hfe.msixFn fn (false, false)
  f.1 && !f.2 && !(tget s.hfe.msix (msixKey fn vec) .reset).mask

/-- Sends a vector's message, or sets its pending bit while it is masked. -/
def sendMsix (fn vec : Nat) (s : State) : State :=
  if msixOpen s fn vec then count 0x15 none (emit (.msix fn vec) s)
  else
    let m := tget s.hfe.msix (msixKey fn vec) .reset
    { s with hfe := { s.hfe with msix := tput s.hfe.msix (msixKey fn vec) { m with pend := true } } }

/-- Sets a cause bit of FN_EVENT; the event vector fires (R85). -/
def setEvent (fn : Nat) (i : Nat) (s : State) : State :=
  let e := tget s.hfe.events fn 0
  sendMsix fn (eventVec fn) { s with hfe := { s.hfe with events := tput s.hfe.events fn (e ||| BitVec.ofNat 4 (2 ^ i)) } }

/-- A context has changed state: cause bit 1 of its VF's function. -/
def ctxEvent (c : Ctx) (s : State) : State := if c.vf == 0 then s else setEvent c.vf 1 s

/-- Puts a queue in the error state (04 R80). -/
def queueError (fn q : Nat) (s : State) : State :=
  match getQueue s fn q with
  | none => s
  | some p => if p.st == .error then s else setEvent fn 0 (modQueue fn q (fun p => { p with st := .error }) s)

/-! ## Completion entries and replies -/

/-- The replies of a function's queues are discarded: an FLR of its VF is under way (04 R91). -/
def discarding (s : State) (fn : Nat) : Bool :=
  match tenantOfVf s fn with
  | none => false
  | some t => ((getCtx s t).map (·.flr)).getD false

/-- Writes a completion entry and advances the ring, its PHASE and its interrupts (04 R78-R85). Nothing is written where
the pair is gone, in the error state, or its function's replies are discarded. -/
def writeCompletion (e : Completed) (tenant : Option Nat) (s : State) : State :=
  match getQueue s e.fn e.q with
  | none => s
  | some p =>
    if p.st == .error || discarding s e.fn then s
    else
      let s := count 0x13 tenant (emit (.completion { e with phase := p.phase }) s)
      let s := if e.trunc then count 0x14 tenant s else s
      let s := if e.rmark then count 0x1A none s else s
      let wrap := p.cqtail + 1 == p.size
      let n := p.unsig + 1
      let fire := p.vec != 0xFF && (e.rmark || max 1 p.cthr ≤ n)
      let p' := { p with
        cqtail := (if wrap then 0 else p.cqtail + 1), phase := (if wrap then !p.phase else p.phase),
        unsig := (if fire then 0 else n), unsigAt := (if p.unsig == 0 then s.now else p.unsigAt) }
      let s := { s with hfe := { s.hfe with queues := tput s.hfe.queues (qkey e.fn e.q) p' } }
      if fire then sendMsix e.fn p.vec s else s

/-- The RMARK entry of a pair: it follows every entry of the items that the reset ended (R83). Its other fields are zero
(log 60). -/
def rmarkEntry (fn q pos : Nat) : Completed :=
  { fn := fn, q := q, pos := pos, status := 0, detail := 0, rlen := 0, phase := false, trunc := false, direct := false, rmark := true, tag := 0 }

/-- Writes the RMARK entries that wait and whose pair has no item of before the reset left; a full ring makes one wait. -/
def writeRmarks (s : State) : State :=
  (s.hfe.queues.filter (fun e => e.2.rmark)).foldl (fun (s : State) (e : Nat × Queue) =>
    let fn := e.1 / 16
    let q := e.1 % 16
    if s.dsp.items.any (fun x => x.2.fn == fn && x.2.q == q) || !(e.2.st == .error || discarding s fn || e.2.room) then s
    else modQueue fn q (fun p => { p with rmark := false }) (writeCompletion (rmarkEntry fn q e.2.sqhead) none s)) s

/-- Where a reply goes (03 R47, 04 R78). -/
structure Dest where
  fn    : Nat
  q     : Nat
  pos   : Nat
  tag   : Nat
  raddr : Nat
  rcap  : Nat

/-- Writes a reply packet within RCAP, then its completion entry (04 R78). -/
def writeReply (d : Dest) (r : Reply) (bytes : Bytes) (direct : Bool) (tenant : Option Nat) (s : State) : State :=
  let fits := bytes.length ≤ d.rcap
  let out := if d.rcap < 32 then [] else if fits then bytes else bytes.take 32
  let dead := match getQueue s d.fn d.q with
    | none => true
    | some p => p.st == .error
  let s := if out.isEmpty || dead || discarding s d.fn then s else emit (.replyPacket d.fn d.raddr out) s
  let s := if direct then count 0x12 tenant s else s
  writeCompletion { fn := d.fn, q := d.q, pos := d.pos, status := r.status, detail := r.detail, rlen := out.length, phase := false, trunc := !fits || d.rcap < 32, direct := direct, rmark := false, tag := d.tag } tenant s

def Item.dest (it : Item) : Dest := { fn := it.fn, q := it.q, pos := it.pos, tag := it.tag, raddr := it.raddr, rcap := it.rcap }

/-- The EPOCH of an item's reply: for ROLE_STALE the epoch held, else the one it was admitted under (03 Table 3.2). -/
def replyEpoch (s : State) (it : Item) (r : Reply) : Nat :=
  if r.status == 0x0204 then ((tfind s.hier.placed it.tenant).map (·.epoch)).getD 0 else it.epoch

/-- The reply packet of an item, stamped now. -/
def itemReplyBytes (s : State) (it : Item) (r : Reply) : Bytes :=
  replyBytes it.opcode it.tenant (it.flow + 32768 * b2n it.ord) (it.seq) it.pcrc false r (replyEpoch s it r) (stampCycle s)

/-- A VF's tenant sees nothing of an item after its release: the decanter entry is free again. -/
def dropItem (id : Nat) (s : State) : State := { s with dsp := { s.dsp with items := terase s.dsp.items id } }

/-- Advances a flow's HEAD past an ordered item (05 R113). -/
def advanceHead (it : Item) (s : State) : State :=
  if it.ord then
    let f := tget s.dsp.flows it.flow { head := 0, next := 0 }
    { s with dsp := { s.dsp with flows := tput s.dsp.flows it.flow { f with head := (f.head + 1) % 65536 } } }
  else s

/-- An item may be released: complete, and at the head of its flow where it is ordered (05 R113). -/
def atHead (s : State) (it : Item) : Bool :=
  it.isComplete && (!it.ord || (tget s.dsp.flows it.flow { head := 0, next := 0 }).head == it.sn)

/-- The queue of an item can take its completion entry, or will take none (05 R114). -/
def hasRoom (s : State) (it : Item) : Bool :=
  match getQueue s it.fn it.q with
  | none => true
  | some p => p.st == .error || discarding s it.fn || p.room

/-- Flow serial items of a flow look again at their lists after a release. -/
def release (id : Nat) (it : Item) (f : State → State) (s : State) : State :=
  count 0x51 it.owner (dropItem id (advanceHead it (f s)))

/-- Releases an item with its reply written (05 R113, R114; 04 R78). -/
def releaseReply (id : Nat) (it : Item) (s : State) : State :=
  let r := it.reply.getD (.bare 0xFFFF 0)
  release id it (writeReply it.dest r (itemReplyBytes s it r) false it.owner) s

/-- Ends a context's items that are not on a core, with one status (04 R90, R91). -/
def endWaiting (t status detail : Nat) (s : State) : State :=
  endItems (fun _ it => it.owner == some t && !it.resident && !it.isComplete) status detail s

/-- Quarantine of a context by the fault `src`, 0 for QUARANTINE (04 R86, R90, Table 4.7). -/
def quarantine (t src : Nat) (s : State) : State :=
  match getCtx s t with
  | none => s
  | some c =>
    match c.st with
    | .quarantined => s
    | .resetting => modCtx t (fun c => { c with quarAfter := some (c.quarAfter.getD src) }) s
    | .normal => ctxEvent c (modCtx t (fun c => { c with st := .quarantined, fsrc := src }) (endWaiting t 0x0202 src s))
    | .frozen => ctxEvent c (modCtx t (fun c => { c with st := .quarantined, fsrc := src }) (endWaiting t 0x0202 src s))

/-- A reset of a context begins, or joins the one in progress (04 R91): DETAIL, and the item that waits for it. -/
def beginReset (t detail : Nat) (waiter : Option Nat) (flr : Bool) (s : State) : State :=
  match getCtx s t with
  | none => s
  | some c =>
    if c.st == .resetting then
      modCtx t (fun c => { c with waiters := c.waiters ++ waiter.toList, flr := c.flr || flr }) s
    else
      let s := endWaiting t 0x0703 detail s
      let s := { s with hfe := { s.hfe with fetched := s.hfe.fetched.filter (fun f => !(flr && f.fn == c.vf)) } }
      ctxEvent c (modCtx t (fun c => { c with st := .resetting, saved := false, rdetail := detail, waiters := waiter.toList, flr := flr, quarAfter := none }) s)

end Sys2Proof.Machine
end

