-- ==== Sys2Proof/Machine/Entropy.lean ====
section
/-! DEFINITION. The entropy unit: noise sources, conditioner, instances and draws, with the commands that drive them
(12). -/

set_option Elab.async false

namespace Sys2Proof.Machine

/-! ## Instances (R326-R328) -/

/-- An instance never instantiated, or uninstantiated: its state is zero. -/
def Drbg.blank (tenant : Nat) : Drbg :=
  { tenant := tenant, key := zeros 32, v := zeros 16, reqs := 0, bytes := 0, seeded := false, made := false }

def getInst (s : State) (i : Nat) : Drbg := tget s.ent.insts i (.blank noTenant)

def setInst (i : Nat) (d : Drbg) (s : State) : State := { s with ent := { s.ent with insts := tput s.ent.insts i d } }

/-- The personalisation string (R326). -/
def personalisation (s : State) (i tenant : Nat) : Bytes := toBE 2 i ++ toBE 2 tenant ++ s.fab.serial

/-- A seed reaches an instance: instantiation, or a reseed where its state stands. -/
def seedInst (i : Nat) (seed : Bytes) (s : State) : State :=
  let d := getInst s i
  let u :=
    if d.made then drbgUpdate seed d.key d.v
    else drbgUpdate (xorB seed (padTo 48 (personalisation s i d.tenant))) (zeros 32) (zeros 16)
  setInst i { d with key := u.1, v := u.2, reqs := 0, bytes := 0, seeded := true, made := true } s

/-- At its hard limit or unseeded (R328). -/
def Drbg.hard (d : Drbg) : Bool := !d.seeded || 2 ^ 20 ≤ d.reqs || 2 ^ 28 ≤ d.bytes

/-- At its soft limit (R328). -/
def Drbg.soft (d : Drbg) : Bool := 4096 ≤ d.reqs || 2 ^ 24 ≤ d.bytes

/-! ## Seeds (R323-R325) -/

/-- Takes a reserve seed; a refill joins the normal queue. -/
def takeReserve (s : State) : Option Bytes × State :=
  match s.ent.reserve with
  | [] => (none, s)
  | x :: r => (some x, { s with ent := { s.ent with reserve := r, normal := s.ent.normal ++ [.refill] } })

/-- Asks a seed for an instance at the urgent queue: the reserve first (R325). A reseed already queued moves. -/
def askUrgent (i : Nat) (u : SeedUse) (s : State) : State :=
  let s := { s with ent := { s.ent with normal := s.ent.normal.filter (· != .reseed i) } }
  if s.ent.urgent.contains u then s
  else
    match takeReserve s with
    | (some x, s) => seedInst i x s
    | (none, s) => { s with ent := { s.ent with urgent := s.ent.urgent ++ [u] } }

/-- Instantiates an instance for a tenant or client (R327). -/
def instantiate (i tenant : Nat) (s : State) : State := askUrgent i (.instantiate i) (setInst i (.blank tenant) s)

/-- Uninstantiates an instance: its state is zeroed and it waits for no seed (R327). -/
def uninstantiate (i : Nat) (s : State) : State :=
  { s with ent := { s.ent with
    insts := terase s.ent.insts i, urgent := s.ent.urgent.filter (fun u => u != .instantiate i && u != .reseed i),
    normal := s.ent.normal.filter (· != .reseed i) } }

/-- The lowest-numbered tenant instance that is uninstantiated (R327). -/
def freeInst (s : State) : Nat := ((List.range 1008).find? (fun n => (tfind s.ent.insts (n + 16)).isNone)).getD 0 + 16

/-- One generate request of at most 65,536 bytes, with the reseed its limits call for (R326, R328). -/
def genPart (i n : Nat) (adata : Bytes) (s : State) : Bytes × State :=
  let d := getInst s i
  let g := drbgGenerate d.key d.v adata n
  let d' := { d with key := g.2.1, v := g.2.2, reqs := d.reqs + 1, bytes := d.bytes + n }
  let s := setInst i d' s
  let queued := s.ent.normal.contains (.reseed i) || s.ent.urgent.contains (.reseed i)
  (g.1,
    if d'.hard then askUrgent i (.reseed i) s
    else if d'.soft && !queued then { s with ent := { s.ent with normal := s.ent.normal ++ [.reseed i] } }
    else s)

/-! ## Draws (R329, Table 12.6) -/

/-- Answers a draw with its bytes; secret ones go to the item's next request alone (10 R281). -/
def answerDraw (d : Draw) (s : State) : State :=
  if d.secret then itemAnswer d.item (.ok []) (modItem d.item (fun i => { i with holding := i.holding ++ d.got }) s)
  else itemAnswer d.item (.ok d.got) s

/-- Refuses a draw: NOT_READY or NO_ENTROPY. -/
def refuseDraw (d : Draw) (status detail : Nat) (s : State) : State :=
  let ten := (getItem s d.item).bind (·.owner)
  itemAnswer d.item (.err status detail) (count (if status == 0x0601 then 0xC3 else 0xC4) ten s)

/-- A draw has to wait, or is answered NOT_READY where it carries NOWAIT. -/
def holdDraw (d : Draw) (detail : Nat) (s : State) : Option Draw × State :=
  if d.nowait then (none, refuseDraw d 0x0601 detail s) else (some d, s)

/-- The parts of a draw, by the rows of Table 12.6, until it is answered or waits. -/
def drawGo : Nat → Draw → State → Option Draw × State
  | 0, d, s => (none, answerDraw d s)
  | f + 1, d, s =>
    if d.n ≤ d.got.length then (none, answerDraw d s)
    else
      let n := min 65536 (d.n - d.got.length)
      if s.ent.cond == .starting || (s.ent.cond == .seeding && !s.ent.seeded) then holdDraw d 1 s
      else if d.pr then
        if s.ent.cond == .stopped then (none, refuseDraw d 0x0602 1 s)
        else
          match takeReserve s with
          | (some x, s) =>
            let g := genPart d.inst n d.adata (seedInst d.inst x s)
            drawGo f { d with got := d.got ++ g.1 } g.2
          | (none, s) =>
            if d.nowait then (none, refuseDraw d 0x0601 2 s)
            else (some d, { s with ent := { s.ent with urgent := s.ent.urgent ++ [.fresh d.id] } })
      else if !(getInst s d.inst).hard then
        let g := genPart d.inst n d.adata s
        drawGo f { d with got := d.got ++ g.1 } g.2
      else if s.ent.cond == .stopped then (none, refuseDraw d 0x0602 3 s)
      else holdDraw d 2 s

/-- Tries a draw. -/
def tryDraw (d : Draw) (s : State) : Option Draw × State := drawGo (d.n / 65536 + 2) d s

/-- The waiting draws are tried again, in order; those that wait for a seed of their own stay. -/
def retryDraws (s : State) : State :=
  s.ent.waiting.foldl
    (fun (s : State) (d : Draw) =>
      if s.ent.urgent.contains (.fresh d.id) then s
      else
        match tryDraw d { s with ent := { s.ent with waiting := s.ent.waiting.filter (·.id != d.id) } } with
        | (none, s) => s
        | (some d, s) => { s with ent := { s.ent with waiting := s.ent.waiting ++ [d] } })
    s

/-- The seed of a prediction-resistant draw has come: reseed, then generate. -/
def freshDraw (id : Nat) (seed : Bytes) (s : State) : State :=
  match s.ent.waiting.find? (·.id == id) with
  | none => s
  | some d =>
    let g := genPart d.inst (min 65536 d.n) d.adata (seedInst d.inst seed s)
    answerDraw { d with got := g.1 } { g.2 with ent := { g.2.ent with waiting := g.2.ent.waiting.filter (·.id != id) } }

/-- A seed goes where it was asked for. -/
def useSeed (u : SeedUse) (seed : Bytes) (s : State) : State :=
  match u with
  | .instantiate i => retryDraws (seedInst i seed s)
  | .reseed i => retryDraws (seedInst i seed s)
  | .fresh d => freshDraw d seed s
  | .refill => { s with ent := { s.ent with reserve := s.ent.reserve ++ [seed] } }

/-! ## Conditioner (R323-R325, Table 12.3) -/

/-- The internal instances that initial seeding instantiates (Table 12.5). -/
def nextInternal (s : State) : Option Nat := (List.range 7).find? (fun i => !(getInst s i).made)

/-- A whole seed leaves the conditioner (R325). -/
def deliverSeed (seed : Bytes) (s : State) : State :=
  let s := eachCopy (fun c => { c with seeds := satAdd max32 c.seeds 1 }) (count 0xC0 none s)
  if !s.ent.seeded then
    match nextInternal s with
    | some i => seedInst i seed s
    | none =>
      let r := s.ent.reserve ++ [seed]
      if r.length < 48 then { s with ent := { s.ent with reserve := r } }
      else retryDraws { s with ent := { s.ent with reserve := r, cond := .running, seeded := true } }
  else
    match s.ent.urgent with
    | u :: l => useSeed u seed { s with ent := { s.ent with urgent := l } }
    | [] =>
      match s.ent.normal with
      | u :: l => useSeed u seed { s with ent := { s.ent with normal := l } }
      | [] => s

/-- Some consumer waits for a seed. -/
def seedWanted (s : State) : Bool := !s.ent.seeded || !s.ent.urgent.isEmpty || !s.ent.normal.isEmpty

/-- 256 bits of conditioned output: the engine context key first, then seeds; output that nothing needs is discarded. -/
def condOutput (b : Bytes) (s : State) : State :=
  if !s.ent.ekey then { s with ent := { s.ent with ekey := true }, eng := { s.eng with ekey := some b } }
  else if !seedWanted s then s
  else
    let buf := s.ent.buf ++ b
    if buf.length < 48 then { s with ent := { s.ent with buf := buf } }
    else
      let s := deliverSeed (buf.take 48) { s with ent := { s.ent with buf := [] } }
      if seedWanted s then { s with ent := { s.ent with buf := buf.drop 48 } } else s

/-- Sources in a state. -/
def sourcesIn (s : State) (st : SourceState) : Nat := s.ent.src.countP (fun e => e.2.st == st)

/-- The conditioner stops: the waiting draws are answered NO_ENTROPY in queue order (R329). -/
def condStop (s : State) : State :=
  let ws := s.ent.waiting
  let s := { s with ent := { s.ent with
    cond := .stopped, waiting := [], urgent := s.ent.urgent.filter (fun u => match u with | .fresh _ => false | _ => true) } }
  ws.foldl (fun (s : State) (d : Draw) => refuseDraw d 0x0602 2 s) s

/-- The conditioner sees what the sources' states have become (Table 12.3). -/
def condCheck (s : State) : State :=
  let h := sourcesIn s .healthy
  match s.ent.cond with
  | .starting =>
    if 2 ≤ h then { s with ent := { s.ent with cond := .seeding } }
    else if 3 ≤ sourcesIn s .failed then condStop s else s
  | .seeding => if h < 2 then condStop s else s
  | .running => if h < 2 then condStop s else s
  | .stopped =>
    if 2 ≤ h then { s with ent := { s.ent with cond := if s.ent.seeded then .running else .seeding } } else s

/-! ## Sources (R317-R322, Table 12.1) -/

/-- The number of a noise source at the collector (16 Table 16.1). -/
def srcNoise (n : Nat) : Nat := 0x0A00 + n

def modSource (n : Nat) (f : Noise → Noise) (s : State) : State := { s with ent := { s.ent with src := tmod s.ent.src n f } }

/-- A health-test failure of a source that is not FAILED: RETEST, or FAILED at the third. -/
def sourceFail (n : Nat) (apt : Bool) (s : State) : State :=
  match tfind s.ent.src n with
  | none => s
  | some x =>
    let s := count 0xC5 none (count (0xC8 + n) none (eachCopy (fun c => { c with hfail := satAdd max32 c.hfail 1 }) s))
    let last := 3 ≤ x.fails + 1
    let s := modSource n (fun x => { x with fails := x.fails + 1, apt := apt, st := if last then .failed else .retest }) s
    let s :=
      if last then
        containedReport (srcNoise n) causeSelf 0 0 false false (setFsrc (srcNoise n) (fun f => { f with isol := true }) s)
      else armatureRecord 1 (srcNoise n) s
    condCheck s

/-- STARTUP_TEST_COMPLETE (R319, R320). -/
def execStartupTestComplete (src : Nat) (pass apt : Bool) (s : State) : Host.Outcome State Fault Refusal :=
  match tfind s.ent.src src with
  | none => .next s
  | some x =>
    if x.st == .startup || x.st == .retest then
      if pass then .next (condCheck (modSource src (fun x => { x with st := .healthy }) s)) else .next (sourceFail src apt s)
    else .next s

/-- HEALTH_TEST_FAIL (R318, R320, R321). -/
def execHealthTestFail (src : Nat) (apt : Bool) (s : State) : Host.Outcome State Fault Refusal :=
  match tfind s.ent.src src with
  | none => .next s
  | some x => if x.st == .healthy then .next (sourceFail src apt s) else .next s

/-- HEALTHY_RUN_COUNT (R320). -/
def execHealthyRunCount (src : Nat) (s : State) : Host.Outcome State Fault Refusal :=
  match tfind s.ent.src src with
  | none => .next s
  | some x => if x.st == .healthy then .next (modSource src (fun x => { x with fails := 0 }) s) else .next s

/-- CONDITIONER_BLOCK_CLOSE (R323-R325): the 1,024 samples are hashed eight to a byte, first sample in the most significant
bit (log 22). -/
def execConditionerBlockClose (samples : Bytes) (s : State) : Host.Outcome State Fault Refusal :=
  if samples.length == 128 && (s.ent.cond == .seeding || s.ent.cond == .running) then .next (condOutput (sha256 samples) s)
  else .next s

/-- DRBG_DRAW (R329): the ENT takes the oldest draw asked. -/
def execDrbgDraw (s : State) : Host.Outcome State Fault Refusal :=
  match s.ent.asked with
  | [] => .next s
  | d :: r =>
    let s := count 0xC1 ((getItem s d.item).bind (·.owner)) { s with ent := { s.ent with asked := r } }
    match tryDraw d s with
    | (none, s) => .next s
    | (some d, s) =>
      .next (count 0xC2 ((getItem s d.item).bind (·.owner)) { s with ent := { s.ent with waiting := s.ent.waiting ++ [d] } })

/-- 50 ms (R329). -/
def drawLimit : Nat := 50000000

/-- DRAW_TIMEOUT (R329): the draw that has waited longest reaches 50 ms. -/
def execDrawTimeout (s : State) : Host.Outcome State Fault Refusal :=
  match s.ent.waiting with
  | [] => .next s
  | d :: r =>
    let s := s.at_ (d.since + drawLimit)
    .next (refuseDraw d 0x0602 2
      { s with ent := { s.ent with waiting := r, urgent := s.ent.urgent.filter (· != .fresh d.id) } })

end Sys2Proof.Machine
end

