-- ==== Sys2Proof/Machine/Slots.lean ====
section
/-! DEFINITION. The slot table: reading and writing records with their tags, lookups, use charges, prune, scrub,
reclaim, free slots, and the vine image log (09). -/

set_option Elab.async false

namespace Sys2Proof

/-- An empty record with its generation. -/
def Slot.empty (gen : Nat) : Slot :=
  { key := [], type := 0, persist := false, xrst := false, ucnt := false, expo := false, hcache := false, ovfl := false,
    held := false, usage := 0, owner := 0, parent := 0, gen := gen, stamp := [], ucount := 0, expiry := 0, tag := 0,
    entry := none, unleased := 0, gctr := 0 }

/-- FLAGS (Table 9.1). -/
def Slot.flags (p : Slot) : Nat :=
  Machine.b2n p.persist + 2 * Machine.b2n p.xrst + 4 * Machine.b2n p.ucnt + 8 * Machine.b2n p.expo + 16 * Machine.b2n p.hcache + 32 * Machine.b2n p.ovfl + 64 * Machine.b2n p.held

/-- Key length in bytes; 0 for an overflow type. -/
def Slot.klen (p : Slot) : Nat := if p.ovfl then 0 else p.key.length

/-- A slot is free: empty and not HELD. -/
def Slot.free (p : Slot) : Bool := p.type == 0 && !p.held

/-- Depth (R237). -/
def Slot.depth (p : Slot) : Nat := (p.stamp.filter (· != 0)).length

end Sys2Proof

namespace Sys2Proof.Machine

/-! ## Records (R236-R239) -/

/-- EXPIRY that never comes. -/
def never : Nat := 2 ^ 48 - 1

/-- The 96 bytes of a record (Table 9.1). -/
def slotBytes (p : Slot) : Bytes :=
  padTo 64 p.key ++ toBE 1 p.type ++ toBE 1 p.flags ++ toBE 2 p.usage.toNat ++ toBE 2 (p.owner + 1024 * (p.klen - 1)) ++
    toBE 2 p.parent ++ toBE 2 p.gen ++ padTo 12 (p.stamp.flatMap (toBE 2)) ++ toBE 4 p.ucount ++ toBE 6 p.expiry

/-- The tag beside a record (R239). -/
def slotTag (i : Nat) (p : Slot) : BitVec 16 := crc16 (toBE 2 i ++ slotBytes p)

/-- A slot never written since the table was last lost: empty, with a generation that the spec leaves open (R235). -/
def freshSlot (s : State) (i : Nat) : Slot :=
  let p := Slot.empty (1 + Config.freeGen s.vks.epoch i % 65535)
  { p with tag := slotTag i p }

def getSlot (s : State) (i : Nat) : Slot := (tfind s.vks.slots i).getD (freshSlot s i)

/-- Writes a record with its tag. -/
def putSlot (i : Nat) (p : Slot) (s : State) : State :=
  { s with vks := { s.vks with slots := tput s.vks.slots i { p with tag := slotTag i p } } }

/-- The generation that the index array holds; slot 0 stands for the root in use (R234). -/
def genOf (s : State) (i : Nat) : Nat :=
  if i == 0 then
    match s.vks.use with
    | .none_ => 0
    | .rootstock => 1
    | .maquette => 2
  else (getSlot s i).gen

/-- The generation after another (R233). -/
def nextGen (g : Nat) : Nat := if g < 65535 then g + 1 else 1

/-- The walk of R241 from ancestor `a` at distance `j`: the distance of the nearest mismatch, 0 where there is none. -/
def lineageGo (s : State) : List Nat → Nat → Nat → Nat
  | [], _, _ => 0
  | g :: r, a, j => if genOf s a != g then j else lineageGo s r (getSlot s a).parent (j + 1)

/-- The DETAIL that KEY_ORPHANED would carry, 0 where the lineage passes (R241). -/
def lineage (s : State) (p : Slot) : Nat := lineageGo s (p.stamp.filter (· != 0)) p.parent 1

/-- The handle of a slot. -/
def handleBytes (i gen : Nat) : Bytes := toBE 2 i ++ toBE 2 gen

/-! ## Lookup (R240, R268) -/

/-- What a lookup finds. -/
inductive Found where
  | pass (p : Slot)
  | fail (status detail : Nat)
  /-- the lease stands at 0: the lookup waits for a block (R244) -/
  | lease (p : Slot)
  /-- the record's tag does not match (R239) -/
  | broken
  deriving DecidableEq, Repr

/-- Steps 1 and 2 of R240. -/
def findBare (s : State) (i gen tenant : Nat) : Found :=
  let p := getSlot s i
  if i < 256 then .fail 0x0301 2
  else if p.tag != slotTag i p then .broken
  else if p.type == 0 || p.held || p.owner != tenant then .fail 0x0301 2
  else if p.gen != gen then .fail 0x0301 1
  else .pass p

/-- Debug is open on a part in INDEPENDENT mode: key operations are refused (R268, 15 Table 15.8). A mode not set counts as
INDEPENDENT (log 47). -/
def keysShut (s : State) : Bool := s.grd.dbgOpen && (s.otp.force == .perso || s.otp.force == .field) && s.otp.kroot != .maquette

/-- Steps 1 to 3. -/
def findLive (s : State) (i gen tenant : Nat) : Found :=
  match findBare s i gen tenant with
  | .pass p => if lineage s p != 0 then .fail 0x0302 (lineage s p) else .pass p
  | f => f

/-- The usage bits a lookup misses. -/
def missing (k : KeyReq) (p : Slot) : BitVec 16 :=
  if k.anyOf then (if k.need &&& p.usage != 0 then 0 else k.need) else k.need &&& ~~~p.usage

/-- Step 6. -/
def expired (s : State) (p : Slot) : Option (Nat × Nat) :=
  if p.expiry == never then none
  else
    match s.cycle with
    | none => some (0x0402, 3)
    | some c => if p.expiry < c then some (0x0305, 0) else none

/-- Step 7, before the charge (R243-R245). -/
def useLeft (p : Slot) : Found :=
  if !p.ucnt || p.ucount != 0 then .pass p else if p.persist then .lease p else .fail 0x0304 0

/-- A lookup, before its charge. -/
def findKey (s : State) (k : KeyReq) : Found :=
  if keysShut s then .fail 0x0902 0
  else
    match findLive s k.idx k.gen k.tenant with
    | .pass p =>
      if k.bare then .pass p
      else if !k.types.contains p.type || (k.persist && !p.persist) then .fail 0x0303 0
      else if missing k p != 0 then .fail 0x0303 (missing k p).toNat
      else
        match expired s p with
        | some e => .fail e.1 e.2
        | none => useLeft p
    | f => f

/-- The charge of a passed lookup. -/
def charge (k : KeyReq) (s : State) : State :=
  let p := getSlot s k.idx
  let s := count 0xA0 (some k.tenant) s
  if k.bare || !p.ucnt then s else putSlot k.idx { p with ucount := p.ucount - 1 } s

/-- The PMU event of a failed lookup. -/
def failEvent (status : Nat) : Option Nat :=
  match status with
  | 0x0301 => some 0xA1
  | 0x0302 => some 0xA2
  | 0x0303 => some 0xA3
  | 0x0304 => some 0xA4
  | 0x0305 => some 0xA5
  | 0x0402 => some 0xA6
  | _ => none

/-- Counts a failed lookup (R274). -/
def lookupFailed (tenant status : Nat) (s : State) : State :=
  let s := eachCopy (fun c => { c with lkfail := satAdd max32 c.lkfail 1 }) s
  match failEvent status with
  | some e => count e (some tenant) s
  | none => s

/-- A slot-table tag that does not match is fatal (R239, 16 Table 16.2). -/
def slotFatal (i : Nat) (s : State) : State := fatal 0x0800 causeTag i s

/-! ## The vine image (R270-R273) -/

/-- The largest base, and the size at which a log is full. -/
def baseMax : Nat := 7 * 1048576
def logMax : Nat := 1048576

/-- An image with nothing in it, under the root in use. -/
def VineImage.empty (root : Bytes) : VineImage := { root := root, slots := [], tenants := [], hwm := 0, tkeySeed := [] }

/-- The other half gets a new base and becomes the active one, with an empty log (R271, 14 R384). -/
def rewriteBase (s : State) : State :=
  let chain := Config.chainDigest [] s.free
  { s with
    free := s.free + 1
    vks := { s.vks with half := !s.vks.half, logBytes := 0, count := 0, chain := chain, imgIn := s.clc.st == .opened }
    bk := { s.bk with fresh := { s.bk.fresh with half := !s.vks.half, count := 0, chain := chain, crcOk := true } } }

/-- A log that has reached its size (R271). -/
def logFull (s : State) : Bool := logMax ≤ s.vks.logBytes

/-- Appends one change to the active half's log and updates the freshness record: the durable point (R271, R25). The
record's size, which the spec does not give, is a free value. A change that finds the log full waits for the new base. -/
def imgAppend (f : VineImage → VineImage) (s : State) : State :=
  let s := if logFull s then rewriteBase s else s
  let u := takeFree logMax s
  let s := u.2
  let hwm := s.cycle.getD s.vks.hwm
  let img := { f (s.vks.img.getD (.empty s.vks.root)) with hwm := hwm }
  let chain := Config.chainDigest s.vks.chain (s.vks.count + 1)
  { s with
    vks := { s.vks with img := some img, logBytes := satAdd logMax s.vks.logBytes (1 + u.1), count := s.vks.count + 1, chain := chain, imgIn := s.clc.st == .opened, hwm := hwm }
    bk := { s.bk with fresh := { s.bk.fresh with half := s.vks.half, count := s.vks.count + 1, chain := chain, crcOk := true } } }

/-- A slot record as the image holds it: leases count as spent (R243). -/
def imgSlot (p : Slot) : Slot := { p with ucount := 0, entry := none }

/-- Appends a persistent slot's record; an empty one takes the slot out. -/
def imgPutSlot (i : Nat) (s : State) : State :=
  let p := getSlot s i
  imgAppend (fun m => { m with slots := if p.free then terase m.slots i else tput m.slots i (imgSlot p) }) s

/-- Appends a tenant's counter, officer set, mapping table and MSERIAL. -/
def imgPutTenant (t : Nat) (s : State) : State :=
  match tfind s.hier.dir t with
  | none => s
  | some e => imgAppend (fun m => { m with tenants := tput m.tenants t e }) s

/-- The size of a base (Table 9.14): its content alone, framing apart (log 20). -/
def baseSize (m : VineImage) : Nat :=
  m.slots.foldl (fun a _ => a + 98)
    (m.tenants.foldl (fun a e =>
      a + 10 + 40 * e.2.recs.length + ((e.2.officers.map (·.raw.length)).getD 0) + ((e.2.map.map (·.body.length)).getD 0) + 8)
      6)

/-! ## Freeing (R260-R262, 11 R307) -/

/-- Zeroes and frees a slot's HMAC cache entry. -/
def freeEntry (p : Slot) (s : State) : State :=
  match p.entry with
  | none => s
  | some e => { s with eng := { s.eng with cache := terase s.eng.cache e } }

/-- Deletes a slot's overflow key object (08 R208). -/
def freeObject (p : Slot) (s : State) : State :=
  if p.ovfl then { s with clc := { s.clc with objects := terase s.clc.objects (fld p.key 0 4) } } else s

/-- Empties a slot, advances its generation and puts it on the free list. -/
def freeSlot (i : Nat) (p' : Slot) (s : State) : State :=
  let p := getSlot s i
  let s := putSlot i { p' with gen := nextGen p.gen } (freeObject p (freeEntry p s))
  { s with vks := { s.vks with freed := s.vks.freed ++ [i] } }

/-- A prune in one slot write (R260). -/
def pruneSlot (i : Nat) (s : State) : State :=
  let p := getSlot s i
  count 0xA7 none (freeSlot i
    { p with key := zeros p.klen, type := 0, persist := false, xrst := false, ucnt := false, expo := false, hcache := false, ovfl := false, held := false, usage := 0, ucount := 0, expiry := 0, entry := none, unleased := 0, gctr := 0 }
    s)

/-- A scrub in one slot write (R261). -/
def scrubSlot (i : Nat) (s : State) : State :=
  let p := getSlot s i
  count 0xA8 none (putSlot i
    { p with key := zeros p.klen, type := 0, ucnt := false, expo := false, hcache := false, ovfl := false, held := true, usage := 0, ucount := 0, expiry := 0, entry := none, unleased := 0 }
    (freeObject p (freeEntry p s)))

/-- A reclaim: record zeroed, generation advanced, slot on the free list (R262). -/
def reclaimSlot (i : Nat) (s : State) : State := count 0xA9 none (freeSlot i (Slot.empty 0) s)

/-- A slot is freed at a reset or a tenant's scrub. -/
def wipeSlot (i : Nat) (s : State) : State := freeSlot i (Slot.empty 0) s

/-- Some non-free slot names `i` as PARENT. -/
def hasChild (s : State) (i : Nat) : Bool := s.vks.slots.any (fun e => !e.2.free && e.2.parent == i)

/-- The sweeper may reclaim a slot (R262). -/
def reclaimable (s : State) (i : Nat) (p : Slot) : Bool :=
  256 ≤ i && !p.free &&
    (lineage s p != 0 ||
      (!p.held && !p.persist && p.expiry != never && (match s.cycle with | some c => decide (p.expiry < c) | none => false)) ||
      (!p.held && !p.persist && p.ucnt && p.ucount == 0) ||
      (p.held && !hasChild s i))

/-- Slots that await reclaim. -/
def reclaimables (s : State) : Nat := s.vks.slots.countP (fun e => reclaimable s e.1 e.2)

/-! ## Free slots (R250, 06 R159) -/

/-- A slot may be taken: free and reserved for nothing. -/
def takable (s : State) (i : Nat) : Bool := 256 ≤ i && i < 65536 && (getSlot s i).free && !s.vks.reserved.contains i

/-- The first never-written slot at or after a place among the 65,280, within `fuel` of them. -/
def neverWritten (s : State) (at_ : Nat) : Nat → Option Nat
  | 0 => none
  | f + 1 =>
    let i := 256 + at_ % 65280
    if (tfind s.vks.slots i).isNone && takable s i then some i else neverWritten s (at_ + 1) f

/-- The next free slot: those free since the table was lost come first, in an order that the spec leaves open (log 11),
then those freed since, in the order of freeing (R250). -/
def nextFree (s : State) : Option Nat × State :=
  let u := takeFree 65280 s
  match neverWritten u.2 u.1 65280 with
  | some i => (some i, u.2)
  | none => (u.2.vks.freed.find? (takable u.2), u.2)

/-- A tenant's slots of a kind on this part, HELD ones among them. -/
def tenantSlots (s : State) (tenant : Nat) (persist : Bool) : Nat :=
  s.vks.slots.countP (fun e => 256 ≤ e.1 && !e.2.free && e.2.owner == tenant && e.2.persist == persist)

/-- Slots reserved for a tenant's items and not yet written. -/
def tenantReserved (s : State) (tenant : Nat) : Nat :=
  countItems (fun _ it => it.tenant == tenant && it.slot.isSome && it.wrote != it.slot) s

/-- Reserves a free slot for a new ephemeral key; none where the tenant's share or the pool is used up. -/
def reserveSlot (tenant : Nat) (s : State) : Option Nat × State :=
  if 8192 ≤ tenantSlots s tenant false + tenantReserved s tenant then (none, s)
  else
    match nextFree s with
    | (none, s) => (none, s)
    | (some i, s) => (some i, { s with vks := { s.vks with reserved := s.vks.reserved ++ [i] } })

/-- Takes a slot off the free list and ends its reservation. -/
def unfree (i : Nat) (s : State) : State :=
  { s with vks := { s.vks with freed := s.vks.freed.filter (· != i), reserved := s.vks.reserved.filter (· != i) } }

/-- PARENT and stamp of a slot written under `pi` (R237). -/
def stampUnder (s : State) (pi : Nat) : List Nat := (genOf s pi :: (getSlot s pi).stamp).take 6

/-- The tenant root's slot, where the directory names one. -/
def tenantRoot (s : State) (tenant : Nat) : Nat := ((tfind s.hier.dir tenant).map (·.root.1)).getD 0

/-! ## HMAC cache entries (11 R304, R305) -/

/-- Slots that carry HCACHE. -/
def hcacheSlots (s : State) : Nat := s.vks.slots.countP (fun e => e.2.hcache)

/-- The lowest free cache entry below 16,384. -/
def freeCache (s : State) : Nat → Option Nat
  | 0 => none
  | f + 1 =>
    let e := 16384 - (f + 1)
    if s.vks.slots.any (fun x => x.2.entry == some e) then freeCache s f else some e

/-- A fill of a slot's states enters the DGE queue at level 31 (11 R305). -/
def queueFill (i : Nat) (s : State) : State :=
  let p := getSlot s i
  let r : Request :=
    { id := s.eng.reqs, level := 31, client := .fill i p.gen, tenant := p.owner, flow := 0, keys := [], chain := [], op := .lookupOnly, dest := none, holding := [], lane := none, segs := 0, cont := false, got := [], stamp := [] }
  count 0x7D none (placeRequest .dge r { s with eng := { s.eng with reqs := s.eng.reqs + 1 } })

/-- Gives a slot with HCACHE its entry, zeroed, and starts a fill. -/
def giveEntry (i : Nat) (s : State) : State :=
  let p := getSlot s i
  if !p.hcache then s
  else
    match (p.entry <|> freeCache s 16384) with
    | none => s
    | some e =>
      let c : CacheEntry := { slot := i, gen := p.gen, v256 := false, v512 := false, i256 := [], o256 := [], i512 := [], o512 := [] }
      queueFill i (putSlot i { p with entry := some e } { s with eng := { s.eng with cache := tput s.eng.cache e c } })

/-! ## Leases (R243, R244) -/

/-- This part is the active manager (13 R346). -/
def isActive (s : State) : Bool := s.hier.mst == .active

/-- A synchronised standby acknowledges the twin copies (13 R349). -/
def hasStandby (s : State) : Bool := isActive s && s.hier.synced

/-- Tops a slot's lease up from the unleased count (R243). -/
def topUp (i : Nat) (s : State) : State :=
  let p := getSlot s i
  let n := min (256 - p.ucount) p.unleased
  if n == 0 then s
  else imgPutSlot i (putSlot i { p with ucount := p.ucount + n, unleased := p.unleased - n } s)

end Sys2Proof.Machine
end

