-- ==== Sys2Proof/Machine/Links.lean ====
section
/-! DEFINITION. Roles, positions and routes of the hierarchy, and sending on its links (13 R333-R346). -/

set_option Elab.async false

namespace Sys2Proof.Machine

/-- The roster entry of this part's serial (R333): serial, ID, role. -/
def ownEntry (s : State) : Option (Bytes × Nat × Nat) :=
  s.hier.roster.bind (fun r => r.parts.find? (fun e => e.1 == s.fab.serial))

/-- Roles (19 Table 19.8). -/
inductive Role where
  | manager | worker | unknown
  deriving DecidableEq, Repr

def roleOf (s : State) : Role :=
  match s.boot.straps with
  | none => .unknown
  | some (r, _) =>
    if r == 1 then .worker
    else if r == 2 then
      match ownEntry s with
      | none => .unknown
      | some e => if e.2.2 == 1 then .worker else .manager
    else .manager

/-- ID in use (Table 13.1). -/
def myId (s : State) : Nat :=
  match s.boot.straps with
  | none => 0
  | some (r, i) => if r == 2 then ((ownEntry s).map (·.2.1)).getD 0 else i

/-- The roster sets TWIN. -/
def twinSet (s : State) : Bool := (s.hier.roster.map (·.twin)).getD false

/-- The direct worker at or before a worker's position (Table 13.2). -/
def directOf (id : Nat) : Nat := if id ≤ 5 then id else (id - 6) / 3 + 2

/-- A port or sub-link is UP; keys are LNK_PSEL values. -/
def portUp (s : State) (k : Nat) : Bool := ((tfind s.hier.ports k).map (·.st)) == some .up

/-- A worker's UP sub-link of its up-port, manager A's first. -/
def upPort (s : State) : Option Nat := if portUp s 0 then some 0 else if portUp s 8 then some 8 else none

/-- The port that leads to a position, where it is UP. A worker behind a direct worker is linked when its direct worker is
(log 23). -/
def routeTo (s : State) (id : Nat) : Option Nat :=
  let me := myId s
  let k :=
    if me ≤ 1 then (if id ≤ 1 then some 4 else some (directOf id - 2))
    else if me ≤ 5 && 6 ≤ id && directOf id == me then some ((id - 6) % 3 + 1)
    else upPort s
  match k with
  | none => none
  | some k => if portUp s k then some k else none

/-- Sends a message on a port, while the output gates are open (14 R365, 16 R415). Each message is one frame of its port's
count (log 24). -/
def sendOn (k : Nat) (m : LinkMsg) (s : State) : State :=
  if s.boot.gates then s else count (0xD0 + k % 8) none (emit (.link k m) s)

/-- Sends to a position, where it is linked. -/
def sendTo (id : Nat) (m : LinkMsg) (s : State) : State :=
  match routeTo s id with
  | none => s
  | some k => sendOn k m s

/-- The port toward the active manager: a worker's up-port, a standby's twin port. -/
def managerPort (s : State) : Option Nat :=
  if roleOf s == .worker then upPort s else if portUp s 4 then some 4 else none

/-- Sends toward the active manager. -/
def sendManager (m : LinkMsg) (s : State) : State :=
  match managerPort s with
  | none => s
  | some k => sendOn k m s

/-- The link hardware works: powered, gates open, Armature serving (15 R402 keeps it on in P2). -/
def linkLive (s : State) : Bool := s.powered && !s.boot.gates && (s.boot.phase == 4 || s.boot.phase == 5)

/-- Armature takes messages: not in P2. -/
def peerLive (s : State) : Bool := linkLive s && s.grd.power != .p2

/-- A message is one frame received on a port (16 Table 16.10; log 24). -/
def received (k : Nat) (s : State) : State := count (0xD8 + k % 8) none s

/-- A message received from the direction of the active manager. -/
def receivedManager (s : State) : State :=
  match managerPort s with
  | none => s
  | some k => received k s

/-- A message received from a position, where it is linked. -/
def receivedFrom (id : Nat) (s : State) : State :=
  match routeTo s id with
  | none => s
  | some k => received k s

/-- An active manager can be reached: not during HOLD (09 R244, 13 R359). -/
def managerReachable (s : State) : Bool :=
  match s.hier.mst with
  | .active => true
  | .serving => (managerPort s).isSome
  | .resync => (managerPort s).isSome
  | .standbySync => (managerPort s).isSome
  | .standbyResync => (managerPort s).isSome
  | .noRoster => false
  | .arbitrating => false
  | .standbyUnsync => false
  | .hold => false
  | .purged => false

/-- Trellis ports in use. -/
def trellisUp (s : State) : List Nat := (s.hier.ports.filter (fun e => e.2.st == .up && e.1 % 8 != 4)).map (·.1)

/-- The ports and sub-links of a position (Table 13.2, R334): none for an invalid ID, an unknown role, or the reserved
ROLE value. -/
def portKeys (s : State) : List Nat :=
  let id := myId s
  match roleOf s, s.boot.straps with
  | .unknown, _ => []
  | _, none => []
  | _, some (3, _) => []
  | .manager, some _ => if id ≤ 1 then [0, 1, 2, 3] ++ (if twinSet s then [4] else []) else []
  | .worker, some _ =>
    if 2 ≤ id && id ≤ 5 then [0, 1, 2, 3] ++ (if twinSet s then [8] else []) else if 6 ≤ id && id ≤ 17 then [0] else []

def Port.reset : Port :=
  { st := .down, width := 0, speed := 0, failst := 0, peer := none, hello := none, key := [], shakes := 0, tagAt := [] }

def getPort (s : State) (k : Nat) : Port := tget s.hier.ports k .reset

def setPort (k : Nat) (f : Port → Port) (s : State) : State :=
  { s with hier := { s.hier with ports := tput s.hier.ports k (f (getPort s k)) } }

/-- A port trains and sends its HELLO (R335 steps 1 and 2). -/
def trainPort (k : Nat) (s : State) : State :=
  sendOn k .hello (setPort k (fun p => { p with st := .training, peer := none, hello := none, key := [], tagAt := [] }) s)

/-- Trellis and twin links are brought up, unless they are held down (17 Table 17.3, 15 R398). -/
def linksUp (s : State) : State :=
  if s.hier.portsHeld then s else (portKeys s).foldl (fun (s : State) (k : Nat) => trainPort k s) s

/-- The parts linked to this one, by position. -/
def linkedIds (s : State) : List Nat :=
  (List.range 18).filter (fun i => i != myId s && (routeTo s i).isSome &&
    (match s.hier.roster with | some r => r.parts.any (fun e => e.2.1 == i) | none => false))

/-- The serial of the active manager, as this part knows it: its own, or its partner's or manager's. -/
def activeSerial (s : State) : Bytes := if isActive s then s.fab.serial else s.hier.partner

/-- The position of this part in a placement: 00h names the active manager (13 R343). -/
def placedAt (s : State) (ids : List Nat) : Bool := if isActive s then ids.contains 0 else 2 ≤ myId s && ids.contains (myId s)

/-- The tenant's directory entry. -/
def getTenant (s : State) (t : Nat) : Option Tenant := tfind s.hier.dir t

def modTenant (t : Nat) (f : Tenant → Tenant) (s : State) : State := { s with hier := { s.hier with dir := tmod s.hier.dir t f } }

end Sys2Proof.Machine
end

