-- ==== Sys2Proof/Machine/Engines.lean ====
section
/-! DEFINITION. The engines at work: taking a request with its lookups and leases, segments, results and new slots, the
states of units and lanes, cache fills, and the commands of their queues (05 R116-R120, 09 R243-R245, 10, 11). -/

set_option Elab.async false

namespace Sys2Proof.Machine

/-! ## Units and lanes -/

def EngineUnit.reset : EngineUnit := { st := .testing, faults := 0, req := none, testers := [] }
def Lane.reset : Lane := { st := .loading, mode := .idle, ops := [], ver := 0, uctr := 0, fault := 0, katfail := false }

def modUnit (n : Nat) (f : EngineUnit → EngineUnit) (s : State) : State := { s with eng := { s.eng with units := tmod s.eng.units n f } }
def modLane (n : Nat) (f : Lane → Lane) (s : State) : State := { s with bne := { s.bne with lanes := tmod s.bne.lanes n f } }

/-- A unit number belongs to the SYE, else to the DGE. -/
def isPipe (n : Nat) : Bool := n < 32

/-- Source numbers (16 Table 16.1). -/
def unitSrc (n : Nat) : Nat := if isPipe n then 0x0500 + n else 0x0600 + (n - 32)
def laneSrc (n : Nat) : Nat := 0x0700 + n
def srcSave : Nat := 0x0E20

/-- The units of a kind. -/
def unitsOf (s : State) (k : EngineKind) : List (Nat × EngineUnit) :=
  s.eng.units.filter (fun e => match k with | .sye => isPipe e.1 | .dge => !isPipe e.1)

def queueOf (s : State) (k : EngineKind) : List Request :=
  match k with
  | .sye => s.eng.syeQ
  | .dge => s.eng.dgeQ

def setQueue (k : EngineKind) (q : List Request) (s : State) : State :=
  match k with
  | .sye => { s with eng := { s.eng with syeQ := q } }
  | .dge => { s with eng := { s.eng with dgeQ := q } }

/-- A unit that can take a request: the lowest-numbered one (log 27). -/
def freeUnit (s : State) (k : EngineKind) : Option Nat :=
  ((unitsOf s k).find? (fun e => e.2.st == .online && e.2.req.isNone && e.2.testers.isEmpty)).map (·.1)

/-! ## Ends of requests -/

/-- Answers the item of a request. -/
def answerRequest (r : Request) (a : Answer) (s : State) : State :=
  match r.client with
  | .item id => if waitsFor s id (.engine r.id) then itemAnswer id a s else s
  | .fill _ _ => s

/-- The item of a request still waits for it. -/
def wanted (s : State) (r : Request) : Bool :=
  match r.client with
  | .item id => waitsFor s id (.engine r.id)
  | .fill _ _ => true

/-- Ends the item of a request with a status, where it still waits. -/
def abortRequest (status detail : Nat) (r : Request) (s : State) : State :=
  match r.client with
  | .item id => if waitsFor s id (.engine r.id) then itemEnd id status detail s else s
  | .fill _ _ => s

/-- Items that a list of requests would end. -/
def itemsEnded (s : State) (l : List Request) : Nat :=
  l.countP (fun r => match r.client with | .item id => waitsFor s id (.engine r.id) | .fill _ _ => false)

/-- Forgets what is saved or waits for a request. -/
def dropRequest (r : Request) (s : State) : State :=
  { s with
    eng := { s.eng with saved := s.eng.saved.filter (fun e => e.2.req != r.id) }
    vks := { s.vks with leaseW := s.vks.leaseW.filter (fun e => e.2.1.id != r.id) } }

/-! ## No unit of a kind (11 R314, 16 Table 16.1) -/

/-- Ends a list of requests with ABORTED_FAULT. -/
def abortAll (detail : Nat) (l : List Request) (s : State) : State :=
  l.foldl (fun s r => abortRequest 0x0702 detail r (dropRequest r s)) s

/-- Every unit of a kind is OFFLINE. -/
def noUnits (s : State) (k : EngineKind) : Bool :=
  let l := unitsOf s k
  !l.isEmpty && l.all (fun e => e.2.st == .offline)

/-- The contained fault of an engine without units, at its first request. -/
def noneReport (k : EngineKind) (s : State) : State :=
  match k with
  | .sye => if s.eng.noneSye then s else containedReport 0x1000 causeSelf 0 0 false false { s with eng := { s.eng with noneSye := true } }
  | .dge => if s.eng.noneDge then s else containedReport 0x1001 causeSelf 0 0 false false { s with eng := { s.eng with noneDge := true } }

/-- Every queued request of a kind ends where no unit is left. -/
def drainKind (k : EngineKind) (s : State) : State :=
  let q := queueOf s k
  if !noUnits s k || q.isEmpty then s
  else
    let src := match k with
      | .sye => s.eng.offSye
      | .dge => s.eng.offDge
    abortAll src q (setQueue k [] (noneReport k s))

/-- Every lane is OFFLINE: the same for the BNE. -/
def drainBne (s : State) : State :=
  let q := s.bne.queue
  if s.bne.lanes.isEmpty || !s.bne.lanes.all (fun e => e.2.st == .offline) || q.isEmpty then s
  else
    let s' := if s.eng.noneBne then s else containedReport 0x1002 causeSelf 0 0 false false { s with eng := { s.eng with noneBne := true } }
    abortAll s.eng.offBne q { s' with bne := { s'.bne with queue := [], resv := none } }

/-! ## Faults of units and lanes (11 R312, R313; 10 R293, R294) -/

/-- A unit goes OFFLINE; requests that no unit is left for end. -/
def unitOffline (n : Nat) (s : State) : State :=
  let s := modUnit n (fun u => { u with st := .offline, req := none }) s
  let e := if isPipe n then { s.eng with offSye := unitSrc n } else { s.eng with offDge := unitSrc n }
  drainKind (if isPipe n then .sye else .dge) { s with eng := e }

/-- A contained fault of a unit. -/
def unitFault (n cause addr : Nat) (wire : Bool) (s : State) : State :=
  match tfind s.eng.units n with
  | none => containedReport (unitSrc n) cause addr 0 wire true s
  | some u =>
    if u.st == .offline then containedReport (unitSrc n) cause addr 0 wire true s
    else
      let l := u.req.toList
      let s := containedReport (unitSrc n) cause addr (itemsEnded s l) wire false s
      let s := setFsrc (unitSrc n) (fun f => { f with isol := true }) s
      let s := abortAll (unitSrc n) l (modUnit n (fun u => { u with faults := u.faults + 1, req := none }) s)
      unitOffline n { s with eng := { s.eng with lastUnit := n, lastSrc := unitSrc n } }

/-- A lane goes OFFLINE; the LANE_TEST requests that wait for it end (log 67). -/
def laneOffline (n : Nat) (s : State) : State :=
  let s := modLane n (fun l => { l with st := .offline, mode := .idle, ops := [] }) s
  let b := match s.bne.resv with
    | some (l, id) => if l == n then { s.bne with resv := none } else { s.bne with resv := some (l, id) }
    | none => s.bne
  let q := b.queue.filter (fun r => r.lane == some n)
  drainBne (abortAll (laneSrc n) q { s with
    bne := { b with queue := b.queue.filter (fun r => r.lane != some n) }, eng := { s.eng with offBne := laneSrc n } })

/-- A contained fault of a lane. -/
def laneFault (n cause addr : Nat) (wire : Bool) (s : State) : State :=
  match tfind s.bne.lanes n with
  | none => containedReport (laneSrc n) cause addr 0 wire true s
  | some x =>
    if x.st == .offline then containedReport (laneSrc n) cause addr 0 wire true s
    else
      let l := x.ops.map (·.req)
      let s := containedReport (laneSrc n) cause addr (itemsEnded s l) wire false s
      let s := setFsrc (laneSrc n) (fun f => { f with isol := true }) s
      laneOffline n (abortAll (laneSrc n) l (modLane n (fun x => { x with fault := laneSrc n }) s))

/-! ## Lookups of a request (05 R116, 09 R240-R245) -/

/-- What the lookups of a request come to. -/
inductive Took where
  | ready (r : Request) (s : State)
  | refuse (status detail : Nat) (s : State)
  /-- waits for a block of uses of a slot -/
  | wait (slot : Nat) (r : Request) (s : State)
  /-- a slot's tag did not match -/
  | broken (s : State)

/-- Asks for a block of uses: the active manager records it with its standby, any other part asks the manager (R244). None
where no use can be had. -/
def askLease (k : KeyReq) (p : Slot) (s : State) : Option State :=
  let s' := count 0xAA none s
  if s.vks.leaseW.any (fun e => e.1 == k.idx) then some s
  else if isActive s then
    if p.unleased == 0 then none
    else
      let n := min 256 p.unleased
      let s' := imgPutSlot k.idx (putSlot k.idx { p with unleased := p.unleased - n } s')
      some (sendOn 4 (.leaseRecord k.idx n) { s' with vks := { s'.vks with leaseP := s'.vks.leaseP ++ [(k.idx, myId s, n)] } })
  else if managerReachable s then
    let ep := ((tfind s.hier.placed k.tenant).map (·.epoch)).getD 0
    some (sendManager (.leaseRequest { fromId := myId s, tenant := k.tenant, epoch := ep, slot := k.idx }) s')
  else none

/-- The material of a passed lookup: an overflow object comes from the cellar (08 R208, R214). -/
def material (s : State) (p : Slot) : Option Bytes :=
  if !p.ovfl then some p.key
  else if s.clc.st != .opened then none
  else (tfind s.clc.objects (fld p.key 0 4)).map (·.key)

/-- A lookup answers its request's lookup failure. -/
def tookFail (k : KeyReq) (status detail : Nat) (s : State) : Took := .refuse status detail (lookupFailed k.tenant status s)

/-- A passed lookup: charge, policy word, stamp of a slot under the first key. -/
def deliver (k : KeyReq) (p : Slot) (r : Request) (s : State) : Option (Request × State) :=
  let st := if r.got.isEmpty then stampUnder s k.idx else r.stamp
  (material s p).map (fun m => ({ r with got := r.got ++ [(policyOf p, m)], stamp := st }, charge k s))

/-- The lookups still to make, in order. -/
def takeGo : List KeyReq → Request → State → Took
  | [], r, s => .ready r s
  | k :: l, r, s =>
    let pass (p : Slot) (s : State) : Took :=
      match deliver k p r s with
      | some u => takeGo l u.1 u.2
      | none => .refuse 0x0802 2 (charge k s)
    match findKey s k with
    | .pass p => pass p s
    | .fail st d => tookFail k st d s
    | .broken => .broken (slotFatal k.idx s)
    | .lease p =>
      if isActive s && !hasStandby s && p.unleased != 0 then
        let s := topUp k.idx (count 0xAA none s)
        pass (getSlot s k.idx) s
      else
        match askLease k p s with
        | some s => .wait k.idx r s
        | none => tookFail k 0x0304 0 s

/-- What is checked of a new slot once the lookups are made (06 R159 step 3); LIFE becomes the expiry cycle. -/
def takeDest (r : Request) (s : State) : Took :=
  match r.dest with
  | none => .ready r s
  | some d =>
    let par := if d.fromKey then (r.keys.head?.map (·.idx)).getD 0 else tenantRoot s d.tenant
    let st := if d.fromKey then r.stamp else stampUnder s par
    if (getSlot s par).depth == 6 then .refuse 0x0105 0x0144 s
    else
      match d.life, s.cycle with
      | 0, _ => .ready { r with stamp := st } s
      | _, none => .refuse 0x0402 3 s
      | n, some c => .ready { r with stamp := st, dest := some { d with life := c + n } } s

/-- A cache fill reads its slot (11 R305). -/
def takeFill (slot : Nat) (r : Request) (s : State) : Took :=
  let p := getSlot s slot
  .ready { r with got := [(policyOf p, p.key)] } s

/-- The lookups of a request, from where they stand. -/
def takeKeys (r : Request) (s : State) : Took :=
  match r.client with
  | .fill i _ => takeFill i r s
  | .item _ =>
    match takeGo (r.keys.drop r.got.length) r s with
    | .ready r s => takeDest r s
    | t => t

/-- HMAC requests of HCACHE slots, with or without states (11 R306, Table 11.9). -/
def countHmac (r : Request) (s : State) : State :=
  let alg := match r.op with
    | .hmac alg _ _ => alg
    | .stream alg _ _ _ => alg
    | _ => 0
  match r.keys with
  | [] => s
  | k :: _ =>
    let p := getSlot s k.idx
    if !p.hcache || alg == 0 then s
    else
      let c := p.entry.bind (tfind s.eng.cache ·)
      let hit := (alg == 0x31 && (c.map (·.v256)).getD false) || (alg == 0x33 && (c.map (·.v512)).getD false)
      if hit then count 0x7A (some r.tenant) s
      else count 0x7B (some r.tenant) (eachCopy (fun c => { c with hcmiss := satAdd max32 c.hcmiss 1 }) s)

/-! ## Blocks (11 R300, R301) -/

/-- Blocks or permutations of a hash over `n` bytes. -/
def hashBlocks (alg outlen n : Nat) : Nat :=
  match alg with
  | 0x01 => (n + 8) / 64 + 1
  | 0x02 => (n + 8) / 64 + 1
  | 0x03 => (n + 16) / 128 + 1
  | 0x04 => (n + 16) / 128 + 1
  | 0x11 => n / 136 + 1
  | 0x12 => n / 104 + 1
  | 0x13 => n / 72 + 1
  | 0x21 => n / 168 + 1 + (outlen - 1) / 168
  | _ => n / 136 + 1 + (outlen - 1) / 136

/-- The blocks of a request that has its keys, where the spec counts them. -/
def opBlocks (r : Request) : Option Nat :=
  let n := if isTdes (reqKey r 0).1 then 8 else 16
  if !r.chain.isEmpty then none
  else
    match r.op with
    | .cipher _ _ _ _ _ data _ _ => some ((data.length + n - 1) / n)
    | .mac alg padm _ msg => some (if alg == 0x10 then max 1 ((msg.length + n - 1) / n) else (macPad padm n msg).length / n)
    | .hash alg outlen msg => some (hashBlocks alg outlen msg.length)
    | .hmac alg _ msg => some (hashBlocks (if alg ≤ 0x31 then 2 else 4) 0 msg.length + 3)
    | .lookupOnly => some 0
    | _ => none

/-- Counts the blocks of a request; where the spec does not say how many, a free value (log 28). -/
def countBlocks (k : EngineKind) (r : Request) (s : State) : State :=
  let ev := match k with
    | .sye => 0x71
    | .dge => 0x79
  match opBlocks r with
  | some n => countN ev n (some r.tenant) s
  | none =>
    let u := takeFree 65536 s
    countN ev u.1 (some r.tenant) u.2

/-- Message bytes that pass in segments (05 R117). -/
def opLen (op : EngineOp) : Nat :=
  match op with
  | .cipher _ _ _ _ aad data _ _ => aad.length + data.length
  | .mac _ _ _ msg => msg.length
  | .hash _ _ msg => msg.length
  | .hmac _ _ msg => msg.length
  | .stream _ _ part _ => part.length
  | _ => 0

/-- The segments of a message: at least one. -/
def segments (op : EngineOp) : Nat := max 1 ((opLen op + 65535) / 65536)

/-! ## Units take and end requests -/

/-- What becomes of a unit's lookups. -/
def unitTook (n : Nat) (t : Took) : State :=
  match t with
  | .ready r s => countHmac r (modUnit n (fun u => { u with req := some r }) s)
  | .refuse st d s =>
    let r := (tfind s.eng.units n).bind (·.req)
    let s := modUnit n (fun u => { u with req := none }) s
    match r with
    | some r => answerRequest r (.err st d) s
    | none => s
  | .wait slot r s =>
    modUnit n (fun u => { u with req := some r }) { s with vks := { s.vks with leaseW := s.vks.leaseW ++ [(slot, r, n)] } }
  | .broken s => s

/-- A continuation restores its saved context (11 R310). -/
def restoreOn (n : Nat) (r : Request) (s : State) : State :=
  let s := count 0x73 none s
  match s.eng.saved.find? (fun e => e.2.req == r.id && e.2.seg == r.segs) with
  | some e => modUnit n (fun u => { u with req := some r }) { s with eng := { s.eng with saved := terase s.eng.saved e.1 } }
  | none => abortRequest 0x0702 srcSave r (count 0x74 none (eachCopy (fun c => { c with ctxfail := satAdd max32 c.ctxfail 1 }) s))

/-- The PMU event of a request that a unit takes; a fill has its own. -/
def countStart (k : EngineKind) (r : Request) (s : State) : State :=
  match r.client with
  | .item _ => count (match k with | .sye => 0x70 | .dge => 0x78) (some r.tenant) s
  | .fill _ _ => s

/-- A unit takes a request. -/
def startOn (n : Nat) (k : EngineKind) (r : Request) (s : State) : State :=
  if r.cont then restoreOn n r s
  else unitTook n (takeKeys r (countStart k r (modUnit n (fun u => { u with req := some r }) s)))

/-- The request that a unit works on, its lookups made. -/
def workingOn (s : State) (n : Nat) : Option Request :=
  match (tfind s.eng.units n).bind (·.req) with
  | none => none
  | some r => if s.vks.leaseW.any (fun e => e.2.2 == n) then none else some r

/-- A new slot is written with the stamp taken at the lookup (06 R159, R160). -/
def writeNew (r : Request) (d : NewSlot) (type : Nat) (usage : BitVec 16) (expo : Bool) (key : Bytes) (s : State) : State :=
  let gen := (getSlot s d.idx).gen
  let par := if d.fromKey then (r.keys.head?.map (·.idx)).getD 0 else tenantRoot s d.tenant
  let p : Slot :=
    { key := key, type := type, persist := false, xrst := d.xrst, ucnt := d.ucnt != 0, expo := expo, hcache := false, ovfl := false, held := false, usage := usage, owner := d.tenant, parent := par, gen := gen, stamp := r.stamp, ucount := d.ucnt, expiry := if d.life == 0 then never else d.life, tag := 0, entry := none, unleased := 0, gctr := 0 }
  let s := unfree d.idx (putSlot d.idx p s)
  match r.client with
  | .item id => modItem id (fun i => { i with wrote := some d.idx }) s
  | .fill _ _ => s

/-- The result of a request reaches its item. -/
def finish (r : Request) (x : Result) (s : State) : State :=
  if !wanted s r then s
  else
    match x with
    | .ok a => answerRequest r a s
    | .err 0xFFFF _ =>
      match r.client with
      | .item id => itemInternal id s
      | .fill _ _ => s
    | .err st d => answerRequest r (.err st d) s
    | .made type usage expo key extra =>
      match r.dest with
      | none =>
        match r.client with
        | .item id => answerRequest r (.ok extra) (modItem id (fun i => { i with holding := key }) s)
        | .fill _ _ => s
      | some d =>
        let s := writeNew r d type usage expo key s
        answerRequest r (.ok (handleBytes d.idx (getSlot s d.idx).gen ++ zeros 4 ++ extra)) s
    | .fault => s
    | .again => s
    | .kat => s

/-! ## Commands of the SYE and DGE -/

/-- ENGINE_REQUEST_START (05 R116, 11 R309, R314): before the engine context key has come no request runs. -/
def execEngineRequestStart (k : EngineKind) (s : State) : Host.Outcome State Fault Refusal :=
  if noUnits s k then .next (drainKind k s)
  else
    match queueOf s k, freeUnit s k with
    | r :: q, some n => if s.eng.ekey.isNone then .next s else .next (startOn n k r (setQueue k q s))
    | _, _ => .next s

/-- The message of a unit is suspended (05 R117, R119). -/
def suspend (n : Nat) (k : EngineKind) (r : Request) (e : Nat) (s : State) : State :=
  let item := match r.client with
    | .item id => id
    | .fill _ _ => 0
  let r' := { r with segs := r.segs + 1, cont := true }
  let c : SavedCtx := { ctr := s.eng.savectr, req := r.id, item := item, seg := r.segs + 1 }
  let s := { s with eng := { s.eng with saved := tput s.eng.saved e c, savectr := s.eng.savectr + 1 } }
  let s := count 0x72 none (eachCopy (fun c => { c with susp := satAdd max32 c.susp 1 }) s)
  setQueue k (enqueue r' (queueOf s k)) (modUnit n (fun u => { u with req := none }) s)

/-- The lowest free entry of engine context save memory. -/
def freeSave (s : State) : Option Nat := (List.range 1024).find? (fun e => (tfind s.eng.saved e).isNone)

/-- SEGMENT_END (05 R117-R119). -/
def execSegmentEnd (unit : Nat) (s : State) : Host.Outcome State Fault Refusal :=
  match workingOn s unit with
  | none => .next s
  | some r =>
    let k := if isPipe unit then EngineKind.sye else .dge
    if segments r.op ≤ r.segs + 1 then .next s
    else
      let press := (queueOf s k).any (fun q => r.level ≤ q.level) && (freeUnit s k).isNone
      match freeSave s with
      | some e => if press then .next (suspend unit k r e s) else .next (modUnit unit (fun u => { u with req := some { r with segs := r.segs + 1 } }) s)
      | none => .next (modUnit unit (fun u => { u with req := some { r with segs := r.segs + 1 } }) s)

/-- A unit's request ends at its last segment. -/
def unitDone (n : Nat) (s : State) : State :=
  match workingOn s n with
  | none => s
  | some r =>
    match r.client with
    | .fill _ _ => s
    | .item _ =>
      if r.segs + 1 < segments r.op then s
      else
        let s := countBlocks (if isPipe n then .sye else .dge) r (modUnit n (fun u => { u with req := none }) s)
        finish r (compute s.flash.curves r) s

/-- The states of an HMAC cache entry (11 Table 11.4). -/
def cacheStates (key : Bytes) (c : CacheEntry) : CacheEntry :=
  let st (x : Byte) (n : Nat) := (padTo n key).map (· ^^^ x)
  { c with
    v256 := true, v512 := true
    i256 := wordsOut (sha2Chain sha256p iv256 (st 0x36 64)), o256 := wordsOut (sha2Chain sha256p iv256 (st 0x5C 64))
    i512 := wordsOut (sha2Chain sha512p iv512 (st 0x36 128)), o512 := wordsOut (sha2Chain sha512p iv512 (st 0x5C 128)) }

/-- The cache fill that a unit holds: the unit, its request, the slot and its generation. -/
def fillOf (e : Nat × EngineUnit) : Option (Nat × Request × Nat × Nat) :=
  match e.2.req with
  | some r =>
    match r.client with
    | .fill i g => some (e.1, r, i, g)
    | .item _ => none
  | none => none

/-- HCACHE_FILL_WRITEBACK (11 R305): the lowest-numbered unit that holds a fill (log 27). -/
def execHcacheFillWriteback (s : State) : Host.Outcome State Fault Refusal :=
  match s.eng.units.findSome? fillOf with
  | none => .next s
  | some (n, r, i, g) =>
    let s := modUnit n (fun u => { u with req := none }) s
    let p := getSlot s i
    match p.entry with
    | none => .next s
    | some e =>
      if p.gen == g && p.hcache && (tfind s.eng.cache e).map (·.slot) == some i then
        .next { s with eng := { s.eng with cache := tmod s.eng.cache e (cacheStates (((r.got.head?).map (·.2)).getD [])) } }
      else .next s

/-! ## The BNE -/

/-- Sub-lane `i` of a lane is free. -/
def subFree (x : Lane) (i : Nat) : Bool := x.ops.all (fun o => i < o.sub || o.sub + o.width ≤ i)

/-- The first sub-lane of the resource that a lane can give a shape now. -/
def laneFits (x : Lane) (sh : Shape) : Option Nat :=
  if sh.width == 4 then (if x.ops.isEmpty then some 0 else none)
  else if !x.ops.isEmpty && x.mode != .split then none
  else if sh.width == 2 then [0, 2].find? (fun i => subFree x i && subFree x (i + 1))
  else (List.range 4).find? (subFree x)

/-- A lane may take a request: ONLINE, or TESTING for a LANE_TEST that names it, and not reserved for another. -/
def laneOpen (s : State) (n : Nat) (x : Lane) (r : Request) : Bool :=
  (match r.lane with
    | some l => l == n && (x.st == .online || x.st == .testing)
    | none => x.st == .online) &&
  (match s.bne.resv with
    | some (l, id) => l != n || id == r.id
    | none => true)

/-- The type of the first key a request names, as its slot stands. -/
def headType (s : State) (r : Request) : Nat := (r.keys.head?.map (fun k => (getSlot s k.idx).type)).getD 0

def reqShape (s : State) (r : Request) : Shape := shapeOf s.flash.curves r.op (headType s r)

/-- Where a request can start now: the lowest-numbered lane, and in it the lowest sub-lane (log 27). -/
def placeFor (s : State) (r : Request) : Option (Nat × Nat) :=
  s.bne.lanes.findSome? (fun e => if laneOpen s e.1 e.2 r then (laneFits e.2 (reqShape s r)).map (fun i => (e.1, i)) else none)

/-- When a lane's busy resources are all finished. -/
def laneEnd (x : Lane) : Nat := x.ops.foldl (fun a o => max a o.fin) 0

/-- The lane whose resources finish earliest; the lowest number on a tie. -/
def earliest (l : List (Nat × Lane)) : Option Nat :=
  (l.foldl (fun (a : Option (Nat × Nat)) e =>
    match a with
    | none => some (e.1, laneEnd e.2)
    | some u => if laneEnd e.2 < u.2 then some (e.1, laneEnd e.2) else some u) none).map (·.1)

/-- The first request in queue order that needs a pair or a whole lane and finds none free. -/
def mustReserve (s : State) : Option Request :=
  s.bne.queue.find? (fun r => r.lane.isNone && 1 < (reqShape s r).width && (placeFor s r).isNone)

/-- Reservations, or their passing to an earlier request (10 R277). -/
def reserve (s : State) : State :=
  match mustReserve s with
  | none => s
  | some r =>
    match s.bne.resv with
    | some (l, id) => if id == r.id then s else { s with bne := { s.bne with resv := some (l, r.id) } }
    | none =>
      match earliest (s.bne.lanes.filter (fun e => e.2.st == .online)) with
      | none => s
      | some l => count 0x98 none { s with bne := { s.bne with resv := some (l, r.id) } }

/-- The place number of a lane's resource among the waiting lookups. -/
def lanePlace (l i : Nat) : Nat := 64 + 4 * l + i

/-- A request's operation on a lane, found by its first sub-lane. -/
def laneOp (s : State) (l i : Nat) : Option LaneOp := (tfind s.bne.lanes l).bind (fun x => x.ops.find? (·.sub == i))

def dropOp (l i : Nat) (s : State) : State :=
  modLane l (fun x =>
    let o := x.ops.filter (·.sub != i)
    { x with ops := o, mode := if o.isEmpty then .idle else x.mode }) s

def setOp (l i : Nat) (f : LaneOp → LaneOp) (s : State) : State :=
  modLane l (fun x => { x with ops := x.ops.map (fun o => if o.sub == i then f o else o) }) s

/-- The time of an operation: that of the tables, or for the checks that have none a free one up to their bound (10 R290,
R295; log 28). -/
def laneTime (r : Request) (s : State) : Nat × State :=
  match r.op with
  | .curveCheck _ _ => takeFree 60000001 s
  | .katSuite => takeFree 40000001 s
  | _ => (opTime s.flash.curves r, s)

/-- What becomes of a lane's lookups. -/
def laneTook (l i : Nat) (t : Took) : State :=
  match t with
  | .ready r s =>
    let u := laneTime r s
    setOp l i (fun o => { o with req := r, fin := s.now + u.1 }) u.2
  | .refuse st d s =>
    match laneOp s l i with
    | some o => answerRequest o.req (.err st d) (dropOp l i s)
    | none => s
  | .wait slot r s =>
    setOp l i (fun o => { o with req := r }) { s with vks := { s.vks with leaseW := s.vks.leaseW ++ [(slot, r, lanePlace l i)] } }
  | .broken s => s

/-- A lane takes a request: its mode, its lookups. -/
def startLane (l i : Nat) (r : Request) (s : State) : State :=
  let sh := reqShape s r
  let s := { s with bne := { s.bne with
    queue := s.bne.queue.filter (·.id != r.id)
    resv := match s.bne.resv with
      | some (n, id) => if id == r.id then none else some (n, id)
      | none => none } }
  let s := if ((tfind s.bne.lanes l).map (·.mode)) == some sh.mode then s else count 0x9A none s
  let s := modLane l (fun x => { x with mode := sh.mode, ops := x.ops ++ [{ req := r, sub := i, width := sh.width, fin := s.now }] }) s
  laneTook l i (takeKeys r s)

/-- BNE_REQUEST_START (10 R277): reservations first, then the first request in queue order that a resource can take. -/
def execBneRequestStart (s : State) : Host.Outcome State Fault Refusal :=
  let s := reserve (drainBne s)
  match s.bne.queue.findSome? (fun r => (placeFor s r).map (fun p => (r, p))) with
  | none => .next s
  | some (r, p) => .next (startLane p.1 p.2 r s)

/-- What a LANE_TEST's answer begins with: the clock cycles that the operation took (10 R296). -/
def laneAnswer (r : Request) (t : Nat) (x : Result) : Result :=
  match r.lane, x with
  | some _, .ok (.ok b) => .ok (.ok (toBE 4 (t * 16 / 10) ++ zeros 4 ++ b))
  | _, x => x

/-- A lane's operation ends. -/
def laneDone (l i : Nat) (s : State) : State :=
  match laneOp s l i with
  | none => s
  | some o =>
    if s.vks.leaseW.any (fun e => e.2.2 == lanePlace l i) then s
    else
      match compute s.flash.curves o.req with
      | .kat => s
      | .fault => laneFault l causeCompare 0 false s
      | .again =>
        let inst := instOf s o.req.tenant
        let g := genPart inst o.req.holding.length [] s
        setOp l i (fun o => { o with req := { o.req with holding := g.1 }, fin := o.fin + opTime s.flash.curves o.req }) g.2
      | x =>
        let s := s.at_ o.fin
        let s := eachCopy (fun c => { c with lops := tput c.lops l (satAdd max32 (tget c.lops l 0) 1) }) (count (0x80 + l) none s)
        finish o.req (laneAnswer o.req (opTime s.flash.curves o.req) x) (dropOp l i s)

/-! ## Leases that arrive -/

/-- The lookups that wait for a slot go on, in order. -/
def resumeLease (slot : Nat) (s : State) : State :=
  let ws := s.vks.leaseW.filter (fun e => e.1 == slot)
  let s := { s with vks := { s.vks with leaseW := s.vks.leaseW.filter (fun e => e.1 != slot) } }
  ws.foldl (fun s e =>
    if e.2.2 < 64 then unitTook e.2.2 (takeKeys e.2.1 s)
    else laneTook ((e.2.2 - 64) / 4) ((e.2.2 - 64) % 4) (takeKeys e.2.1 s)) s

/-- The lookups that wait for a slot, or for any slot, answer KEY_EXHAUSTED (09 R244). -/
def exhaustLease (p : Nat → Bool) (s : State) : State :=
  let ws := s.vks.leaseW.filter (fun e => p e.1)
  let s := { s with vks := { s.vks with leaseW := s.vks.leaseW.filter (fun e => !p e.1) } }
  ws.foldl (fun s e =>
    let s := lookupFailed e.2.1.tenant 0x0304 s
    if e.2.2 < 64 then unitTook e.2.2 (.refuse 0x0304 0 s)
    else laneTook ((e.2.2 - 64) / 4) ((e.2.2 - 64) % 4) (.refuse 0x0304 0 s)) s

end Sys2Proof.Machine
end

