-- ==== Sys2Proof/Machine/Reset.lean ====
section
/-! DEFINITION. Resets of the part and start-up up to phase 4h: what each kind of reset keeps, the life-cycle vote, the
root, the choice of an image, the cellar's state, the vine image (04 R83, 08 R213, 09 R247, R272, 14 R366, 15 R386-R392,
16 R417, 17 R437-R442, 18 R465-R468, 04 R491). -/

set_option Elab.async false

namespace Sys2Proof.Machine

/-! ## Life-cycle codes, rows, vote (15 R386-R391) -/

/-- Life-cycle codes (15 Table 15.1). -/
def lcCode (l : LifeCycle) : Nat :=
  match l with
  | .blank => 0x0000
  | .test => 0x0F3C
  | .perso => 0x33C6
  | .field => 0x5A69
  | .analysis => 0x6C93
  | .void => 0xFFFF

/-- The state of a code. -/
def lcOf (code : Nat) : Option LifeCycle :=
  [LifeCycle.blank, .test, .perso, .field, .analysis, .void].find? (fun l => lcCode l == code)

/-- The row value of a state: the code, then its complement. -/
def lcRow (l : LifeCycle) : Nat := lcCode l * 65536 + (65535 - lcCode l)

/-- A row's state: none where bits 15:0 are not the complement of bits 31:16, or the code is none of Table 15.1. -/
def rowState (row : Nat) : Option LifeCycle :=
  if row % 65536 + row / 65536 == 65535 then lcOf (row / 65536) else none

/-- The value of a copy (R386). -/
def copyValue (rows : List Nat) : Option LifeCycle :=
  match rows.getLast? with
  | none => some .blank
  | some r => rowState r

/-- The last valid intent row. -/
def intentValue (rows : List Nat) : Option LifeCycle := rows.reverse.findSome? rowState

/-- The transitions of R388. -/
def permitted (a b : LifeCycle) : Bool :=
  match a, b with
  | .blank, .test => true
  | .test, .perso => true
  | .perso, .field => true
  | .field, .analysis => true
  | .analysis, .void => true
  | .perso, .void => true
  | .field, .void => true
  | _, _ => false

def copyValues (o : Otp) : List (Option LifeCycle) := [copyValue o.copy1, copyValue o.copy2, copyValue o.copy3]

/-- The code that at least two copies hold (R387). -/
def majority (o : Otp) : Option LifeCycle :=
  match copyValues o with
  | [a, b, c] => if a.isSome && (a == b || a == c) then a else if b.isSome && b == c then b else none
  | _ => none

/-- The state that a start-up rolls forward into, if it does (R391). -/
def rollInto (o : Otp) : Option LifeCycle :=
  match intentValue o.intent with
  | none => none
  | some i =>
    match majority o with
    | some s => if i != s && permitted s i then some i else none
    | none => if (copyValues o).any (fun v => match v with | some v => permitted v i | none => false) then some i else none

/-- The state in force without a roll-forward. -/
def voted (o : Otp) : LifeCycle :=
  match intentValue o.intent, majority o with
  | none, some s => s
  | some i, some s => if i == s then s else .void
  | _, none => .void

/-- A copy brought to a state: a partial row is programmed again, a copy in the former state takes its next row. -/
def completeCopy (l : LifeCycle) (rows : List Nat) : List Nat :=
  match copyValue rows with
  | none => rows.dropLast ++ [lcRow l]
  | some v => if v == l then rows else rows ++ [lcRow l]

/-- Programs the three copies to a state. -/
def completeCopies (l : LifeCycle) (s : State) : State :=
  { s with otp := { s.otp with
    copy1 := completeCopy l s.otp.copy1, copy2 := completeCopy l s.otp.copy2, copy3 := completeCopy l s.otp.copy3, force := l } }

/-! ## Sap and root (17 R441) -/

/-- Clears sap (14 R365, Table 14.5). -/
def clearSap (s : State) : State := { s with bk := { s.bk with sap := zeros 64, sapCrc := 0 } }

/-- Sap is valid. -/
def sapValid (s : State) : Bool := !isZero s.bk.sap && (crc32c s.bk.sap).toNat == s.bk.sapCrc

/-- A fresh sap of 64 conditioner bytes: free values (log 62). -/
def freshSap (s : State) : State :=
  let u := takeFree (2 ^ 512) s
  let sap := toBE 64 u.1
  { u.2 with bk := { u.2.bk with sap := sap, sapCrc := (crc32c sap).toNat } }

/-- The rootstock (17 R441). -/
def rootstock (s : State) : Bytes := hkdf384 (s.otp.fuse.getD (zeros 32) ++ s.bk.sap) (ascii "VORDAR ROOTSTOCK") 32

/-- The maquette root (09 Table 9.13). -/
def maquetteRoot : Bytes := sha256 (ascii "VORDAR VD9120 MAQUETTE ROOT")

def setRoot (u : RootUse) (root : Bytes) (s : State) : State := { s with vks := { s.vks with use := u, root := root } }

/-- The root of a start-up (17 R441). -/
def buildRoot (s : State) : State :=
  match s.otp.force with
  | .blank => setRoot .none_ [] s
  | .void => setRoot .none_ [] s
  | .test => setRoot .maquette maquetteRoot s
  | .analysis => setRoot .maquette maquetteRoot s
  | _ =>
    if sapValid s then setRoot .rootstock (rootstock s) s
    else
      let s := freshSap { s with grd := { s.grd with sapClr := true }, boot := { s.boot with freshroot := true } }
      setRoot .rootstock (rootstock s) s

/-! ## Erasures (15 Table 15.2) -/

/-- The QSPI flash user region is erased: update state, vine image and journal where they lie there (17 Table 17.1). -/
def eraseFlash (s : State) : State :=
  { s with
    flash := { s.flash with curves := [], crs := [], cas := [], journal := [] }
    vks := { s.vks with img := if s.vks.imgIn then s.vks.img else none } }

/-- The cellar root record and the freshness record are zeroed. -/
def eraseRecords (s : State) : State :=
  { s with bk := { s.bk with root := none, fresh := { half := false, count := 0, chain := zeros 32, crcOk := false } } }

/-- A fresh fuse secret from the conditioner, where none is burnt: a free value (log 62). -/
def burnFuse (s : State) : State :=
  match s.otp.fuse with
  | some _ => s
  | none =>
    let u := takeFree (2 ^ 256) s
    { u.2 with otp := { u.2.otp with fuse := some (toBE 32 u.1) } }

/-- The erasures and other effects of a transition (15 Table 15.2); those of on-chip SRAM are the reset's. -/
def transitionEffects (a b : LifeCycle) (s : State) : State :=
  match b with
  | .blank => s
  | .test => s
  | .perso => freshSap (burnFuse (eraseFlash s))
  | .field => { s with otp := { s.otp with klock := true } }
  | .analysis => eraseRecords (clearSap (eraseFlash s))
  | .void =>
    let s := if a == .analysis then eraseFlash s else eraseRecords (clearSap (eraseFlash s))
    { s with otp := { s.otp with fuse := some (List.replicate 32 0xFF) } }

/-- The vote, and the roll-forward where it applies (15 R387, R391). -/
def lifeCycleVote (s : State) : State :=
  match rollInto s.otp with
  | some i =>
    let former := (majority s.otp).getD (if i == .void then .field else .void)
    let s := completeCopies i (transitionEffects former i s)
    { s with boot := { s.boot with rollfwd := true } }
  | none => { s with otp := { s.otp with force := voted s.otp }, boot := { s.boot with rollfwd := false } }

/-! ## Rule sets (05 R121-R127) -/

def Mpu.reset : Mpu := { a := [], b := [], actB := false, pend := false, vaddr := 0, vright := none }

def getMpu (s : State) (m : Nat) : Mpu := tget s.dsp.mpus m .reset
def setMpu (m : Nat) (f : Mpu → Mpu) (s : State) : State :=
  { s with dsp := { s.dsp with mpus := tput s.dsp.mpus m (f (getMpu s m)) } }

/-- A window rule (Table 5.4): start and length in 64-byte units. -/
def windowRule (base len : Nat) (r w : Bool) : BitVec 64 :=
  BitVec.ofNat 64 (len % 2 ^ 19 * 2 ^ 32 + base % 2 ^ 19 * 2 ^ 13 + 2 * b2n w + b2n r)

/-- Writes a master's inactive set and makes it active (R125). -/
def swapIn (m : Nat) (set : Table (BitVec 64)) (s : State) : State :=
  setMpu m (fun u => if u.actB then { u with a := set, actB := false } else { u with b := set, actB := true }) s

/-- The debug port's master number (16 Table 16.2). -/
def debugMaster : Nat := 0x38

/-- The slots that a debug right opens, and whether for writes (15 Table 15.6, 05 Table 5.2; log 61). -/
def rightSlots (i : Nat) : List (Nat × Bool) :=
  match i with
  | 3 => [(50, true)]
  | 4 => [(42, false)]
  | 5 => [(38, false)]
  | 6 => [(40, true)]
  | 9 => [(43, true)]
  | 10 => [(46, true)]
  | 11 => [(41, true)]
  | 12 => (List.range 14).map (fun k => (26 + k, true))
  | 13 => [(48, false)]
  | 14 => [(47, false)]
  | _ => []

/-- The debug port's rule set for its rights. -/
def debugRules (rights : BitVec 16) : Table (BitVec 64) :=
  let w : Table (BitVec 64) := if rights.getLsbD 7 then [(0, windowRule 0 458752 true true)] else []
  (List.range 15).foldl (fun (t : Table (BitVec 64)) i =>
    if rights.getLsbD i then
      (rightSlots i).foldl (fun (t : Table (BitVec 64)) e =>
        tput t e.1 (tget t e.1 0 ||| (if e.2 then 3 else 1))) t
    else t) w

/-- The debug gate opens, with rights (15 R396, R398 step 6). -/
def openDebug (rights : BitVec 16) (s : State) : State :=
  swapIn debugMaster (debugRules rights) { s with grd := { s.grd with dbgOpen := true, rights := rights } }

/-! ## What a reset keeps -/

/-- What a reset keeps: the queue, flow and decanter tables, the recorder ring, the slot table, PCIe configuration space. -/
structure Kept where
  tables : Bool
  ring   : Bool
  slots  : Bool
  config : Bool
  deriving DecidableEq, Repr

/-- A class A response and the recovery sequencer (R83, 09 R247, 14 R366, 16 R420, 04 R491). -/
def Kept.classA : Kept := { tables := true, ring := true, slots := true, config := true }
def Kept.classB : Kept := { tables := true, ring := true, slots := false, config := true }
def Kept.classC : Kept := { tables := false, ring := false, slots := false, config := true }
/-- PERST_N, RESET_N, RESTART, the end of a transition, loss of power. -/
def Kept.nothing : Kept := { tables := false, ring := false, slots := false, config := false }

/-- Every function's lost mark (R83). -/
def allLost : BitVec 65 := BitVec.allOnes 65

/-- A context as a reset that keeps it leaves it: nobody waits for its reset or freeze any more. -/
def Ctx.kept (c : Ctx) : Ctx := { c with waiters := [], freezer := [] }

/-- A pair as a reset that keeps it leaves it: fetch waits for the RMARK entry. -/
def Queue.kept (p : Queue) : Queue := { p with delers := [], rmark := true }

def resetHfe (k : Kept) (h : Hfe) : Hfe :=
  let b : Hfe :=
    if k.tables then
      { Hfe.reset with ctxs := tmap h.ctxs (fun _ c => c.kept), queues := tmap h.queues (fun _ p => p.kept), lost := h.lost }
    else { Hfe.reset with lost := allLost }
  if k.config then
    { b with vfen := h.vfen, numvf := h.numvf, width := h.width, speed := h.speed, msix := h.msix, msixFn := h.msixFn }
  else b

/-- An item that a reset ends: it holds nothing, and its reply waits for READY (R83). -/
def Item.aborted (status detail : Nat) (it : Item) : Item :=
  { outerItem it with phase := .complete, reply := some { status := status, detail := detail, payload := [] }, slot := none, holding := [], windows := [], answers := [] }

/-- Work that other parts have forwarded is no work of a kept table: their items end of themselves (09 R254). -/
def resetDsp (k : Kept) (status detail : Nat) (d : Dsp) : Dsp :=
  if k.tables then
    { Dsp.reset with
      items := tmap (d.items.filter (fun e => e.2.fn ≤ 64)) (fun _ it => it.aborted status detail), flows := d.flows, arr := d.arr }
  else { Dsp.reset with arr := d.arr }

/-- The table of units at a reset: all TESTING (11 Table 11.8). -/
def resetUnits : Table EngineUnit := (List.range 48).map (fun n => (n, .reset))

/-- The slot table over a reset: kept, or lost to a table of unspecified generations (09 R235, R247). -/
def resetVks (k : Kept) (v : Vks) : Vks :=
  let v := { v with reserved := [], sweep := 0x100, leaseW := [], leaseP := [] }
  if k.slots then v else { v with slots := [], epoch := v.epoch + 1, freed := [] }

/-- Batches not yet durable are lost (08 R218). -/
def resetClc (c : Clc) : Clc :=
  { c with
    off0 := false, off1 := false, batch := .empty (c.next.num + 1), next := .empty (c.next.num + 2), closing := none, copies := [], lag := false, replay := false, repairs := [], bad := [], reads := [] }

/-- Hierarchy state is kept (log 58); links, copies and roles begin again. -/
def resetHier (now : Nat) (h : Hier) : Hier :=
  { Hier.reset with
    roster := h.roster, hctr := h.hctr, hrecs := h.hrecs, hoff := h.hoff, mterm := h.mterm, cseq := h.cseq, closed := h.cseq, dir := h.dir, placed := h.placed, gseed := h.gseed, refs := h.refs, owed := h.owed, undrivenAt := now, heard := now }

/-- The collector and the recorder over a reset (16 R417-R421). A halted collector and its held ERR_N stay for an internal
reset (13 R358). -/
def resetFcr (k : Kept) (cause : ResetCause) (f : Fcr) : Fcr :=
  let seq := cause == .sequencer
  let stay := f.st == .halted && k.config
  let b : Fcr := { Fcr.reset with
    st := if stay then .halted else .startup, locked := stay, fatal := seq, hblate := seq && f.lastF == 0x0F02, wasF := f.lastC * 65536 + f.lastF, lastF := if seq then f.lastF else 0, lastC := f.lastC, ridx := f.ridx, jpos := f.jpos, smbAlert := f.smbAlert }
  if k.ring then { b with ring := f.ring, unfl := f.unfl } else b

/-- Debug, power states and what a start-up finds begin again (15 R399). -/
def resetGrd (g : Guard) : Guard :=
  { g with
    pend := 0, cold := false, sapClr := false, batRec := false, dbgOpen := false, rights := 0, erased := false, dbgAcc := [], power := .p0, p1en := false, p1idle := 10, wake := 0, p2item := none, p2go := false }

/-- GEN_BOOT and the GEN_AQ registers; those stay with a queue pair 0 that is kept. -/
def resetBoot (k : Kept) (cause : ResetCause) (status detail : Nat) (b : Boot) : Boot :=
  let r : Boot := { Boot.reset with
    cause := cause, straps := b.straps, env := b.env, perst := b.perst, pwrfail := b.pwrfail, pwrfailAt := b.pwrfailAt }
  if k.tables then
    { r with kept := some (status, detail), aqsql := b.aqsql, aqsqh := b.aqsqh, aqcql := b.aqcql, aqcqh := b.aqcqh, aqcfg := b.aqcfg }
  else r

/-- An update that had not reached its durable point is lost (17 R444). -/
def resetFlash (f : Flash) : Flash := { f with upd := none }

/-- A slot with XRST is freed at every reset (09 R247). -/
def freeXrst (s : State) : State :=
  (s.vks.slots.filter (fun e => e.2.xrst && !e.2.free)).foldl (fun (s : State) (e : Nat × Slot) => wipeSlot e.1 s) s

/-- Resets the part. `status` and `detail` are those of the replies that kept items end with (R83). -/
def partReset (cause : ResetCause) (k : Kept) (status detail : Nat) (s : State) : State :=
  let s := if k.slots then freeXrst s else s
  { s with
    grd := resetGrd s.grd, boot := resetBoot k cause status detail s.boot, flash := resetFlash s.flash,
    cyu := { Cyu.reset with period := s.cyu.nextPer, nextPer := s.cyu.nextPer, lostSeen := s.cyu.lostSeen },
    hfe := resetHfe k s.hfe, dsp := resetDsp k status detail s.dsp, eng := { Eng.reset with reqs := s.eng.reqs }, bne := .reset,
    vks := resetVks k s.vks, ent := { Ent.reset with draws := s.ent.draws }, clc := resetClc s.clc, hier := resetHier s.now s.hier,
    fcr := resetFcr k cause s.fcr, pmu := [], host := .reset, cp0 := .reset, cp1 := .reset, dbg := .reset }

/-! ## Start-up (17 Table 17.3) -/

/-- Phase 1h: tables, slots and ring that fail their checks are lost (R83, 09 R247, 16 R420). -/
def checkKept (s : State) : State :=
  let e := s.boot.env
  let slotsBad := !e.slotsOk || (s.boot.cause == .sequencer && s.fcr.lastF == 0x0800)
  let s := if slotsBad then { s with vks := { s.vks with slots := [], epoch := s.vks.epoch + 1, freed := [] } } else s
  let s := if e.ringOk then s else { s with fcr := { s.fcr with ring := [], unfl := [] } }
  if s.boot.kept.isSome && !e.tablesOk then
    { s with
      hfe := resetHfe { Kept.classA with tables := false } s.hfe, dsp := { Dsp.reset with arr := s.dsp.arr }, boot := { Boot.reset with
        cause := s.boot.cause, straps := s.boot.straps, env := s.boot.env, perst := s.boot.perst, pwrfail := s.boot.pwrfail, pwrfailAt := s.boot.pwrfailAt, rollfwd := s.boot.rollfwd } }
  else s

/-- Noise sources in their startup test, with the cut-offs of the update state or the factory's (12 R322, Table 12.2). -/
def startSources (s : State) : State :=
  { s with ent := { s.ent with
    src := (List.range 4).map (fun n => (n, { st := .startup, fails := 0, apt := false, cr := tget s.flash.crs n 41, ca := tget s.flash.cas n 795 })) } }

/-- An image may run: it passes R435, its SVN not below the floor. -/
def imageOk (ok : Bool) (floor : Nat) (i : Image) : Bool := ok && floor ≤ i.svn

def ImageKind.slot (k : ImageKind) (b : Bool) : Image := if b then k.b else k.a
def ImageKind.current (k : ImageKind) : Image := k.slot k.curB

/-- Armature slot A or B passes. -/
def armOk (s : State) (b : Bool) : Bool :=
  imageOk (if b then s.boot.env.imageBOk else s.boot.env.imageAOk) s.otp.floorArm (s.flash.arm.slot b)

/-- The Armature image that boots (R440); phase 6h where no slot passes. -/
def chooseImage (s : State) : State :=
  let k := s.flash.arm
  let trial := k.pend && !k.tried
  let fell := k.pend && k.tried
  let want := if trial then !k.curB else k.curB
  let k := if trial then { k with tried := true } else if fell then { k with pend := false, tried := false } else k
  let s := { s with flash := { s.flash with arm := k } }
  if armOk s want then { s with boot := { s.boot with slotB := want, trial := trial, fellback := fell } }
  else if armOk s (!want) then { s with boot := { s.boot with slotB := !want, trial := false, fellback := fell } }
  else { s with boot := { s.boot with phase := 6, slotB := false, trial := false, fellback := fell } }

/-- Units TESTING, lanes TESTING with the current image loaded, groups online with theirs (Tables 10.9, 11.8, R446). -/
def loadUnits (s : State) : State :=
  { s with
    eng := { s.eng with units := resetUnits }
    bne := { s.bne with lanes := (List.range 24).map (fun n => (n, { Lane.reset with st := .testing })) }
    dsp := { s.dsp with groups := (List.range 8).map (fun g => (g, { st := .online, ver := s.flash.svc.current.ver })) } }

/-- The update state, where a copy of it is valid (R434). -/
def loadUpdateState (s : State) : State :=
  if s.boot.env.updateOk then s else { s with flash := { s.flash with curves := [], crs := [], cas := [] } }

/-- The plinth burns the raise bits that the class copy holds and OTP lacks (14 R364). -/
def burnRaises (s : State) : State :=
  let mask (p : Nat → Bool) : BitVec 20 :=
    s.bk.classes.foldl (fun (a : BitVec 20) (e : Nat × Nat) => if p e.2 then a ||| BitVec.ofNat 20 (2 ^ e.1) else a) 0
  { s with otp := { s.otp with
    raiseB := s.otp.raiseB ||| mask (fun c => 2 ≤ c), raiseC := s.otp.raiseC ||| mask (fun c => 3 ≤ c) } }

/-! ## The cellar at start-up (08 R202, R204, R213, R218) -/

/-- The page count of a cellar on some drives (R204). -/
def pageCount (a b : Drive) : Nat :=
  min (2 ^ 30)
    (if a.usable && b.usable then 2 * min a.pages b.pages else if a.usable then a.pages else if b.usable then b.pages else 0)

/-- A drive that is fitted and fails a requirement is recorded (R202). -/
def driveRecord (n : Nat) (d : Drive) (s : State) : State := if d.pages != 0 && !d.usable then cellarRecord 2 n s else s

/-- A new format: superblocks with a format serial, a tree of zeros, committed serial 1 (Table 8.3, R210); the contents of
an earlier format are gone (17 R450). -/
def formatCellar (serial : Nat) (s : State) : State :=
  let r : RootRec := { cserial := 1, croot := zeros 32, pserial := 1, proot := zeros 32, logdig := zeros 32, crcOk := true }
  let e := { s.boot.env with superOk := true, treeOk := true, logOk := true }
  { s with
    bk := { s.bk with root := some r }
    boot := { s.boot with env := e }
    clc := { s.clc with
      st := .opened, format := serial, fmtRoot := s.vks.root, pages := pageCount s.clc.drive0 s.clc.drive1, vault := [], shares := [], sessions := [], objects := [], journal := [] } }

/-- The superblock passes under the keys of the root in use. -/
def superValid (s : State) : Bool := s.boot.env.superOk && s.clc.fmtRoot == s.vks.root && s.clc.pages != 0

/-- CLOSED at start-up: severity 3 record. -/
def closedAtStart (s : State) : State := cellarRecord 3 0 { s with clc := { s.clc with st := .closed } }

/-- The commit log is replayed (R218). -/
def replayLog (r : RootRec) (s : State) : State :=
  { s with
    bk := { s.bk with root := some { r with cserial := r.pserial, croot := r.proot } }
    clc := { s.clc with st := .opened, replay := true } }

/-- Table 8.3 at power-up. A part without a root opens and formats nothing (15 Table 15.4; log 63). -/
def cellarStart (s : State) : State :=
  let e := s.boot.env
  let s := { s with clc := { s.clc with drive0 := e.drive0, drive1 := e.drive1, st := .absent } }
  let s := driveRecord 1 e.drive1 (driveRecord 0 e.drive0 s)
  let any := e.drive0.usable || e.drive1.usable
  match s.bk.root with
  | none =>
    if !any then s
    else if s.vks.use == .none_ || superValid s then closedAtStart s
    else
      let u := takeFree (2 ^ 64) s
      formatCellar u.1 u.2
  | some r =>
    if !r.crcOk || !any || s.vks.use == .none_ || !superValid s then closedAtStart s
    else if r.pserial == r.cserial then
      (if e.treeOk then { s with clc := { s.clc with st := .opened } } else closedAtStart s)
    else if e.logOk then replayLog r s
    else closedAtStart s

/-! ## The vine image at start-up (09 R272, 17 R442) -/

/-- The image passes its verification: found where it lies, under the root in use, as the freshness record says. -/
def imageVerifies (s : State) (m : VineImage) : Bool :=
  let f := s.bk.fresh
  s.boot.env.vineOk && f.crcOk && f.half == s.vks.half && f.count == s.vks.count && f.chain == s.vks.chain &&
    m.root == s.vks.root && s.vks.imgIn == (s.clc.st == .opened)

/-- A slot of the image whose ancestors stand in it, generation by generation. -/
def imageLine (m : VineImage) (rootGen : Nat) : List Nat → Nat → Bool
  | [], a => a == 0
  | g :: r, a =>
    if a == 0 then g == rootGen && r.isEmpty
    else
      match tfind m.slots a with
      | none => false
      | some p => p.gen == g && imageLine m rootGen r p.parent

/-- The persistent slots return, but for orphans; HMAC cache entries are given and filled. -/
def restoreSlots (m : VineImage) (s : State) : State :=
  let live := m.slots.filter (fun e => imageLine m (genOf s 0) (e.2.stamp.filter (· != 0)) e.2.parent)
  live.foldl (fun (s : State) (e : Nat × Slot) => giveEntry e.1 (putSlot e.1 (imgSlot e.2) s)) s

/-- A tenant's persistent counters as an image gives them; none where it gives none. -/
def tenantFromImage (m : VineImage) (t : Nat) (e : Tenant) : Tenant :=
  match tfind m.tenants t with
  | some x => { e with ctr := x.ctr, recs := x.recs, officers := x.officers, map := x.map, mserial := x.mserial, mdigest := x.mdigest }
  | none => { e with ctr := 0, recs := [], officers := none, map := none, mserial := 0, mdigest := [] }

/-- The image fails: the part holds no persistent slot and discards it (R442, 09 R269). -/
def imageFails (s : State) : State :=
  let none_ := VineImage.empty []
  let s := (s.vks.slots.filter (fun e => e.2.persist)).foldl (fun (s : State) (e : Nat × Slot) => wipeSlot e.1 s) s
  { s with
    boot := { s.boot with vinefail := true }
    vks := { s.vks with img := none, imgSt := 2, half := false, logBytes := 0, count := 0, chain := zeros 32, hwm := 0 }
    hier := { s.hier with
      dir := tmap s.hier.dir (fun t e => tenantFromImage none_ t e), gseed := [], placed := tmap s.hier.placed (fun _ p => { p with full := false }) } }

/-- The slots with HCACHE of a table that was kept are filled again. -/
def refillCache (s : State) : State :=
  (s.vks.slots.filter (fun e => e.2.hcache)).foldl (fun (s : State) (e : Nat × Slot) => giveEntry e.1 s) s

/-- Phase 4h: the vine image is verified and applied where the slot table was lost. -/
def vineStart (s : State) : State :=
  match s.vks.img with
  | none => refillCache { s with vks := { s.vks with imgSt := 0 } }
  | some m =>
    if !imageVerifies s m then refillCache (imageFails s)
    else
      let st := if s.vks.use == .maquette then 3 else 1
      let s := { s with
        vks := { s.vks with imgSt := st, hwm := m.hwm }
        hier := { s.hier with dir := tmap s.hier.dir (fun t e => tenantFromImage m t e), gseed := m.tkeySeed } }
      if s.vks.slots.isEmpty then restoreSlots m s else refillCache s

/-- The damage that start-up has found is found once: what failed is gone, or has been written anew. -/
def envUsed (e : BootEnv) : BootEnv := { e with slotsOk := true, tablesOk := true, ringOk := true, vineOk := true, updateOk := true }

/-- Every kept context's instance is instantiated again (R83). -/
def renewInsts (s : State) : State :=
  s.hfe.ctxs.foldl (fun (s : State) (e : Nat × Ctx) =>
    match e.2.inst with
    | some i => instantiate i e.1 s
    | none => s) s

/-- Without an image the plinth serves PF queue pair 0 alone: kept tables are lost (R440). -/
def plinthOnly (s : State) : State :=
  { s with
    hfe := { resetHfe { Kept.classA with tables := false } s.hfe with lost := if s.boot.kept.isSome then allLost else s.hfe.lost }
    dsp := { Dsp.reset with arr := s.dsp.arr, mpus := s.dsp.mpus }
    boot := { s.boot with kept := none, aqcfg := if s.boot.kept.isSome then 0xFF00 else s.boot.aqcfg } }

/-- The reserved ROLE value is recorded (13 Table 13.1). -/
def roleRecord (s : State) : State :=
  match s.boot.straps with
  | some (3, _) => armatureRecord 2 srcArmature s
  | _ => s

/-- BATWARN's record, once per start-up (14 R377). -/
def batCheck (s : State) : State :=
  if s.grd.vbat < 2600 && !s.grd.batRec then
    armatureRecord 1 srcArmature { s with grd := { s.grd with batWarn := true, batRec := true } }
  else { s with grd := { s.grd with batWarn := s.grd.vbat < 2600 } }

/-- Armature starts: phases 2h to 4h. -/
def startArmature (s : State) : State :=
  let s := cellarStart (linksUp (roleRecord (loadUnits (loadUpdateState s))))
  let s := { s with boot := { s.boot with closed := s.clc.st == .closed } }
  let s := batCheck (renewInsts (vineStart s))
  { s with boot := { s.boot with phase := 4, env := envUsed s.boot.env }, fcr := { s.fcr with beatAt := some s.now } }

/-- The part may start: the guard watches, PERST_N is released, no reset is put off, the sequencer has not failed (14 R373,
18 R465, R468, 13 R358). -/
def mayStart (s : State) : Bool :=
  s.grd.st == .watching && !s.boot.perst && s.boot.deferred.isNone && s.fcr.st != .halted && s.boot.straps.isSome

/-- Start-up from the plinth to phase 4h. -/
def startUp (s : State) : State :=
  if !mayStart s then s
  else
    let s := lifeCycleVote { s with boot := { s.boot with phase := 1 }, grd := { s.grd with cold := s.grd.coldNext, coldNext := false } }
    let s := { s with hier := { s.hier with portsHeld := s.otp.force != .perso && s.otp.force != .field } }
    let s := startSources (buildRoot (checkKept (burnRaises s)))
    let s := if s.otp.force == .blank then openDebug 0x7FFF s else s
    let s := chooseImage s
    if s.boot.phase == 6 then plinthOnly s else startArmature s

/-- A reset after which the part starts at once. -/
def restart (cause : ResetCause) (k : Kept) (status detail : Nat) (s : State) : State := startUp (partReset cause k status detail s)

/-! ## The active manager gives up control (13 R351) -/

/-- Service groups out of service. -/
def groupsOff (s : State) : Nat := s.dsp.groups.countP (fun e => e.2.st == .offline || e.2.st == .fault)

def lanesOff (s : State) : Bool := !s.bne.lanes.isEmpty && s.bne.lanes.all (fun e => e.2.st == .offline)

/-- What an active manager's self-diagnosis finds, the cellar apart. -/
def selfFault (s : State) : Bool :=
  s.dsp.off0 || s.dsp.off1 || 2 < groupsOff s || noUnits s .sye || noUnits s .dge || lanesOff s

/-- The active manager stops toggling, drops TWIN_ACT and resets as a class A response would. -/
def giveUp (s : State) : State := restart .tamper .classA 0x0701 0 (closeGates s)

/-- A command that brings a cause of R351 about makes an active manager give up. -/
def selfCheck (before after : State) : State :=
  if isActive before && isActive after &&
      ((before.clc.st == .opened && after.clc.st == .closed) || (!selfFault before && selfFault after)) then giveUp after
  else after

end Sys2Proof.Machine
end

