-- ==== Sys2Proof/Machine/Service.lean ====
section
/-! DEFINITION. What the services of several classes share: the checks of 06 R133 and their statuses, key demands, handles,
draws with rejection, the new-slot block (06 R130-R135, R159; 07 R164-R172). -/

set_option Elab.async false

namespace Sys2Proof.Machine

/-- Step 1: LEN agrees with the payload. -/
def Svc.len (ok : Bool) : Svc Unit := Svc.check ok 0x0107 2

/-- Step 2: the reserved fields at these offsets, with their lengths, are zero. -/
def Svc.zero (it : Item) (l : List (Nat × Nat)) : Svc Unit :=
  Svc.check (l.all (fun e => isZero (slice it.payload e.1 e.2))) 0x0105 4

/-- Step 3: a field lies in its range. -/
def Svc.range (ok : Bool) : Svc Unit := Svc.check ok 0x0105 5

/-- BAD_PARAM with a DETAIL. -/
def Svc.bad (ok : Bool) (detail : Nat) : Svc Unit := Svc.check ok 0x0105 detail

/-- A payload handle names no reserved slot (06 R130). -/
def Svc.handle (h : Nat) : Svc Unit := Svc.check (256 ≤ h / 65536) 0x0105 3

/-- A PAN field in its form, with PANLEN in a range (06 R131). -/
def Svc.pan (b : Bytes) (lo hi : Nat) : Svc (List Nat) :=
  match panField b lo hi with
  | some d => pure d
  | none => Svc.finish 0x0105 0x0124

/-- A key demand of an item. -/
def keyNeed (it : Item) (h : Nat) (types : List Nat) (need : BitVec 16) : KeyReq :=
  { idx := h / 65536, gen := h % 65536, tenant := it.tenant, types := types, persist := false, need := need, anyOf := false, bare := false }

/-- The same, with PERSIST demanded (07 R169). -/
def keyPersist (it : Item) (h : Nat) (types : List Nat) (need : BitVec 16) : KeyReq := { keyNeed it h types need with persist := true }

/-- A field of the payload. -/
def Item.f (it : Item) (off n : Nat) : Nat := fld it.payload off n
def Item.b (it : Item) (off n : Nat) : Bytes := slice it.payload off n

/-- Two BCD digits. -/
def bcd2 (n : Nat) : Bool := n / 16 < 10 && n % 16 < 10

/-- Draws until `n` bytes below a limit have come (06 R140, R148). -/
def drawBelow (id : Nat) (it : Item) (limit n : Nat) : Nat → Bytes → Svc Bytes
  | 0, acc => pure acc
  | f + 1, acc =>
    if n ≤ acc.length then pure (acc.take n)
    else do
      let b ← Svc.draw id it (n - acc.length)
      drawBelow id it limit n f (acc ++ b.filter (fun x => x.toNat < limit))

/-- Enough rounds for the answers an item has had and one more. -/
def Item.rounds (it : Item) : Nat := it.answers.length + 2

/-- An answer recorded once: an error ends the service. -/
def Svc.decideOk (id : Nat) (f : State → Answer × State) : Svc Answer := do
  match ← Svc.decide id f with
  | .err st d => Svc.finish st d
  | a => pure a

/-- The numbers of an answer. -/
def Answer.list : Answer → List Nat
  | .nums l => l
  | _ => []

/-! ## New slots (06 R159; 07 R167, R168, Table 7.2) -/

/-- A new-slot block. -/
structure SlotBlock where
  type  : Nat
  usage : BitVec 16
  ucnt  : Nat
  life  : Nat
  xrst  : Nat

def slotBlock (b : Bytes) : SlotBlock :=
  { type := fld b 0 1, usage := BitVec.ofNat 16 (fld b 2 2), ucnt := fld b 4 4, life := fld b 8 2, xrst := fld b 10 1 }

/-- The reserved bytes of a block at an offset. -/
def blockRsvd (o : Nat) : List (Nat × Nat) := [(o + 1, 1), (o + 11, 1)]

/-- The block passes 07 R167. -/
def SlotBlock.ok (b : SlotBlock) (types : List Nat) : Bool :=
  types.contains b.type && b.usage &&& 0xFFC0 == 0 && b.usage != 0 &&
    !(b.type == 8 && b.usage &&& (uENC ||| uDEC ||| uWRAP ||| uUNWRAP) != 0)

/-- What a key that arrives or is derived may be stored as. -/
def symTypes : List Nat := [1, 2, 3, 4, 5, 8]
def derivedTypes : List Nat := [3, 4, 5, 8]

/-- LIFE and a free slot, judged once (06 R159 step 1). -/
def slotDecision (id tenant life : Nat) (s : State) : Answer × State :=
  if life != 0 && s.cycle.isNone then (.err 0x0402 3, s)
  else
    match reserveSlot tenant s with
    | (some i, s) => (.nums [i], modItem id (fun t => { t with slot := some i }) s)
    | (none, s) => (.err 0x0105 0x0143, s)

/-- The refusals of 06 R159 step 1, the block apart, and the reserved slot. -/
def Svc.newSlot (id : Nat) (it : Item) (b : SlotBlock) (expo fromKey : Bool) : Svc NewSlot := do
  Svc.bad (b.ucnt != 0 || b.xrst == 1) 0x0145
  let a ← Svc.decideOk id (slotDecision id it.tenant b.life)
  pure { idx := a.nat, tenant := it.tenant, type := b.type, usage := b.usage, ucnt := b.ucnt, life := b.life, xrst := b.xrst == 1, expo := expo, fromKey := fromKey }

/-- VERIFY_FAIL where a comparison fails, else DONE. -/
def verified (ok : Bool) : Svc Reply := do
  Svc.check ok 0x0501 0
  done

end Sys2Proof.Machine
end

