-- ==== Sys2Proof/Machine/Pin.lean ====
section
/-! DEFINITION. Class 02h: PIN_TRANSLATE, PIN_VERIFY, PIN_CHANGE, PIN_GENERATE (06 R138-R148). -/

set_option Elab.async false

namespace Sys2Proof.Machine

/-- The key types of a PIN block format (R139). -/
def pinTypes (fmt : Nat) : List Nat := if fmt == 4 then aesTypes else tdesTypes

/-- The key types of an outgoing block (R141). -/
def outTypes (ifmt ofmt : Nat) : List Nat := if ifmt == 4 && (ofmt == 0 || ofmt == 3) then [2] else pinTypes ofmt

/-- Bytes 8-15 of a block are reserved under a TDES format (R132). -/
def blockTail (fmt off : Nat) : List (Nat × Nat) := if fmt < 4 then [(off + 8, 8)] else []

/-- PAN-bound formats. -/
def panBound (fmt : Nat) : Bool := fmt == 0 || fmt == 3 || fmt == 4

/-- Table 6.5. -/
def pairOk (i o : Nat) : Bool := !panBound i || panBound o

/-- The fill of an output block (R140): ten nibbles where the PIN's length is not known yet, of which the first 14 - N are
used (log 29). -/
def fillDraw (id : Nat) (it : Item) (fmt n : Nat) : Svc Bytes :=
  match fmt with
  | 1 => Svc.draw id it n
  | 3 => do
    let b ← drawBelow id it 252 n it.rounds []
    pure (b.map (fun x => BitVec.ofNat 8 (10 + x.toNat % 6)))
  | 4 => Svc.draw id it 8
  | _ => pure []

/-- What follows the check of PIN_TRANSLATE and DUKPT_PIN_TRANSLATE (R143, R161). -/
def translateOut (id : Nat) (it : Item) (a : Answer) (ifmt ofmt okey : Nat) (pan : List Nat) (fill : Bytes) : Svc Reply := do
  match numsPins 2 a.list with
  | some pin :: _ =>
    let out ← Svc.engine .sye id it [keyNeed it okey (outTypes ifmt ofmt) uPINENC] [] (.pinEncipher ofmt pan pin fill)
    done out.bytes
  | _ => Svc.finish 0x0105 0x0120

def svcPinTranslate (id : Nat) (it : Item) : Svc Reply := do
  let ifmt := it.f 0 1
  let ofmt := it.f 1 1
  Svc.len (it.payload.length == 36)
  Svc.zero it ([(2, 2), (9, 1)] ++ blockTail ifmt 20)
  Svc.range (ifmt ≤ 4 && ofmt ≤ 4)
  Svc.handle (it.f 4 4)
  let bound := panBound ifmt || panBound ofmt
  let pan ← Svc.pan (it.b 8 12) (if bound then 12 else 0) (if bound then 19 else 0)
  Svc.bad (pairOk ifmt ofmt) 0x0121
  let fill ← fillDraw id it ofmt 10
  let a ← Svc.engine .sye id it [keyNeed it it.key (pinTypes ifmt) uPINENC] [] (.pinDecipher ifmt pan [it.b 20 16])
  translateOut id it a ifmt ofmt (it.f 4 4) pan fill

/-! ## Reference blocks (R144, R145, Table 6.9) -/

structure RefBlock where
  pvk    : Nat
  method : Nat
  chklen : Nat
  pvki   : Nat
  vdata  : Bytes
  dtab   : List Nat
  refval : List Nat

def refBlock (b : Bytes) : RefBlock :=
  { pvk := fld b 0 4, method := fld b 4 1, chklen := fld b 5 1, pvki := fld b 6 1, vdata := slice b 8 8,
    dtab := nibbles (slice b 16 8), refval := nibbles (slice b 24 6) }

def refRsvd (o : Nat) : List (Nat × Nat) := [(o + 7, 1), (o + 30, 2)]

/-- Step 3 of a reference block. -/
def Svc.refRange (r : RefBlock) : Svc Unit := do
  Svc.handle r.pvk
  Svc.range (r.method ≤ 1 && r.pvki ≤ 9 && r.dtab.all (· < 10))

/-- Digits in REFVAL. -/
def RefBlock.digits (r : RefBlock) : Nat := if r.method == 0 then r.chklen else 4

/-- The fields agree with METHOD. -/
def RefBlock.agrees (r : RefBlock) : Bool :=
  if r.method == 0 then 4 ≤ r.chklen && r.chklen ≤ 12 && r.pvki == 0
  else r.chklen == 4 && isZero r.vdata && r.dtab.all (· == 0)

/-- REFVAL has its form. -/
def RefBlock.formed (r : RefBlock) : Bool :=
  (r.refval.take r.digits).all (· < 10) && (r.refval.drop r.digits).all (· == 15)

/-- Step 4 of a reference block; REFVAL is read, or must be zero. -/
def Svc.refAgree (r : RefBlock) (read : Bool) : Svc Unit := do
  Svc.bad (r.agrees && (if read then r.formed else r.refval.all (· == 0))) 0x0126
  Svc.bad (r.method == 1 || (List.range 10).all (fun d => 1 ≤ r.dtab.count d && r.dtab.count d ≤ 2)) 0x0125

/-- The reference value of a PIN from the 16 nibbles its PVK gave; none for a PIN shorter than CHKLEN. -/
def RefBlock.value (r : RefBlock) (x : List Nat) (pin : List Nat) : Option (List Nat) :=
  if r.method == 0 then (if pin.length < r.chklen then none else some (pinOffset pin (naturalPin r.dtab x r.chklen)))
  else some (collect 4 x)

/-- REFVAL and two zero bytes. -/
def refvalBytes (d : List Nat) : Bytes := packNibbles (d ++ List.replicate (12 - d.length) 15) ++ zeros 2

/-- The verification of one PIN: format, length and every digit (R146). -/
def RefBlock.verifies (r : RefBlock) (pin : Option (List Nat)) (x : List Nat) : Bool :=
  match pin with
  | none => false
  | some d => r.value x d == some (r.refval.take r.digits)

def svcPinVerify (id : Nat) (it : Item) : Svc Reply := do
  let ifmt := it.f 0 1
  let r := refBlock (it.b 32 32)
  Svc.len (it.payload.length == 64)
  Svc.zero it ([(1, 3), (5, 1)] ++ blockTail ifmt 16 ++ refRsvd 32)
  Svc.range (ifmt ≤ 4)
  let pan ← Svc.pan (it.b 4 12) 12 19
  Svc.refRange r
  Svc.refAgree r true
  let a ← Svc.engine .sye id it [keyNeed it it.key (pinTypes ifmt) uPINENC, keyNeed it r.pvk tdesTypes uPINVER] []
    (.pinRef ifmt pan [it.b 16 16] r.method r.vdata r.pvki)
  let l := a.list
  verified (r.verifies ((numsPins 1 l).headD none) (l.drop (l.length - 16)))

def svcPinChange (id : Nat) (it : Item) : Svc Reply := do
  let ifmt := it.f 0 1
  let vfy := it.f 1 1
  let r := refBlock (it.b 48 32)
  Svc.len (it.payload.length == 80)
  Svc.zero it ([(2, 2), (5, 1)] ++ blockTail ifmt 16 ++ blockTail ifmt 32 ++ refRsvd 48)
  Svc.range (ifmt ≤ 4 && vfy ≤ 1)
  let pan ← Svc.pan (it.b 4 12) 12 19
  Svc.refRange r
  Svc.bad (vfy == 1 || isZero (it.b 16 16)) 4
  Svc.refAgree r (vfy == 1)
  let a ← Svc.engine .sye id it [keyNeed it it.key (pinTypes ifmt) uPINENC, keyNeed it r.pvk tdesTypes uPINVER] []
    (.pinRef ifmt pan [it.b 16 16, it.b 32 16] r.method r.vdata r.pvki)
  let l := a.list
  let pins := numsPins 2 l
  let x := l.drop (l.length - 32)
  Svc.check (vfy == 0 || r.verifies (pins.headD none) (x.take 16)) 0x0501 0
  match pins.getD 1 none with
  | none => Svc.finish 0x0105 0x0120
  | some pin =>
    match r.value (x.drop 16) pin with
    | none => Svc.finish 0x0105 0x0122
    | some v => done (refvalBytes v)

def svcPinGenerate (id : Nat) (it : Item) : Svc Reply := do
  let ofmt := it.f 0 1
  let n := it.f 1 1
  let gmode := it.f 2 1
  let r := refBlock (it.b 16 32)
  Svc.len (it.payload.length == 48)
  Svc.zero it ([(3, 1), (5, 1)] ++ refRsvd 16)
  Svc.range (ofmt ≤ 4 && 4 ≤ n && n ≤ 12 && gmode ≤ 1)
  let pan ← Svc.pan (it.b 4 12) 12 19
  Svc.refRange r
  Svc.refAgree r false
  Svc.bad (gmode == 0 || (r.method == 0 && n == r.chklen)) 0x0126
  Svc.bad (r.method == 1 || r.chklen ≤ n) 0x0122
  let rnd ← if gmode == 0 then drawBelow id it 250 n it.rounds [] else pure []
  let pin0 := rnd.map (fun b => b.toNat % 10)
  let fill ← fillDraw id it ofmt (14 - n)
  let a ← Svc.engine .sye id it [keyNeed it r.pvk tdesTypes uPINVER] []
    (.cipher 0 true false (zeros 16) [] (if r.method == 0 then r.vdata else pvvInput pan r.pvki pin0) [] 0)
  let x := nibbles (a.bytes.drop 16)
  let pin := if gmode == 0 then pin0 else naturalPin r.dtab x r.chklen
  let blk ← Svc.engine .sye id it [keyNeed it it.key (pinTypes ofmt) uPINENC] [] (.pinEncipher ofmt pan pin fill)
  done (blk.bytes ++ refvalBytes ((r.value x pin).getD []))

/-- PIN_TRANSLATE (R143). -/
def execPinTranslate (item : Nat) (s : State) : Host.Outcome State Fault Refusal := .next (runOpcode 0x0201 item (svcPinTranslate item) s)

/-- PIN_VERIFY (R146). -/
def execPinVerify (item : Nat) (s : State) : Host.Outcome State Fault Refusal := .next (runOpcode 0x0202 item (svcPinVerify item) s)

/-- PIN_CHANGE (R147). -/
def execPinChange (item : Nat) (s : State) : Host.Outcome State Fault Refusal := .next (runOpcode 0x0203 item (svcPinChange item) s)

/-- PIN_GENERATE (R148). -/
def execPinGenerate (item : Nat) (s : State) : Host.Outcome State Fault Refusal := .next (runOpcode 0x0204 item (svcPinGenerate item) s)

end Sys2Proof.Machine
end

