-- ==== Sys2Proof/Machine/Card.lean ====
section
/-! DEFINITION. Class 03h: card verification values, ARQC and ARPC, issuer scripts (06 R149-R155). -/

set_option Elab.async false

namespace Sys2Proof.Machine

/-! ## Card verification values (R149) -/

/-- Steps 1 to 4 of class 03h's first two opcodes: the PAN digits. -/
def cvvChecks (it : Item) (len : Nat) : Svc (List Nat) := do
  Svc.len (it.payload.length == len)
  Svc.zero it [(1, 1), (17, 3)]
  let pan ← Svc.pan (it.b 0 12) 12 19
  let d := nibbles (it.b 12 4)
  Svc.range ((d.take 7).all (· < 10) && d.getD 7 0 == 15 && 3 ≤ it.f 16 1 && it.f 16 1 ≤ 5)
  pure pan

/-- The value of the card. -/
def cvvValue (id : Nat) (it : Item) (pan : List Nat) : Svc (List Nat) := do
  let a ← Svc.engine .sye id it [keyNeed it it.key [1] uCVK] [] (.cvv (pan ++ (nibbles (it.b 12 4)).take 7))
  pure (a.list.take (it.f 16 1))

def svcCvvGenerate (id : Nat) (it : Item) : Svc Reply := do
  let pan ← cvvChecks it 20
  let v ← cvvValue id it pan
  done (packNibbles (v ++ List.replicate (8 - v.length) 15))

def svcCvvVerify (id : Nat) (it : Item) : Svc Reply := do
  let pan ← cvvChecks it 24
  let n := it.f 16 1
  let c := nibbles (it.b 20 4)
  Svc.range ((c.take n).all (· < 10) && (c.drop n).all (· == 15))
  let v ← cvvValue id it pan
  verified (v == c.take n)

/-! ## EMV (R150-R155) -/

/-- Types of an issuer master key (Table 6.15). -/
def imkTypes : List Nat := [1, 3, 4, 5]

/-- PSN digits of a byte. -/
def psnDigits (b : Nat) : List Nat := [b / 16, b % 16]

def svcArqcVerify (id : Nat) (it : Item) : Svc Reply := do
  let td := it.f 40 2
  let m := it.f 13 1
  let padlen := it.f 28 1
  Svc.len (44 ≤ it.payload.length && it.payload.length == 44 + td)
  Svc.zero it [(1, 1), (29, 3), (42, 2)]
  let pan ← Svc.pan (it.b 0 12) 12 19
  Svc.range (bcd2 (it.f 12 1) && m ≤ 2 && padlen ≤ 8 && 1 ≤ td && td ≤ 1024)
  Svc.bad ((m == 2 || padlen == 0) && (m != 0 || isZero (it.b 24 4)) && (m != 1 || isZero (it.b 26 2))) 0x0130
  Svc.bad (isZero (it.b (32 + padlen) (8 - padlen))) 4
  let need := uICCMK ||| uMACV ||| (if m == 0 then 0 else uMACG)
  let a ← Svc.engine .sye id it [keyNeed it it.key imkTypes need] [.icc pan (psnDigits (it.f 12 1)), .session (padTo 8 (it.b 14 2))]
    (.arqc m (it.b 16 8) (it.b 24 4) (it.b 32 padlen) (it.b 44 td))
  done a.bytes

def svcScriptMac (id : Nat) (it : Item) : Svc Reply := do
  let ml := it.f 24 2
  Svc.len (28 ≤ it.payload.length && it.payload.length == 28 + ml)
  Svc.zero it [(1, 1), (14, 2), (26, 2)]
  let pan ← Svc.pan (it.b 0 12) 12 19
  Svc.range (bcd2 (it.f 12 1) && 4 ≤ it.f 13 1 && it.f 13 1 ≤ 8 && 1 ≤ ml && ml ≤ 1024)
  let a ← Svc.engine .sye id it [keyNeed it it.key imkTypes (uICCMK ||| uMACG)] [.icc pan (psnDigits (it.f 12 1)), .session (it.b 16 8)]
    (.mac 0xFF 2 (it.f 13 1) (it.b 28 ml))
  done a.bytes

def svcScriptEncrypt (id : Nat) (it : Item) : Svc Reply := do
  let pin := it.f 13 1 == 1
  let padm := it.f 14 1
  let ifmt := it.f 28 1
  let dl := it.f 30 2
  Svc.len (48 ≤ it.payload.length && it.payload.length == 48 + dl)
  Svc.zero it ([(1, 1), (15, 1), (29, 1)] ++ (if pin && ifmt != 2 then blockTail ifmt 32 else []))
  let pan ← Svc.pan (it.b 0 12) 12 19
  Svc.range (bcd2 (it.f 12 1) && it.f 13 1 ≤ 1 && padm ≤ 1 && (!pin || ifmt ≤ 4) && (pin || (1 ≤ dl && dl ≤ 1024)))
  if pin then Svc.handle (it.f 24 4) else pure ()
  Svc.bad (if pin then dl == 0 else isZero (it.b 24 5) && isZero (it.b 32 16)) 4
  Svc.bad (!(pin && ifmt == 2)) 0x0121
  let key := keyNeed it it.key imkTypes (uICCMK ||| uENC)
  let chain := [.icc pan (psnDigits (it.f 12 1)), KeyStep.session (it.b 16 8)]
  let a ← if pin then Svc.engine .sye id it [key, keyNeed it (it.f 24 4) (pinTypes ifmt) uPINENC] chain (.scriptPin ifmt padm pan (it.b 32 16))
    else Svc.engine .sye id it [key] chain (.scriptData padm (it.b 48 dl))
  done a.bytes

/-- CVV_GENERATE (R149). -/
def execCvvGenerate (item : Nat) (s : State) : Host.Outcome State Fault Refusal := .next (runOpcode 0x0301 item (svcCvvGenerate item) s)

/-- CVV_VERIFY (R149). -/
def execCvvVerify (item : Nat) (s : State) : Host.Outcome State Fault Refusal := .next (runOpcode 0x0302 item (svcCvvVerify item) s)

/-- ARQC_VERIFY (R152). -/
def execArqcVerify (item : Nat) (s : State) : Host.Outcome State Fault Refusal := .next (runOpcode 0x0303 item (svcArqcVerify item) s)

/-- SCRIPT_MAC (R154). -/
def execScriptMac (item : Nat) (s : State) : Host.Outcome State Fault Refusal := .next (runOpcode 0x0304 item (svcScriptMac item) s)

/-- SCRIPT_ENCRYPT (R155). -/
def execScriptEncrypt (item : Nat) (s : State) : Host.Outcome State Fault Refusal := .next (runOpcode 0x0305 item (svcScriptEncrypt item) s)

end Sys2Proof.Machine
end

