-- ==== Sys2Proof/Machine/Dukpt.lean ====
section
/-! DEFINITION. Class 04h: DUKPT (06 R156-R163). -/

set_option Elab.async false

namespace Sys2Proof.Machine

/-- One bits of a number below 2^32. -/
def oneBits (n : Nat) : Nat := (List.range 32).countP (bit n)

/-- The counter of a KSN: its low 21 bits, or its last four bytes. -/
def ksnCounter (scheme : Nat) (p : Bytes) : Nat := if scheme == 0 then fld p 4 10 % 2 ^ 21 else fld p 12 4

/-- Step 3 of a DUKPT parameter block. -/
def Svc.dukptRange (it : Item) : Svc Unit := Svc.range (it.f 0 1 ≤ 1)

/-- Step 4 of a DUKPT parameter block (R157). -/
def Svc.dukptAgree (it : Item) (wkts : List Nat) : Svc Unit := do
  let sch := it.f 0 1
  let wkt := it.f 1 1
  let c := ksnCounter sch it.payload
  Svc.bad (sch == 1 || isZero (it.b 14 2)) 4
  Svc.bad (c != 0 && oneBits c ≤ (if sch == 0 then 10 else 16)) 0x0140
  Svc.bad (wkts.contains wkt && (sch == 1 || (wkt != 4 && wkt != 7))) 0x0141
  Svc.bad (if sch == 0 then it.f 2 1 == 0 else it.f 2 1 == 1 || it.f 2 1 == 2) 0x0142

/-- The BDK's demand (R158). -/
def bdkNeed (it : Item) : KeyReq :=
  keyNeed it it.key (if it.f 0 1 == 0 then [1] else if it.f 2 1 == 2 then [5] else aesTypes) uBDK

/-- The working key's derivation. -/
def dukptChain (it : Item) : List KeyStep :=
  if it.f 0 1 == 0 then [.dukptTdes (it.b 4 10) (it.f 1 1)] else [.dukptAes (it.b 4 12) (it.f 1 1) (it.f 2 1)]

/-- The slot usage of a working key type (Table 6.22). -/
def wktUsage (wkt : Nat) : BitVec 16 :=
  match wkt with
  | 1 => uPINENC
  | 2 => uMACV
  | 3 => uMACG
  | 4 => uMACG ||| uMACV
  | 5 => uDEC
  | 6 => uENC
  | _ => uENC ||| uDEC

def svcDukptDerive (id : Nat) (it : Item) : Svc Reply := do
  Svc.len (it.payload.length == 24)
  Svc.zero it [(3, 1), (23, 1)]
  Svc.dukptRange it
  Svc.range (it.f 22 1 ≤ 1)
  Svc.dukptAgree it [1, 2, 3, 4, 5, 6, 7]
  let t := if it.f 0 1 == 0 then 1 else if it.f 2 1 == 2 then 5 else 3
  let d ← Svc.newSlot id it { type := t, usage := wktUsage (it.f 1 1), ucnt := it.f 16 4, life := it.f 20 2, xrst := it.f 22 1 } false true
  let a ← Svc.engine .sye id it [bdkNeed it] (dukptChain it) .lookupOnly (some d)
  done a.bytes

def svcDukptPinTranslate (id : Nat) (it : Item) : Svc Reply := do
  let ifmt := it.f 16 1
  let ofmt := it.f 17 1
  Svc.len (it.payload.length == 52)
  Svc.zero it ([(3, 1), (18, 2), (25, 1)] ++ blockTail ifmt 36)
  Svc.dukptRange it
  Svc.range (ifmt ≤ 4 && ofmt ≤ 4)
  Svc.handle (it.f 20 4)
  let bound := panBound ifmt || panBound ofmt
  let pan ← Svc.pan (it.b 24 12) (if bound then 12 else 0) (if bound then 19 else 0)
  Svc.dukptAgree it [1]
  Svc.bad ((if it.f 0 1 == 0 then ifmt != 4 else ifmt == 4) && pairOk ifmt ofmt) 0x0121
  let fill ← fillDraw id it ofmt 10
  let a ← Svc.engine .sye id it [bdkNeed it] (dukptChain it) (.pinDecipher ifmt pan [it.b 36 16])
  translateOut id it a ifmt ofmt (it.f 20 4) pan fill

def svcDukptCipher (id : Nat) (it : Item) : Svc Reply := do
  let dl := it.f 36 4
  let tdes := it.f 0 1 == 0
  let enc := it.f 16 1 == 1
  let mode := it.f 17 1
  let n := if tdes then 8 else 16
  Svc.len (40 ≤ it.payload.length && it.payload.length == 40 + dl)
  Svc.zero it [(3, 1), (18, 2)]
  Svc.dukptRange it
  Svc.range (it.f 16 1 ≤ 1 && mode ≤ 1 && n ≤ dl && dl ≤ 1048576)
  Svc.dukptAgree it [5, 6, 7]
  Svc.bad (it.f 1 1 == 7 || it.f 1 1 == (if enc then 6 else 5)) 0x0146
  Svc.bad (if mode == 0 then isZero (it.b 20 16) else !tdes || isZero (it.b 28 8)) 4
  Svc.bad (dl % n == 0) 0x0131
  let a ← Svc.engine .sye id it [bdkNeed it] (dukptChain it) (.cipher mode enc false (it.b 20 16) [] (it.b 40 dl) [] 0)
  done (if enc then a.bytes.drop 16 else a.bytes)

def svcDukptMac (id : Nat) (it : Item) : Svc Reply := do
  let ml := it.f 36 4
  let tdes := it.f 0 1 == 0
  let gen := it.f 16 1 == 1
  let n := it.f 17 1
  Svc.len (40 ≤ it.payload.length && it.payload.length == 40 + ml)
  Svc.zero it [(3, 1), (19, 1)]
  Svc.dukptRange it
  Svc.range (it.f 16 1 ≤ 1 && 4 ≤ n && n ≤ (if tdes then 8 else 16) && it.f 18 1 ≤ 1 && ml ≤ 1048576)
  Svc.dukptAgree it [2, 3, 4]
  Svc.bad (it.f 1 1 == 4 || it.f 1 1 == (if gen then 3 else 2)) 0x0146
  Svc.bad ((tdes || it.f 18 1 == 0) && (!gen || isZero (it.b 20 16))) 4
  let a ← Svc.engine .sye id it [bdkNeed it] (dukptChain it) (.mac 0xFE (it.f 18 1 + 1) n (it.b 40 ml))
  if gen then done a.bytes else verified (padTo 16 a.bytes == it.b 20 16)

/-- DUKPT_DERIVE (R159). -/
def execDukptDerive (item : Nat) (s : State) : Host.Outcome State Fault Refusal := .next (runOpcode 0x0401 item (svcDukptDerive item) s)

/-- DUKPT_PIN_TRANSLATE (R161). -/
def execDukptPinTranslate (item : Nat) (s : State) : Host.Outcome State Fault Refusal :=
  .next (runOpcode 0x0402 item (svcDukptPinTranslate item) s)

/-- DUKPT_CIPHER (R162). -/
def execDukptCipher (item : Nat) (s : State) : Host.Outcome State Fault Refusal := .next (runOpcode 0x0403 item (svcDukptCipher item) s)

/-- DUKPT_MAC (R163). -/
def execDukptMac (item : Nat) (s : State) : Host.Outcome State Fault Refusal := .next (runOpcode 0x0404 item (svcDukptMac item) s)

end Sys2Proof.Machine
end

