-- ==== Sys2Proof/Machine/Grafts.lean ====
section
/-! DEFINITION. Signed messages: officer sets, the checks of an envelope, forwarding to the active manager, what an applied
message sends and waits for (09 R250-R259, R493; 13 R338). -/

set_option Elab.async false

namespace Sys2Proof.Machine

/-! ## Officer sets (R259, Table 9.7) -/

/-- The key length of an officer algorithm. -/
def officerLen (alg : Nat) : Nat := if alg == 1 then 97 else if alg == 2 then 1952 else 0

/-- `n` key entries that fill a byte string. -/
def officerKeys : Nat → Bytes → Option (List (Nat × Bytes))
  | 0, b => if b.isEmpty then some [] else none
  | n + 1, b =>
    let alg := fld b 0 1
    let l := fld b 2 2
    if l != 0 && l == officerLen alg && 4 + l ≤ b.length then
      (officerKeys n (b.drop (4 + l))).map (fun r => (alg, slice b 4 l) :: r)
    else none

/-- A reserved byte of the entries that the lengths reach is set. -/
def officerRsvd : Nat → Bytes → Bool
  | 0, _ => false
  | n + 1, b => if b.length < 4 then false else fld b 1 1 != 0 || officerRsvd n (b.drop (4 + fld b 2 2))

/-- An officer key is usable: a P-384 point is 04h, X, Y and valid (R259). -/
def officerKeyOk (e : Nat × Bytes) : Bool :=
  e.1 != 1 || (fld e.2 0 1 == 4 && match pointCheck p384 e.2 with | .ok _ => true | .error _ => false)

/-- The officer set of a body; none where it is refused. -/
def officerSet (b : Bytes) : Option OfficerSet :=
  let k := fld b 0 1
  let n := fld b 1 1
  if 2 ≤ n && n ≤ 16 && 2 ≤ k && k ≤ n && 4 ≤ b.length then
    match officerKeys n (b.drop 4) with
    | none => none
    | some l => if l.all officerKeyOk && decide l.Nodup then some { k := k, keys := l, raw := b } else none
  else none

/-- The checks of an officer set body, the reserved fields first (R252 step 6). -/
def officerCheck (b : Bytes) : Except (Nat × Nat) OfficerSet :=
  if fld b 2 2 != 0 || officerRsvd (fld b 1 1) (b.drop 4) then .error (0x0105, 4)
  else
    match officerSet b with
    | none => .error (0x0105, 0x01BC)
    | some o => .ok o

/-! ## The checks of an envelope (R252, R253) -/

/-- What the KIND of a message substitutes in the checks: the form of its body, its DSERIAL and TENANT, its counter, its
signers. -/
structure EnvRule where
  kind    : Nat
  /-- a refusal before everything else -/
  shut    : Bool
  /-- a further check of step 2, and the DETAIL of that step's refusals -/
  formOk  : Envelope → Bool := fun _ => true
  malformed : Nat := 0x01B0
  lenOk   : Envelope → Bool
  serial  : Envelope → Bool
  tenant  : Nat
  counter : Envelope → Option (Nat × Nat)
  /-- the part holds a set for the signers -/
  held    : Bool
  officer : Nat → Option (Nat × Bytes)
  /-- the DETAIL of QUORUM_SHORT that the distinct valid officers leave -/
  short   : List Nat → Option Nat

/-- The digest by which R253 knows a message. -/
def Envelope.digest (e : Envelope) : Bytes := sha256 e.signed

/-- R253: against a counter and its records. -/
def counterCheck (c : Nat) (recs : List (Nat × Bytes)) (e : Envelope) : Option (Nat × Nat) :=
  if c < e.counter then none
  else if recs.contains (e.counter, e.digest) then some (0x0010, 0)
  else some (0x0307, 0)

/-- The signers of an officer set. -/
def setOfficer (o : Option OfficerSet) (i : Nat) : Option (Nat × Bytes) := o.bind (fun o => o.keys[i]?)

/-- QUORUM_SHORT of an officer set (R252 step 5). -/
def setShort (o : Option OfficerSet) (l : List Nat) : Option Nat :=
  if l.length < (o.map (·.k)).getD 0 then some l.length else none

/-- A signature entry's ALG and SLEN are those of Table 9.5. -/
def SigEntry.form (x : SigEntry) : Bool := (x.alg == 1 && x.slen == 96) || (x.alg == 2 && x.slen == 3309)

/-- Steps 1 to 4 of R252. -/
def envCheck (r : EnvRule) (e : Envelope) : Option (Nat × Nat) :=
  if r.shut then some (0x0902, 0)
  else if !e.fits || (e.kind == r.kind && !r.lenOk e) then some (0x0107, 2)
  else if e.rsvd then some (0x0105, 4)
  else if e.gver != 1 || e.kind != r.kind || e.nsig == 0 || 16 < e.nsig || !e.sigs.all SigEntry.form || !r.formOk e then some (0x0105, r.malformed)
  else if !r.serial e then some (0x0308, 1)
  else if e.tenant != r.tenant then some (0x0308, 2)
  else r.counter e

/-- The original of a duplicate whose reply is still pending (R254). -/
def pendingOf (s : State) (g : Option Nat) (e : Envelope) : Option Apply :=
  s.hier.applies.find? (fun a => some a.gate == g && a.counter == e.counter && a.digest == e.digest)

/-- Steps 1 to 4, judged once; a duplicate of a message whose reply is pending waits for that reply (R254). -/
def Svc.envStart (id : Nat) (it : Item) (e : Envelope) (rule : State → EnvRule) : Svc Unit := fun r =>
  match r.rest with
  | .err st d :: l => .error (.reply (.bare st d) { r with rest := l }.state)
  | _ :: l => .ok ((), { r with rest := l })
  | [] =>
    match envCheck (rule r.state) e with
    | none => .ok ((), { r with state := modItem id (fun i => { i with answers := i.answers ++ [.nums []] }) r.state })
    | some u =>
      match pendingOf r.state it.gate e with
      | some a =>
        if u.1 == 0x0010 then
          let s := { r.state with hier := { r.state.hier with
            applies := r.state.hier.applies.map (fun x => if x.ref == a.ref then { x with also := x.also ++ [id] } else x) } }
          .error (.wait (itemWait id .event s))
        else .error (.reply (.bare u.1 u.2) r.state)
      | none => .error (.reply (.bare u.1 u.2) r.state)

/-- The context string of a signature of ALG 02h (R251). -/
def graftContext : Bytes := ascii "VORDAR GRAFT"

/-- The verification of a signature (R251), under a context string. -/
def sigOp (ctx : Bytes) (alg : Nat) (key sig m : Bytes) : EngineOp :=
  if alg == 1 then .ecdsaVerify 2 key sig (sha384 m) else .dsaVerify 2 key sig ctx m

/-- A signature is verified by the BNE; without a valid image the plinth verifies it itself (17 R440). -/
def Svc.sigOk (id : Nat) (it : Item) (ctx : Bytes) (alg : Nat) (key sig m : Bytes) : Svc Bool := do
  let s ← Svc.state
  let r := itemRequest id it [] [] (sigOp ctx alg key sig m) none
  if s.boot.phase == 6 then
    pure (match compute s.flash.curves (r s) with | .ok _ => true | _ => false)
  else
    match ← Svc.await (askEngine .bne id r) with
    | .ok _ => pure true
    | _ => pure false

/-- The entries in order: the distinct officers that have a valid one, or GRAFT_AUTH at the first that fails. -/
def sigGo (id : Nat) (it : Item) (ctx m : Bytes) (officer : Nat → Option (Nat × Bytes)) :
    Nat → List SigEntry → List Nat → Svc (List Nat)
  | _, [], acc => pure acc
  | i, x :: l, acc =>
    match officer x.officer with
    | none => Svc.finish 0x0306 i
    | some k =>
      if k.1 != x.alg then Svc.finish 0x0306 i
      else do
        let ok ← Svc.sigOk id it ctx k.1 k.2 x.sig m
        if ok then sigGo id it ctx m officer (i + 1) l (if acc.contains x.officer then acc else acc ++ [x.officer])
        else Svc.finish 0x0306 i

/-- Steps 1 to 5 of R252. -/
def Svc.envelope (id : Nat) (it : Item) (rule : State → EnvRule) : Svc Envelope := do
  let e := envelopeOf it.payload
  Svc.envStart id it e rule
  let s ← Svc.state
  let r := rule s
  Svc.check r.held 0x0309 0
  let l ← sigGo id it graftContext e.signed r.officer 0 e.sigs []
  match r.short l with
  | some n => Svc.finish 0x0309 n
  | none => pure e

/-- The rule of a tenant's kinds (R252-R254). -/
def tenantRule (it : Item) (kind : Nat) (lenOk : Envelope → Bool) (s : State) : EnvRule :=
  let t := getTenant s it.tenant
  let o := t.bind (·.officers)
  { kind := kind, shut := opClass it.opcode == 1 && keysShut s, lenOk := lenOk, serial := fun e => e.dserial == s.fab.serial, tenant := it.tenant, counter := counterCheck ((t.map (·.ctr)).getD 0) ((t.map (·.recs)).getD []), held := o.isSome, officer := setOfficer o, short := setShort o }

/-- The rule of the hierarchy officer quorum's kinds (13 R338). -/
def hierRule (kind tenant : Nat) (lenOk : Envelope → Bool) (serial : State → Envelope → Bool) (s : State) : EnvRule :=
  { kind := kind, shut := false, lenOk := lenOk, serial := serial s, tenant := tenant, counter := counterCheck s.hier.hctr s.hier.hrecs, held := s.hier.hoff.isSome, officer := setOfficer s.hier.hoff, short := setShort s.hier.hoff }

/-- The last 8 records of a counter, with one more. -/
def addRecord (l : List (Nat × Bytes)) (e : Envelope) : List (Nat × Bytes) :=
  let n := l ++ [(e.counter, e.digest)]
  n.drop (n.length - 8)

/-! ## Gate and route (R254) -/

/-- Lets the messages of a counter through one at a time, in their order. -/
def Svc.gate (id : Nat) (it : Item) : Svc Unit := fun r =>
  match r.rest with
  | _ :: l => .ok ((), { r with rest := l })
  | [] =>
    match it.gate with
    | none => .ok ((), r)
    | some g =>
      if gateFree r.state g && (firstAtGate r.state g).isNone then
        .ok ((), { r with state := modItem id (fun i => { i with answers := i.answers ++ [.nums []] }) r.state })
      else .error (.wait (itemWait id .event r.state))

/-- Whether this part executes the item's message, decided once. -/
def Svc.here (id : Nat) (it : Item) (all : Bool) : Svc Bool := do
  let a ← Svc.decide id (fun s => (.nums [b2n (all || isActive s || it.fn == fnForward)], s))
  pure (a.nat == 1)

/-- A key graft body's PROMOTE source is looked up on the part that received the packet (R257, R493). -/
def lookupSource (h tenant : Nat) (s : State) : Source × State :=
  match findLive s (h / 65536) (h % 65536) tenant with
  | .pass p => (.found p, count 0xA0 (some tenant) s)
  | .fail st d => (.failed st d, lookupFailed tenant st s)
  | .lease p => (.found p, s)
  | .broken => (.failed 0xFFFF 0, slotFatal (h / 65536) s)

/-- The source that a forwarded packet takes along. -/
def sourceOf (it : Item) (s : State) : Option Source × State :=
  let e := envelopeOf it.payload
  if it.opcode == 0x0101 && fld e.body 0 1 == 2 then
    let u := lookupSource (fld e.body 28 4) it.tenant s
    (some u.1, u.2)
  else (none, s)

/-- The epoch that a message about a tenant carries (13 R345). -/
def epochOf (s : State) (t : Nat) : Nat := ((tfind s.hier.placed t).map (·.epoch)).getD 0

/-- Sends an item's packet to the active manager. -/
def sendForward (id : Nat) (s : State) : State :=
  match getItem s id with
  | none => s
  | some it =>
    let u := sourceOf it s
    sendManager (.forward { fromId := myId s, ref := id, tenant := it.tenant, epoch := epochOf s it.tenant, opcode := it.opcode, nowait := it.nowait, payload := it.payload, source := u.1 }) u.2

/-- The item waits for the active manager's answer; while none can be reached its message waits too (13 R359). -/
def forwardItem (id : Nat) (s : State) : State :=
  let s := itemWait id .forward s
  if managerReachable s then sendForward id s else { s with hier := { s.hier with fwd := s.hier.fwd ++ [id] } }

/-- A source that has been promoted is scrubbed and freed in one write: its descendants are orphaned (R257). -/
def retireSource (h tenant : Nat) (s : State) : State :=
  match findBare s (h / 65536) (h % 65536) tenant with
  | .pass p => count 0xA8 none (freeSlot (h / 65536) { Slot.empty 0 with stamp := p.stamp, parent := p.parent, owner := p.owner } s)
  | _ => s

/-- The reply of an item that another part executes. -/
def Svc.forwarded (id : Nat) (it : Item) : Svc Reply := do
  let a ← Svc.awaitOk (forwardItem id)
  let e := envelopeOf it.payload
  if it.opcode == 0x0101 && fld e.body 0 1 == 2 then Svc.update (retireSource (fld e.body 28 4) it.tenant)
  done a.bytes

/-- Runs a signed message: executed here, or forwarded. -/
def Svc.signed (id : Nat) (it : Item) (all : Bool) (svc : Svc Reply) : Svc Reply := do
  if ← Svc.here id it all then
    Svc.gate id it
    svc
  else Svc.forwarded id it

/-- Runs the opcode of a signed message, and lets the next one of its counter through where it has been applied. -/
def runSigned (op id : Nat) (svc : Item → Svc Reply) (s : State) : State :=
  let g := (getItem s id).bind (·.gate)
  wakeGate g (runOpcode op id svc s)

/-! ## Applying (R254) -/

/-- The parts other than this one on which a tenant is placed, by position. -/
def placedIds (s : State) (t : Nat) : List Nat := ((getTenant s t).map (·.ids)).getD [] |>.filter (fun i => i != 0 && i != 0xFF)

/-- Those of them that are linked. -/
def linkedPlaced (s : State) (t : Nat) : List Nat := (placedIds s t).filter (fun i => (routeTo s i).isSome)

/-- What the parts on which a tenant is placed hold and no message told: free where there is one (log 33). -/
def remoteOk (s : State) (t : Nat) : Bool × State :=
  if (placedIds s t).isEmpty then (true, s)
  else
    let u := takeFree 2 s
    (u.1 == 0, u.2)

/-- The active manager copies its changes to a standby (13 R349, R356). -/
def copying (s : State) : Bool := isActive s && (s.hier.synced || s.hier.resyncN != 0)

/-- Puts a change into the delta of the cycle. -/
def noteDelta (f : DeltaContent → DeltaContent) (s : State) : State :=
  if copying s then { s with hier := { s.hier with delta := f s.hier.delta } } else s

/-- A slot as a message carries it: leases count as spent (R243), an overflow key object goes along in the place of its page
number (08 R208; log 78). -/
def wireSlot (s : State) (p : Slot) : Slot := { imgSlot p with key := if p.ovfl then (material s p).getD [] else p.key }

/-- Slots in a delta. -/
def noteSlots (l : List Nat) (s : State) : State :=
  noteDelta (fun d => { d with slots := l.foldl (fun a i => tput a i (wireSlot s (getSlot s i))) d.slots }) s

/-- The roster, H and its records, the officer set, the transport keys. -/
def noteHier (s : State) : State :=
  noteDelta (fun d =>
    { d with roster := s.hier.roster, hctr := s.hier.hctr, hrecs := s.hier.hrecs, hoff := s.hier.hoff, tkeys := s.hier.tkeys }) s

/-- A tenant's directory entry, counter, records, officers and mapping table. -/
def noteTenant (t : Nat) (s : State) : State :=
  match getTenant s t with
  | none => noteDelta (fun d => { d with dir := terase d.dir t }) s
  | some e => noteDelta (fun d => { d with dir := tput d.dir t e }) s

/-- One record of the vine image: the slots and the tenant's state as they stand. -/
def imgSync (t : Nat) (l : List Nat) (s : State) : State :=
  imgAppend (fun m =>
    { m with
      slots := l.foldl (fun a i => let p := getSlot s i; if p.free || !p.persist then terase a i else tput a i (imgSlot p)) m.slots
      tenants := match getTenant s t with
        | some e => tput m.tenants t e
        | none => m.tenants }) s

/-! ## The end of a context (04 R73, R91; 13 R342, R344) -/

/-- A context's ephemeral slots are destroyed, each as by a prune (R91 step 3, 09 R260). -/
def destroyEphemeral (t : Nat) (s : State) : State :=
  (s.vks.slots.filter (fun e => 256 ≤ e.1 && !e.2.free && !e.2.persist && e.2.owner == t)).foldl
    (fun (s : State) (e : Nat × Slot) => pruneSlot e.1 s) s

/-- Removes a function's queue pairs; what waits for their deletion is answered. -/
def removeQueues (fn : Nat) (s : State) : State :=
  let gone := s.hfe.queues.filter (fun e => e.1 / 16 == fn)
  let s := { s with hfe := { s.hfe with
    queues := s.hfe.queues.filter (fun e => e.1 / 16 != fn), fetched := s.hfe.fetched.filter (fun f => f.fn != fn) } }
  gone.foldl (fun (s : State) (e : Nat × Queue) => e.2.delers.foldl (fun (s : State) (i : Nat) => itemEnd i 0 0 s) s) s

/-- The windows of a share are emptied and its streams closed (R91 step 3, 07 R185). -/
def emptyShare (t : Nat) (c : Ctx) (s : State) : State :=
  { s with
    dsp := { s.dsp with flows := s.dsp.flows.filter (fun e => !c.hasFlow e.1) }
    eng := { s.eng with streams := s.eng.streams.filter (fun e => e.2.tenant != t) } }

/-- What a tenant's last released item lets go (01 R15): the slots of a part that it is no longer placed on, and the root
of a tenant that has been deleted. -/
def tenantLeaves (t : Nat) (s : State) : State :=
  match getTenant s t with
  | none => s
  | some e =>
    let here := ((tfind s.hier.placed t).map (·.here)).getD false
    if e.known && (here || roleOf s != .worker) then s
    else
      let s := if e.root.1 == 0 || (getSlot s e.root.1).free then s
        else noteSlots [e.root.1] (imgSync t [e.root.1] (pruneSlot e.root.1 s))
      if e.known then s
      else
        let s := modTenant t (fun e => { e with root := (0, 0), vik := (0, 0) }) s
        if (getCtx s t).isSome then s else { s with hier := { s.hier with placed := terase s.hier.placed t } }

/-- A context is removed from the part. -/
def removeCtx (t : Nat) (s : State) : State :=
  match getCtx s t with
  | none => s
  | some c =>
    let s := emptyShare t c (destroyEphemeral t s)
    let s := match c.inst with
      | some i => uninstantiate i s
      | none => s
    let s := if c.vf == 0 then s else removeQueues c.vf s
    let ws := c.waiters ++ c.freezer
    let s := ctxEvent c { s with hfe := { s.hfe with ctxs := terase s.hfe.ctxs t } }
    tenantLeaves t (ws.foldl (fun (s : State) (i : Nat) => itemEnd i 0 0 s) s)

/-- After a release: a context that is to go goes once it has no item left (R73), and so does what the tenant leaves. -/
def tenantIdle (t : Nat) (s : State) : State :=
  if !(itemsOf s t).isEmpty then s
  else
    match getCtx s t with
    | none => tenantLeaves t s
    | some c => if c.gone && c.st != .resetting then removeCtx t s else tenantLeaves t s

/-! ## What an applied message sends and waits for -/

/-- The base that would be written for the image as it stands exceeds 7 MiB (R271, 01BBh). -/
def baseTooBig (s : State) : Bool :=
  match s.vks.img with
  | none => false
  | some m => decide (baseMax < baseSize m)

/-- Step 1 of R254 for a message of a tenant: the change, the counter, the image record. -/
def applyTenant (t : Nat) (e : Envelope) (l : List Nat) (s : State) : State :=
  let s := modTenant t (fun x => { x with ctr := e.counter, recs := addRecord x.recs e }) s
  noteTenant t (noteSlots l (imgSync t l s))

/-- Step 2: KEYDIST with changed slots to the linked parts on which the tenant is placed. -/
def sendSlots (t ref : Nat) (ids l : List Nat) (complete : Bool) (s : State) : State :=
  let m : KeydistMsg := { mterm := s.hier.mterm, ref := ref, tenant := t, epoch := ((getTenant s t).map (·.epoch)).getD 0, slots := l.map (fun i => (i, wireSlot s (getSlot s i))), complete := complete }
  ids.foldl (fun (s : State) (i : Nat) => sendTo i (.keydist m) s) s

/-- A placement message to some parts. -/
def sendPlacement (ref : Nat) (ids : List Nat) (b : PlacementBody) (s : State) : State :=
  ids.foldl (fun (s : State) (i : Nat) => sendTo i (.placement { mterm := s.hier.mterm, ref := ref, body := b }) s) s

/-- The reply of an applied message, and what it waits for: acknowledgements, and the next twin copy (R254 step 3). -/
def newApply (id : Nat) (it : Item) (e : Envelope) (payload : Bytes) (ids : List Nat) (s : State) : Apply :=
  { ref := s.hier.refs, item := id, gate := it.gate.getD 0, counter := e.counter, digest := e.digest, reply := { status := 0, detail := 0, payload := payload }, await := ids, after := none, delta := if hasStandby s then some (s.hier.closed + 1) else none, also := [] }

/-- Nothing is left to wait for. -/
def Apply.over (a : Apply) : Bool := a.await.isEmpty && a.after.isNone && a.delta.isNone

/-- Applies a message, or refuses it; the reply is released once nothing is left to wait for. -/
def Svc.apply (id : Nat) (f : State → Except (Nat × Nat) (Apply × State)) : Svc Reply := fun r =>
  match f r.state with
  | .error u => .error (.reply (.bare u.1 u.2) r.state)
  | .ok u =>
    let s := { u.2 with hier := { u.2.hier with refs := u.2.hier.refs + 1 } }
    if u.1.over then .ok (u.1.reply, { r with state := s })
    else .error (.wait (itemWait id .event { s with hier := { s.hier with applies := s.hier.applies ++ [u.1] } }))

/-- This part adopts a directory entry's epoch and placement (13 R344); a context that loses its placement is to go once its
items have been released (04 R73). -/
def adoptEntry (t : Nat) (e : Tenant) (s : State) : State :=
  let was := tget s.hier.placed t { epoch := 0, here := false, full := false }
  let here := e.known && placedAt s e.ids
  let p : Placed := { epoch := e.epoch, here := here, full := here && (isActive s || was.full) }
  let s := { s with hier := { s.hier with dir := tput s.hier.dir t e, placed := tput s.hier.placed t p } }
  if here then s else tenantIdle t (if was.here then modCtx t (fun c => { c with gone := true }) s else s)

/-- An acknowledged phase goes on: the placement that follows is adopted here and sent (13 R343 step 3). -/
def applyNext (a : Apply) (s : State) : Apply × State :=
  match a.await, a.after with
  | [], some u =>
    let ids := u.1.filter (fun i => (routeTo s i).isSome)
    let s := match getTenant s u.2 with
      | some e => sendPlacement a.ref ids (.entry u.2 e) (adoptEntry u.2 e s)
      | none => s
    ({ a with await := ids, after := none }, s)
  | _, _ => (a, s)

/-- Releases the replies that wait for nothing more, and those of their duplicates at the same moment. -/
def finishApplies (s : State) : State :=
  let u := s.hier.applies.foldl (fun (u : List Apply × State) a =>
    let v := applyNext a u.2
    (u.1 ++ [v.1], v.2)) ([], s)
  let s := { u.2 with hier := { u.2.hier with applies := u.1.filter (fun a => !a.over) } }
  (u.1.filter (·.over)).foldl (fun (s : State) (a : Apply) =>
    a.also.foldl (fun (s : State) (i : Nat) => itemEnd i 0x0010 0 s) (itemDone a.item a.reply s)) s

/-- Changes the replies that wait. -/
def modApplies (f : Apply → Apply) (s : State) : State :=
  finishApplies { s with hier := { s.hier with applies := s.hier.applies.map f } }

end Sys2Proof.Machine
end

