-- ==== Sys2Proof/Machine/Admission.lean ====
section
/-! DEFINITION. Admission: the checks of Table 3.3 in their order, DIRECT replies, the quota and packets held for it
(03 R40-R59, 04 R82, R86, R93, 05 R103, R111). -/

set_option Elab.async false

namespace Sys2Proof.Machine

/-! ## Lowest free decanter entry -/

/-- The first number at or after `n` that a sorted table leaves out. -/
def firstGap {α : Type} (n : Nat) : Table α → Nat
  | [] => n
  | (i, _) :: r => if i == n then firstGap (n + 1) r else n

/-- A free decanter entry: the lowest (log 37). -/
def freeEntryNo (s : State) : Option Nat :=
  let n := firstGap 0 s.dsp.items
  if n < 8192 then some n else none

/-! ## Steps 5 to 8, which depend on the context -/

/-- Where a check leaves a packet. -/
inductive Admit where
  | pass
  | hold
  | fail (status detail step : Nat)
  deriving DecidableEq, Repr

/-- Step 5: placed here, under the epoch of the packet (R344). -/
def epochOk (s : State) (it : Item) : Bool :=
  match tfind s.hier.placed it.tenant with
  | none => false
  | some p => p.here && p.epoch == it.epoch

/-- The answer of a context that is not NORMAL (04 R86). -/
def ctxRefusal (c : Ctx) : Option (Nat × Nat) :=
  match c.st with
  | .normal => none
  | .quarantined => some (0x0202, c.fsrc)
  | .resetting => some (0x0703, c.rdetail)
  | .frozen => some (0x0206, if c.saved then 2 else 1)

/-- The deadline of NOTAFTER against the cycle, at admission (`detail` 1) or hand-off (2) (R52, 01 R15). -/
def deadline (s : State) (notafter detail : Nat) : Option (Nat × Nat) :=
  if notafter == 0 then none
  else
    match s.cycle with
    | none => some (0x0402, detail)
    | some c => if deadlinePassed notafter c then some (0x0401, detail) else none

/-- Step 8 (R53, 02 R36). -/
def quotaCheck (s : State) (c : Ctx) (it : Item) : Admit :=
  if c.quota == 0 || 0 < c.left then .pass
  else if s.cycle.isNone then .fail 0x0402 4 8
  else if !c.hold then .fail 0x0203 1 8
  else if it.nowait then .fail 0x0203 2 8
  else .hold

/-- Steps 5 to 8. -/
def admitCtx (s : State) (it : Item) (c : Ctx) : Admit :=
  if !epochOk s it then .fail 0x0204 (epochOf s it.tenant % 65536) 5
  else
    match ctxRefusal c with
    | some u => .fail u.1 u.2 6
    | none =>
      if s.hier.mst == .purged then .fail 0x0205 1 6
      else
        match deadline s it.notafter 1 with
        | some u => .fail u.1 u.2 7
        | none => quotaCheck s c it

/-- Step 7 alone, for the classes of R51. -/
def admitPf (s : State) (it : Item) : Admit :=
  match deadline s it.notafter 1 with
  | some u => .fail u.1 u.2 7
  | none => .pass

/-! ## Steps 9 to 11, which depend on the packet alone -/

/-- The form of KEY (R54, 07 R186). -/
def keyForm (pf : Bool) (f : OpForm) (key : Nat) : Bool :=
  let h := (if pf then 1 else 256) ≤ key / 65536
  if f.op == 0x0702 then key == 0 || h else if f.key then h else key == 0

/-- Steps 9 to 11: the failure and its step. -/
def admitForm (it : Item) : Option (Nat × Nat × Nat) :=
  let pf := it.fn == 0
  if 0x0F < opClass it.opcode then some (0x0104, 1, 9)
  else if !classOn pf it.opcode then some (0x0104, 3, 9)
  else
    match opForm it.opcode with
    | none => some (0x0104, 2, 9)
    | some f =>
      if it.rsvd then some (0x0105, 1, 9)
      else if pf && pfClass it.opcode && (it.epoch != 0 || (it.tenant != 0 && !namesTenant it.opcode)) then some (0x0105, 6, 9)
      else if it.payload.isEmpty && !f.zero then some (0x0106, 0, 9)
      else if f.max < it.payload.length then some (0x0105, 2, 9)
      else if !keyForm pf f it.key then some (0x0105, 3, 10)
      else if it.pcrc && !it.crcOk then some (0x0107, 1, 11)
      else none

/-! ## An item's way through steps 5 to 11 -/

/-- The item ends at an admission step without running (R50). -/
def failAdmit (id status detail step : Nat) (s : State) : State :=
  let ten := (getItem s id).bind (·.owner)
  itemEnd id status detail (count (0x1F + step) ten s)

/-- One unit of quota (R53). -/
def chargeQuota (it : Item) (s : State) : State :=
  match it.owner with
  | none => s
  | some t => modCtx t (fun c => if c.quota == 0 then c else { c with left := c.left - 1 }) s

/-- An item that has passed steps 5 to 8. -/
def admitCharged (id : Nat) (it : Item) (s : State) : State :=
  let s := chargeQuota it s
  match admitForm it with
  | some u => failAdmit id u.1 u.2.1 u.2.2 s
  | none => enterList id (modItem id (fun i => { i with phase := .ready, arr := 0 }) s)

/-- An item is held for quota; its arrival is kept for the refresh (R53, 02 Table 2.4). -/
def holdItem (id : Nat) (it : Item) (s : State) : State :=
  let n := s.dsp.arr + 1
  count 0x19 it.owner (modItem id (fun i => { i with phase := .held, arr := n }) { s with dsp := { s.dsp with arr := n } })

/-- Steps 5 to 11 for an item, new or held (R50, R53). -/
def admitItem (id : Nat) (s : State) : State :=
  match getItem s id with
  | none => s
  | some it =>
    let a := match it.owner with
      | none => admitPf s it
      | some t =>
        match getCtx s t with
        | none => .fail 0x0201 1 5
        | some c => admitCtx s it c
    match a with
    | .fail st d n => failAdmit id st d n s
    | .pass => admitCharged id it s
    | .hold => if it.phase == .held then s else holdItem id it s

/-! ## Steps 1 to 4 -/

/-- A DIRECT reply: its failure, and what it echoes. -/
structure Direct where
  step    : Nat
  status  : Nat
  detail  : Nat
  opcode  : Nat
  tenantF : Nat
  flowF   : Nat
  seq     : Nat
  epoch   : Nat
  pcrc    : Bool

/-- What a DIRECT reply echoes of a header (R48, R49): HDR_CHECK alone keeps reserved bits and no PCRC. -/
def directHdr (h : Header) (step status detail : Nat) : Direct :=
  let raw := status == 0x0101
  { step := step, status := status, detail := detail, opcode := h.opcode, tenantF := if raw then h.tenantF else h.tenant, flowF := h.flowF, seq := h.seq, epoch := h.epoch, pcrc := !raw && h.pcrc }

/-- Step 4: the DETAIL of TENANT_UNKNOWN. -/
def tenantCheck (s : State) (fn : Nat) (h : Header) : Option Nat :=
  if fn == 0 && pfClass h.opcode then (if h.flow < 256 then none else some 2)
  else
    match getCtx s h.tenant with
    | none => some 1
    | some c => if fn != 0 && c.vf != fn then some 3 else if c.hasFlow h.flow then none else some 2

/-- Steps 1 to 4 and 04 R77: the DIRECT reply of a packet that fails one. -/
def directCheck (s : State) (fn : Nat) (pkt : Bytes) : Option Direct :=
  let h := headerOf pkt
  if pkt.length < 32 then
    some { step := 3, status := 0x0102, detail := 1, opcode := 0, tenantF := 0, flowF := 0, seq := 0, epoch := 0, pcrc := false }
  else if toBE 4 (crc32c (pkt.take 28)).toNat != slice pkt 28 4 then some (directHdr h 1 0x0101 1)
  else if fld pkt 0 1 != 0xD9 then some (directHdr h 2 0x0101 2)
  else if fld pkt 1 1 != 1 then some (directHdr h 2 0x0103 1)
  else if pkt.length < h.declared then some (directHdr h 3 0x0102 1)
  else if h.declared < pkt.length then some (directHdr h 3 0x0102 2)
  else (tenantCheck s fn h).map (fun d => directHdr h 4 0x0201 d)

/-- The reply packet of a DIRECT reply (R47, R49). -/
def Direct.bytes (s : State) (d : Direct) : Bytes :=
  replyBytes d.opcode d.tenantF d.flowF d.seq d.pcrc true (.bare d.status d.detail) d.epoch (stampCycle s)

/-- Writes a DIRECT reply (R58). -/
def writeDirect (f : Fetched) (d : Direct) (s : State) : State :=
  writeReply { fn := f.fn, q := f.q, pos := f.pos, tag := f.tag, raddr := f.raddr, rcap := f.rcap } (.bare d.status d.detail) (d.bytes s) true none (count (0x1F + d.step) none s)

/-! ## A packet becomes an item -/

/-- The item of a packet that has passed step 4 (Table 3.1, 04 R96). -/
def itemOf (s : State) (f : Fetched) (pkt : Bytes) (sn : Nat) : Item :=
  let h := headerOf pkt
  let pay := slice pkt 32 h.len
  { fn := f.fn, q := f.q, pos := f.pos, tag := f.tag, raddr := f.raddr, rcap := f.rcap, opcode := h.opcode, tenant := h.tenant, flow := h.flow, ord := h.ord, seq := h.seq, nowait := h.nowait, pcrc := h.pcrc, key := h.key, epoch := h.epoch, notafter := h.notafter, payload := pay, rsvd := h.rsvd, crcOk := !h.pcrc || slice pkt (32 + h.len) 4 == toBE 4 (crc32c pay).toNat, sn := sn, arr := 0, level := ((getQueue s f.fn f.q).map (·.pri)).getD 0, phase := .ready, answers := [], holding := [], slot := none, wrote := none, map := none, windows := [], outer := none, reply := none, source := none }

/-- An ordered item takes NEXT, and NEXT advances (05 R111). -/
def takeNext (h : Header) (s : State) : Nat × State :=
  if h.ord then
    let f := tget s.dsp.flows h.flow { head := 0, next := 0 }
    (f.next, { s with dsp := { s.dsp with flows := tput s.dsp.flows h.flow { f with next := (f.next + 1) % 65536 } } })
  else (0, s)

/-- The packet becomes the item of entry `id` and goes through steps 5 to 11. -/
def makeItem (id : Nat) (f : Fetched) (pkt : Bytes) (s : State) : State :=
  let u := takeNext (headerOf pkt) s
  let it := itemOf u.2 f pkt u.1
  admitItem id { u.2 with dsp := { u.2.dsp with items := tput u.2.dsp.items id it } }

/-- A pair can take a completion entry, or will take none. -/
def pairRoom (s : State) (fn q : Nat) : Bool :=
  match getQueue s fn q with
  | none => true
  | some p => p.st == .error || discarding s fn || p.room

/-- The host front end transfers data: powered, its gates open, Armature or the plinth serving (14 R365, 17 R438); kept
tables wait for READY (R83). -/
def hfeLive (s : State) : Bool :=
  s.powered && !s.boot.gates && 2 ≤ s.boot.phase && s.grd.power == .p0 && (s.boot.kept.isNone || s.boot.phase == 5)

/-- A part that has not received a tenant's slots, or compares its state with the manager's, admits none of the tenant's
packets (13 R357, R359, 17 R442, 09 R248); nor does one whose DIRECT reply waits for room let its queue's packets pass
(log 38). -/
def mayAdmit (s : State) (f : Fetched) : Bool :=
  (pairRoom s f.fn f.q || !s.hfe.fetched.any (fun g => g.stuck && g.fn == f.fn && g.q == f.q)) &&
  match tenantOfVf s f.fn with
  | none => true
  | some t => s.hier.mst != .resync && ((tfind s.hier.placed t).map (fun p => p.full || !p.here)).getD true

/-- Marks the first packet that satisfies a test. -/
def stickFirst (p : Fetched → Bool) : List Fetched → List Fetched
  | [] => []
  | f :: l => if p f then { f with stuck := true } :: l else f :: stickFirst p l

/-- A packet's admission. -/
def admitPacket (f : Fetched) (rest : List Fetched) (pkt : Bytes) (s : State) : State :=
  match directCheck s f.fn pkt with
  | some d => if pairRoom s f.fn f.q then writeDirect f d { s with hfe := { s.hfe with fetched := rest } }
    else { s with hfe := { s.hfe with fetched := stickFirst (mayAdmit s) s.hfe.fetched } }
  | none =>
    match freeEntryNo s with
    | none => s
    | some id => makeItem id f pkt { s with hfe := { s.hfe with fetched := rest } }

/-- PACKET_ADMISSION (R50): the oldest fetched packet that may be admitted lands. A DIRECT reply that finds its
completion ring full leaves it where it is, marked (log 38). -/
def execPacketAdmission (pkt : Bytes) (s : State) : Host.Outcome State Fault Refusal :=
  match s.hfe.fetched.find? (mayAdmit s) with
  | none => .next s
  | some f =>
    if hfeLive s && pkt.length == f.dlen then .next (admitPacket f (removeFirst (mayAdmit s) s.hfe.fetched) pkt s) else .next s

/-! ## The refresh of a boundary (02 R33, R36, 04 R93) -/

/-- A context's quota for the new cycle: SET_QUOTA's values come in force. -/
def refreshCtx (c : Ctx) : Ctx :=
  match c.staged with
  | some u => { c with quota := u.1, hold := u.2, left := u.1, staged := none }
  | none => { c with left := c.quota }

/-- Held items of every context, in submission order (02 Table 2.4). -/
def heldItems (s : State) : List Nat :=
  let l := s.dsp.items.filter (fun e => e.2.phase == .held)
  (l.foldl (fun (a : List (Nat × Nat)) e =>
    let k := e.2.arr
    (a.takeWhile (fun x => x.2 ≤ k)) ++ [(e.1, k)] ++ (a.dropWhile (fun x => x.2 ≤ k))) []).map (·.1)

/-- The refresh: quotas, then the held packets again from step 5. -/
def refreshQuota (s : State) : State :=
  let s := { s with hfe := { s.hfe with ctxs := tmap s.hfe.ctxs (fun _ c => refreshCtx c) } }
  (heldItems s).foldl (fun (s : State) (id : Nat) => admitItem id s) s

/-- The cycle unit unlocks: packets held for quota are released with CYCLE_UNLOCKED (02 Table 2.5). -/
def unlockHeld (s : State) : State := (heldItems s).foldl (fun (s : State) (id : Nat) => itemEnd id 0x0402 6 s) s

end Sys2Proof.Machine
end

