-- ==== Sys2Proof/Machine/Front.lean ====
section
/-! DEFINITION. The host front end's own commands: doorbells, fetch, host DMA errors, interrupts, function resets, the
ends of resets, freezes and deletions, and PCIe configuration writes (04 R69-R97, R491). -/

set_option Elab.async false

namespace Sys2Proof.Machine

/-! ## Doorbells (R80, R81, Table 4.5) -/

/-- The host reaches a function: the PF, or a VF that VF Enable and NumVFs make visible (R74). -/
def fnVisible (s : State) (fn : Nat) : Bool := fn == 0 || (s.hfe.vfen && fn ≤ s.hfe.numvf)

/-- A doorbell write of a pair that exists: bits 11:0, out of range an error of the queue. -/
def doorbell (fn q v : Nat) (f : Nat → Queue → Queue) (s : State) : State :=
  match getQueue s fn q with
  | none => s
  | some p =>
    if !fnVisible s fn || p.st == .error then s
    else if v % 4096 < p.size then modQueue fn q (f (v % 4096)) s
    else queueError fn q s

/-- A new submission tail (R80, R82). -/
def sqTail (fn q v : Nat) (s : State) : State := doorbell fn q v (fun n p => { p with sqtail := n }) s

/-- A new completion head (R80, R81). -/
def cqHead (fn q v : Nat) (s : State) : State := writeRmarks (doorbell fn q v (fun n p => { p with cqhead := n }) s)

/-- SQ_TAIL_WRITE. -/
def execSqTailWrite (fn q v : Nat) (s : State) : Host.Outcome State Fault Refusal := .next (sqTail fn q v s)

/-- CQ_HEAD_WRITE. -/
def execCqHeadWrite (fn q v : Nat) (s : State) : Host.Outcome State Fault Refusal := .next (cqHead fn q v s)

/-! ## Fetch (R76, R77, R82, R95, 03 R56) -/

/-- Packets of a context in flight: its items and what its VF's queues have fetched (R82). -/
def ctxInflight (s : State) (t : Nat) (c : Ctx) : Nat :=
  countItems (fun _ it => it.owner == some t) s + s.hfe.fetched.countP (fun f => c.vf != 0 && f.fn == c.vf)

/-- A function may fetch: on a VF its context is NORMAL and below INFL. A HANDOVER stops fetch (13 R353), and so does a
life-cycle transition once its intent row is programmed (15 R390). -/
def fnFetches (s : State) (fn : Nat) : Bool :=
  if s.hier.handover.isSome || (rollInto s.otp).isSome then false
  else if fn == 0 then true
  else
    fnVisible s fn &&
      (match (tenantOfVf s fn).bind (fun t => (getCtx s t).map (fun c => (t, c))) with
        | some (t, c) => c.st == .normal && ctxInflight s t c < c.infl
        | none => false)

/-- A pair has an entry to fetch. -/
def Queue.fetches (p : Queue) : Bool := p.st == .enabled && !p.del && !p.rmark && p.sqhead != p.sqtail

/-- The first element at or after a turn, else the first. -/
def turn (n : Nat) (l : List Nat) : Option Nat := (l.find? (fun i => n ≤ i)) <|> l.head?

/-- Pairs of a function that can be fetched from. -/
def fetchPairs (s : State) (fn : Nat) : List Nat :=
  (s.hfe.queues.filter (fun e => e.1 / 16 == fn && e.2.fetches)).map (fun e => e.1 % 16)

/-- Functions with such a pair. -/
def fetchFns (s : State) : List Nat :=
  (((s.hfe.queues.filter (fun e => e.2.fetches)).map (fun e => e.1 / 16)).eraseDups).filter (fnFetches s)

/-- The pair whose turn it is: functions in turn, then the function's pairs in turn (R82). -/
def nextPair (s : State) : Option (Nat × Nat) :=
  (turn s.hfe.rrFn (fetchFns s)).bind (fun fn => (turn (tget s.hfe.rrQ fn 0) (fetchPairs s fn)).map (fun q => (fn, q)))

/-- The turn passes on. -/
def passTurn (fn q : Nat) (s : State) : State :=
  { s with hfe := { s.hfe with rrFn := fn + 1, rrQ := tput s.hfe.rrQ fn (q + 1) } }

/-- Staging SRAM, and what it holds of packets fetched and items in flight (01 Table 1.2; log 44). -/
def stagingSize : Nat := 28 * 1048576
def staged (s : State) : Nat :=
  s.hfe.fetched.foldl (fun a f => a + f.dlen) 0 +
    s.dsp.items.foldl (fun a e => a + (if 64 < e.2.fn then 0 else 32 + e.2.payload.length + 4 * b2n e.2.pcrc)) 0

/-- The segments an entry takes in its list (log 45). -/
def entrySegs (entry : Bytes) : Nat := if bit (fldLE entry 8 4) 31 then min (fldLE entry 14 2) 256 else 0

/-- The delivered length of an entry (R77). -/
def delivered (entry segs : Bytes) : Nat :=
  if bit (fldLE entry 8 4) 31 then (List.range (segs.length / 16)).foldl (fun a i => a + fldLE segs (16 * i + 8) 4) 0
  else fldLE entry 8 4 % 2 ^ 25

/-- The entry of a pair's fetch position is read. -/
def fetchEntry (fn q : Nat) (p : Queue) (entry segs : Bytes) (s : State) : State :=
  let n := delivered entry segs
  let f : Fetched :=
    { fn := fn, q := q, pos := p.sqhead, tag := fldLE entry 12 2, raddr := fldLE entry 16 8, rcap := fldLE entry 24 4, dlen := n, stuck := false }
  let s := passTurn fn q s
  if staged s + n ≤ stagingSize then
    let ten := tenantOfVf s fn
    let s := countN 0x11 ((n + 63) / 64) ten (count 0x10 ten s)
    modQueue fn q (fun p => { p with sqhead := (p.sqhead + 1) % p.size }) { s with hfe := { s.hfe with fetched := s.hfe.fetched ++ [f] } }
  else s

/-- SUBMISSION_ENTRY_FETCH (R82): the bytes of the entry of the pair whose turn it is, and of its segment list. While
staging cannot hold the packet the pair's turn passes with nothing fetched (03 R56). -/
def execSubmissionEntryFetch (entry segs : Bytes) (s : State) : Host.Outcome State Fault Refusal :=
  match nextPair s with
  | none => .next s
  | some (fn, q) =>
    match getQueue s fn q with
    | none => .next s
    | some p =>
      if hfeLive s && entry.length == 32 && segs.length == 16 * entrySegs entry &&
          s.dsp.items.length + s.hfe.fetched.length < 8192 then
        .next (fetchEntry fn q p entry segs s)
      else .next s

/-! ## Containment to a context (R88-R90) and host DMA errors -/

/-- The source number of the host front end's function (16 Table 16.1). -/
def srcHfe (fn : Nat) : Nat := 0x0100 + fn

/-- Items that a quarantine of a context ends. -/
def quarEnds (s : State) (t : Nat) : Nat := countItems (fun _ it => it.owner == some t && !it.resident && !it.isComplete) s

/-- A contained fault of a function's transfers: its context is quarantined; on the PF the queue concerned fails (16 Table
16.1). -/
def fnFault (fn q cause : Nat) (s : State) : State :=
  let ten := tenantOfVf s fn
  let n := match ten with
    | some t => quarEnds s t
    | none => 0
  let s := containedReport (srcHfe fn) cause 0 n false false s
  match ten with
  | some t => quarantine t (srcHfe fn) s
  | none => queueError fn q s

/-- Every error response to a host transfer is counted (19 Table 19.9). -/
def countDma (s : State) : State := eachCopy (fun c => { c with dmaerr := satAdd max32 c.dmaerr 1 }) s

/-- The completion entry of an item whose reply packet could not be written (R78). -/
def releaseTrunc (id : Nat) (it : Item) (s : State) : State :=
  let r := it.reply.getD (.bare 0xFFFF 0)
  let e : Completed :=
    { fn := it.fn, q := it.q, pos := it.pos, status := r.status, detail := r.detail, rlen := 0, phase := false, trunc := true, direct := false, rmark := false, tag := it.tag }
  release id it (writeCompletion e it.owner) s

/-- An item whose transfer can meet an error now: it can be released, and its queue takes entries. -/
def releasing (s : State) (id : Nat) : Option Item :=
  match getItem s id with
  | none => none
  | some it => if hfeLive s && it.fn ≤ 64 && atHead s it && hasRoom s it then some it else none

/-- HOST_DMA_ERROR (R78, R80, R88). A packet whose read fails becomes no item and gets no reply. -/
def execHostDmaError (e : DmaError) (s : State) : Host.Outcome State Fault Refusal :=
  match e with
  | .entryRead fn q =>
    match getQueue s fn q with
    | none => .next s
    | some p => if hfeLive s && p.fetches && fnFetches s fn then .next (queueError fn q (countDma s)) else .next s
  | .packetRead =>
    match s.hfe.fetched with
    | [] => .next s
    | f :: rest =>
      if hfeLive s then .next (fnFault f.fn f.q causeError (countDma { s with hfe := { s.hfe with fetched := rest } })) else .next s
  | .replyWrite item =>
    match releasing s item with
    | none => .next s
    | some it => .next (fnFault it.fn it.q causeError (releaseTrunc item it (countDma s)))
  | .completionWrite item =>
    match releasing s item with
    | none => .next s
    | some it => .next (release item it id (queueError it.fn it.q (countDma s)))

/-! ## CTIM (R85) -/

/-- CTIM_EXPIRY: CTIM µs after the first unsignalled entry the queue's message is sent. -/
def execCtimExpiry (fn q : Nat) (s : State) : Host.Outcome State Fault Refusal :=
  match getQueue s fn q with
  | none => .next s
  | some p =>
    if p.unsig == 0 || p.ctim == 0 || p.vec == 0xFF || !hfeLive s then .next s
    else .next (sendMsix fn p.vec (modQueue fn q (fun p => { p with unsig := 0 }) (s.at_ (p.unsigAt + 1000 * p.ctim))))

/-! ## Function resets (R91, R92) -/

/-- A function's ring pointers return to 0 and its next entries carry PHASE 1. -/
def zeroRings (fn : Nat) (s : State) : State :=
  modQueuesOf fn (fun p => { p with sqtail := 0, sqhead := 0, cqhead := 0, cqtail := 0, phase := true, unsig := 0 }) s

/-- A function's MSI-X state returns to its defaults, as PCIe gives for an FLR (log 42). -/
def resetMsix (fn : Nat) (s : State) : State :=
  { s with hfe := { s.hfe with msix := s.hfe.msix.filter (fun e => e.1 / 128 != fn), msixFn := terase s.hfe.msixFn fn } }

/-- VF_FLR (R91). -/
def execVfFlr (vf : Nat) (s : State) : Host.Outcome State Fault Refusal :=
  if !fnVisible s vf || vf == 0 then .next s
  else
    let s := match tenantOfVf s vf with
      | some t => beginReset t 2 none true s
      | none => s
    .next (resetMsix vf (zeroRings vf s))

/-- PF_FLR (R92): placement, keys and the cycle unit are unaffected; the host's copies reset (19 R482). -/
def execPfFlr (s : State) : Host.Outcome State Fault Refusal :=
  let s := s.hfe.ctxs.foldl (fun (s : State) (e : Nat × Ctx) => beginReset e.1 2 none true s) s
  let s := (List.range 65).foldl (fun (s : State) (fn : Nat) => removeQueues fn s) s
  .next (resetMsix 0 { s with hfe := { s.hfe with vfen := false, numvf := 0 }, boot := { s.boot with aqcfg := s.boot.aqcfg &&& 0x7FFFFFFF }, host := .reset })

/-! ## What ends when its items are gone -/

/-- A reset's last steps: R91 steps 3 and 4, and the context's next state. -/
def endReset (t : Nat) (c : Ctx) (s : State) : State :=
  let s := emptyShare t c (destroyEphemeral t s)
  let i := c.inst.getD (freeInst s)
  let s := instantiate i t (uninstantiate i s)
  let s := if c.vf == 0 then s else modQueuesOf c.vf (fun p => { p with st := .enabled }) s
  let s := modCtx t (fun c => { c with
    st := (if c.quarAfter.isSome then .quarantined else .normal), fsrc := c.quarAfter.getD 0, inst := some i, saved := false, waiters := [], quarAfter := none, flr := false }) s
  c.waiters.foldl (fun (s : State) (i : Nat) => itemEnd i 0 0 s) (ctxEvent c s)

/-- TENANT_RESET_COMPLETE (R91, 05 R115): every item of the context has been released. -/
def execTenantResetComplete (tenant : Nat) (s : State) : Host.Outcome State Fault Refusal :=
  match getCtx s tenant with
  | none => .next s
  | some c =>
    if c.st == .resetting && (itemsOf s tenant).isEmpty then .next (if c.gone then removeCtx tenant s else endReset tenant c s)
    else .next s

/-- FREEZE_COMPLETE (R97): the context has no item in flight. -/
def execFreezeComplete (tenant : Nat) (s : State) : Host.Outcome State Fault Refusal :=
  match getCtx s tenant with
  | none => .next s
  | some c =>
    if !c.freezer.isEmpty && ctxInflight s tenant c == 0 then
      .next (c.freezer.foldl (fun (s : State) (i : Nat) => itemEnd i 0 0 s) (modCtx tenant (fun c => { c with freezer := [] }) s))
    else .next s

/-- DELETE_QUEUE_COMPLETE (R96): the pair's items, the deletions themselves apart, have been released and written (log 43). -/
def execDeleteQueueComplete (fn q : Nat) (s : State) : Host.Outcome State Fault Refusal :=
  match getQueue s fn q with
  | none => .next s
  | some p =>
    if p.del && countItems (fun i it => it.fn == fn && it.q == q && !p.delers.contains i) s == 0 &&
        s.hfe.fetched.all (fun f => !(f.fn == fn && f.q == q)) then
      let s := { s with hfe := { s.hfe with queues := terase s.hfe.queues (qkey fn q) } }
      let s := if fn == 0 && q == 0 then { s with boot := { s.boot with aqcfg := s.boot.aqcfg &&& 0x7FFFFFFF } } else s
      .next (p.delers.foldl (fun (s : State) (i : Nat) => itemEnd i 0 0 s) s)
    else .next s

/-! ## Configuration writes (R74, R84, R491) -/

/-- Sends the pending messages of a function that its MSI-X state lets go. -/
def sendPending (fn : Nat) (s : State) : State :=
  (s.hfe.msix.filter (fun e => e.1 / 128 == fn && e.2.pend)).foldl (fun (s : State) (e : Nat × Msix) =>
    if msixOpen s fn (e.1 % 128) then
      sendMsix fn (e.1 % 128) { s with hfe := { s.hfe with msix := tmod s.hfe.msix e.1 (fun m => { m with pend := false }) } }
    else s) s

/-- CONFIGURATION_WRITE. -/
def execConfigurationWrite (w : ConfigWrite) (s : State) : Host.Outcome State Fault Refusal :=
  if s.boot.perst || !s.powered then .next s
  else
    match w with
    | .vfEnable e n => .next { s with hfe := { s.hfe with vfen := e, numvf := min n 64 } }
    | .msixControl fn e m => .next (sendPending fn { s with hfe := { s.hfe with msixFn := tput s.hfe.msixFn fn (e, m) } })
    | .msixEntry fn vec a d m =>
      let p := (tget s.hfe.msix (msixKey fn vec) .reset).pend
      .next (sendPending fn { s with hfe := { s.hfe with msix := tput s.hfe.msix (msixKey fn vec) { addr := a, data := d, mask := m, pend := p } } })
    | .link w sp => .next { s with hfe := { s.hfe with width := w, speed := sp } }

end Sys2Proof.Machine
end

