-- ==== Sys2Proof/Machine/Vault.lean ====
section
/-! DEFINITION. The token vault, the commits of the cellar, class 0Ah, and the commands of the cellar controller (08). -/

set_option Elab.async false

namespace Sys2Proof

/-- A free place. -/
def VaultRec.free : VaultRec := { kind := 0, pan := [], token := [], keydig := [], created := 0, serial := 0, attr := [] }

/-- A live record or a tombstone. -/
def VaultRec.live (r : VaultRec) : Bool := r.kind == 1 || r.kind == 2
def VaultRec.tomb (r : VaultRec) : Bool := r.kind == 3

end Sys2Proof

namespace Sys2Proof.Machine

/-! ## Layout (08 R206) -/

def extentPages : Nat := 262144

/-- Nodes of the tree over `n` pages, levels 1 to 8. -/
def treeNodes (n : Nat) : Nat := (List.range 8).foldl (fun a l => a + (n + 16 ^ (l + 1) - 1) / 16 ^ (l + 1)) 0

/-- The first page of the vault: 8 nodes of 512 bytes to a tree page (log 36). -/
def vaultBase (n : Nat) : Nat := 2 + 65536 + 4096 + 2048 + 262144 + (treeNodes n + 7) / 8

/-- Whole extents that the vault has. -/
def vaultExtents (n : Nat) : Nat := (n - vaultBase n) / extentPages

def Share.zero : Share := { extents := [], serial := 1 }
def getShare (s : State) (t : Nat) : Share := tget s.clc.shares t .zero

/-- Pages of a tenant's share. -/
def sharePages (s : State) (t : Nat) : Nat := (getShare s t).extents.length * extentPages

/-- The cellar page of a share page. -/
def cellarPage (s : State) (t page : Nat) : Nat :=
  vaultBase s.clc.pages + (getShare s t).extents.getD (page / extentPages) 0 * extentPages + page % extentPages

/-! ## Records in place: what is durable, and the batches above it -/

def vkey (t page place : Nat) : Nat := t * 2 ^ 40 + page * 32 + place

/-- A write on the table of durable records. -/
def putRec (v : Table VaultRec) (w : VaultWrite) : Table VaultRec :=
  if w.val.kind == 0 then terase v (vkey w.tenant w.page w.place) else tput v (vkey w.tenant w.page w.place) w.val

/-- The batches whose writes are not durable yet, oldest first. -/
def openBatches (s : State) : List Batch := (s.clc.copies.filter (fun c => !c.durable)).map (·.batch) ++ [s.clc.batch, s.clc.next]

/-- The records as every operation sees them. -/
def vaultView (s : State) : Table VaultRec := (openBatches s).foldl (fun v b => b.writes.foldl putRec v) s.clc.vault

/-- The records of one tenant, by share page and place. -/
def recordsOf (s : State) (t : Nat) : List (Nat × VaultRec) :=
  ((vaultView s).filter (fun e => e.1 / 2 ^ 40 == t)).map (fun e => (e.1 % 2 ^ 40, e.2))

/-- Batches whose twin copies have not finished (R216). -/
def unfinished (s : State) : List Batch := s.clc.copies.map (·.batch) ++ [s.clc.batch, s.clc.next]

/-- The latest unfinished batch that changes a record of a key digest (R217). -/
def dependsOn (s : State) (t : Nat) (dig : Bytes) : Option Nat :=
  (unfinished s).foldl (fun a b => if b.writes.any (fun w => w.tenant == t && w.val.keydig == dig) then some b.num else a) none

/-! ## Lookups and inserts (R221, R222) -/

/-- Ten bytes of digits. -/
def packed10 (d : List Nat) : Bytes := packNibbles (d ++ List.replicate (20 - d.length) 15)

/-- What the key digest of a record is computed over. -/
def digInput (kind : Nat) (d : List Nat) : Bytes := toBE 1 kind ++ packed10 d ++ toBE 1 d.length

/-- A tenant's vault index key. -/
def indexKey (s : State) (t : Nat) : Bytes := (getSlot s (((getTenant s t).map (·.vik.1)).getD 0)).key

def keyDigest (s : State) (t kind : Nat) (d : List Nat) : Bytes := (hmacOf 0x31 (indexKey s t) (digInput kind d)).take 16

/-- Home page (R222). -/
def homePage (n : Nat) (dig : Bytes) : Nat := beNat (dig.take 8) % n

/-- What a path of pages comes to. -/
inductive Path where
  | found (page place : Nat) (r : VaultRec)
  | none_
  | bad
  deriving DecidableEq, Repr

/-- The lookup of R222 from the `j`-th page of its path on. -/
def pathGo (s : State) (t n home kind : Nat) (dig : Bytes) (d : List Nat) (recs : List (Nat × VaultRec)) : Nat → Nat → Path
  | 0, _ => .none_
  | f + 1, j =>
    let page := (home + j) % n
    if s.clc.bad.contains (cellarPage s t page) then .bad
    else
      let here := recs.filter (fun e => e.1 / 32 == page)
      match here.find? (fun e => e.2.kind == kind && e.2.keydig == dig && (if kind == 1 then e.2.token else e.2.pan) == d) with
      | some e => .found page (e.1 % 32) e.2
      | none => if here.length < 32 then .none_ else pathGo s t n home kind dig d recs f (j + 1)

/-- A lookup by KIND, key digest and value. -/
def vaultFind (s : State) (t kind : Nat) (dig : Bytes) (d : List Nat) : Path :=
  let n := sharePages s t
  if n == 0 then .none_ else pathGo s t n (homePage n dig) kind dig d (recordsOf s t) 64 0

/-- The first free or tombstone place on a record's path. -/
def placeGo (n home : Nat) (recs : List (Nat × VaultRec)) : Nat → Nat → Option (Nat × Nat)
  | 0, _ => none
  | f + 1, j =>
    let page := (home + j) % n
    match (List.range 32).find? (fun i => recs.all (fun e => e.1 != page * 32 + i || e.2.tomb)) with
    | some i => some (page, i)
    | none => placeGo n home recs f (j + 1)

/-! ## The open batch (R215) -/

/-- Log pages that writes add to a batch: each new page, and tree pages whose number the spec does not give (log 36). -/
def logPages (b : Batch) (l : List VaultWrite) (s : State) : Nat × State :=
  let n := (l.filter (fun w => b.writes.all (fun x => x.tenant != w.tenant || x.page != w.page))).length
  let u := takeFree (8 * n + 1) s
  (n + u.1, u.2)

/-- Joins the open batch, or the next one where its log would grow past 65,536 pages: the batch's number. -/
def joinBatch (l : List VaultWrite) (s : State) : Nat × State :=
  let u := logPages s.clc.batch l s
  let s := u.2
  if s.clc.batch.pages + u.1 ≤ 65536 then
    (s.clc.batch.num, { s with clc := { s.clc with batch := { s.clc.batch with writes := s.clc.batch.writes ++ l, pages := s.clc.batch.pages + u.1 } } })
  else
    (s.clc.next.num, { s with clc := { s.clc with next := { s.clc.next with writes := s.clc.next.writes ++ l, pages := s.clc.next.pages + u.1 } } })

/-- A batch whose copy has finished releases the items that wait for it (R112, R216, R217). -/
def finishCopies (s : State) : State :=
  let done := s.clc.copies.filter (fun c => c.durable && c.delta.isNone)
  let s := { s with clc := { s.clc with copies := s.clc.copies.filter (fun c => !(c.durable && c.delta.isNone)) } }
  done.foldl (fun (s : State) (c : Copying) =>
    s.dsp.items.foldl (fun (s : State) e => if waitsFor s e.1 (.twin c.batch.num) then itemAnswer e.1 (.ok []) s else s) s) s

/-- Closes the open batch as the twin copy of a boundary begins; `cseq`: the delta that carries it, where a standby
acknowledges one (R215, 13 R347). A commit still running keeps it open. -/
def closeBatch (cseq : Option Nat) (s : State) : State :=
  if s.clc.batch.writes.isEmpty then s
  else if s.clc.closing.isSome then count 0xB6 none <| cellarRecord 1 0 { s with clc := { s.clc with lag := true } }
  else
    let b := s.clc.batch
    let s := noteDelta (fun d => { d with vault := d.vault ++ b.writes }) s
    { s with clc := { s.clc with lag := false, closing := some (b.num, b.pages), copies := s.clc.copies ++ [{ batch := b, durable := false, delta := cseq }], batch := s.clc.next, next := .empty (s.clc.next.num + 1) } }

/-- COMMIT_LOG_WRITTEN (R215 steps 1 and 2): the durable point. -/
def execCommitLogWritten (s : State) : Host.Outcome State Fault Refusal :=
  match s.clc.closing with
  | none => .next s
  | some (n, pages) =>
    match s.clc.copies.find? (fun c => c.batch.num == n && !c.durable && s.clc.st == .opened), s.bk.root with
    | some c, some r =>
      let s := countN 0xB1 pages none s
      let r := { r with pserial := r.cserial + 1, proot := Config.cellarDigest (2 * n), logdig := Config.cellarDigest (2 * n + 1), crcOk := true }
      .next (finishCopies { s with
        bk := { s.bk with root := some r }
        clc := { s.clc with
          vault := c.batch.writes.foldl putRec s.clc.vault
          copies := s.clc.copies.map (fun x => if x.batch.num == n then { x with durable := true } else x) } })
    | _, _ => .next s

/-- COMMIT_FLUSH_DONE (R215 steps 3 and 4). -/
def execCommitFlushDone (s : State) : Host.Outcome State Fault Refusal :=
  match s.clc.closing, s.bk.root with
  | some (n, pages), some r =>
    if s.clc.st != .opened || s.clc.copies.any (fun c => c.batch.num == n && !c.durable) then .next s
    else
      let s := count 0xB5 none (countN 0xB1 pages none s)
      .next { s with
        bk := { s.bk with root := some { r with cserial := r.pserial, croot := r.proot, crcOk := true } }
        clc := { s.clc with closing := none } }
  | _, _ => .next s

/-! ## Page reads, bad pages, CLOSED (R205, R211, R213) -/

/-- The cellar becomes CLOSED: severity 3 record; what waits for it ends (R213, R214). -/
def cellarClose (page : Nat) (s : State) : State :=
  if s.clc.st != .opened then s
  else
    let ws := s.clc.reads
    let s := cellarRecord 3 page { s with clc := { s.clc with st := .closed, reads := [], repairs := [] } }
    let s := if s.vks.img.isSome then rewriteBase s else s
    ws.foldl (fun (s : State) e => if waitsFor s e.1 .page then itemEnd e.1 0x0802 2 s else s) s

/-- A page fails its check (R211): marked bad, recorded, and asked of a synchronised standby. -/
def pageBad (item page : Nat) (s : State) : State :=
  if 256 ≤ s.clc.bad.length && !s.clc.bad.contains page then itemEnd item 0x0802 1 (cellarClose page s)
  else
    let s := { s with clc := { s.clc with bad := if s.clc.bad.contains page then s.clc.bad else s.clc.bad ++ [page] } }
    let s := eachCopy (fun c => { c with badpg := satAdd max32 c.badpg 1 }) (count 0xB4 none (cellarRecord 2 page s))
    let s := if hasStandby s then sendOn 4 (.pageAsk page) { s with clc := { s.clc with repairs := s.clc.repairs ++ [page] } } else s
    itemEnd item 0x0802 1 s

/-- PAGE_MESSAGE (R211 step 3). -/
def execPageMessage (page : Nat) (digestMatches : Bool) (s : State) : Host.Outcome State Fault Refusal :=
  if s.clc.repairs.contains page then
    let s := received 4 s
    .next { s with clc := { s.clc with
      repairs := removeFirst (· == page) s.clc.repairs
      bad := if digestMatches then s.clc.bad.filter (· != page) else s.clc.bad } }
  else .next s

/-- SMART_WARNING (R205): a drive in use warns. -/
def execSmartWarning (drive : Nat) (s : State) : Host.Outcome State Fault Refusal :=
  let d := if drive == 0 then s.clc.drive0 else s.clc.drive1
  if d.usable then .next (cellarRecord 1 drive s) else .next s

/-! ## The services' way through the vault -/

/-- A random-mode operation may go to the vault: the tenant has a share, and the cellar is OPEN (R214, R220). -/
def vaultOpen (t : Nat) (s : State) : Answer × State :=
  if ((getTenant s t).map (·.share)).getD 0 == 0 then (.err 0x0803 2, s)
  else if s.clc.st != .opened then (.err 0x0802 2, s)
  else (.nums [], s)

/-- Waits for the pages of a path; none is read where the share has no extents yet. -/
def Svc.pages (id t : Nat) (dig : Bytes) : Svc Unit := fun r =>
  match r.rest with
  | .err st d :: l => .error (.reply (.bare st d) { r with rest := l }.state)
  | _ :: l => .ok ((), { r with rest := l })
  | [] =>
    let n := sharePages r.state t
    if n == 0 then .ok ((), { r with state := modItem id (fun i => { i with answers := i.answers ++ [.ok []] }) r.state })
    else
      let s := { r.state with clc := { r.state.clc with reads := tput r.state.clc.reads id (cellarPage r.state t (homePage n dig)) } }
      .error (.wait (itemWait id .page s))

/-- A record as an answer keeps it: Table 8.4. -/
def recBytes (r : VaultRec) (t : Nat) : Bytes :=
  toBE 1 r.kind ++ toBE 1 r.pan.length ++ toBE 1 r.token.length ++ zeros 1 ++ toBE 2 t ++ zeros 2 ++ padTo 16 r.keydig ++ packed10 r.pan ++ packed10 r.token ++ zeros 4 ++ toBE 6 r.created ++ zeros 2 ++ toBE 8 r.serial ++ padTo 48 r.attr ++ zeros 16

/-- A record from its 128 bytes. -/
def recOf (b : Bytes) : VaultRec :=
  { kind := fld b 0 1, pan := (nibbles (slice b 24 10)).take (fld b 1 1), token := (nibbles (slice b 34 10)).take (fld b 2 1), keydig := slice b 8 16, created := fld b 48 6, serial := fld b 56 8, attr := slice b 64 48 }

/-- A lookup judged once: its place and record, and the batch it depends on. -/
def lookupAnswer (t kind : Nat) (dig : Bytes) (d : List Nat) (s : State) : Answer × State :=
  let dep := match dependsOn s t dig with
    | none => 0
    | some n => n + 1
  match vaultFind s t kind dig d with
  | .bad => (.err 0x0802 1, s)
  | .none_ => (.ok (toBE 8 dep), s)
  | .found page place r => (.ok (toBE 8 dep ++ toBE 6 (page * 32 + place) ++ recBytes r t), s)

/-- A lookup: the place and the record found, once no copy that it depends on is unfinished (R217). -/
def Svc.vaultLookup (id : Nat) (it : Item) (kind : Nat) (dig : Bytes) (d : List Nat) : Svc (Option (Nat × VaultRec)) := do
  Svc.pages id it.tenant dig
  let a ← Svc.decideOk id (lookupAnswer it.tenant kind dig d)
  if fld a.bytes 0 8 != 0 then
    let _ ← Svc.awaitOk (itemWait id (.twin (fld a.bytes 0 8 - 1)))
  pure (if a.bytes.length == 8 then none else some (fld a.bytes 8 6, recOf (a.bytes.drop 14)))

/-- The digest that an operation names, with the one lookup of the vault index key (R223), and the operation's turn (R217). -/
def Svc.vaultKey (id : Nat) (it : Item) (kind : Nat) (d : List Nat) : Svc Bytes := do
  let _ ← Svc.decideOk id (vaultOpen it.tenant)
  let s ← Svc.state
  let v := ((getTenant s it.tenant).map (·.vik)).getD (0, 0)
  let a ← Svc.engine .dge id it [keyNeed it (v.1 * 65536 + v.2) [8] uTOKEN] [] (.hmac 0x31 16 (digInput kind d))
  Svc.gate id it
  pure a.bytes

/-! ## TOKENISE, DETOKENISE, DELETE (R224-R228) -/

/-- Digits that the token replaces. -/
def middle (pan : List Nat) (lead trail : Nat) : List Nat := (pan.drop lead).take (pan.length - lead - trail)

/-- A PAN with its middle digits replaced. -/
def withMiddle (pan : List Nat) (lead trail : Nat) (m : List Nat) : List Nat := pan.take lead ++ m ++ pan.drop (pan.length - trail)

/-- T of R225. -/
def ff1Tweak (pan : List Nat) (lead trail : Nat) (tw : Bytes) : Bytes :=
  tw ++ (pan.take lead ++ pan.drop (pan.length - trail)).map (BitVec.ofNat 8)

/-- Fields that 0A01h and 0A02h share: steps 3 and 4 of R133. -/
def tokenChecks (it : Item) : Svc (List Nat) := do
  let mode := it.f 0 1
  let lead := it.f 1 1
  let trail := it.f 2 1
  let tl := it.f 3 1
  Svc.bad (mode ≤ 1) 0x01A1
  Svc.range (lead ≤ 8 && trail ≤ 4)
  Svc.bad (tl ≤ 16) 0x01A2
  if mode == 0 then Svc.handle (it.f 4 4)
  let pan ← Svc.pan (it.b 8 12) 12 19
  Svc.bad (mode == 0 || it.f 4 4 == 0) 0x01A1
  Svc.bad (isZero ((it.b 20 16).drop tl) && (mode == 0 || (tl == 0 && isZero (it.b 20 16)))) 0x01A2
  pure pan

/-- FF1 on the middle digits (R225). -/
def ff1Work (id : Nat) (it : Item) (enc : Bool) (pan : List Nat) : Svc (List Nat) := do
  let lead := it.f 1 1
  let trail := it.f 2 1
  let a ← Svc.engine .sye id it [keyNeed it (it.f 4 4) aesTypes uTOKEN] [] (.ff1 enc (ff1Tweak pan lead trail (it.b 20 (it.f 3 1))) (middle pan lead trail))
  pure (withMiddle pan lead trail a.list)

/-- Free extents for a share, lowest numbers first (log 36). -/
def freeExtents (s : State) (n : Nat) : Option (List Nat) :=
  let used := s.clc.shares.flatMap (·.2.extents)
  let l := ((List.range (vaultExtents s.clc.pages)).filter (fun i => !used.contains i)).take n
  if l.length == n then some l else none

/-- The extents of a tenant's share, allocated at its first write (R220). -/
def allocate (t : Nat) (s : State) : Option State :=
  let sh := getShare s t
  if !sh.extents.isEmpty then some s
  else
    (freeExtents s (((getTenant s t).map (·.share)).getD 0)).map
      (fun l => { s with clc := { s.clc with shares := tput s.clc.shares t { sh with extents := l } } })

/-- Places both records of a token in the open batch (R222, R226 step 4): the SERIAL and the batch. -/
def placeToken (id t : Nat) (pan token : List Nat) (attr : Bytes) (s : State) : Answer × State :=
  match allocate t s with
  | none => (.err 0x0803 1, s)
  | some s' =>
    let n := sharePages s' t
    let recs := recordsOf s' t
    let mk (kind : Nat) : VaultRec :=
      { kind := kind, pan := pan, token := token, keydig := keyDigest s' t kind (if kind == 1 then token else pan), created := s'.cycle.getD noCycle, serial := (getShare s' t).serial, attr := attr }
    if 15 * (n * 32) < 16 * (recs.length + 2) then (.err 0x0803 2, s)
    else
      match placeGo n (homePage n (mk 1).keydig) recs 64 0 with
      | none => (.err 0x0803 2, s)
      | some a =>
        match placeGo n (homePage n (mk 2).keydig) (recs ++ [(a.1 * 32 + a.2, mk 1)]) 64 0 with
        | none => (.err 0x0803 2, s)
        | some b =>
          let ws : List VaultWrite := [{ tenant := t, page := a.1, place := a.2, val := mk 1 }, { tenant := t, page := b.1, place := b.2, val := mk 2 }]
          let sh := getShare s' t
          let u := joinBatch ws { s' with clc := { s'.clc with shares := tput s'.clc.shares t { sh with serial := sh.serial + 1 } } }
          (.nums [sh.serial, u.1], modItem id (fun i => { i with wrote := some 0 }) u.2)

/-- A candidate that is neither the PAN nor known, from 16 (R226 steps 2 and 3). -/
def candidate (id : Nat) (it : Item) (pan : List Nat) (lead trail : Nat) : Nat → Svc (List Nat)
  | 0 => Svc.finish 0x0803 2
  | f + 1 => do
    let b ← drawBelow id it 250 (pan.length - lead - trail) it.rounds []
    let c := withMiddle pan lead trail (b.map (fun x => x.toNat % 10))
    if c == pan then candidate id it pan lead trail f
    else do
      let s ← Svc.state
      let x ← Svc.vaultLookup id it 1 (keyDigest s it.tenant 1 c) c
      let y ← Svc.vaultLookup id it 2 (keyDigest s it.tenant 2 c) c
      if x.isSome || y.isSome then candidate id it pan lead trail f else pure c

def tokenReply (token : List Nat) (existed : Bool) (serial : Nat) : Bytes :=
  panBytes token ++ toBE 1 (b2n existed) ++ zeros 3 ++ toBE 8 serial

/-- TOKENISE in random mode on the active manager (R226). -/
def tokeniseRandom (id : Nat) (it : Item) (pan : List Nat) : Svc Reply := do
  let dig ← Svc.vaultKey id it 2 pan
  match ← Svc.vaultLookup id it 2 dig pan with
  | some r => done (tokenReply r.2.token true r.2.serial)
  | none =>
    let c ← candidate id it pan (it.f 1 1) (it.f 2 1) 16
    let a ← Svc.decideOk id (placeToken id it.tenant pan c (it.b 36 48))
    let _ ← Svc.awaitOk (itemWait id (.twin (a.list.getD 1 0)))
    done (tokenReply c false a.nat)

def svcTokenise (id : Nat) (it : Item) : Svc Reply := do
  Svc.len (it.payload.length == 84)
  Svc.zero it [(9, 1)]
  let pan ← tokenChecks it
  Svc.bad (it.f 0 1 == 1 || isZero (it.b 36 48)) 0x01A3
  Svc.bad (it.f 1 1 + it.f 2 1 + 6 ≤ pan.length) 0x01A0
  if it.f 0 1 == 0 then
    let t ← ff1Work id it true pan
    done (tokenReply t false 0)
  else if ← Svc.here id it false then tokeniseRandom id it pan
  else Svc.forwarded id it

def panReply (pan : List Nat) (serial created : Nat) (attr : Bytes) : Bytes :=
  panBytes pan ++ zeros 4 ++ toBE 8 serial ++ toBE 6 created ++ zeros 2 ++ padTo 48 attr

/-- DETOKENISE in random mode on the active manager (R228). -/
def detokeniseRandom (id : Nat) (it : Item) (token : List Nat) : Svc Reply := do
  let dig ← Svc.vaultKey id it 1 token
  match ← Svc.vaultLookup id it 1 dig token with
  | some r => done (panReply r.2.pan r.2.serial r.2.created r.2.attr)
  | none => Svc.finish 0x0801 0

def svcDetokenise (id : Nat) (it : Item) : Svc Reply := do
  Svc.len (it.payload.length == 36)
  Svc.zero it [(9, 1)]
  let token ← tokenChecks it
  let mode := it.f 0 1
  Svc.bad (mode == 0 || (it.f 1 1 == 0 && it.f 2 1 == 0)) 0x01A1
  Svc.bad (mode == 1 || it.f 1 1 + it.f 2 1 + 6 ≤ token.length) 0x01A0
  if mode == 0 then
    let p ← ff1Work id it false token
    done (panReply p 0 0 [])
  else if ← Svc.here id it false then detokeniseRandom id it token
  else Svc.forwarded id it

/-- Both records of a token become tombstones (R222). -/
def tombstones (id t : Nat) (a b : Nat × VaultRec) (s : State) : Answer × State :=
  let w (x : Nat × VaultRec) : VaultWrite := { tenant := t, page := x.1 / 32, place := x.1 % 32, val := { x.2 with kind := 3 } }
  let u := joinBatch [w a, w b] s
  (.nums [u.1], modItem id (fun i => { i with wrote := some 0 }) u.2)

/-- DELETE on the active manager (R228). -/
def deleteRandom (id : Nat) (it : Item) (token : List Nat) : Svc Reply := do
  let dig ← Svc.vaultKey id it 1 token
  match ← Svc.vaultLookup id it 1 dig token with
  | none => Svc.finish 0x0801 0
  | some r =>
    let s ← Svc.state
    match ← Svc.vaultLookup id it 2 (keyDigest s it.tenant 2 r.2.pan) r.2.pan with
    | none => Svc.finish 0x0801 0
    | some p =>
      let a ← Svc.decideOk id (tombstones id it.tenant r p)
      let _ ← Svc.awaitOk (itemWait id (.twin a.nat))
      done

def svcDelete (id : Nat) (it : Item) : Svc Reply := do
  Svc.len (it.payload.length == 16)
  Svc.zero it [(1, 3), (5, 1)]
  Svc.bad (it.f 0 1 == 1) 0x01A1
  let token ← Svc.pan (it.b 4 12) 12 19
  if ← Svc.here id it false then deleteRandom id it token
  else Svc.forwarded id it

/-! ## Export (R229, R230) -/

/-- The body checks of EXPORT_OPEN. -/
def exportChecks (t : Nat) (b : Bytes) (s : State) : Answer × State :=
  if fld b 20 4 != 0 then (.err 0x0105 4, s)
  else if fld b 16 4 / 65536 < 256 then (.err 0x0105 3, s)
  else if fld b 0 8 == 0 || fld b 8 8 < fld b 0 8 then (.err 0x0105 0x01A5, s)
  else if (tfind s.clc.sessions t).isSome then (.err 0x0105 0x01A4, s)
  else if s.clc.st != .opened then (.err 0x0802 2, s)
  else (.nums [], s)

/-- A tenant's session; the deltas carry them all. -/
def setSession (t : Nat) (x : Option Session) (s : State) : State :=
  match x with
  | some v => { s with clc := { s.clc with sessions := tput s.clc.sessions t v } }
  | none => { s with clc := { s.clc with sessions := terase s.clc.sessions t } }

/-- EXPORT_OPEN is applied. -/
def exportApply (id : Nat) (it : Item) (e : Envelope) (s : State) : Except (Nat × Nat) (Apply × State) :=
  let b := e.body
  let h := fld b 16 4
  let s := applyTenant it.tenant e []
    (setSession it.tenant (some { first := fld b 0 8, last := fld b 8 8, kek := (h / 65536, h % 65536), cursor := 0, prev := 0 }) s)
  .ok (newApply id it e [] [] s, s)

def svcExportOpen (id : Nat) (it : Item) : Svc Reply :=
  Svc.signed id it false do
    let e ← Svc.envelope id it (tenantRule it 4 (fun e => e.blen == 24))
    let _ ← Svc.decideOk id (exportChecks it.tenant e.body)
    let _ ← Svc.engine .sye id it [keyPersist it (fld e.body 16 4) [5] uWRAP] [] .lookupOnly
    Svc.apply id (exportApply id it e)

/-- The cursor that ends a session. -/
def lastCursor : Nat := 2 ^ 64 - 1

/-- The token records of a page whose SERIAL lies in a session's range. -/
def pageTokens (x : Session) (recs : List (Nat × VaultRec)) (page : Nat) : List VaultRec :=
  (recs.filter (fun e => e.1 / 32 == page && e.2.kind == 1 && x.first ≤ e.2.serial && e.2.serial ≤ x.last)).map (·.2)

/-- The pages that hold records of a tenant, in order, from a page on. -/
def pagesFrom (recs : List (Nat × VaultRec)) (page : Nat) : List Nat :=
  ((recs.map (fun e => e.1 / 32)).filter (page ≤ ·)).foldl (fun a p => if a.getLast? == some p then a else a ++ [p]) []

/-- The chunk from a cursor: the records, and the page where the scan stops (R230). -/
def chunkGo (x : Session) (recs : List (Nat × VaultRec)) (stop : Nat) : List Nat → List VaultRec → List VaultRec × Nat
  | [], acc => (acc, stop)
  | p :: l, acc =>
    let here := pageTokens x recs p
    if stop ≤ p then (acc, stop)
    else if 8192 < acc.length + here.length then (acc, p)
    else chunkGo x recs stop l (acc ++ here)

/-- The chunk of a cursor and the next cursor. -/
def chunkOf (s : State) (t : Nat) (x : Session) (cursor : Nat) : List VaultRec × Nat :=
  let n := sharePages s t
  let recs := recordsOf s t
  let r := chunkGo x recs (min n (cursor + 65536)) (pagesFrom recs cursor) []
  (r.1, if n ≤ r.2 then lastCursor else r.2)

/-- The batch that the scanned pages depend on, 0 for none (R217). -/
def chunkDepends (s : State) (t : Nat) : Nat :=
  (unfinished s).foldl (fun a b => if b.writes.any (fun w => w.tenant == t) then b.num + 1 else a) 0

/-- The first judgement of EXPORT_NEXT: session and CURSOR. -/
def exportCursor (t cursor : Nat) (s : State) : Answer × State :=
  match tfind s.clc.sessions t with
  | none => (.err 0x0105 0x01A4, s)
  | some x =>
    if cursor != lastCursor && cursor != x.cursor && cursor != x.prev then (.err 0x0105 0x01A6, s)
    else if s.clc.st != .opened then (.err 0x0802 2, s)
    else (.nums [x.kek.1, x.kek.2], s)

/-- The chunk is fixed: NEXT, COUNT and the records in clear, KEYDIG zeroed; a bad page ends the item. -/
def exportChunk (t cursor : Nat) (s : State) : Answer × State :=
  match tfind s.clc.sessions t with
  | none => (.err 0x0105 0x01A4, s)
  | some x =>
    if cursor == lastCursor then (.ok (toBE 8 lastCursor ++ toBE 4 0), s)
    else
      let c := chunkOf s t x cursor
      let stop := min (sharePages s t) c.2
      if s.clc.bad.any (fun p => cellarPage s t cursor ≤ p && p < cellarPage s t cursor + (stop - cursor)) then (.err 0x0802 1, s)
      else (.ok (toBE 8 c.2 ++ toBE 4 c.1.length ++ c.1.flatMap (fun r => recBytes { r with keydig := [] } t)), s)

/-- The session moves on, or closes. -/
def exportMove (t cursor next : Nat) (s : State) : State :=
  match tfind s.clc.sessions t with
  | none => s
  | some x =>
    if cursor == lastCursor then setSession t none s
    else if cursor == x.cursor then setSession t (some { x with cursor := next, prev := cursor }) s
    else s

def exportHere (id : Nat) (it : Item) : Svc Reply := do
  let cursor := it.f 0 8
  let k ← Svc.decideOk id (exportCursor it.tenant cursor)
  let iv ← Svc.draw id it 12
  if cursor != lastCursor then Svc.pages id it.tenant (toBE 8 cursor)
  let dep ← Svc.decide id (fun s => (.nums [chunkDepends s it.tenant], s))
  if dep.nat != 0 then
    let _ ← Svc.awaitOk (itemWait id (.twin (dep.nat - 1)))
  let c ← Svc.decideOk id (exportChunk it.tenant cursor)
  let head := toBE 8 cursor ++ c.bytes.take 12 ++ zeros 12
  let aad := toBE 2 it.tenant ++ zeros 4 ++ head
  let h := k.nat * 65536 + k.list.getD 1 0
  let a ← Svc.engine .sye id it [keyPersist it h [5] uWRAP] [] (.cipher 3 true false iv aad (c.bytes.drop 12) [] 16)
  Svc.update (exportMove it.tenant cursor (fld c.bytes 0 8))
  done (iv ++ zeros 4 ++ head ++ a.bytes.drop 16)

def svcExportNext (id : Nat) (it : Item) : Svc Reply := do
  Svc.len (it.payload.length == 8)
  if ← Svc.here id it false then exportHere id it
  else Svc.forwarded id it

def svcVaultQuery (id : Nat) (it : Item) : Svc Reply := do
  Svc.len it.payload.isEmpty
  if ← Svc.here id it false then
    let s ← Svc.state
    let recs := recordsOf s it.tenant
    done (toBE 4 (((getTenant s it.tenant).map (·.share)).getD 0) ++ zeros 4 ++ toBE 8 (recs.countP (·.2.live)) ++ toBE 8 (recs.countP (·.2.tomb)) ++ toBE 8 (getShare s it.tenant).serial ++ toBE 4 (b2n (tfind s.clc.sessions it.tenant).isSome + 2 * b2n (s.clc.st == .opened)) ++ zeros 4)
  else Svc.forwarded id it

/-- TOKENISE (R224-R226). -/
def execTokenise (item : Nat) (s : State) : Host.Outcome State Fault Refusal := .next (runSigned 0x0A01 item (svcTokenise item) s)

/-- DETOKENISE (R225, R228). -/
def execDetokenise (item : Nat) (s : State) : Host.Outcome State Fault Refusal := .next (runSigned 0x0A02 item (svcDetokenise item) s)

/-- DELETE (R228). -/
def execDelete (item : Nat) (s : State) : Host.Outcome State Fault Refusal := .next (runSigned 0x0A03 item (svcDelete item) s)

/-- EXPORT_OPEN (R229). -/
def execExportOpen (item : Nat) (s : State) : Host.Outcome State Fault Refusal := .next (runSigned 0x0A04 item (svcExportOpen item) s)

/-- EXPORT_NEXT (R230). -/
def execExportNext (item : Nat) (s : State) : Host.Outcome State Fault Refusal := .next (runOpcode 0x0A05 item (svcExportNext item) s)

/-- VAULT_QUERY (R231). -/
def execVaultQuery (item : Nat) (s : State) : Host.Outcome State Fault Refusal := .next (runOpcode 0x0A06 item (svcVaultQuery item) s)

/-- The page that an item's lookup waits for has been read, or has failed (R211). -/
def cellarRead (item : Nat) (good : Bool) (s : State) : State :=
  match tfind s.clc.reads item with
  | none => s
  | some page =>
    let s := count 0xB0 none { s with clc := { s.clc with reads := terase s.clc.reads item } }
    if !waitsFor s item .page then s
    else if good && !s.clc.bad.contains page then (itemAnswer item (.ok []) s)
    else (pageBad item page s)

/-- CELLAR_READ_COMPLETE (R211): the page that an item's lookup waits for has come and been checked. -/
def execCellarReadComplete (item : Nat) (good : Bool) (s : State) : Host.Outcome State Fault Refusal :=
  .next (selfCheck s (cellarRead item good s))

/-! ## The vault sweeper (R222) -/

/-- Some live record beyond a page has a path that passes through it. -/
def pathThrough (n page : Nat) (recs : List (Nat × VaultRec)) : Bool :=
  recs.any (fun e =>
    let home := homePage n e.2.keydig
    e.2.live && (page + n - home) % n < (e.1 / 32 + n - home) % n)

/-- VAULT_SWEEPER_STEP: frees the tombstones of a page that no path needs. -/
def execVaultSweeperStep (tenant page : Nat) (s : State) : Host.Outcome State Fault Refusal :=
  let n := sharePages s tenant
  let recs := recordsOf s tenant
  let dead := recs.filter (fun e => e.1 / 32 == page && e.2.tomb)
  if !isActive s || s.clc.st != .opened || n ≤ page || dead.isEmpty || pathThrough n page recs then .next s
  else
    .next (joinBatch (dead.map (fun e => { tenant := tenant, page := page, place := e.1 % 32, val := { e.2 with kind := 0 } })) s).2

end Sys2Proof.Machine
end

