-- ==== Sys2Proof/Machine/Vine.lean ====
section
/-! DEFINITION. Key grafts and class 01h; the sweeper, the vine image's base, leases (09 R243-R272, R493). -/

set_option Elab.async false

namespace Sys2Proof.Machine

/-! ## Key graft bodies (Table 9.6) -/

structure GraftBody where
  op     : Nat
  type   : Nat
  usage  : BitVec 16
  handle : Nat
  parent : Nat
  flags  : Nat
  wmode  : Nat
  rsvd   : Bool
  ucnt   : Nat
  expiry : Nat
  wkey   : Nat
  wlen   : Nat
  wdata  : Bytes

def graftBody (b : Bytes) : GraftBody :=
  { op := fld b 0 1, type := fld b 1 1, usage := BitVec.ofNat 16 (fld b 2 2), handle := fld b 4 4, parent := fld b 8 4, flags := fld b 12 1, wmode := fld b 13 1, rsvd := fld b 14 2 != 0 || fld b 26 2 != 0, ucnt := fld b 16 4, expiry := fld b 20 6, wkey := fld b 28 4, wlen := fld b 32 4, wdata := b.drop 36 }

/-- WRITE or PROMOTE. -/
def GraftBody.makes (g : GraftBody) : Bool := g.op == 1 || g.op == 2
/-- A slot is created. -/
def GraftBody.new (g : GraftBody) : Bool := g.makes && g.handle % 65536 == 0
def GraftBody.expo (g : GraftBody) : Bool := bit g.flags 3
def GraftBody.hcache (g : GraftBody) : Bool := bit g.flags 4
def GraftBody.idx (g : GraftBody) : Nat := g.handle / 65536

/-- The form of a key graft's body (R252 step 1). -/
def graftLen (e : Envelope) : Bool := 36 ≤ e.blen && e.blen == 36 + fld e.body 32 4

/-- Usage bits that a type allows (Table 9.2); none where no graft writes the type. -/
def typeUsage (t : Nat) : Option (BitVec 16) :=
  if t == 1 then some 0x7C3F
  else if t == 2 then some 0x0C3F
  else if t == 3 || t == 4 || t == 5 then some 0x673F
  else if t == 8 then some 0x030C
  else if 0x10 ≤ t && t ≤ 0x12 then some 0x00C0
  else if t == 0x18 then some 0x0040
  else if t == 0x19 then some 0x0080
  else if 0x20 ≤ t && t ≤ 0x3F then some 0x00C0
  else if 0x40 ≤ t && t ≤ 0x42 then some 0x0080
  else if 0x44 ≤ t && t ≤ 0x46 then some 0x0040
  else if t == 0x50 then some 0x0042
  else none

/-- R493 step 1, OP, WMODE and the fields that OP requires to be zero. -/
def graftZero (g : GraftBody) : Bool :=
  (match g.op with
    | 1 => (g.wmode == 1 || g.wmode == 2) && (g.new || g.parent == 0)
    | 2 => g.wmode == 0 && g.new
    | 3 => g.wmode == 0
    | 4 => g.wmode == 0
    | _ => false) &&
  (g.makes || (g.type == 0 && g.usage == 0 && g.parent == 0 && g.flags == 0 && g.ucnt == 0 && g.expiry == 0)) &&
  (g.flags % 8 == 0 && g.flags < 32) && (g.wmode == 1 || g.op == 2 || g.wkey == 0) && (g.wmode != 0 || g.wlen == 0)

/-- R493 step 1 with the handle forms of R263. -/
def graftFields (tenant : Nat) (g : GraftBody) (s : State) : Option (Nat × Nat) :=
  if g.rsvd then some (0x0105, 4)
  else if !graftZero g then some (0x0105, 0x01B1)
  else if (g.handle != 0 || !g.makes) && g.idx < 256 then some (0x0105, 0x01B2)
  else if g.parent != 0 && g.parent / 65536 < 256 then some (0x0105, 0x01B4)
  else if (g.wmode == 1 || g.op == 2) && g.wkey / 65536 < 256 then some (0x0105, 3)
  else if 5216 < g.wlen then some (0x0105, 5)
  else if g.makes then
    match typeUsage g.type with
    | none => some (0x0105, 0x01B3)
    | some m =>
      if g.usage &&& ~~~m != 0 || (g.hcache && g.type != 8) then some (0x0105, 0x01B3)
      else if g.expiry == never then none
      else
        match s.cycle with
        | none => some (0x0402, 3)
        | some c => if g.expiry ≤ c then some (0x0105, 0x01BD) else none
  else if g.idx == tenantRoot s tenant then some (0x0105, 0x01B7)
  else none

/-- R493 step 2: HANDLE on the active manager (R258). -/
def graftHandle (tenant : Nat) (g : GraftBody) (s : State) : Option (Nat × Nat) × State :=
  if g.new then (none, s)
  else
    match findBare s g.idx (g.handle % 65536) tenant with
    | .pass p => (if p.persist then none else some (0x0105, 0x01BF), count 0xA0 (some tenant) s)
    | .fail st d => (some (st, d), lookupFailed tenant st s)
    | .lease _ => (none, s)
    | .broken => (some (0xFFFF, 0), slotFatal g.idx s)

/-- R493 step 3 for PROMOTE: the source and the rules of R257. -/
def graftSource (it : Item) (g : GraftBody) (s : State) : Option (Nat × Nat) × State :=
  if g.op != 2 then (none, s)
  else
    let u := match it.source with
      | some x => (x, s)
      | none => lookupSource g.wkey it.tenant s
    match u.1 with
    | .failed st d => (some (st, d), u.2)
    | .found p =>
      if p.persist || p.type != g.type || g.usage &&& ~~~p.usage != 0 || (g.expo && !p.expo) then (some (0x0105, 0x01B5), u.2)
      else (none, u.2)

/-- Steps 1 and 2 of R493, and step 3 for PROMOTE. -/
def graftFirst (it : Item) (g : GraftBody) (s : State) : Answer × State :=
  match graftFields it.tenant g s with
  | some u => (.err u.1 u.2, s)
  | none =>
    match graftHandle it.tenant g s with
    | (some u, s) => (.err u.1 u.2, s)
    | (none, s) =>
      match graftSource it g s with
      | (some u, s) => (.err u.1 u.2, s)
      | (none, s) => (.nums [], s)

/-! ## Material (R256, R257) -/

/-- A request of an item whose key is the part's own and needs no lookup. -/
def ownKeyRequest (id : Nat) (it : Item) (op : EngineOp) (key : State → Bytes) (s : State) : Request :=
  { itemRequest id it [] [] op none s with got := [(0, key s)] }

/-- The key material of a WRITE goes to the item's holding. -/
def graftMaterial (id : Nat) (it : Item) (g : GraftBody) : Svc Unit := do
  if g.op == 1 then
    if g.wmode == 1 then
      let _ ← Svc.engine .sye id it [keyPersist it g.wkey aesTypes uUNWRAP] [] (.graftUnwrap g.type g.wdata)
    else
      let _ ← Svc.awaitOk (askEngine .bne id (ownKeyRequest id it (.kemDecaps 3 (slice g.wdata 0 1568)) (·.hier.gseed)))
      let _ ← Svc.engine .sye id it [] [] (.graftUnwrap g.type (g.wdata.drop 1568))

/-- A key that lies in an overflow object (Table 9.2). -/
def overflows (t : Nat) (key : Bytes) : Bool := t == 0x12 || t == 0x50 || (0x20 ≤ t && t ≤ 0x3F && 64 < key.length)

/-- A page of the region of overflow key objects that holds none (08 Table 8.2), from a free place on. -/
def freeObjectPage (s : State) (at_ : Nat) : Nat → Option Nat
  | 0 => none
  | f + 1 =>
    let p := 71682 + at_ % 262144
    if (tfind s.clc.objects p).isNone then some p else freeObjectPage s (at_ + 1) f

/-- Stores a key: in the slot, or as an overflow key object that the slot names (R236, 08 R208). -/
def storeKey (owner t : Nat) (key : Bytes) (s : State) : Bytes × Bool × State :=
  if !overflows t key then (key, false, s)
  else
    let u := takeFree 262144 s
    let p := (freeObjectPage u.2 u.1 262144).getD 71682
    let size := if t == 0x50 then fld key 0 2 else key.length
    (toBE 4 p ++ toBE 2 size, true, { u.2 with clc := { u.2.clc with objects := tput u.2.clc.objects p { owner := owner, type := t, key := key } } })

/-- R493 step 3, last check: an overflow key object needs an OPEN cellar on every placed part (01B9h). -/
def cellarFor (tenant : Nat) (t : Nat) (key : Bytes) (s : State) : Bool × State :=
  if !overflows t key then (true, s)
  else if s.clc.st != .opened then (false, s)
  else remoteOk s tenant

/-! ## Place and write (R255, R493 steps 4 to 6) -/

/-- PARENT of a new slot: a persistent slot of the tenant, by default its root. -/
def graftParent (tenant : Nat) (g : GraftBody) (s : State) : Except (Nat × Nat) Nat :=
  let root := ((getTenant s tenant).map (·.root)).getD (0, 0)
  let h := if g.parent == 0 then root else (g.parent / 65536, g.parent % 65536)
  match findLive s h.1 h.2 tenant with
  | .pass p => if !p.persist then .error (0x0105, 0x01B4) else if p.depth == 6 then .error (0x0105, 0x0144) else .ok h.1
  | _ => .error (0x0105, 0x01B4)

/-- A free slot that the manager chooses, from a free place on (log 34). -/
def chooseIndex (s : State) (at_ : Nat) : Nat → Option Nat
  | 0 => none
  | f + 1 =>
    let i := 256 + at_ % 65280
    if takable s i then some i else chooseIndex s (at_ + 1) f

/-- R493 step 5: the index of a new slot. -/
def graftIndex (tenant : Nat) (g : GraftBody) (s : State) : Except (Nat × Nat) Nat × State :=
  if g.handle == 0 then
    let u := takeFree 65280 s
    match chooseIndex u.2 u.1 65280 with
    | some i => (.ok i, u.2)
    | none => (.error (0x0105, 0x0143), u.2)
  else if !takable s g.idx then (.error (0x0105, 0x01B2), s)
  else
    let u := remoteOk s tenant
    (if u.1 then .ok g.idx else .error (0x0105, 0x01B2), u.2)

/-- The generation of a new slot: the highest that its index has on the placed parts (R255); those of other parts are
free (log 33). -/
def newGen (tenant i : Nat) (s : State) : Nat × State :=
  let g := (getSlot s i).gen
  if (placedIds s tenant).isEmpty then (g, s)
  else
    let u := takeFree (65536 - g) s
    (g + u.1, u.2)

/-- What a persistent slot is written with. -/
structure PersistentSlot where
  tenant : Nat
  type   : Nat
  usage  : BitVec 16
  expo   : Bool
  hcache : Bool
  ucnt   : Nat
  expiry : Nat
  parent : Nat
  stamp  : List Nat
  gen    : Nat
  gctr   : Nat

/-- Writes a persistent slot (R248): its lease stands at 0, the count is the active manager's to lease (R243). -/
def putPersistent (i : Nat) (w : PersistentSlot) (key : Bytes) (s : State) : State :=
  let old := getSlot s i
  let s := freeObject old (if w.hcache then s else freeEntry old s)
  let k := storeKey w.tenant w.type key s
  let p : Slot :=
    { key := k.1, type := w.type, persist := true, xrst := false, ucnt := w.ucnt != 0, expo := w.expo, hcache := w.hcache, ovfl := k.2.1, held := false, usage := w.usage, owner := w.tenant, parent := w.parent, gen := w.gen, stamp := w.stamp, ucount := 0, expiry := w.expiry, tag := 0, entry := if w.hcache then old.entry else none, unleased := w.ucnt, gctr := w.gctr }
  giveEntry i (unfree i (putSlot i p k.2.2))

/-- The slot that a WRITE or PROMOTE writes at an index. -/
def graftWrite (tenant i par : Nat) (g : GraftBody) (counter : Nat) (key : Bytes) (s : State) : State :=
  let old := getSlot s i
  let u := if g.new then newGen tenant i s else (nextGen old.gen, s)
  putPersistent i { tenant := tenant, type := g.type, usage := g.usage, expo := g.expo, hcache := g.hcache, ucnt := g.ucnt, expiry := g.expiry, parent := if g.new then par else old.parent, stamp := if g.new then stampUnder s par else old.stamp, gen := u.1, gctr := counter } key u.2

/-- The material to write: the item's holding, or the source's. -/
def graftKey (id : Nat) (it : Item) (g : GraftBody) (s : State) : Bytes :=
  if g.op == 1 then ((getItem s id).map (·.holding)).getD []
  else
    match it.source with
    | some (.found p) => p.key
    | _ => (material s (getSlot s (g.wkey / 65536))).getD []

/-- Applies a key graft at index `i`, with the base limit as the last check (R254, R493 step 6). -/
def graftCommit (id : Nat) (it : Item) (e : Envelope) (i : Nat) (handle : State → Bytes) (change : State → State) (s : State) :
    Except (Nat × Nat) (Apply × State) :=
  let s := applyTenant it.tenant e [i] (change s)
  if baseTooBig s then .error (0x0105, 0x01BB)
  else
    let ids := linkedPlaced s it.tenant
    let s := sendSlots it.tenant s.hier.refs ids [i] false s
    .ok (newApply id it e (handle s ++ zeros 4) ids s, s)

/-- Steps 3 (its last check) to 6 of R493, and the application. -/
def graftApply (id : Nat) (it : Item) (e : Envelope) (g : GraftBody) (s : State) : Except (Nat × Nat) (Apply × State) :=
  if g.op == 3 then graftCommit id it e g.idx (fun _ => toBE 4 g.handle) (pruneSlot g.idx) s
  else if g.op == 4 then graftCommit id it e g.idx (fun _ => toBE 4 g.handle) (scrubSlot g.idx) s
  else
    let key := graftKey id it g s
    let c := cellarFor it.tenant g.type key s
    if !c.1 then .error (0x0105, 0x01B9)
    else
      match (if g.new then graftParent it.tenant g c.2 else .ok 0) with
      | .error u => .error u
      | .ok par =>
        let x := if g.new then graftIndex it.tenant g c.2 else (.ok g.idx, c.2)
        match x.1 with
        | .error u => .error u
        | .ok i =>
          if g.hcache && !(!g.new && (getSlot x.2 i).hcache) && 16384 ≤ hcacheSlots x.2 then .error (0x0105, 0x01BA)
          else
            let retire := if g.op == 2 && it.source.isNone then retireSource g.wkey it.tenant else id_
            graftCommit id it e i (fun s => handleBytes i (getSlot s i).gen) (fun s => retire (graftWrite it.tenant i par g e.counter key s)) x.2
where
  id_ : State → State := fun s => s

def svcGraft (id : Nat) (it : Item) : Svc Reply :=
  Svc.signed id it false do
    let e ← Svc.envelope id it (tenantRule it 1 graftLen)
    let g := graftBody e.body
    let _ ← Svc.decideOk id (graftFirst it g)
    graftMaterial id it g
    Svc.apply id (graftApply id it e g)

/-! ## Officer sets -/

def officerApply (id : Nat) (it : Item) (e : Envelope) (s : State) : Except (Nat × Nat) (Apply × State) :=
  match officerCheck e.body with
  | .error u => .error u
  | .ok o =>
    let s := applyTenant it.tenant e [] (modTenant it.tenant (fun t => { t with officers := some o }) s)
    if baseTooBig s then .error (0x0105, 0x01BB)
    else
      let ids := linkedPlaced s it.tenant
      match getTenant s it.tenant with
      | none => .ok (newApply id it e [] [] s, s)
      | some t => .ok (newApply id it e [] ids s, sendPlacement s.hier.refs ids (.entry it.tenant t) s)

def svcOfficerSet (id : Nat) (it : Item) : Svc Reply :=
  Svc.signed id it false do
    let e ← Svc.envelope id it (tenantRule it 2 (fun _ => true))
    Svc.apply id (officerApply id it e)

/-! ## Local opcodes (R263-R266) -/

/-- The lookup of KEY by steps 1 and 2, charging nothing. -/
def Svc.bareKey (it : Item) : Svc Slot := do
  let s ← Svc.state
  match findBare s (it.key / 65536) (it.key % 65536) it.tenant with
  | .pass p =>
    Svc.update (count 0xA0 (some it.tenant))
    pure p
  | .fail st d =>
    Svc.update (lookupFailed it.tenant st)
    Svc.finish st d
  | _ =>
    Svc.update (slotFatal (it.key / 65536))
    Svc.finish 0xFFFF 0

/-- DEBUG_OPEN, for the opcodes that R268 refuses. -/
def Svc.shut : Svc Unit := do
  let s ← Svc.state
  Svc.check (!keysShut s) 0x0902 0

/-- PRUNE and SCRUB of an ephemeral slot (R264). -/
def pruneService (f : Nat → State → State) (it : Item) : Svc Reply := do
  Svc.shut
  Svc.len it.payload.isEmpty
  let p ← Svc.bareKey it
  Svc.bad (!p.persist) 0x01BE
  Svc.update (f (it.key / 65536))
  done

/-- STATE of a QUERY reply (Table 9.9). -/
def queryState (s : State) (p : Slot) : Nat :=
  let exp := match s.cycle with
    | none => 4 * b2n (p.expiry != never)
    | some c => b2n (p.expiry != never && decide (p.expiry < c))
  exp + 2 * b2n (p.ucnt && p.ucount == 0 && (!p.persist || p.unleased == 0))

def svcQuery (it : Item) : Svc Reply := do
  Svc.len it.payload.isEmpty
  let p ← Svc.bareKey it
  let s ← Svc.state
  let par := if p.type == 0x7E then zeros 4 else toBE 2 p.parent ++ toBE 2 (p.stamp.headD 0)
  let uses := if p.ucnt then p.ucount else max32
  done (toBE 1 p.type ++ toBE 1 p.flags ++ toBE 2 p.usage.toNat ++ toBE 1 p.depth ++ toBE 1 (lineage s p) ++ toBE 1 p.klen ++ toBE 1 (queryState s p) ++ par ++ toBE 4 uses ++ toBE 6 p.expiry ++ zeros 2 ++ toBE 8 p.gctr)

def svcVineStatus (it : Item) : Svc Reply := do
  Svc.len it.payload.isEmpty
  let s ← Svc.state
  let t := getTenant s it.tenant
  let o := t.bind (·.officers)
  let root := (t.map (·.root)).getD (0, 0)
  let dig := (o.map (fun o => sha256 o.raw)).getD (zeros 32)
  done (toBE 8 ((t.map (·.ctr)).getD 0) ++ toBE 1 ((o.map (·.k)).getD 0) ++ toBE 1 ((o.map (·.keys.length)).getD 0) ++ zeros 2 ++ handleBytes root.1 root.2 ++ toBE 2 (tenantSlots s it.tenant true) ++ toBE 2 (tenantSlots s it.tenant false) ++ zeros 4 ++ dig ++ zeros 8)

/-- An HMAC parent derives in the DGE, an AES parent in the SYE. -/
def deriveEngine (s : State) (h : Nat) : Engine := if (getSlot s (h / 65536)).type == 8 then .dge else .sye

def svcDerive (id : Nat) (it : Item) : Svc Reply := do
  let b := slotBlock (it.b 0 12)
  let ll := it.f 12 2
  Svc.shut
  Svc.len (16 ≤ it.payload.length && it.payload.length == 16 + ll)
  Svc.zero it (blockRsvd 0 ++ [(14, 2)])
  Svc.range (b.xrst ≤ 1 && ll ≤ 256)
  Svc.bad (b.ok symTypes) 0x0171
  let d ← Svc.newSlot id it b false true
  let s ← Svc.state
  let a ← Svc.engine (deriveEngine s it.key) id it [keyNeed it it.key [3, 4, 5, 8] uDERIVE] [] (.kdf (it.b 16 ll) (typeLen b.type)) (some d)
  done a.bytes

/-- The drawn key in its slot (R266). -/
def generateSlot (id : Nat) (d : NewSlot) (s : State) : Option State :=
  let root := tenantRoot s d.tenant
  match (if d.life == 0 then some never else s.cycle.map (· + d.life)) with
  | none => none
  | some ex =>
    let key := asType d.type (padTo (typeLen d.type) (((getItem s id).map (·.holding)).getD []))
    let p : Slot :=
      { key := key, type := d.type, persist := false, xrst := d.xrst, ucnt := d.ucnt != 0, expo := false, hcache := false, ovfl := false, held := false, usage := d.usage, owner := d.tenant, parent := root, gen := (getSlot s d.idx).gen, stamp := stampUnder s root, ucount := d.ucnt, expiry := ex, tag := 0, entry := none, unleased := 0, gctr := 0 }
    some (modItem id (fun i => { i with wrote := some d.idx }) (unfree d.idx (putSlot d.idx p s)))

def svcGenerate (id : Nat) (it : Item) : Svc Reply := do
  let b := slotBlock (it.b 0 12)
  Svc.shut
  Svc.len (it.payload.length == 12)
  Svc.zero it (blockRsvd 0)
  Svc.range (b.xrst ≤ 1)
  Svc.bad (b.ok symTypes) 0x0171
  let d ← Svc.newSlot id it b false false
  Svc.drawSecret id it (typeLen b.type)
  let s ← Svc.state
  match generateSlot id d s with
  | none => Svc.finish 0x0402 3
  | some s' =>
    Svc.update (fun _ => s')
    done (handleBytes d.idx (getSlot s' d.idx).gen ++ zeros 4)

/-- GRAFT (R254-R258, R493). -/
def execGraft (item : Nat) (s : State) : Host.Outcome State Fault Refusal := .next (runSigned 0x0101 item (svcGraft item) s)

/-- PRUNE (R260, R264). -/
def execPrune (item : Nat) (s : State) : Host.Outcome State Fault Refusal := .next (runOpcode 0x0102 item (pruneService pruneSlot) s)

/-- SCRUB (R261, R264). -/
def execScrub (item : Nat) (s : State) : Host.Outcome State Fault Refusal := .next (runOpcode 0x0103 item (pruneService scrubSlot) s)

/-- QUERY (R263, Table 9.9). -/
def execQuery (item : Nat) (s : State) : Host.Outcome State Fault Refusal := .next (runOpcode 0x0104 item svcQuery s)

/-- DERIVE (R265). -/
def execDerive (item : Nat) (s : State) : Host.Outcome State Fault Refusal := .next (runOpcode 0x0105 item (svcDerive item) s)

/-- GENERATE (R266). -/
def execGenerate (item : Nat) (s : State) : Host.Outcome State Fault Refusal := .next (runOpcode 0x0106 item (svcGenerate item) s)

/-- OFFICER_SET (R259). -/
def execOfficerSet (item : Nat) (s : State) : Host.Outcome State Fault Refusal := .next (runSigned 0x0107 item (svcOfficerSet item) s)

/-- VINE_STATUS (Table 9.10). -/
def execVineStatus (item : Nat) (s : State) : Host.Outcome State Fault Refusal := .next (runOpcode 0x0108 item svcVineStatus s)

/-! ## Sweeper and image -/

/-- SWEEPER_STEP (R262): it runs while a reclaimable slot exists. -/
def execSweeperStep (s : State) : Host.Outcome State Fault Refusal :=
  if reclaimables s == 0 then .next s
  else
    let i := s.vks.sweep
    let s := if reclaimable s i (getSlot s i) then reclaimSlot i s else s
    .next { s with vks := { s.vks with sweep := if i + 1 < 65536 then i + 1 else 256 } }

/-- VINE_BASE_REWRITE (R271). -/
def execVineBaseRewrite (s : State) : Host.Outcome State Fault Refusal :=
  if logFull s && s.vks.img.isSome then .next (rewriteBase s) else .next s

/-! ## Leases (R243, R244) -/

/-- The active manager's refusal, or the block that goes out at once. -/
def grantTo (m : LeaseRequest) (uses : Nat) (s : State) : State :=
  let p := getSlot s m.slot
  sendTo m.fromId (.leaseGrant { slot := m.slot, gen := p.gen, uses := uses, unleased := p.unleased, mterm := s.hier.mterm }) s

/-- A request for a block reaches the active manager. -/
def leaseAsked (m : LeaseRequest) (s : State) : State :=
  let p := getSlot s m.slot
  let n := min 256 p.unleased
  if !p.persist || !p.ucnt || n == 0 then grantTo m 0 s
  else
    let s := noteSlots [m.slot] (imgPutSlot m.slot (putSlot m.slot { p with unleased := p.unleased - n } s))
    if hasStandby s then sendOn 4 (.leaseRecord m.slot n) { s with vks := { s.vks with leaseP := s.vks.leaseP ++ [(m.slot, m.fromId, n)] } }
    else grantTo m n s

/-- A lease block request under the tenant's epoch: taken, rejected or held (13 R345). -/
def leaseIn (m : LeaseRequest) (s : State) : State :=
  let ep := epochOf s m.tenant
  if m.epoch < ep then sendTo m.fromId (.stale m.slot ep) s
  else if ep < m.epoch then { s with hier := { s.hier with msgs := s.hier.msgs ++ [(s.now, .lease m)] } }
  else leaseAsked m s

/-- LEASE_BLOCK_REQUEST (R244), from a part that is linked. -/
def execLeaseBlockRequest (m : LeaseRequest) (s : State) : Host.Outcome State Fault Refusal :=
  if peerLive s && isActive s && (routeTo s m.fromId).isSome then .next (leaseIn m (receivedFrom m.fromId s)) else .next s

/-- The standby has acknowledged the oldest lease record of a slot: its block goes to the part that asked (R244). -/
def leaseAcked (slot : Nat) (s : State) : State :=
  match s.vks.leaseP.find? (fun e => e.1 == slot) with
  | none => s
  | some e =>
    let s := { s with vks := { s.vks with leaseP := removeFirst (fun x => x.1 == slot) s.vks.leaseP } }
    if e.2.1 == myId s then
      let p := getSlot s slot
      resumeLease slot (putSlot slot { p with ucount := p.ucount + e.2.2 } s)
    else grantTo { fromId := e.2.1, tenant := 0, epoch := 0, slot := slot } e.2.2 s

/-- A block reaches the part that asked. -/
def leaseGranted (m : LeaseGrant) (s : State) : State :=
  let p := getSlot s m.slot
  if p.gen != m.gen then s
  else
    let s := putSlot m.slot { p with ucount := p.ucount + m.uses, unleased := m.unleased } s
    if m.uses == 0 then exhaustLease (· == m.slot) s else resumeLease m.slot s

/-- A lease record reaches the standby: the uses count as spent, and it answers. -/
def leaseRecorded (m : LeaseGrant) (s : State) : State :=
  let p := getSlot s m.slot
  sendOn 4 (.leaseRecord m.slot m.uses) (imgPutSlot m.slot (putSlot m.slot { p with unleased := m.unleased } s))

/-- LEASE_BLOCK_GRANT (R244): a block at a worker, a lease record at the standby, its acknowledgement at the active manager
(log 35). -/
def execLeaseBlockGrant (m : LeaseGrant) (s : State) : Host.Outcome State Fault Refusal :=
  if !peerLive s || m.mterm < s.hier.mterm then .next s
  else if isActive s then .next (leaseAcked m.slot (received 4 s))
  else if (managerPort s).isNone then .next s
  else if roleOf s == .worker then .next (leaseGranted m (receivedManager s))
  else .next (leaseRecorded m (receivedManager s))

end Sys2Proof.Machine
end

