-- ==== Sys2Proof/Machine/Twin.lean ====
section
/-! DEFINITION. The active manager's side of the twin copy: deltas, lag, a standby lost, snapshots (13 R347-R349, R356). -/

set_option Elab.async false

namespace Sys2Proof.Machine

/-! ## What a delta carries (Table 13.6) -/

def shadowQueue (q : Nat) (p : Queue) : ShadowQueue :=
  { qid := q, pri := p.pri, size := p.size, vec := p.vec, cthr := p.cthr, ctim := p.ctim, sqbase := p.sqbase, cqbase := p.cqbase, sqhead := p.sqhead, cqtail := p.cqtail, phase := p.phase }

/-- A context with the positions of its queues and windows. -/
def shadowCtx (s : State) (t : Nat) (c : Ctx) : ShadowCtx :=
  { tenant := t, vf := c.vf, maxpri := c.maxpri, fbase := c.fbase, fcount := c.fcount, infl := c.infl, quota := c.quota, hold := c.hold, left := c.left, queues := (s.hfe.queues.filter (fun e => c.vf != 0 && e.1 / 16 == c.vf)).map (fun e => shadowQueue (e.1 % 16) e.2), flows := (s.dsp.flows.filter (fun e => c.hasFlow e.1)).map (fun e => (e.1, e.2.head, e.2.next)) }

def shadowCtxs (s : State) : List ShadowCtx := s.hfe.ctxs.map (fun e => shadowCtx s e.1 e.2)

/-- The delta of the cycle just ended. -/
def deltaContent (s : State) : DeltaContent :=
  { s.hier.delta with mterm := s.hier.mterm, sessions := s.clc.sessions, reserved := s.vks.reserved, ctxs := shadowCtxs s, cycle := s.cycle.getD noCycle }

/-- The persistent slots of this part, as a copy carries them. -/
def persistentSlots (s : State) : List (Nat × Slot) :=
  (s.vks.slots.filter (fun e => e.2.persist && !e.2.free)).map (fun e => (e.1, wireSlot s e.2))

/-- The snapshot of a resynchronisation (R356 step 1). -/
def snapshotContent (s : State) : DeltaContent :=
  { dir := s.hier.dir, roster := s.hier.roster, hctr := s.hier.hctr, hrecs := s.hier.hrecs, hoff := s.hier.hoff, tkeys := s.hier.tkeys, mterm := s.hier.mterm, slots := persistentSlots s, reserved := s.vks.reserved, vault := [], sessions := s.clc.sessions, ctxs := shadowCtxs s, cycle := s.cycle.getD noCycle }

/-! ## Sending (R347, R348) -/

/-- The budget of a copy in KiB: 6.71 GB/s for P/16, at most 256 MiB. -/
def copyBudget (s : State) : Nat := min (256 * 1024) (6710 * s.cyu.period / 16 / 1024)

/-- Closes the delta of the cycle and sends it. Its size, whose byte form the spec does not give, is a free value (log 53). -/
def sendDelta (s : State) : State :=
  let n := s.hier.closed + 1
  let m : DeltaMsg := { cseq := n, digestOk := true, content := deltaContent s }
  let u := takeFree (2 ^ 24) s
  let s := countN 0xDF u.1 none (count 0xDE none u.2)
  sendOn 4 (.delta m) { s with hier := { s.hier with closed := n, out := s.hier.out ++ [n], lastKib := u.1, late := copyBudget s < u.1, delta := .empty } }

/-- The vault records of a tenant's share in extent order, as places. -/
def extentWrites (s : State) (t : Nat) : List VaultWrite :=
  (recordsOf s t).map (fun e => { tenant := t, page := e.1 / 32, place := e.1 % 32, val := e.2 })

/-- The snapshot and the vault extents, in allocation order (R356 steps 1 and 3). -/
def sendBulk (s : State) : State :=
  let n := s.hier.closed + 1
  let s := sendOn 4 (.bulk (.snapshot n (snapshotContent s))) s
  let s := s.clc.shares.foldl (fun (s : State) (e : Nat × Share) => sendOn 4 (.bulk (.extent (extentWrites s e.1))) s) s
  sendOn 4 (.bulk .done) { s with hier := { s.hier with closed := n, cseq := n, out := [], delta := .empty, resyncN := 2, late := false } }

/-! ## A standby lost, or found (R349) -/

/-- Nothing waits for a copy any more: replies, vault writes and lease blocks go at once. -/
def releaseCopies (s : State) : State :=
  let s := { s with clc := { s.clc with copies := s.clc.copies.map (fun c => { c with delta := none }) } }
  let s := modApplies (fun a => { a with delta := none }) (finishCopies s)
  s.vks.leaseP.foldl (fun (s : State) (e : Nat × Nat × Nat) => leaseAcked e.1 s) s

/-- The standby is unsynchronised: copying stops, a HANDOVER with it; a linked one resynchronises from the next boundary on. -/
def standbyLost (s : State) : State :=
  if !isActive s then s
  else
    let s := match s.hier.handover with
      | none => s
      | some h => itemEnd h.1 0x0105 0x01E6 { s with hier := { s.hier with handover := none } }
    releaseCopies { s with hier := { s.hier with
      synced := false, late := false, out := [], delta := .empty, resyncN := if portUp s 4 && twinSet s then 1 else 0 } }

/-- The copy that begins at a boundary, and the batch that it carries (R347, 08 R215). The lag counts the deltas that
earlier boundaries closed. -/
def twinCopy (s : State) : State :=
  let s := if isActive s && s.hier.synced && 3 ≤ s.hier.out.length then standbyLost s else s
  if !isActive s then closeBatch none s
  else if s.hier.synced then sendDelta (closeBatch (some (s.hier.closed + 1)) s)
  else if s.hier.resyncN == 2 && portUp s 4 then sendDelta (closeBatch none s)
  else if s.hier.resyncN == 1 && portUp s 4 then sendBulk (closeBatch none s)
  else closeBatch none s

/-- HANDOVER steps 2 and 3 (R353): once every item but itself has been released, vault writes that wait for a copy apart, an
extra delta goes out. -/
def handoverStep (s : State) : State :=
  match s.hier.handover with
  | some (id, none) =>
    let left := countItems (fun i it => i != id && !(match it.phase with | .waiting _ _ (.twin _) => true | _ => false)) s
    if left != 0 || !s.hfe.fetched.isEmpty then s
    else
      let n := s.hier.closed + 1
      let s := sendDelta (closeBatch (some n) s)
      { s with hier := { s.hier with handover := some (id, some n) } }
  | _ => s

/-- The lag: deltas closed and not acknowledged, the one that the last boundary closed apart (R349). -/
def lag (s : State) : Nat := if isActive s then (s.hier.out.filter (· != s.hier.closed)).length else 0

/-- TWIN_LAG (R349). -/
def twinLag (s : State) : Bool := isActive s && s.hier.synced && (1 ≤ lag s || s.hier.late)

end Sys2Proof.Machine
end

