-- ==== Sys2Proof/Machine/Pool.lean ====
section
/-! DEFINITION. The dispatcher at work: service cores take, resume and leave items, windows and rule sets, the decanter's
releases, Armature threads, draining groups (05 R101-R127). -/

set_option Elab.async false

namespace Sys2Proof.Machine

/-! ## What may run (15 Table 15.8, 17 R439, R440) -/

/-- An opcode is of a class that Table 15.8 allows in the state in force. With debug open in INDEPENDENT mode key
operations run, to the DEBUG_OPEN of their lookups (09 R268; log 47). -/
def lcAllows (s : State) (op : Nat) : Bool :=
  let c := opClass op
  match s.otp.force with
  | .blank => c == 0x0D || c == 0x0F
  | .test => true
  | .perso => !keysShut s || !(c == 0x0B || c == 0x0C)
  | .field => !keysShut s || !(c == 0x0B || c == 0x0C)
  | .analysis => c == 0x0D || c == 0x0F
  | .void => [0x0D01, 0x0F01, 0x0F03, 0x0F04, 0x0F12, 0x0F31].contains op

/-- Before READY only classes 0Dh and 0Fh run, and without a valid image LC_STATUS and UPDATE alone (17 R439, R440). -/
def phaseAllows (s : State) (it : Item) : Bool :=
  match s.boot.phase with
  | 5 => true
  | 6 => it.opcode == 0x0D01 || (it.opcode == 0x0F10 && fld (envelopeOf it.payload).body 0 1 == 1)
  | _ => opClass it.opcode == 0x0D || opClass it.opcode == 0x0F

/-! ## Cores and lists (R101-R107) -/

def seatedOn (core : Nat) (it : Item) : Bool := (it.seat.map (·.1)) == some core

def Item.isRunning (it : Item) : Bool :=
  match it.phase with
  | .running _ _ => true
  | _ => false

def Item.isResumable (it : Item) : Bool :=
  match it.phase with
  | .resumable _ _ _ => true
  | _ => false

/-- Resident items of a core. -/
def residents (s : State) (core : Nat) : List (Nat × Item) := s.dsp.items.filter (fun e => seatedOn core e.2)

/-- The lowest free context of a core's four. -/
def freeContext (s : State) (core : Nat) : Option Nat :=
  (List.range 4).find? (fun x => (residents s core).all (fun e => e.2.seat != some (core, x)))

/-- A group is online. -/
def groupOnline (s : State) (g : Nat) : Bool := ((tfind s.dsp.groups g).map (·.st)) == some .online

/-- A core is eligible for a new item (R105). Without a valid image the plinth runs PF queue 0's items itself, shown as core 0
(17 R440; log 69). -/
def eligible (s : State) (core : Nat) : Bool :=
  (groupOnline s (groupOf core) || (s.boot.phase == 6 && core == 0)) && (freeContext s core).isSome &&
    (residents s core).all (fun e => !e.2.isRunning && !e.2.isResumable)

/-- The groups, from the one whose turn it is. -/
def groupTurns (s : State) : List Nat := (List.range 8).map (fun i => (s.dsp.rrGroup + i) % 8)

/-- The core that takes the next item: empty ones first, groups in turn, the lowest number within the group. -/
def pickCore (s : State) : Option Nat :=
  let cores := (groupTurns s).flatMap (fun g => (List.range 6).map (fun i => 6 * g + i))
  (cores.find? (fun c => eligible s c && (residents s c).isEmpty)) <|> (cores.find? (eligible s))

/-- Items on the service list of a level that may be handed off. -/
def levelItems (s : State) (n : Nat) : List (Nat × Item) :=
  s.dsp.items.filter (fun e => e.2.listed && e.2.level == n && phaseAllows s e.2)

/-- The item that entered first. -/
def firstIn (l : List (Nat × Item)) : Option (Nat × Item) :=
  l.foldl (fun (a : Option (Nat × Item)) e =>
    match a with
    | none => some e
    | some x => if e.2.arr < x.2.arr then some e else some x) none

/-- The functions of a list, rising. -/
def fnsOf (l : List (Nat × Item)) : List Nat := (List.range 66).filter (fun fn => l.any (fun e => e.2.fn == fn))

/-- The head item of a level: functions in turn, then order of entry (R102). -/
def headOf (s : State) (n : Nat) : Option (Nat × Item) :=
  let l := levelItems s n
  (turn (tget s.dsp.rrLevel n 0) (fnsOf l)).bind (fun fn => firstIn (l.filter (fun e => e.2.fn == fn)))

/-- The head item of the highest non-empty level. -/
def nextItem (s : State) : Option (Nat × Item) := (List.range 32).findSome? (fun i => headOf s (31 - i))

/-! ## Rule sets of service cores (R121-R126) -/

/-- Masters: control pairs 0 and 1, cores from 2, then DMA0-DMA5 and the debug port (16 Table 16.2). -/
def coreMaster (core : Nat) : Nat := 2 + core

/-- 64-byte units that hold some bytes. -/
def units64 (n : Nat) : Nat := (n + 63) / 64

/-- Slot 16: the local area of an item context, 40 KiB, in order of context number (R107; log 40). -/
def areaRule (ctx : Nat) : BitVec 64 := windowRule (640 * ctx) 640 true true

/-- A service core's set: the item's windows, its local area, the service template; slots 26 to 63 give no access (R122,
R123, R126). -/
def buildSet (s : State) (ctx : Nat) (ws : List (BitVec 64)) : Table (BitVec 64) :=
  (List.range ws.length).map (fun i => (i, ws.getD i 0)) ++ [(16, areaRule ctx)] ++
    s.dsp.tmpl.filter (fun e => 17 ≤ e.1 && e.1 ≤ 25)

/-- The rule-set swap of a core for an item. -/
def swapItem (core ctx : Nat) (ws : List (BitVec 64)) (s : State) : State := swapIn (coreMaster core) (buildSet s ctx ws) s

/-- W0 and W1 of an item at hand-off: where the staging buffers lie is the dispatcher's, a free value (log 48). -/
def firstWindows (it : Item) (s : State) : List (BitVec 64) × State :=
  let a := takeFree (2 ^ 19) s
  let b := takeFree (2 ^ 19) a.2
  ([windowRule a.1 (units64 (32 + it.payload.length + 4 * b2n it.pcrc)) true false,
    windowRule b.1 (units64 (36 + replyMax it.opcode)) true true], b.2)

/-! ## Hand-off, resumption, windows -/

/-- The recheck at hand-off (01 R15), then the life-cycle (15 R405). -/
def recheck (s : State) (it : Item) : Option (Nat × Nat) :=
  match (if it.fn == fnForward then none else deadline s it.notafter 2) with
  | some u => some u
  | none => if lcAllows s it.opcode then none else some (0x0901, lcCode s.otp.force)

/-- The mapping table that an adapter item runs under (03 R67). -/
def mapOf (s : State) (it : Item) : Option MapTable :=
  if it.opcode == 0x0E01 then (getTenant s it.tenant).bind (·.map) else none

/-- An item starts on a core. -/
def startItem (id core ctx : Nat) (it : Item) (s : State) : State :=
  let u := firstWindows it s
  let m := mapOf s it
  let s := modItem id (fun i => { i with phase := .running core ctx, windows := u.1, map := m }) u.2
  count (0x68 + groupOf core) none
    (swapItem core ctx u.1 { s with dsp := { s.dsp with rrGroup := (groupOf core + 1) % 8 } })

/-- An item leaves its list for a core, or ends at the recheck. -/
def handOff (id core ctx : Nat) (it : Item) (s : State) : State :=
  let s := { s with dsp := { s.dsp with rrLevel := tput s.dsp.rrLevel it.level (it.fn + 1) } }
  match recheck s it with
  | some u => itemEnd id u.1 u.2 (if u.1 == 0x0901 then s else count 0x57 it.owner s)
  | none => startItem id core ctx it s

/-- ITEM_HANDOFF (R102, R105, R123, R126). -/
def execItemHandoff (s : State) : Host.Outcome State Fault Refusal :=
  if !hfeLive s then .next s
  else
    match nextItem s, pickCore s with
    | some (id, it), some core =>
      match freeContext s core with
      | none => .next s
      | some ctx => .next (handOff id core ctx it s)
    | _, _ => .next s

/-- The resumable item of a core that was answered first (R106). -/
def firstAnswered (s : State) (core : Nat) : Option (Nat × Nat × Nat) :=
  (residents s core).foldl (fun (a : Option (Nat × Nat × Nat)) e =>
    match e.2.phase with
    | .resumable _ x t =>
      match a with
      | none => some (e.1, x, t)
      | some u => if t < u.2.2 then some (e.1, x, t) else some u
    | _ => a) none

/-- ITEM_RESUME (R106, R126). -/
def execItemResume (core : Nat) (s : State) : Host.Outcome State Fault Refusal :=
  if !hfeLive s || (residents s core).any (fun e => e.2.isRunning) then .next s
  else
    match firstAnswered s core with
    | none => .next s
    | some (id, ctx, _) =>
      match getItem s id with
      | none => .next s
      | some it =>
        .next (count 0x54 it.owner (swapItem core ctx it.windows (modItem id (fun i => { i with phase := .running core ctx }) s)))

/-- WINDOW_GRANT (R123): a further window, readable and writable, up to W15 (log 49). -/
def execWindowGrant (item base len : Nat) (s : State) : Host.Outcome State Fault Refusal :=
  match getItem s item with
  | none => .next s
  | some it =>
    match it.phase with
    | .running core ctx =>
      if 16 ≤ it.windows.length then .next s
      else
        let ws := it.windows ++ [windowRule base len true true]
        .next (count 0x56 it.owner (swapItem core ctx ws (modItem item (fun i => { i with windows := ws }) s)))
    | _ => .next s

/-! ## The decanter (R112-R114) -/

/-- The answer to the part that forwarded an item (09 R254, 08 R219). -/
def sendAnswer (it : Item) (s : State) : State :=
  let r := it.reply.getD (.bare 0xFFFF 0)
  sendTo it.pos (.answer { mterm := s.hier.mterm, tenant := it.tenant, epoch := epochOf s it.tenant, item := it.raddr, body := .reply r.status r.detail r.payload }) s

/-- What a release brings with it: a context without a placement ends, and the completion entry that P2 waits for is
written (R73, 15 R401). -/
def afterRelease (id : Nat) (it : Item) (s : State) : State :=
  let s := if s.grd.p2item == some id then { s with grd := { s.grd with p2item := none, p2go := true } } else s
  match it.owner with
  | none => s
  | some t => tenantIdle t s

/-- DECANTER_RELEASE (R113, R114): the item, complete and at the head of its flow, with its reply and completion entry. A
full completion ring makes the release wait. -/
def execDecanterRelease (item : Nat) (s : State) : Host.Outcome State Fault Refusal :=
  match getItem s item with
  | none => .next s
  | some it =>
    if it.fn == fnForward then
      if it.isComplete && !s.boot.gates then .next (handoverStep (dropItem item (sendAnswer it s))) else .next s
    else if !hfeLive s || !atHead s it then .next s
    else if !hasRoom s it then .next (count 0x52 it.owner s)
    else .next (handoverStep (writeRmarks (afterRelease item it (releaseReply item it s))))

/-! ## Armature threads (R109) -/

/-- A pair is online and takes the thread. -/
def pairTakes (s : State) (p : Nat) (t : Thread) : Bool :=
  !(if p == 0 then s.dsp.off0 else s.dsp.off1) && (t.bound.isNone || t.bound == some p)

def pairThread (s : State) (p : Nat) : Option Thread := if p == 0 then s.dsp.pair0 else s.dsp.pair1

def setPair (p : Nat) (t : Option Thread) (s : State) : State :=
  { s with dsp := if p == 0 then { s.dsp with pair0 := t } else { s.dsp with pair1 := t } }

/-- The pair that a ready thread runs on, where it runs at once: an idle one, else the one with the lowest-level thread
below it, pair 0 on a tie. -/
def pairFor (s : State) (t : Thread) : Option Nat :=
  let ps := [0, 1].filter (fun p => pairTakes s p t)
  let low (p : Nat) : Nat := match pairThread s p with
    | some x => x.level + 1
    | none => 0
  match ps with
  | [] => none
  | [p] => if low p ≤ t.level then some p else none
  | p :: q :: _ =>
    let b := if low q < low p then q else p
    if low b ≤ t.level then some b else none

/-- A thread becomes ready (R109). A pre-empted thread waits ahead of the control lists (log 41). -/
def threadReady (t : Thread) (s : State) : State :=
  match pairFor s t with
  | none => { s with dsp := { s.dsp with control := s.dsp.control ++ [t] } }
  | some p =>
    match pairThread s p with
    | none => setPair p (some t) s
    | some old => count 0x53 none (setPair p (some t) { s with dsp := { s.dsp with control := old :: s.dsp.control } })

/-- CONTROL_THREAD_READY. -/
def execControlThreadReady (t : Thread) (s : State) : Host.Outcome State Fault Refusal := .next (threadReady t s)

/-! ## Groups (R108) -/

/-- GROUP_DRAIN_COMPLETE: the last resident item of a draining group has ended, but for the UPDATE that drains it (log 68). -/
def execGroupDrainComplete (group : Nat) (s : State) : Host.Outcome State Fault Refusal :=
  match tfind s.dsp.groups group with
  | none => .next s
  | some g =>
    if g.st == .draining && s.dsp.items.all (fun e =>
        (e.2.seat.map (fun u => groupOf u.1)) != some group || (s.flash.upd.map (·.item)) == some e.1) then
      .next { s with dsp := { s.dsp with groups := tput s.dsp.groups group { g with st := .offline } } }
    else .next s

end Sys2Proof.Machine
end

