-- ==== Sys2Proof/Machine/PublicKey.lean ====
section
/-! DEFINITION. Class 08h: public-key services (07 R187-R197). -/

set_option Elab.async false

namespace Sys2Proof.Machine

/-- The hashes of the RSA opcodes 0801h and 0802h, and of ECDSA (Tables 7.15, 7.16). -/
def rsaHashes : List Nat := [2, 3, 4, 0x11, 0x12, 0x13]
def ecHashes : List Nat := 1 :: rsaHashes

/-- The digest of a message: as supplied, or hashed by the DGE (INMODE 01h). -/
def digestIn (id : Nat) (it : Item) (inmode hash : Nat) (msg : Bytes) : Svc Bytes :=
  if inmode == 0 then pure msg
  else do
    let a ← Svc.engine .dge id it [] [] (.hash hash 0 msg)
    pure a.bytes

/-! ## RSA (R189, R190) -/

/-- Step 3 and 4 of RSA_SIGN and RSA_VERIFY. -/
def rsaChecks4 (it : Item) : Svc Unit := do
  let scheme := it.f 0 1
  let hash := it.f 1 1
  Svc.range (scheme ≤ 1 && it.f 3 1 ≤ 1)
  Svc.bad (rsaHashes.contains hash) 0x0182
  Svc.range (scheme == 0 || it.f 2 1 ≤ hashLen hash)
  Svc.bad (scheme == 1 || it.f 2 1 == 0) 4
  Svc.bad (it.f 3 1 == 1 || it.f 8 4 == hashLen hash) 0x0182

def svcRsaSign (id : Nat) (it : Item) : Svc Reply := do
  let ml := it.f 8 4
  let sl := it.f 2 1
  Svc.len (12 ≤ it.payload.length && it.payload.length == 12 + ml)
  Svc.zero it [(4, 4)]
  rsaChecks4 it
  let salt ← if it.f 0 1 == 1 && sl != 0 then Svc.draw id it sl else pure []
  let d ← digestIn id it (it.f 3 1) (it.f 1 1) (it.b 12 ml)
  let a ← Svc.engine .bne id it [keyNeed it it.key [0x50] uSIGN] [] (.rsaSign (it.f 0 1) (it.f 1 1) sl salt d)
  done a.bytes

def svcRsaVerify (id : Nat) (it : Item) : Svc Reply := do
  let ml := it.f 8 4
  let mb := it.f 4 2
  let el := it.f 6 1
  let nb := (mb + 7) / 8
  Svc.len (12 ≤ it.payload.length && it.payload.length == 12 + 2 * nb + el + ml)
  Svc.zero it [(7, 1)]
  Svc.range (1 ≤ el && el ≤ 32)
  rsaChecks4 it
  let d ← digestIn id it (it.f 3 1) (it.f 1 1) (it.b (12 + 2 * nb + el) ml)
  let _ ← Svc.engine .bne id it [] []
    (.rsaVerify (it.f 0 1) (it.f 1 1) (it.f 2 1) mb (it.b 12 nb) (it.b (12 + nb) el) (it.b (12 + nb + el) nb) d)
  done

def svcRsaDecrypt (id : Nat) (it : Item) : Svc Reply := do
  let ll := it.f 2 2
  let cl := it.f 4 4
  Svc.len (8 ≤ it.payload.length && it.payload.length == 8 + ll + cl)
  Svc.zero it [(1, 1)]
  Svc.range (hashLen (it.f 0 1) != 0 && ll ≤ 1024)
  let a ← Svc.engine .bne id it [keyNeed it it.key [0x50] uDEC] [] (.rsaDecrypt (it.f 0 1) (it.b 8 ll) (it.b (8 + ll) cl))
  done a.bytes

/-! ## ECDSA and ECDH (R191, R192) -/

/-- L and Ln of a CURVE code that the opcode takes, judged once; X25519 has 32 and 32. -/
def curveSizes (id code : Nat) (x : Bool) : Svc (Nat × Nat) := do
  let a ← Svc.decideOk id (fun s =>
    if x && code == 0x11 then (.nums [32, 32], s)
    else
      match curveOf s.flash.curves code with
      | some c => (.nums [c.l, c.ln], s)
      | none => (.err 0x0105 0x0180, s))
  pure (a.list.headD 0, a.list.getD 1 0)

/-- Steps 3 and 4 of ECDSA. -/
def ecdsaChecks (it : Item) : Svc Unit := do
  Svc.range (it.f 2 1 ≤ 1)
  Svc.bad (ecHashes.contains (it.f 1 1)) 0x0182
  Svc.bad (it.f 2 1 == 1 || it.f 4 4 == hashLen (it.f 1 1)) 0x0182

/-- The signature, with a new nonce where r or s came out zero: the lane draws it (R191). -/
def svcEcdsaSign (id : Nat) (it : Item) : Svc Reply := do
  let code := it.f 0 1
  let ml := it.f 4 4
  Svc.len (8 ≤ it.payload.length && it.payload.length == 8 + ml)
  Svc.zero it [(3, 1)]
  ecdsaChecks it
  let u ← curveSizes id code false
  Svc.drawSecret id it (u.2 + 8)
  let d ← digestIn id it (it.f 2 1) (it.f 1 1) (it.b 8 ml)
  let a ← Svc.engine .bne id it [keyNeed it it.key [curveType code] uSIGN] [] (.ecdsaSign code d)
  done a.bytes

def svcEcdsaVerify (id : Nat) (it : Item) : Svc Reply := do
  let code := it.f 0 1
  let ml := it.f 4 4
  let u ← curveSizes id code false
  let ql := 1 + 2 * u.1
  Svc.len (8 ≤ it.payload.length && it.payload.length == 8 + ql + 2 * u.2 + ml)
  Svc.zero it [(3, 1)]
  Svc.range (it.f 8 1 == 4)
  ecdsaChecks it
  let d ← digestIn id it (it.f 2 1) (it.f 1 1) (it.b (8 + ql + 2 * u.2) ml)
  let _ ← Svc.engine .bne id it [] [] (.ecdsaVerify code (it.b 8 ql) (it.b (8 + ql) (2 * u.2)) d)
  done

def svcEcdh (id : Nat) (it : Item) : Svc Reply := do
  let code := it.f 0 1
  let ol := it.f 2 2
  let b := slotBlock (it.b 4 12)
  let u ← curveSizes id code true
  let pl := if code == 0x11 then 32 else 1 + 2 * u.1
  Svc.len (16 ≤ it.payload.length && it.payload.length == 16 + pl + ol)
  Svc.zero it ([(1, 1)] ++ blockRsvd 4)
  Svc.range (ol ≤ 256 && b.xrst ≤ 1 && (code == 0x11 || it.f 16 1 == 4))
  Svc.bad (b.ok derivedTypes) 0x0171
  let d ← Svc.newSlot id it b false true
  let a ← Svc.engine .bne id it [keyNeed it it.key [curveType code] uAGREE] [] (.ecdh code (it.b 16 pl) (it.b (16 + pl) ol)) (some d)
  done a.bytes

/-! ## EdDSA (R193) -/

def svcEddsaSign (id : Nat) (it : Item) : Svc Reply := do
  let ml := it.f 4 4
  Svc.len (8 ≤ it.payload.length && it.payload.length == 8 + ml)
  Svc.zero it [(0, 4)]
  let a ← Svc.engine .bne id it [keyNeed it it.key [0x18] uSIGN] [] (.eddsaSign (it.b 8 ml))
  done a.bytes

def svcEddsaVerify (id : Nat) (it : Item) : Svc Reply := do
  let ml := it.f 4 4
  Svc.len (104 ≤ it.payload.length && it.payload.length == 104 + ml)
  Svc.zero it [(0, 4)]
  let _ ← Svc.engine .bne id it [] [] (.eddsaVerify (it.b 8 32) (it.b 40 64) (it.b 104 ml))
  done

/-! ## ML-KEM and ML-DSA (R194, R195) -/

/-- PSET in its range: without it no length is known (R165). -/
def Svc.pset (it : Item) : Svc Nat := do
  Svc.range (1 ≤ it.f 0 1 && it.f 0 1 ≤ 3)
  pure (it.f 0 1)

/-- What ENCAPS and DECAPS check before they draw or look up. -/
def kemChecks (id : Nat) (it : Item) (n : Nat) (fromKey : Bool) : Svc NewSlot := do
  let b := slotBlock (it.b 4 12)
  Svc.len (it.payload.length == 16 + n)
  Svc.zero it ([(1, 3)] ++ blockRsvd 4)
  Svc.range (b.xrst ≤ 1)
  Svc.bad (b.ok derivedTypes) 0x0171
  Svc.newSlot id it b false fromKey

def svcMlkemEncaps (id : Nat) (it : Item) : Svc Reply := do
  let p ← Svc.pset it
  let d ← kemChecks id it (kemEkLen p) false
  Svc.drawSecret id it 32
  let a ← Svc.engine .bne id it [] [] (.kemEncaps p (it.b 16 (kemEkLen p))) (some d)
  done a.bytes

def svcMlkemDecaps (id : Nat) (it : Item) : Svc Reply := do
  let p ← Svc.pset it
  let d ← kemChecks id it (kemCtLen p) true
  let a ← Svc.engine .bne id it [keyNeed it it.key [0x3F + p] uAGREE] [] (.kemDecaps p (it.b 16 (kemCtLen p))) (some d)
  done a.bytes

def svcMldsaSign (id : Nat) (it : Item) : Svc Reply := do
  let p ← Svc.pset it
  let mode := it.f 1 1
  let cl := it.f 2 1
  let ml := it.f 4 4
  Svc.len (8 ≤ it.payload.length && it.payload.length == 8 + cl + ml)
  Svc.zero it [(3, 1)]
  Svc.range (mode ≤ 1)
  if mode == 0 then Svc.drawSecret id it 32 else pure ()
  let a ← Svc.engine .bne id it [keyNeed it it.key [0x43 + p] uSIGN] [] (.dsaSign p mode (it.b 8 cl) (it.b (8 + cl) ml))
  done a.bytes

def svcMldsaVerify (id : Nat) (it : Item) : Svc Reply := do
  let p ← Svc.pset it
  let cl := it.f 2 1
  let ml := it.f 4 4
  let o := 8 + dsaPkLen p + dsaSigLen p
  Svc.len (o ≤ it.payload.length && it.payload.length == o + cl + ml)
  Svc.zero it [(1, 1), (3, 1)]
  let _ ← Svc.engine .bne id it [] []
    (.dsaVerify p (it.b 8 (dsaPkLen p)) (it.b (8 + dsaPkLen p) (dsaSigLen p)) (it.b o cl) (it.b (o + cl) ml))
  done

/-! ## KEYGEN and PUBKEY_READ (R196, R197) -/

/-- KT and PARAM name a generated kind (Table 7.18). -/
def kindOk (kt param : Nat) : Bool :=
  match kt with
  | 1 => param == 1 || param == 2 || (0x20 ≤ param && param < 0x40)
  | 2 => param == 1 || param == 2 || (0x20 ≤ param && param < 0x40)
  | 3 => param == 0x10
  | 4 => param == 0x11
  | 5 => 1 ≤ param && param ≤ 3
  | 6 => 1 ≤ param && param ≤ 3
  | _ => false

/-- The usage of a kind. -/
def kindUsage (kt : Nat) : BitVec 16 := if kt == 1 || kt == 3 || kt == 6 then uSIGN else uAGREE

/-- Secret bytes that a kind needs, judged once: an empty entry, or one with L above 64, is refused (R188, R196). -/
def kindDraw (id kt param : Nat) : Svc Nat := do
  let a ← Svc.decideOk id (fun s =>
    if 3 ≤ kt then (.nums [if kt == 5 then 64 else 32], s)
    else
      match curveOf s.flash.curves param with
      | some c => if c.l ≤ 64 then (.nums [c.ln + 8], s) else (.err 0x0105 0x0180, s)
      | none => (.err 0x0105 0x0180, s))
  pure a.nat

def svcKeygen (id : Nat) (it : Item) : Svc Reply := do
  let kt := it.f 0 1
  let param := it.f 1 1
  let b := slotBlock (it.b 4 12)
  Svc.len (it.payload.length == 16)
  Svc.zero it ([(2, 2)] ++ blockRsvd 4)
  Svc.range (b.xrst ≤ 1)
  Svc.bad (kindOk kt param) 0x0185
  let n ← kindDraw id kt param
  Svc.bad (b.type == 0 && b.usage == kindUsage kt) 0x0171
  let d ← Svc.newSlot id it b false false
  Svc.drawSecret id it n
  let a ← Svc.engine .bne id it [] [] (.keygen kt param) (some d)
  done a.bytes

/-- Every private key type (09 Table 9.2). -/
def privateTypes : List Nat :=
  [0x10, 0x11, 0x12, 0x18, 0x19, 0x40, 0x41, 0x42, 0x44, 0x45, 0x46, 0x50] ++ (List.range 32).map (· + 0x20)

def svcPubkeyRead (id : Nat) (it : Item) : Svc Reply := do
  Svc.len (it.payload.length == 0)
  let k := keyNeed it it.key privateTypes (uSIGN ||| uAGREE ||| uDEC)
  let a ← Svc.engine .bne id it [{ k with anyOf := true }] [] .pubkey
  done a.bytes

/-- RSA_SIGN (R189). -/
def execRsaSign (item : Nat) (s : State) : Host.Outcome State Fault Refusal := .next (runOpcode 0x0801 item (svcRsaSign item) s)

/-- RSA_VERIFY (R189). -/
def execRsaVerify (item : Nat) (s : State) : Host.Outcome State Fault Refusal := .next (runOpcode 0x0802 item (svcRsaVerify item) s)

/-- RSA_DECRYPT (R190). -/
def execRsaDecrypt (item : Nat) (s : State) : Host.Outcome State Fault Refusal := .next (runOpcode 0x0803 item (svcRsaDecrypt item) s)

/-- ECDSA_SIGN (R191). -/
def execEcdsaSign (item : Nat) (s : State) : Host.Outcome State Fault Refusal := .next (runOpcode 0x0804 item (svcEcdsaSign item) s)

/-- ECDSA_VERIFY (R191). -/
def execEcdsaVerify (item : Nat) (s : State) : Host.Outcome State Fault Refusal := .next (runOpcode 0x0805 item (svcEcdsaVerify item) s)

/-- ECDH (R192). -/
def execEcdh (item : Nat) (s : State) : Host.Outcome State Fault Refusal := .next (runOpcode 0x0806 item (svcEcdh item) s)

/-- EDDSA_SIGN (R193). -/
def execEddsaSign (item : Nat) (s : State) : Host.Outcome State Fault Refusal := .next (runOpcode 0x0807 item (svcEddsaSign item) s)

/-- EDDSA_VERIFY (R193). -/
def execEddsaVerify (item : Nat) (s : State) : Host.Outcome State Fault Refusal := .next (runOpcode 0x0808 item (svcEddsaVerify item) s)

/-- MLKEM_ENCAPS (R194). -/
def execMlkemEncaps (item : Nat) (s : State) : Host.Outcome State Fault Refusal := .next (runOpcode 0x0809 item (svcMlkemEncaps item) s)

/-- MLKEM_DECAPS (R194). -/
def execMlkemDecaps (item : Nat) (s : State) : Host.Outcome State Fault Refusal := .next (runOpcode 0x080A item (svcMlkemDecaps item) s)

/-- MLDSA_SIGN (R195). -/
def execMldsaSign (item : Nat) (s : State) : Host.Outcome State Fault Refusal := .next (runOpcode 0x080B item (svcMldsaSign item) s)

/-- MLDSA_VERIFY (R195). -/
def execMldsaVerify (item : Nat) (s : State) : Host.Outcome State Fault Refusal := .next (runOpcode 0x080C item (svcMldsaVerify item) s)

/-- KEYGEN (R196). -/
def execKeygen (item : Nat) (s : State) : Host.Outcome State Fault Refusal := .next (runOpcode 0x080D item (svcKeygen item) s)

/-- PUBKEY_READ (R197). -/
def execPubkeyRead (item : Nat) (s : State) : Host.Outcome State Fault Refusal := .next (runOpcode 0x080E item (svcPubkeyRead item) s)

end Sys2Proof.Machine
end

