-- ==== Sys2Proof/Machine/Random.lean ====
section
/-! DEFINITION. Class 0Bh: RANDOM, DRBG_STATUS (12 R329-R331). -/

set_option Elab.async false

namespace Sys2Proof.Machine

/-- Conditioner state as ENT_STATUS codes it (12 Table 12.12). -/
def condCode (c : CondState) : Nat :=
  match c with
  | .starting => 0
  | .seeding => 1
  | .running => 2
  | .stopped => 3

/-- The noise sources in a state, one bit each. -/
def sourceMask (s : State) (st : SourceState) : Nat :=
  s.ent.src.foldl (fun a e => if e.2.st == st then a + 2 ^ e.1 else a) 0

def svcRandom (id : Nat) (it : Item) : Svc Reply := do
  let n := it.f 0 4
  let pr := bit (it.f 4 1) 0
  let al := it.f 5 1
  Svc.len (8 ≤ it.payload.length && it.payload.length == 8 + al)
  Svc.check (it.f 4 1 ≤ 1 && it.f 6 2 == 0) 0x0105 4
  Svc.range (1 ≤ n && n ≤ (if pr then 65536 else 1048576) && al ≤ 48)
  let a ← Svc.awaitOk (askDraw id it (fun s => instOf s it.tenant) n pr (it.b 8 al) false)
  done a.bytes

/-- ISTATE of a DRBG_STATUS reply (Table 12.9). -/
def instState (s : State) (i : Nat) : Nat :=
  let d := getInst s i
  if !d.seeded then 3
  else if d.hard then 2
  else if s.ent.normal.contains (.reseed i) then 1
  else 0

def svcDrbgStatus (it : Item) : Svc Reply := do
  Svc.len it.payload.isEmpty
  let s ← Svc.state
  let i := instOf s it.tenant
  let d := getInst s i
  done (toBE 4 d.reqs ++ toBE 4 d.bytes ++ toBE 1 (instState s i) ++ toBE 1 (condCode s.ent.cond) ++ toBE 1 (sourceMask s .healthy) ++ zeros 5)

/-- RANDOM (R331). -/
def execRandom (item : Nat) (s : State) : Host.Outcome State Fault Refusal := .next (runOpcode 0x0B01 item (svcRandom item) s)

/-- DRBG_STATUS (Table 12.9). -/
def execDrbgStatus (item : Nat) (s : State) : Host.Outcome State Fault Refusal := .next (runOpcode 0x0B02 item svcDrbgStatus s)

end Sys2Proof.Machine
end

