-- ==== Sys2Proof/Machine/Symmetric.lean ====
section
/-! DEFINITION. Classes 05h, 06h, 07h and 09h: MAC, cipher, key wrap, digest, streams, key blocks (07 R173-R186,
R198-R201). -/

set_option Elab.async false

namespace Sys2Proof.Machine

/-! ## Class 05h (R173-R175) -/

/-- ALG of Table 7.7: engine, key types, bounds of MACLEN by ALG alone. -/
def macAlg (alg : Nat) : Option (Engine × List Nat × Nat × Nat) :=
  match alg with
  | 0x01 => some (.sye, blockTypes, 4, 16)
  | 0x03 => some (.sye, [1], 4, 8)
  | 0x10 => some (.sye, blockTypes, 4, 16)
  | 0x30 => some (.dge, [8], 8, 28)
  | 0x31 => some (.dge, [8], 8, 32)
  | 0x32 => some (.dge, [8], 8, 48)
  | 0x33 => some (.dge, [8], 8, 64)
  | _ => none

/-- MAC_GENERATE and MAC_VERIFY up to the MAC. -/
def macWork (id : Nat) (it : Item) (verify : Bool) : Svc Bytes := do
  let ml := it.f 4 4
  let alg := it.f 0 1
  let padm := it.f 1 1
  let n := it.f 2 1
  Svc.len (24 ≤ it.payload.length && it.payload.length == 24 + ml)
  Svc.zero it [(3, 1)]
  match macAlg alg with
  | none => Svc.finish 0x0105 5
  | some (eng, types, lo, hi) =>
    Svc.range (padm ≤ 3)
    Svc.bad (verify || isZero (it.b 8 16)) 4
    Svc.bad ((padm == 0) == (alg != 1 && alg != 3)) 0x0151
    Svc.bad (lo ≤ n && n ≤ hi && (!verify || n ≤ 16)) 0x0150
    let msg := it.b 24 ml
    let a ← Svc.engine eng id it [keyNeed it it.key types (if verify then uMACV else uMACG)] []
      (if eng == .dge then .hmac alg n msg else .mac alg padm n msg)
    pure a.bytes

def svcMacGenerate (id : Nat) (it : Item) : Svc Reply := do
  let m ← macWork id it false
  done m

def svcMacVerify (id : Nat) (it : Item) : Svc Reply := do
  let m ← macWork id it true
  verified (padTo 16 m == it.b 8 16)

/-! ## Class 06h (R176-R181) -/

/-- ENCRYPT and DECRYPT. -/
def cipherWork (id : Nat) (it : Item) (enc : Bool) : Svc Bytes := do
  let mode := it.f 0 1
  let taglen := it.f 1 1
  let src := it.f 2 1
  let al := it.f 20 4
  let dl := it.f 24 4
  let iv := it.b 4 16
  let tag := it.b 28 16
  Svc.len (44 ≤ it.payload.length && it.payload.length == 44 + al + dl)
  Svc.zero it [(3, 1)]
  Svc.range (mode ≤ 3 && src ≤ 1)
  Svc.bad (if mode == 3 then 12 ≤ taglen && taglen ≤ 16 else taglen == 0) 0x0150
  Svc.bad ((src == 0 || (enc && mode != 0 && isZero iv)) && (mode != 0 || isZero iv) && (mode != 3 || isZero (iv.drop 12)) &&
    (mode == 3 || al == 0) && ((mode == 3 && !enc) || isZero tag)) 0x0153
  Svc.bad (2 ≤ mode || (dl != 0 && dl % 8 == 0)) 0x0152
  let v ← if src == 1 then Svc.draw id it (if mode == 1 then 16 else if mode == 2 then 8 else 12) else pure iv
  let types := if mode ≤ 1 then blockTypes else aesTypes
  let a ← Svc.engine .sye id it [keyNeed it it.key types (if enc then uENC else uDEC)] []
    (.cipher mode enc (src == 1) v (it.b 44 al) (it.b (44 + al) dl) tag taglen)
  pure a.bytes

def svcEncrypt (id : Nat) (it : Item) : Svc Reply := do
  let b ← cipherWork id it true
  done b

def svcDecrypt (id : Nat) (it : Item) : Svc Reply := do
  let b ← cipherWork id it false
  done b

def svcKeyWrap (id : Nat) (it : Item) : Svc Reply := do
  Svc.len (it.payload.length == 8)
  Svc.zero it [(1, 3)]
  Svc.range (it.f 0 1 ≤ 1)
  Svc.handle (it.f 4 4)
  let a ← Svc.engine .sye id it [keyNeed it it.key aesTypes uWRAP, keyNeed it (it.f 4 4) symTypes 0] [] (.wrap (it.f 0 1 == 1))
  done a.bytes

def svcKeyUnwrap (id : Nat) (it : Item) : Svc Reply := do
  let kwp := it.f 0 1 == 1
  let wl := it.f 16 4
  let b := slotBlock (it.b 4 12)
  Svc.len (20 ≤ it.payload.length && it.payload.length == 20 + wl)
  Svc.zero it ([(1, 3)] ++ blockRsvd 4)
  Svc.range (it.f 0 1 ≤ 1 && b.xrst ≤ 1 && wl % 8 == 0 && (if kwp then 16 else 24) ≤ wl && wl ≤ 72)
  Svc.bad (b.ok symTypes) 0x0171
  let d ← Svc.newSlot id it b false true
  let a ← Svc.engine .sye id it [keyPersist it it.key aesTypes uUNWRAP] [] (.unwrap kwp (it.b 20 wl)) (some d)
  done a.bytes

/-! ## Class 07h (R182-R186) -/

/-- A hash code of Table 7.4. -/
def isHash (c : Nat) : Bool := hashLen c != 0 || c == 0x21 || c == 0x22
def isShake (c : Nat) : Bool := c == 0x21 || c == 0x22
def isHmacAlg (c : Nat) : Bool := 0x30 ≤ c && c ≤ 0x33

/-- OUTLEN in its range, where the algorithm takes one. -/
def outlenOk (alg n : Nat) : Bool :=
  if isShake alg then 1 ≤ n && n ≤ 8192 else if isHmacAlg alg then 8 ≤ n && n ≤ hashLen (alg - 0x2F) else true

def svcDigest (id : Nat) (it : Item) : Svc Reply := do
  let alg := it.f 0 1
  let n := it.f 2 2
  let ml := it.f 4 4
  Svc.len (8 ≤ it.payload.length && it.payload.length == 8 + ml)
  Svc.zero it [(1, 1)]
  Svc.range (isHash alg && outlenOk alg n)
  Svc.bad (isShake alg || n == 0) 4
  let a ← Svc.engine .dge id it [] [] (.hash alg n (it.b 8 ml))
  done a.bytes

/-- Streams open, and items about to open one. -/
def streamsTaken (s : State) (id : Nat) : Nat :=
  s.eng.streams.length +
    countItems (fun i t => i != id && t.opcode == 0x0702 && !t.isComplete && !t.answers.isEmpty) s

/-- The steps that 0702h to 0704h share: lengths, reserved bytes, an ordered packet. -/
def streamChecks (it : Item) (start : Bool) : Svc Unit := do
  Svc.len (12 ≤ it.payload.length && it.payload.length == 12 + it.f 8 4)
  Svc.zero it ([(1, 1)] ++ (if start then [] else [(0, 1), (2, 2)]))

/-- A stream's key demand. -/
def streamKey (it : Item) (alg key : Nat) : List KeyReq := if isHmacAlg alg then [keyNeed it key [8] uMACG] else []

def svcStreamStart (id : Nat) (it : Item) : Svc Reply := do
  let alg := it.f 0 1
  let n := it.f 2 2
  streamChecks it true
  Svc.range ((isHash alg || isHmacAlg alg) && outlenOk alg n)
  Svc.bad (isShake alg || isHmacAlg alg || n == 0) 4
  Svc.bad it.ord 0x0164
  Svc.bad (isHmacAlg alg == (it.key != 0)) 3
  let _ ← Svc.decideOk id (fun s =>
    if (tfind s.eng.streams it.flow).isSome then (.err 0x0105 0x0162, s)
    else if it.f 4 4 != 0 then (.err 0x0105 0x0163, s)
    else if 4096 ≤ streamsTaken s id then (.err 0x0105 0x0160, s)
    else (.ok [], s))
  let msg := it.b 12 (it.f 8 4)
  let _ ← Svc.engine .dge id it (streamKey it alg it.key) [] (.stream alg 0 msg [])
  let st : Stream := { tenant := it.tenant, alg := alg, outlen := n, key := it.key, part := 1, data := msg }
  Svc.update (fun s => { s with eng := { s.eng with streams := tput s.eng.streams it.flow st } })
  done

/-- The open stream of an UPDATE or FINISH, judged once: the item keeps its algorithm and key. -/
def streamJoin (id : Nat) (it : Item) : Svc (Nat × Nat) := do
  Svc.bad it.ord 0x0164
  let a ← Svc.decideOk id (fun s =>
    match tfind s.eng.streams it.flow with
    | none => (.err 0x0105 0x0161, s)
    | some st => if it.f 4 4 != st.part then (.err 0x0105 0x0163, s) else (.nums [st.alg, st.key], s))
  pure (a.list.headD 0, a.list.getD 1 0)

def svcStreamUpdate (id : Nat) (it : Item) : Svc Reply := do
  streamChecks it false
  let u ← streamJoin id it
  let msg := it.b 12 (it.f 8 4)
  let _ ← Svc.engine .dge id it (streamKey it u.1 u.2) [] (.stream u.1 0 msg [])
  Svc.update (fun s => { s with eng := { s.eng with
    streams := tmod s.eng.streams it.flow (fun st => { st with part := st.part + 1, data := st.data ++ msg }) } })
  done

/-- The last part with the whole message of its stream. -/
def streamFinal (s : State) (flow : Nat) (msg : Bytes) : EngineOp :=
  match tfind s.eng.streams flow with
  | some st => .stream st.alg st.outlen msg (st.data ++ msg)
  | none => .stream 0 0 msg msg

def svcStreamFinish (id : Nat) (it : Item) : Svc Reply := do
  streamChecks it false
  let u ← streamJoin id it
  let msg := it.b 12 (it.f 8 4)
  let a ← Svc.awaitOk (fun s => askEngine .dge id (itemRequest id it (streamKey it u.1 u.2) [] (streamFinal s it.flow msg) none) s)
  Svc.update (closeStream it.flow)
  done a.bytes

/-! ## Class 09h (R198-R201) -/

def svcKbImport (id : Nat) (it : Item) : Svc Reply := do
  let bl := it.f 12 4
  let b := slotBlock (it.b 0 12)
  let kb := it.b 16 bl
  Svc.len (16 ≤ it.payload.length && it.payload.length == 16 + bl)
  Svc.zero it (blockRsvd 0)
  Svc.range (b.xrst ≤ 1)
  match kbParse kb with
  | none => Svc.finish 0x0105 0x0190
  | some k =>
    match kbUsage k.usage k.alg k.mode with
    | none => Svc.finish 0x0105 0x0191
    | some m =>
      Svc.bad (b.type == 0 && b.usage == 0) 0x0171
      let d ← Svc.newSlot id it { b with usage := m } (k.expo == 0x45) true
      let types := if k.version == 0x44 then aesTypes else tdesTypes
      let a ← Svc.engine .sye id it [keyPersist it it.key types uUNWRAP] [] (.kbImport kb) (some d)
      done a.bytes

def svcKbExport (id : Nat) (it : Item) : Svc Reply := do
  let v := it.f 0 1
  Svc.len (it.payload.length == 12)
  Svc.zero it [(7, 1)]
  Svc.range ((v == 0x42 || v == 0x44) && [0x45, 0x4E, 0x53].contains (it.f 4 1) && isPrint (it.f 5 1) && isPrint (it.f 6 1))
  Svc.handle (it.f 8 4)
  let fill ← Svc.draw id it (kbBlock v)
  let a ← Svc.engine .sye id it [keyNeed it it.key blockTypes uWRAP, keyNeed it (it.f 8 4) symTypes 0] [] (.kbExport (it.b 0 7) fill)
  done a.bytes

/-- MAC_GENERATE (R174). -/
def execMacGenerate (item : Nat) (s : State) : Host.Outcome State Fault Refusal := .next (runOpcode 0x0501 item (svcMacGenerate item) s)

/-- MAC_VERIFY (R175). -/
def execMacVerify (item : Nat) (s : State) : Host.Outcome State Fault Refusal := .next (runOpcode 0x0502 item (svcMacVerify item) s)

/-- ENCRYPT (R177). -/
def execEncrypt (item : Nat) (s : State) : Host.Outcome State Fault Refusal := .next (runOpcode 0x0601 item (svcEncrypt item) s)

/-- DECRYPT (R178). -/
def execDecrypt (item : Nat) (s : State) : Host.Outcome State Fault Refusal := .next (runOpcode 0x0602 item (svcDecrypt item) s)

/-- KEY_WRAP (R180). -/
def execKeyWrap (item : Nat) (s : State) : Host.Outcome State Fault Refusal := .next (runOpcode 0x0603 item (svcKeyWrap item) s)

/-- KEY_UNWRAP (R181). -/
def execKeyUnwrap (item : Nat) (s : State) : Host.Outcome State Fault Refusal := .next (runOpcode 0x0604 item (svcKeyUnwrap item) s)

/-- DIGEST (R182). -/
def execDigest (item : Nat) (s : State) : Host.Outcome State Fault Refusal := .next (runOpcode 0x0701 item (svcDigest item) s)

/-- STREAM_START (R183). -/
def execStreamStart (item : Nat) (s : State) : Host.Outcome State Fault Refusal := .next (runOpcode 0x0702 item (svcStreamStart item) s)

/-- STREAM_UPDATE (R184). -/
def execStreamUpdate (item : Nat) (s : State) : Host.Outcome State Fault Refusal := .next (runOpcode 0x0703 item (svcStreamUpdate item) s)

/-- STREAM_FINISH (R184). -/
def execStreamFinish (item : Nat) (s : State) : Host.Outcome State Fault Refusal := .next (runOpcode 0x0704 item (svcStreamFinish item) s)

/-- KB_IMPORT (R199). -/
def execKbImport (item : Nat) (s : State) : Host.Outcome State Fault Refusal := .next (runOpcode 0x0901 item (svcKbImport item) s)

/-- KB_EXPORT (R200). -/
def execKbExport (item : Nat) (s : State) : Host.Outcome State Fault Refusal := .next (runOpcode 0x0902 item (svcKbExport item) s)

end Sys2Proof.Machine
end

