-- ==== Sys2Proof/Machine/Adapter.lean ====
section
/-! DEFINITION. Class 0Eh: ADAPTER_RECORD, MAP_LOAD, MAP_QUERY (03 R62-R68). -/

set_option Elab.async false

namespace Sys2Proof.Machine

/-! ## The inner command -/

/-- Classes 02h to 06h. -/
def innerLow (op id : Nat) (it : Item) : Option (Svc Reply) :=
  match op with
  | 0x0201 => some (svcPinTranslate id it)
  | 0x0202 => some (svcPinVerify id it)
  | 0x0203 => some (svcPinChange id it)
  | 0x0204 => some (svcPinGenerate id it)
  | 0x0301 => some (svcCvvGenerate id it)
  | 0x0302 => some (svcCvvVerify id it)
  | 0x0303 => some (svcArqcVerify id it)
  | 0x0304 => some (svcScriptMac id it)
  | 0x0305 => some (svcScriptEncrypt id it)
  | 0x0401 => some (svcDukptDerive id it)
  | 0x0402 => some (svcDukptPinTranslate id it)
  | 0x0403 => some (svcDukptCipher id it)
  | 0x0404 => some (svcDukptMac id it)
  | 0x0501 => some (svcMacGenerate id it)
  | 0x0502 => some (svcMacVerify id it)
  | 0x0601 => some (svcEncrypt id it)
  | 0x0602 => some (svcDecrypt id it)
  | 0x0603 => some (svcKeyWrap id it)
  | 0x0604 => some (svcKeyUnwrap id it)
  | _ => none

/-- Classes 07h and 09h to 0Bh. -/
def innerMid (op id : Nat) (it : Item) : Option (Svc Reply) :=
  match op with
  | 0x0701 => some (svcDigest id it)
  | 0x0702 => some (svcStreamStart id it)
  | 0x0703 => some (svcStreamUpdate id it)
  | 0x0704 => some (svcStreamFinish id it)
  | 0x0901 => some (svcKbImport id it)
  | 0x0902 => some (svcKbExport id it)
  | 0x0A01 => some (svcTokenise id it)
  | 0x0A02 => some (svcDetokenise id it)
  | 0x0A03 => some (svcDelete id it)
  | 0x0A04 => some (svcExportOpen id it)
  | 0x0A05 => some (svcExportNext id it)
  | 0x0A06 => some (svcVaultQuery id it)
  | 0x0B01 => some (svcRandom id it)
  | 0x0B02 => some (svcDrbgStatus it)
  | _ => none

/-- Class 08h. -/
def innerPublic (op id : Nat) (it : Item) : Option (Svc Reply) :=
  match op with
  | 0x0801 => some (svcRsaSign id it)
  | 0x0802 => some (svcRsaVerify id it)
  | 0x0803 => some (svcRsaDecrypt id it)
  | 0x0804 => some (svcEcdsaSign id it)
  | 0x0805 => some (svcEcdsaVerify id it)
  | 0x0806 => some (svcEcdh id it)
  | 0x0807 => some (svcEddsaSign id it)
  | 0x0808 => some (svcEddsaVerify id it)
  | 0x0809 => some (svcMlkemEncaps id it)
  | 0x080A => some (svcMlkemDecaps id it)
  | 0x080B => some (svcMldsaSign id it)
  | 0x080C => some (svcMldsaVerify id it)
  | 0x080D => some (svcKeygen id it)
  | 0x080E => some (svcPubkeyRead id it)
  | _ => none

/-- The service of an inner opcode. An operation that does not exist has been refused before (step 9). -/
def innerService (id : Nat) (it : Item) : Svc Reply :=
  ((innerLow it.opcode id it).orElse (fun _ => (innerMid it.opcode id it).orElse (fun _ => innerPublic it.opcode id it))).getD
    (Svc.finish 0x0104 2)

/-- Runs, or goes on with, the inner command of an adapter item. -/
def adapterInner (id : Nat) (it : Item) (s : State) : State := wakeGate it.gate (runService id (innerService id) s)

/-! ## ADAPTER_RECORD (R62, R66) -/

/-- RSIZE's size and LEN agree (R62). -/
def adapterLen (b : Bytes) : Bool := (recordSize (fld b 0 1)).map (· + 4) == some b.length

/-- Steps 1 to 5 of R66: the matched entry and the inner payload, or the reply that ends the item. -/
def adapterCheck (it : Item) : Except Reply (Nat × MapEntry × Bytes) :=
  let record := it.payload.drop 4
  if !adapterLen it.payload then .error (.bare 0x0107 2)
  else if it.f 2 2 != 0 then .error (.bare 0x0105 4)
  else
    match it.map with
    | none => .error (.bare 0x0105 0x0101)
    | some m =>
      if it.b 0 2 != slice m.body 2 2 then .error (.bare 0x0105 0x0102)
      else
        match mapMatch m.body record with
        | none => .error { status := 0x0105, detail := 0x0103, payload := adapterPayload m.body 0xFFFF (mapTemplate m.body) }
        | some (i, e) =>
          match innerPayload m.body record e with
          | none => .error { status := 0x0105, detail := 0x0104, payload := adapterPayload m.body i (mapTemplate m.body) }
          | some p => .ok (i, e, p)

/-- The adapter item as its inner command (R66 step 6): the outer packet's tenant, epoch and NOTAFTER stand for it. -/
def innerItem (it : Item) (i : Nat) (e : MapEntry) (p : Bytes) : Item :=
  { it with opcode := e.opcode, key := e.key, payload := p, outer := some (i, it.payload) }

/-- Steps 1 to 6: the inner packet passes steps 9 and 10 of Table 3.3, and its command begins. -/
def adapterBegin (id : Nat) (it : Item) (s : State) : State :=
  match adapterCheck it with
  | .error r => itemDone id r s
  | .ok (i, e, p) =>
    let inner := innerItem it i e p
    let s := modItem id (fun _ => inner) s
    match admitForm inner with
    | some u => itemEnd id u.1 u.2.1 s
    | none => adapterInner id inner s

/-- ADAPTER_RECORD: the item begins, or goes on with its inner command. -/
def execAdapterRecord (item : Nat) (s : State) : Host.Outcome State Fault Refusal :=
  match getItem s item with
  | none => .next s
  | some it =>
    if !it.isRunning then .next s
    else if it.outer.isSome then .next (adapterInner item it s)
    else if it.opcode == 0x0E01 then .next (adapterBegin item it s)
    else .next s

/-! ## MAP_LOAD (R63, R64) -/

/-- An entry's inner opcode may be run by the adapter. -/
def innerAllowed (e : MapEntry) : Bool :=
  2 ≤ opClass e.opcode && opClass e.opcode ≤ 0x0B && (e.plen != 0 || ((opForm e.opcode).map (·.zero)).getD false)

/-- The checks of a table body, in the order of their DETAILs (log 89). -/
def mapCheck (b : Bytes) : Option Nat :=
  if mapRsvd b then some 4
  else if !mapLayout b then some 0x0110
  else if !mapBounds b then some 0x0111
  else if !(mapList b).all innerAllowed then some 0x0112
  else none

/-- The tenant's table is loaded, replaced or removed. -/
def mapApply (id : Nat) (it : Item) (e : Envelope) (s : State) : Except (Nat × Nat) (Apply × State) :=
  match mapCheck e.body with
  | some d => .error (0x0105, d)
  | none =>
    let m := if mapNtypes e.body == 0 then none else some { body := e.body, counter := e.counter }
    let s := applyTenant it.tenant e [] (modTenant it.tenant (fun t => { t with map := m }) s)
    let ids := linkedPlaced s it.tenant
    match getTenant s it.tenant with
    | none => .ok (newApply id it e [] [] s, s)
    | some t => .ok (newApply id it e [] ids s, sendPlacement s.hier.refs ids (.entry it.tenant t) s)

def svcMapLoad (id : Nat) (it : Item) : Svc Reply :=
  Svc.signed id it false do
    let e ← Svc.envelope id it (tenantRule it 3 (fun _ => true))
    Svc.apply id (mapApply id it e)

/-- MAP_LOAD. -/
def execMapLoad (item : Nat) (s : State) : Host.Outcome State Fault Refusal := .next (runSigned 0x0E02 item (svcMapLoad item) s)

/-! ## MAP_QUERY (R68) -/

/-- Digest and counter of a table, or zeros. -/
def mapDigest (m : Option MapTable) : Bytes :=
  match m with
  | none => zeros 40
  | some t => sha256 t.body ++ toBE 8 t.counter

def svcMapQuery (it : Item) : Svc Reply := do
  Svc.len it.payload.isEmpty
  done (mapDigest ((getTenant (← Svc.state) it.tenant).bind (·.map)))

/-- MAP_QUERY. -/
def execMapQuery (item : Nat) (s : State) : Host.Outcome State Fault Refusal := .next (runOpcode 0x0E03 item svcMapQuery s)

end Sys2Proof.Machine
end

