-- ==== Sys2Proof/Machine/Guard.lean ====
section
/-! DEFINITION. The guard: tamper sources and their classes, responses, the guard's states, the backup domain on battery,
the debug port's locked accesses, TAMPER_CLEAR (14, 05 R128). -/

set_option Elab.async false

namespace Sys2Proof.Machine

/-! ## Sources and classes (Table 14.1, R364) -/

/-- Ids of the sources, in bit order. -/
def tamperIds : List Nat :=
  [0x01, 0x02, 0x03, 0x04, 0x05, 0x06, 0x07, 0x10, 0x11, 0x12, 0x18, 0x19, 0x20, 0x21, 0x22, 0x23, 0x28, 0x29, 0x30, 0x32]

/-- Floor classes, in bit order: 1 A, 2 B, 3 C. -/
def tamperFloors : List Nat := [1, 1, 2, 1, 1, 2, 2, 2, 1, 3, 2, 2, 3, 3, 3, 3, 2, 2, 3, 2]

/-- Sources watched on battery (R375). -/
def onBattery (id : Nat) : Bool := [0x07, 0x12, 0x20, 0x21, 0x22, 0x23, 0x28, 0x29].contains id

/-- The bit of a source. -/
def tamperBit (id : Nat) : Option Nat := tamperIds.findIdx? (· == id)

def bit20 (i : Nat) : BitVec 20 := BitVec.ofNat 20 (2 ^ i)

/-- The class of the source at a bit: the highest of floor, OTP raise and class copy. -/
def tamperClass (s : State) (i : Nat) : Nat :=
  let otp := if s.otp.raiseC.getLsbD i then 3 else if s.otp.raiseB.getLsbD i then 2 else 0
  max (tamperFloors.getD i 0) (max otp (tget s.bk.classes i 0))

def TamperEvent.zero : TamperEvent := { sec := 0, sub := 0, batt := false, count := 0 }

/-- A detection: sticky flag, UNREP, stamp, count (R370, R371, R375). -/
def detect (i : Nat) (batt : Bool) (s : State) : State :=
  let e := tget s.bk.events i .zero
  { s with bk := { s.bk with
    flags := s.bk.flags ||| bit20 i, unrep := s.bk.unrep ||| bit20 i
    events := tput s.bk.events i { sec := s.tsSec, sub := s.tsSub, batt := batt, count := satAdd max32 e.count 1 } } }

/-! ## Responses (R365-R369, R374) -/

def keptBy (cls : Nat) : Kept := if cls == 1 then .classA else if cls == 2 then .classB else .classC

/-- A response of a class, or an escalation to it: outputs closed, sap cleared for class C, the purge. The part is in reset
from here on (R373); a sequencer flush that runs goes on after class A and B (R369). -/
def respond (id cls : Nat) (s : State) : State :=
  let s := if cls == 3 then clearSap s else s
  let f := s.fcr
  let s := closeGates (partReset .tamper (keptBy cls) 0x0701 id (closeGates s))
  let s := if f.seqRun && f.flushing && cls < 3 then
      { s with fcr := { s.fcr with flush := f.flush, flushing := true, seqRun := true } }
    else s
  { s with grd := { s.grd with st := .responding, cls := cls, lastId := id, lastCls := cls } }

/-- A source becomes active (Table 14.3). -/
def tamper (id i : Nat) (s : State) : State :=
  let s := detect i false s
  let s := { s with grd := { s.grd with active := s.grd.active ||| bit20 i } }
  let c := tamperClass s i
  match s.grd.st with
  | .battery => s
  | .held => s
  | .responding => if s.grd.cls < c then respond id c s else s
  | .arming => respond id c s
  | .watching => respond id c s
  | .dormant => respond id c s

/-- TAMPER_DETECT (R365). -/
def execTamperDetect (at_ src : Nat) (s : State) : Host.Outcome State Fault Refusal :=
  match tamperBit src with
  | none => .next s
  | some i => if s.powered then .next (tamper src i (s.at_ at_)) else .next s

/-- RESPONSE_COMPLETE (R373): it waits for a sequencer flush that runs. -/
def execResponseComplete (stillActive : BitVec 20) (s : State) : Host.Outcome State Fault Refusal :=
  if s.grd.st == .responding && !s.fcr.flushing then
    .next { s with grd := { s.grd with st := if stillActive == 0 then .arming else .held, active := stillActive, cls := 0 } }
  else .next s

/-- HELD_TIMEOUT (R373). -/
def execHeldTimeout (s : State) : Host.Outcome State Fault Refusal :=
  if s.grd.st == .held then .next { s with grd := { s.grd with st := .arming, active := 0 } } else .next s

/-- ARMING_TIMEOUT (R373): the plinth is released, and runs where PERST_N has been (18 R465). -/
def execArmingTimeout (s : State) : Host.Outcome State Fault Refusal :=
  if s.grd.st == .arming then .next (startUp { s with grd := { s.grd with st := .watching, active := 0 } }) else .next s

/-! ## Power (R373, R375, R376, R377, 18 R464, R467) -/

/-- MAIN_POWER_UP (R373). -/
def execMainPowerUp (at_ : Nat) (s : State) : Host.Outcome State Fault Refusal :=
  if s.grd.st == .battery then
    let s := s.at_ at_
    .next { s with
      bk := { s.bk with pwrcyc := (s.bk.pwrcyc + 1) % 2 ^ 32 }, grd := { s.grd with st := .arming, active := 0, powerUpAt := s.now } }
  else .next s

/-- Main power is gone: everything outside flash, drives, OTP and the backup domain is lost, sticky fields among it (19
R477). PERST_N reads as low until it is released again (log 64). -/
def powerOff (s : State) : State :=
  let s := { s with bk := { s.bk with opsecs := s.opSecs } }
  let s := partReset .powerUp .nothing 0x0701 0 s
  { s with
    grd := { s.grd with st := .battery, active := 0, lastId := 0, lastCls := 0, cls := 0 }
    boot := { s.boot with perst := true, straps := none, pwrfail := false }
    cyu := { s.cyu with lostSeen := false }
    fcr := { Fcr.reset with jpos := s.fcr.jpos } }

/-- MAIN_POWER_LOSS (R375). -/
def execMainPowerLoss (at_ : Nat) (s : State) : Host.Outcome State Fault Refusal :=
  if s.powered then .next (powerOff (s.at_ at_)) else .next s

/-- BATTERY_TAMPER (R375). -/
def execBatteryTamper (at_ src : Nat) (s : State) : Host.Outcome State Fault Refusal :=
  match tamperBit src with
  | none => .next s
  | some i =>
    if s.powered || !onBattery src then .next s
    else
      let s := detect i true (s.at_ at_)
      .next (if tamperClass s i == 3 then clearSap s else s)

/-- VBAT_LOW's bit. -/
def vbatLowBit : Nat := 9

/-- The memory after a cold start (R376): zeros, marker, the VBAT_LOW flag, mesh seeds of the guard's own noise (R378). -/
def coldBackup (now : Nat) (seeds : List Nat) : Backup :=
  { Backup.reset with
    pwrcyc := 0, mseed := seeds, flags := bit20 vbatLowBit, unrep := bit20 vbatLowBit, tsZero := now }

/-- VBAT_COLD_START (R376, R381). -/
def execVbatColdStart (at_ : Nat) (seeds : List Nat) (s : State) : Host.Outcome State Fault Refusal :=
  let s := s.at_ at_
  .next { s with bk := coldBackup s.now seeds, grd := { s.grd with coldNext := true, powerUpAt := s.now } }

/-- VBAT_WARNING (R377): VBAT as measured; the record once per start-up, while the part runs. -/
def execVbatWarning (millivolts : Nat) (s : State) : Host.Outcome State Fault Refusal :=
  let s := { s with grd := { s.grd with vbat := millivolts, batWarn := millivolts < 2600 } }
  if s.powered && 2 ≤ s.boot.phase then .next (batCheck s) else .next s

/-! ## The debug port (05 R128) -/

/-- A denial: counters, and the master's last denial (05 R124, 19 R485). -/
def mpuDenied (m addr : Nat) (r : Right) (s : State) : State :=
  let s := count 0x55 none (eachCopy (fun c => { c with mpuviol := satAdd max32 c.mpuviol 1 }) s)
  setMpu m (fun u => { u with vaddr := addr, vright := some r }) s

/-- One second. -/
def second : Nat := 1000000000

/-- An access of the debug port to a locked region: refused and recorded; the sixteenth within a second raises DEBUG_PROBE
(R128). -/
def debugLocked (addr : Nat) (right : Right) (s : State) : State :=
  if s.grd.st != .watching || s.boot.phase == 0 then s
  else
    let l := s.grd.dbgAcc.filter (fun t => s.now < t + second) ++ [s.now]
    let s := emit .debugError (mpuRecord debugMaster addr right noTenant (mpuDenied debugMaster addr right s))
    let s := { s with grd := { s.grd with dbgAcc := l } }
    if 16 ≤ l.length then tamper 0x32 19 s else s

/-- DEBUG_PORT_LOCKED_ACCESS (R128). -/
def execDebugPortLockedAccess (at_ addr : Nat) (right : Right) (s : State) : Host.Outcome State Fault Refusal :=
  if s.grd.st != .watching || s.boot.phase == 0 then .next s else .next (debugLocked addr right (s.at_ at_))

/-! ## TAMPER_CLEAR (R372) -/

def tamperRule (s : State) : EnvRule :=
  { hierRule 0x17 0 (fun e => e.blen == 8) (fun s e => e.dserial == s.fab.serial) s with
    counter := counterCheck s.bk.gctr [(s.bk.gctr, s.bk.gdig)] }

/-- Flags that the mask names go, but for sources that are active; LOSTSEEN goes, and G advances. -/
def tamperClear (e : Envelope) (s : State) : State :=
  let mask := BitVec.ofNat 20 (fld e.body 0 4)
  { s with
    bk := { s.bk with flags := s.bk.flags &&& ~~~(mask &&& ~~~s.grd.active), gctr := e.counter, gdig := e.digest }
    cyu := { s.cyu with lostSeen := false } }

def svcTamperClear (id : Nat) (it : Item) : Svc Reply :=
  Svc.signed id it true do
    let e ← Svc.envelope id it tamperRule
    Svc.check (fld e.body 4 4 == 0) 0x0105 4
    Svc.bad (fld e.body 0 4 < 2 ^ 20) 0x01F2
    Svc.update (tamperClear e)
    let s ← Svc.state
    done (toBE 4 s.bk.flags.toNat)

/-- TAMPER_CLEAR. -/
def execTamperClear (item : Nat) (s : State) : Host.Outcome State Fault Refusal := .next (runSigned 0x0F20 item (svcTamperClear item) s)

end Sys2Proof.Machine
end

