-- ==== Sys2Proof/Machine/Faults.lean ====
section
/-! DEFINITION. The fault collector at work: reports, containment, the recovery sequencer, the heartbeat, the journal and
its flushes, PWRFAIL_N, resets by pin (13 R357, R358, 16 R408-R424, 18 R465-R468). -/

set_option Elab.async false

namespace Sys2Proof.Machine

/-! ## Units that a contained fault takes out of service (Table 16.1) -/

/-- A service group is struck: its resident items end, and it goes offline (05 R108). -/
def groupFault (g src : Nat) (s : State) : State :=
  let s := endItems (fun _ it => (it.seat.map (fun u => groupOf u.1)) == some g) 0x0702 src s
  { s with dsp := { s.dsp with groups := tmod s.dsp.groups g (fun x => { x with st := .fault }) } }

/-- A control pair goes offline; its thread runs on the other pair (R409). -/
def pairOffline (p : Nat) (s : State) : State :=
  let t := pairThread s p
  let s := setPair p none { s with dsp := if p == 0 then { s.dsp with off0 := true } else { s.dsp with off1 := true } }
  match t with
  | none => s
  | some t => threadReady { t with bound := none } s

/-- What waits for a part whose link has gone waits for it no more: it receives the change before it is admitted again (09
R254). -/
def linksGone (s : State) : State :=
  let up := s
  modApplies (fun a => { a with await := a.await.filter (fun i => (routeTo up i).isSome) }) s

/-- A port, or a sub-link of one, goes down (13 R336); a twin port down makes the standby unsynchronised (13 R349). -/
def portDown (k : Nat) (s : State) : State :=
  let s := linksGone (setPort k (fun p => { p with st := .down, width := 0, speed := 0, key := [], hello := none, peer := none }) s)
  if k == 4 then standbyLost s else s

/-- Both sub-links of a port. -/
def wholePortDown (n : Nat) (s : State) : State := if (tfind s.hier.ports (n + 8)).isSome then portDown (n + 8) (portDown n s) else portDown n s

/-- An NVMe root port goes offline; the cellar becomes CLOSED (08 R205). -/
def driveOffline (p : Nat) (s : State) : State :=
  cellarClose p { s with clc := if p == 0 then { s.clc with off0 := true } else { s.clc with off1 := true } }

/-- A context is quarantined; for the PF's share a queue pair of the PF fails. -/
def containTenant (t : Option Nat) (q src : Nat) (s : State) : State :=
  match t with
  | some t => quarantine t src s
  | none => queueError 0 q s

def containCount (t : Option Nat) (s : State) : Nat :=
  match t with
  | some t => quarEnds s t
  | none => 0

/-- The HMAC cache entry that a report names is zeroed and filled again (11 R305). -/
def cacheFault (e : Nat) (s : State) : State :=
  match tfind s.eng.cache e with
  | none => s
  | some c => giveEntry c.slot { s with eng := { s.eng with cache := terase s.eng.cache e } }

/-- A noise source fails (12 R320). -/
def noiseFault (n : Nat) (s : State) : State := condCheck (modSource n (fun x => { x with st := .failed }) s)

/-- A saved context that is hit: its item ends (11 R310). -/
def saveFault (e src : Nat) (s : State) : State :=
  match tfind s.eng.saved e with
  | none => s
  | some c =>
    let s := { s with eng := { s.eng with saved := terase s.eng.saved e } }
    let drop (l : List Request) : List Request := l.filter (fun r => r.id != c.req)
    itemEnd c.item 0x0702 src { s with eng := { s.eng with syeQ := drop s.eng.syeQ, dgeQ := drop s.eng.dgeQ } }

/-- A record slot of the ring that is hit: freed, and counted as a drop of its record's severity. -/
def ringFault (index : Nat) (s : State) : State :=
  match s.fcr.ring.find? (fun r => r.index == index) with
  | none => s
  | some r =>
    let s := { s with fcr := { s.fcr with ring := s.fcr.ring.filter (fun x => x.index != index) } }
    count 0xE8 none (eachCopy (fun c => { c with drop := tput c.drop r.sev (satAdd max32 (tget c.drop r.sev 0) 1) }) s)

/-- The item that holds a staging buffer. -/
def bufferFault (item src : Nat) (s : State) : State :=
  match getItem s item with
  | none => s
  | some it =>
    match it.owner with
    | some t => if (getCtx s t).isSome then quarantine t src s else itemEnd item 0x0702 src s
    | none => itemEnd item 0x0702 src s

/-! ## Classification (R408-R415, Tables 16.1, 16.2) -/

/-- How a source's uncorrectable error is handled. -/
inductive Isolate where
  /-- contained: the items that end, what is isolated, and whether that is a unit which stays isolated -/
  | contain (items : Nat) (unit : Bool) (act : State → State)
  | engine (unit : Nat)
  | bneLane (n : Nat)
  | fatal_
  | sequencer
  /-- a denial on a service core or the debug port (05 R124, R128) -/
  | denial (core : Option Nat)
  | unknown

/-- Control pairs: fatal for a lockstep mismatch, or while the other pair is offline (R409). -/
def pairIsolate (s : State) (p : Nat) (fatalCause : Bool) : Isolate :=
  if fatalCause || (if p == 0 then s.dsp.off1 else s.dsp.off0) then .fatal_ else .contain 0 true (pairOffline p)

def groupIsolate (s : State) (g src : Nat) : Isolate :=
  .contain (countItems (fun _ it => (it.seat.map (fun u => groupOf u.1)) == some g) s) true (groupFault g src)

/-- The context of a function, or a PF queue pair. -/
def fnIsolate (s : State) (fn q src : Nat) : Isolate :=
  let t := tenantOfVf s fn
  .contain (containCount t s) false (if fn == 0 || t.isSome then containTenant t q src else queueError fn q)

/-- MPUs of masters (Table 16.2). `subject`: the function, root port or trellis port that the access concerned. -/
def mpuIsolate (s : State) (m subject src : Nat) : Isolate :=
  if m ≤ 1 then pairIsolate s m false
  else if m ≤ 0x31 then .denial (some (m - 2))
  else if m ≤ 0x33 then fnIsolate s subject 0 src
  else if m == 0x34 then .contain 0 true (driveOffline (subject % 2))
  else if m == 0x35 then .contain 0 true (wholePortDown (subject % 4))
  else if m == 0x36 then .contain 0 true (portDown 4)
  else if m == 0x37 then .sequencer
  else if m == 0x38 then .denial none
  else .unknown

/-- Table 16.1. `subject`: the tenant, queue pair, entry, item or port that the report names where its source covers
several. -/
def isolateOf (s : State) (r : ErrorReport) (cause : Nat) : Isolate :=
  let n := r.src % 256
  match r.src / 256 with
  | 0x01 => if n ≤ 64 then fnIsolate s n r.subject r.src else .unknown
  | 0x02 =>
    let t := if (getCtx s r.subject).isSome then some r.subject else none
    if n == 0 then .contain (containCount t s) false (containTenant t (r.subject % 16) r.src) else .unknown
  | 0x03 => if n < 48 then groupIsolate s (groupOf n) r.src else .unknown
  | 0x04 => if n < 8 then groupIsolate s n r.src else .unknown
  | 0x05 => if n < 32 then .engine n else .unknown
  | 0x06 => if n < 16 then .engine (32 + n) else .unknown
  | 0x07 => if n < 24 then .bneLane n else .unknown
  | 0x08 => if n == 0 then .fatal_ else if n == 1 then .contain 0 false (cacheFault r.subject) else .unknown
  | 0x09 => if n ≤ 1 then .contain 0 true (driveOffline n) else if n == 2 then .contain 0 false id_ else .unknown
  | 0x0A => if n < 4 then .contain 0 true (noiseFault n) else .unknown
  | 0x0B => if n < 4 then .contain 0 true (wholePortDown n) else if n == 4 then .contain 0 true (portDown 4) else .unknown
  | 0x0C => if n ≤ 1 then pairIsolate s n (cause == causeCompare) else .unknown
  | 0x0D => mpuIsolate s n r.subject r.src
  | 0x0E =>
    if n < 28 then .contain (match (getItem s r.subject).bind (·.owner) with | some t => quarEnds s t | none => 1) false (bufferFault r.subject r.src)
    else if n == 0x20 then .contain (if (tfind s.eng.saved r.subject).isSome then 1 else 0) false (saveFault r.subject r.src)
    else if n == 0x21 then .fatal_
    else if n == 0x22 then .contain 0 false (ringFault r.subject)
    else .unknown
  | 0x0F => if n == 0 || n == 2 then .fatal_ else if n == 1 then .sequencer else .unknown
  | 0x10 => if n ≤ 2 then .contain 0 false id_ else .unknown
  | _ => .unknown
where
  id_ : State → State := fun s => s

/-- The sequencer reports an error: outputs stay closed and ERR_N is held low (13 R358, 16 R416). -/
def sequencerError (s : State) : State :=
  let s := closeGates (count 0xE2 none (record 3 0x0F01 0x0012 (faultData 2 false false false causeError 0 0 0) noTenant false s))
  { s with fcr := { s.fcr with st := .halted, locked := true, seqRun := false, flushing := false, flush := [], lastF := 0x0F01, smbAlert := true } }

/-- The right that a denial report asks for: the spec's reports carry none, so the subject names it (log 65). -/
def rightOf (n : Nat) : Right :=
  match n % 3 with
  | 0 => .read
  | 1 => .write
  | _ => .fetch

/-- The item that runs on a core. -/
def runningOn (s : State) (core : Nat) : Option (Nat × Item) := s.dsp.items.find? (fun e => e.2.isRunning && seatedOn core e.2)

/-- A denial on a service core: the item ends with INTERNAL, its DETAIL the record's index (05 R124). -/
def coreDenial (core addr : Nat) (r : Right) (s : State) : State :=
  let m := coreMaster core
  let s := mpuDenied m addr r s
  match runningOn s core with
  | none => mpuRecord m addr r noTenant s
  | some (id, it) =>
    let ix := s.fcr.ridx % 65536
    itemEnd id 0xFFFF ix (mpuRecord m addr r (it.owner.getD noTenant) s)

/-- A contained report in RECOVERY, or beside a fatal one of the same cycle: recorded only (R415; log 132). -/
def recordedOnly (r : ErrorReport) (cause : Nat) (wire : Bool) (s : State) : State :=
  setFsrc r.src (fun f => { f with last := 2 }) (record 2 r.src 0x0011 (faultData 1 wire false false cause r.addr 0 0) noTenant false s)

/-- An uncorrectable error of a source; `only`: a fatal one coincides. -/
def uncorrectableIn (only : Bool) (r : ErrorReport) (cause : Nat) (wire : Bool) (s : State) : State :=
  let s := if r.src / 256 == 0x0D then mpuNote r s else s
  match isolateOf s r cause with
  | .unknown => s
  | .fatal_ => if s.fcr.st == .recovery then s else fatalFault r.src cause r.addr wire false s
  | .sequencer => sequencerError s
  | .denial (some core) => coreDenial core r.addr (rightOf r.subject) s
  | .denial none => s
  | .engine n => if only || s.fcr.st == .recovery then recordedOnly r cause wire s else unitFault n cause r.addr wire s
  | .bneLane n => if only || s.fcr.st == .recovery then recordedOnly r cause wire s else laneFault n cause r.addr wire s
  | .contain items unit act =>
    let rep := unit && (fsrc s r.src).isol
    if only || s.fcr.st == .recovery then recordedOnly r cause wire s
    else
      let s := containedReport r.src cause r.addr (if rep then 0 else items) wire rep s
      if rep then s else act (if unit then setFsrc r.src (fun f => { f with isol := true }) s else s)
where
  /-- a denial on a master that no core is: counted, with its address -/
  mpuNote (r : ErrorReport) (s : State) : State :=
    let m := r.src % 256
    if (2 ≤ m && m ≤ 0x31) || 0x38 ≤ m then s else mpuDenied m r.addr (rightOf r.subject) s

/-- An uncorrectable error of a source on its own. -/
def uncorrectable (r : ErrorReport) (cause : Nat) (wire : Bool) (s : State) : State := uncorrectableIn false r cause wire s

/-- The wires of a source (R411): an error, no error, or a broken pair, which raises nothing more while it stays broken. -/
def reportIn (only : Bool) (r : ErrorReport) (s : State) : State :=
  if r.t && !r.c then
    (if r.corrected || r.cause == causeEcc1 then corrected r.src r.cause r.addr s
    else uncorrectableIn only r r.cause false (setFsrc r.src (fun f => { f with wire := false }) s))
  else if !r.t && r.c then setFsrc r.src (fun f => { f with wire := false }) s
  else if (fsrc s r.src).wire then s
  else uncorrectableIn only r causeWire true (setFsrc r.src (fun f => { f with wire := true }) s)

/-- A report that is alone in its cycle. -/
def report (r : ErrorReport) (s : State) : State := reportIn false r s

/-- A report is of a fatal fault. -/
def fatalNow (s : State) (r : ErrorReport) : Bool :=
  let fatalAs (cause : Nat) : Bool := match isolateOf s r cause with
    | .fatal_ => true
    | .sequencer => true
    | _ => false
  if r.t && !r.c then !(r.corrected || r.cause == causeEcc1) && fatalAs r.cause
  else r.t == r.c && !(fsrc s r.src).wire && fatalAs causeWire

/-- A report takes its place by source number (R412). -/
def bySource (r : ErrorReport) : List ErrorReport → List ErrorReport
  | [] => [r]
  | x :: l => if r.src < x.src then r :: x :: l else x :: bySource r l

/-- The reports of one cycle, in order of source number; beside a fatal one the contained ones are recorded only (R412,
R415). -/
def reports (l : List ErrorReport) (s : State) : State :=
  let fatal := l.any (fatalNow s)
  (l.foldl (fun (a : List ErrorReport) r => bySource r a) []).foldl (fun (s : State) (r : ErrorReport) => reportIn fatal r s) s

/-- The collector samples its sources: powered and out of reset. -/
def collecting (s : State) : Bool := (s.grd.st == .watching || s.grd.st == .dormant) && s.boot.phase != 0 && s.fcr.st != .halted

/-- FAULT_REPORT (R411-R415). -/
def execFaultReport (at_ : Nat) (r : ErrorReport) (more : List ErrorReport) (s : State) : Host.Outcome State Fault Refusal :=
  if collecting s then
    let s := s.at_ at_
    match more with
    | [] => .next (selfCheck s (report r s))
    | _ :: _ => .next (selfCheck s (reports (r :: more) s))
  else .next s

/-- ISOLATION_TIMEOUT (R414): a unit that is not quiet 10 µs after its contained fault. -/
def execIsolationTimeout (src : Nat) (s : State) : Host.Outcome State Fault Refusal :=
  if collecting s && (fsrc s src).last == 2 && s.fcr.st != .recovery then .next (fatalFault src causeTimeout 0 (fsrc s src).wire true s)
  else .next s

/-- NVME_PORT_FAILURE (08 R205). -/
def execNvmePortFailure (port : Nat) (s : State) : Host.Outcome State Fault Refusal :=
  let d := if port == 0 then s.clc.drive0 else s.clc.drive1
  let off := if port == 0 then s.clc.off0 else s.clc.off1
  if collecting s && d.usable && !off then
    let src := 0x0900 + port
    let a := eachCopy (fun c => { c with nverr := satAdd max32 c.nverr 1 }) s
    let a := setFsrc src (fun f => { f with isol := true }) (containedReport src causeError 0 0 false false a)
    .next (selfCheck s (driveOffline port a))
  else .next s

/-! ## ERR_N, heartbeat (R416, R418) -/

/-- ERR_PULSE_END. -/
def execErrPulseEnd (s : State) : Host.Outcome State Fault Refusal := .next { s with fcr := { s.fcr with pulse := false } }

/-- A heartbeat of Armature, from a pair that is online. -/
def heartbeat (pair : Nat) (s : State) : State :=
  if collecting s && !(if pair == 0 then s.dsp.off0 else s.dsp.off1) then { s with fcr := { s.fcr with beatAt := some s.now } }
  else s

/-- HEARTBEAT_WRITE (R418). -/
def execHeartbeatWrite (at_ pair : Nat) (s : State) : Host.Outcome State Fault Refusal := .next (heartbeat pair (s.at_ at_))

/-- HEARTBEAT_TIMEOUT (13 R357): 4 ms after the last heartbeat. -/
def execHeartbeatTimeout (s : State) : Host.Outcome State Fault Refusal :=
  match s.fcr.beatAt with
  | none => .next s
  | some t => if collecting s && s.grd.st == .watching then .next (fatal 0x0F02 causeTimeout 0 (s.at_ (t + 4000000))) else .next s

/-! ## Flushes and the resets that follow them (R422-R424, 13 R357, 18 R468) -/

/-- A reset that was put off takes effect; the part starts where PERST_N has been released meanwhile. -/
def deferredReset (s : State) : State :=
  match s.boot.deferred with
  | none => s
  | some u => restart u.1 .nothing 0x0701 0 s

/-- SEQUENCER_FLUSH_DONE (13 R357 step 5): the recovery reset, unless a tamper response or a pin's reset governs. -/
def execSequencerFlushDone (s : State) : Host.Outcome State Fault Refusal :=
  if s.fcr.seqRun && s.fcr.flushing then
    let s := journalWrite s
    if s.grd.st == .responding then .next { s with fcr := { s.fcr with seqRun := false } }
    else if s.boot.deferred.isSome then .next (deferredReset s)
    else .next (restart .sequencer .classA 0x0702 s.fcr.lastF s)
  else .next s

/-- SEQUENCER_ERROR (13 R358). -/
def execSequencerError (s : State) : Host.Outcome State Fault Refusal :=
  if s.fcr.seqRun then .next (sequencerError s) else .next s

/-- JOURNAL_FLUSH (R422): a background flush starts. -/
def execJournalFlush (s : State) : Host.Outcome State Fault Refusal :=
  if collecting s && !s.fcr.unfl.isEmpty && !s.fcr.flushing then
    .next { s with fcr := { s.fcr with flush := s.fcr.unfl, flushing := true } }
  else .next s

/-- JOURNAL_FLUSH_COMPLETE (R422, R423). -/
def execJournalFlushComplete (s : State) : Host.Outcome State Fault Refusal :=
  if s.fcr.flushing && !s.fcr.seqRun then .next (deferredReset (journalWrite s)) else .next s

/-- PWRFAIL_N_ASSERT (R423): record 0003h, and the whole unflushed set is flushed. -/
def execPwrfailNAssert (at_ : Nat) (s : State) : Host.Outcome State Fault Refusal :=
  if !s.powered || s.boot.pwrfail then .next s
  else
    let s := s.at_ at_
    let n := s.fcr.unfl.length
    let s := { s with boot := { s.boot with pwrfail := true, pwrfailAt := s.now } }
    if collecting s then
      let s := record 2 srcArmature 0x0003 (toBE 1 n) noTenant false s
      .next { s with fcr := { s.fcr with flush := s.fcr.unfl, flushing := true, pwrFlush := !s.fcr.seqRun } }
    else .next s

/-- PWRFAIL_N_RELEASE (R423, 18 R467). -/
def execPwrfailNRelease (at_ : Nat) (s : State) : Host.Outcome State Fault Refusal :=
  .next { s.at_ at_ with boot := { s.boot with pwrfail := false } }

/-- ANNOUNCED_POWER_DOWN (18 R467): PWRFAIL_N has been low for 1 ms. -/
def execAnnouncedPowerDown (at_ : Nat) (s : State) : Host.Outcome State Fault Refusal :=
  if s.powered && s.boot.pwrfail && s.boot.pwrfailAt + 1000000 ≤ at_ then .next (powerOff (s.at_ at_)) else .next s

/-- A flush that a pin's reset waits for (18 R468). -/
def pinFlush (s : State) : Bool := s.fcr.flushing && (s.fcr.pwrFlush || s.fcr.seqRun)

/-- A reset by pin is put off: every output but the flush's closes (18 R468). -/
def deferReset (cause : ResetCause) (s : State) : State :=
  let s := closeGates s
  { s with boot := { s.boot with deferred := some (cause, s.now + 6000000) } }

/-- PERST_N_ASSERT (R491, 18 R468). -/
def execPerstNAssert (at_ : Nat) (s : State) : Host.Outcome State Fault Refusal :=
  if s.boot.perst then .next s
  else
    let s := s.at_ at_
    let s := { s with boot := { s.boot with perst := true } }
    if !s.powered then .next s
    else if pinFlush s then .next (deferReset .perst s)
    else .next (partReset .perst .nothing 0x0701 0 s)

/-- RESET_N_ASSERT (18 R466): as PERST_N, the straps kept; the part starts again once no reset pin is low. -/
def execResetNAssert (at_ : Nat) (s : State) : Host.Outcome State Fault Refusal :=
  if !s.powered then .next s
  else
    let s := s.at_ at_
    if pinFlush s then .next (deferReset .resetPin s) else .next (restart .resetPin .nothing 0x0701 0 s)

/-- FLUSH_RESET_TIMEOUT (18 R468): 6 ms after the assertion. -/
def execFlushResetTimeout (s : State) : Host.Outcome State Fault Refusal :=
  match s.boot.deferred with
  | none => .next s
  | some u => .next (deferredReset (s.at_ u.2))

/-- PERST_N_RELEASE (17 R437, 18 R465): the straps are latched, and start-up begins, or waits for WATCHING. -/
def execPerstNRelease (at_ : Nat) (env : BootEnv) (s : State) : Host.Outcome State Fault Refusal :=
  if !s.boot.perst || !s.powered then .next s
  else
    let s := s.at_ at_
    .next (startUp { s with boot := { s.boot with perst := false, straps := some (env.role, env.id), env := env } })

end Sys2Proof.Machine
end

