-- ==== Sys2Proof/Machine/Tenants.lean ====
section
/-! DEFINITION. Class 00h: contexts, queue pairs, quotas, quarantine, migration (04 R72-R100). -/

set_option Elab.async false

namespace Sys2Proof.Machine

/-- The item waits for what another command brings; its reply comes with that. -/
def Svc.pend (id : Nat) (f : State → State) : Svc Reply := fun r => .error (.wait (itemWait id .event (f r.state)))

/-- LEN is that of the opcode's table. -/
def Svc.lenIs (it : Item) (n : Nat) : Svc Unit := Svc.len (it.payload.length == n)

/-- The context that TENANT names (R94). -/
def Svc.context (it : Item) : Svc Ctx := do
  match getCtx (← Svc.state) it.tenant with
  | some c => pure c
  | none => Svc.finish 0x0201 1

/-! ## ATTACH and DETACH (R72-R74, R93) -/

/-- Shares overlap. -/
def overlaps (b n : Nat) (c : Ctx) : Bool := b < c.fbase + c.fcount && c.fbase < b + n

/-- A context as ATTACH builds it (Table 4.6). -/
def newCtx (it : Item) (inst : Nat) : Ctx :=
  { vf := it.f 0 1, maxpri := it.f 1 1, fbase := it.f 4 2, fcount := it.f 6 2, infl := it.f 8 2, quota := it.f 12 4, hold := it.f 16 1 == 1, left := it.f 12 4, staged := none, st := .normal, saved := false, fsrc := 0, rdetail := 0, waiters := [], quarAfter := none, flr := false, gone := false, inst := some inst, freezer := [] }

/-- The context is built and its generator instantiated. -/
def attachCtx (it : Item) (s : State) : State :=
  let i := freeInst s
  let c := newCtx it i
  ctxEvent c (instantiate i it.tenant { s with hfe := { s.hfe with ctxs := tput s.hfe.ctxs it.tenant c } })

/-- Checks 2 to 6 of ATTACH (R94). -/
def attachRefusal (s : State) (it : Item) : Option Nat :=
  let vf := it.f 0 1
  let b := it.f 4 2
  let n := it.f 6 2
  if !((tfind s.hier.placed it.tenant).map (·.here)).getD false then some 0x0101
  else if (getCtx s it.tenant).isSome then some 0x0104
  else if 64 ≤ s.hfe.ctxs.length then some 0x0105
  else if 64 < vf || (tenantOfVf s vf).isSome then some 0x0102
  else if b < 256 || 32768 < b + n || s.hfe.ctxs.any (fun e => overlaps b n e.2) then some 0x0103
  else none

def svcAttach (it : Item) : Svc Reply := do
  Svc.lenIs it 24
  Svc.zero it [(2, 2), (10, 2), (17, 7)]
  Svc.range (it.f 1 1 ≤ 31 && 1 ≤ it.f 6 2 && 1 ≤ it.f 8 2 && it.f 8 2 ≤ 8192 && it.f 12 4 != max32 && it.f 16 1 ≤ 1)
  match attachRefusal (← Svc.state) it with
  | some d => Svc.finish 0x0105 d
  | none => do
    Svc.update (attachCtx it)
    done

/-- ATTACH. -/
def execAttach (item : Nat) (s : State) : Host.Outcome State Fault Refusal := .next (runOpcode 0x0001 item svcAttach s)

def svcDetach (id : Nat) (it : Item) : Svc Reply := do
  let _ ← Svc.context it
  Svc.pend id (fun s => modCtx it.tenant (fun c => { c with gone := true }) (beginReset it.tenant 3 (some id) false s))

/-- DETACH (R91): its reply is written once the context is gone. -/
def execDetach (item : Nat) (s : State) : Host.Outcome State Fault Refusal := .next (runOpcode 0x0002 item (svcDetach item) s)

/-! ## Queue pairs (R75, R84, R96) -/

/-- A ring size. -/
def ringSizeOk (n : Nat) : Bool := [16, 32, 64, 128, 256, 512, 1024, 2048, 4096].contains n

/-- A new pair. -/
def newQueue (st : QState) (size pri vec cthr ctim sqbase cqbase : Nat) : Queue :=
  { st := st, pri := pri, size := size, vec := vec, cthr := cthr, ctim := ctim, sqbase := sqbase, cqbase := cqbase, sqtail := 0, sqhead := 0, cqhead := 0, cqtail := 0, phase := true, unsig := 0, unsigAt := 0, del := false, delers := [], rmark := false }

/-- A pair comes to exist: the lost mark of its function is cleared (R83). -/
def addQueue (fn q : Nat) (p : Queue) (s : State) : State :=
  { s with hfe := { s.hfe with queues := tput s.hfe.queues (qkey fn q) p, lost := s.hfe.lost &&& ~~~(BitVec.ofNat 65 (2 ^ fn)) } }

def svcCreateQueue (it : Item) : Svc Reply := do
  let fn := it.f 0 1
  let q := it.f 1 1
  let vec := it.f 5 1
  Svc.lenIs it 32
  Svc.zero it [(24, 8)]
  Svc.range (fn ≤ 64 && q ≤ 15 && ringSizeOk (it.f 2 2) && it.f 4 1 ≤ 31 && (vec == 0xFF || vec < (if fn == 0 then 128 else 30)) && it.f 8 8 % 4096 == 0 && it.f 16 8 % 4096 == 0)
  let s ← Svc.state
  let c := (tenantOfVf s fn).bind (getCtx s)
  Svc.bad ((getQueue s fn q).isNone && !(fn == 0 && q == 0) && (fn == 0 || c.isSome)) 0x0106
  Svc.range (match c with | some c => it.f 4 1 ≤ c.maxpri | none => true)
  let st := match c with
    | some c => if c.st == .frozen then QState.frozen else .enabled
    | none => .enabled
  Svc.update (addQueue fn q (newQueue st (it.f 2 2) (it.f 4 1) vec (it.f 6 1) (it.f 7 1) (it.f 8 8) (it.f 16 8)))
  done

/-- CREATE_QUEUE. -/
def execCreateQueue (item : Nat) (s : State) : Host.Outcome State Fault Refusal := .next (runOpcode 0x0003 item svcCreateQueue s)

def svcDeleteQueue (id : Nat) (it : Item) : Svc Reply := do
  let fn := it.f 0 1
  let q := it.f 1 1
  Svc.lenIs it 4
  Svc.zero it [(2, 2)]
  let s ← Svc.state
  Svc.bad (fn ≤ 64 && q ≤ 15 && (getQueue s fn q).isSome) 0x0106
  Svc.pend id (modQueue fn q (fun p => { p with del := true, delers := p.delers ++ [id] }))

/-- DELETE_QUEUE (R96). -/
def execDeleteQueue (item : Nat) (s : State) : Host.Outcome State Fault Refusal := .next (runOpcode 0x0005 item (svcDeleteQueue item) s)

/-! ## Reset, quota, quarantine, query -/

def svcTenantReset (id : Nat) (it : Item) : Svc Reply := do
  let _ ← Svc.context it
  Svc.pend id (beginReset it.tenant 1 (some id) false)

/-- TENANT_RESET (R91). -/
def execTenantReset (item : Nat) (s : State) : Host.Outcome State Fault Refusal := .next (runOpcode 0x0004 item (svcTenantReset item) s)

def svcSetQuota (it : Item) : Svc Reply := do
  Svc.lenIs it 8
  Svc.zero it [(5, 3)]
  Svc.range (it.f 0 4 != max32 && it.f 4 1 ≤ 1)
  let _ ← Svc.context it
  Svc.update (modCtx it.tenant (fun c => { c with staged := some (it.f 0 4, it.f 4 1 == 1) }))
  done

/-- SET_QUOTA (R93). -/
def execSetQuota (item : Nat) (s : State) : Host.Outcome State Fault Refusal := .next (runOpcode 0x0006 item svcSetQuota s)

def svcQuarantine (it : Item) : Svc Reply := do
  let _ ← Svc.context it
  Svc.update (quarantine it.tenant 0)
  done

/-- QUARANTINE (R90). -/
def execQuarantine (item : Nat) (s : State) : Host.Outcome State Fault Refusal := .next (runOpcode 0x0007 item svcQuarantine s)

/-- FN_STATE bits 18:16 (Table 4.5). -/
def ctxCode (st : CtxState) : Nat :=
  match st with
  | .normal => 1
  | .quarantined => 2
  | .resetting => 3
  | .frozen => 4

/-- Units left as FN_QUOTA gives them. -/
def Ctx.units (c : Ctx) : Nat := if c.quota == 0 then max32 else c.left

/-- The reply of QUERY_TENANT; units left without a quota read as FN_QUOTA does (log 55). -/
def queryBytes (c : Ctx) : Bytes :=
  toBE 1 c.vf ++ toBE 1 c.maxpri ++ zeros 2 ++ toBE 2 c.fbase ++ toBE 2 c.fcount ++ toBE 2 c.infl ++ zeros 2 ++ toBE 4 c.quota ++ toBE 1 (b2n c.hold) ++ zeros 7 ++ toBE 1 (ctxCode c.st) ++ toBE 1 (b2n c.saved) ++ toBE 2 c.fsrc ++ toBE 4 c.units

def svcQueryTenant (it : Item) : Svc Reply := do
  match getCtx (← Svc.state) it.tenant with
  | some c => done (queryBytes c)
  | none => done (zeros 32)

/-- QUERY_TENANT (R94). -/
def execQueryTenant (item : Nat) (s : State) : Host.Outcome State Fault Refusal := .next (runOpcode 0x0008 item svcQueryTenant s)

/-! ## Migration (R97-R100) -/

/-- A function's queues freeze, or thaw; a queue in error stays so (R80). -/
def setFrozen (frozen : Bool) (p : Queue) : Queue :=
  if p.st == .error then p else { p with st := if frozen then .frozen else .enabled }

def freezeCtx (t id : Nat) (c : Ctx) (s : State) : State :=
  let s := modCtx t (fun c => { c with st := .frozen, freezer := c.freezer ++ [id] }) s
  ctxEvent c (if c.vf == 0 then s else modQueuesOf c.vf (setFrozen true) s)

def svcFreeze (id : Nat) (it : Item) : Svc Reply := do
  let c ← Svc.context it
  Svc.bad (c.st == .normal) 0x0107
  Svc.pend id (freezeCtx it.tenant id c)

/-- FREEZE (R97). -/
def execFreeze (item : Nat) (s : State) : Host.Outcome State Fault Refusal := .next (runOpcode 0x0009 item (svcFreeze item) s)

/-- A frozen context returns to NORMAL and its queues are fetched again. -/
def thawCtx (t : Nat) (c : Ctx) (s : State) : State :=
  let s := modCtx t (fun c => { c with st := .normal, fsrc := 0 }) s
  ctxEvent c (if c.vf == 0 then s else modQueuesOf c.vf (setFrozen false) s)

def svcThaw (it : Item) : Svc Reply := do
  let c ← Svc.context it
  Svc.bad (c.st == .frozen) 0x0107
  Svc.bad (!c.saved) 0x010A
  Svc.update (thawCtx it.tenant c)
  done

/-- THAW (R86). -/
def execThaw (item : Nat) (s : State) : Host.Outcome State Fault Refusal := .next (runOpcode 0x000C item svcThaw s)

/-- One pair in a blob: ring size, 0 where the pair is absent, fetch position, completion positions, PHASE (log 17). -/
def pairBytes (p : Option Queue) : Bytes :=
  match p with
  | none => zeros 9
  | some p => toBE 2 p.size ++ toBE 2 p.sqhead ++ toBE 2 p.cqhead ++ toBE 2 p.cqtail ++ toBE 1 (b2n p.phase)

/-- A generator's state in a blob. -/
def drbgBytes (d : Drbg) : Bytes := padTo 32 d.key ++ padTo 16 d.v ++ toBE 8 d.reqs ++ toBE 8 d.bytes ++ toBE 1 (b2n d.made)

/-- The body of a blob (Table 4.12; the layout is the model's, log 17). -/
def blobBody (s : State) (c : Ctx) : Bytes :=
  let fl := s.dsp.flows.filter (fun e => c.hasFlow e.1)
  (List.range 16).flatMap (fun q => pairBytes (if c.vf == 0 then none else getQueue s c.vf q)) ++
    toBE 4 c.quota ++ toBE 1 (b2n c.hold) ++ toBE 4 (c.quota - c.left) ++ drbgBytes (getInst s (c.inst.getD 0)) ++
    toBE 2 c.fcount ++ toBE 2 fl.length ++ fl.flatMap (fun e => toBE 2 (e.1 - c.fbase) ++ toBE 2 e.2.head ++ toBE 2 e.2.next)

/-- The next MSERIAL: this save counted (log 57). -/
def nextSave (s : State) : Nat × State :=
  let c := s.cycle.getD noCycle
  let n := if s.hfe.saveCyc == c then s.hfe.saves + 1 else 1
  (c * 65536 + n % 65536, { s with hfe := { s.hfe with saveCyc := c, saves := n } })

/-- The blob, and the source context after it (R98). -/
def saveBlob (t : Nat) (c : Ctx) (target key iv : Bytes) (s : State) : Answer × State :=
  let u := nextSave s
  let body := blobBody s c
  let h := toBE 2 1 ++ zeros 2 ++ toBE 2 t ++ zeros 2 ++ toBE 8 u.1 ++ s.fab.serial ++ target ++ toBE 4 body.length ++ iv
  let e := gcmEnc key iv h body
  let s := destroyEphemeral t u.2
  let s := { s with eng := { s.eng with streams := s.eng.streams.filter (fun x => x.2.tenant != t) } }
  let s := match c.inst with
    | some i => uninstantiate i s
    | none => s

  (.ok (h ++ e.1 ++ e.2), modCtx t (fun c => { c with saved := true, inst := none }) s)

def svcSave (id : Nat) (it : Item) : Svc Reply := do
  Svc.lenIs it 16
  let c ← Svc.context it
  let s ← Svc.state
  let key := (s.hier.tkeys.find? (fun e => e.1 == it.payload)).map (·.2)
  let a ← Svc.decideOk id (fun s =>
    if c.st != .frozen || c.saved then (.err 0x0105 0x0107, s)
    else if !((s.hier.roster.map (fun r => r.parts.any (fun e => e.1 == it.payload))).getD false) || key.isNone then (.err 0x0105 0x0108, s)
    else (.nums [], s))
  let _ := a
  let iv ← Svc.drawArmature id it 12
  let b ← Svc.decideOk id (saveBlob it.tenant c it.payload (key.getD []) iv)
  done b.bytes

/-- SAVE (R98). -/
def execSave (item : Nat) (s : State) : Host.Outcome State Fault Refusal := .next (runOpcode 0x000A item (svcSave item) s)

/-- A pair takes the positions of a blob; nothing is left to fetch until the host rings its doorbell (log 56). -/
def loadPair (b : Bytes) (q : Nat) (p : Queue) : Queue :=
  { p with sqhead := fld b (9 * q + 2) 2, sqtail := fld b (9 * q + 2) 2, cqhead := fld b (9 * q + 4) 2, cqtail := fld b (9 * q + 6) 2, phase := fld b (9 * q + 8) 1 == 1 }

/-- FCOUNT and the ring sizes match the blob (R99 step 4). -/
def blobFits (s : State) (c : Ctx) (b : Bytes) : Bool :=
  fld b 218 2 == c.fcount &&
    (List.range 16).all (fun q => fld b (9 * q) 2 == (((if c.vf == 0 then none else getQueue s c.vf q).map (·.size)).getD 0))

/-- The flow windows of a blob. -/
def loadFlows (c : Ctx) (b : Bytes) (fl : Table Flow) : Table Flow :=
  (List.range (fld b 220 2)).foldl
    (fun (t : Table Flow) i =>
      tput t (c.fbase + fld b (222 + 6 * i) 2) { head := fld b (224 + 6 * i) 2, next := fld b (226 + 6 * i) 2 }) fl

/-- The target takes a blob (R99): positions, windows, quota, and the generator, which is reseeded before its first
output. -/
def loadBlob (t : Nat) (c : Ctx) (b : Bytes) (s : State) : State :=
  let s := { s with
    hfe := { s.hfe with queues := tmap s.hfe.queues (fun k p => if c.vf != 0 && k / 16 == c.vf then loadPair b (k % 16) p else p) }
    dsp := { s.dsp with flows := loadFlows c b (s.dsp.flows.filter (fun e => !c.hasFlow e.1)) } }
  let i := c.inst.getD (freeInst s)
  let d : Drbg := { tenant := t, key := slice b 153 32, v := slice b 185 16, reqs := fld b 201 8, bytes := fld b 209 8, seeded := false, made := fld b 217 1 == 1 }
  let s := askUrgent i (.reseed i) (setInst i d { s with ent := { s.ent with
    urgent := s.ent.urgent.filter (· != .instantiate i), normal := s.ent.normal.filter (· != .reseed i) } })
  thawCtx t c (modCtx t (fun c => { c with quota := fld b 144 4, hold := fld b 148 1 == 1, left := fld b 144 4 - fld b 149 4, inst := some i }) s)

/-- MSERIAL against the highest restored for the tenant (R99 step 3). -/
def serialCheck (s : State) (t mserial : Nat) (dig : Bytes) : Option (Nat × Nat) :=
  match getTenant s t with
  | none => none
  | some e =>
    if mserial == e.mserial && dig == e.mdigest then some (0x0010, 0)
    else if mserial ≤ e.mserial && e.mserial != 0 then some (0x0307, 0)
    else none

def svcRestore (it : Item) : Svc Reply := do
  Svc.len (80 ≤ it.payload.length && it.payload.length == 80 + it.f 48 4)
  Svc.zero it [(2, 2), (6, 2)]
  Svc.range (it.f 0 2 == 1 && it.f 4 2 == it.tenant)
  let c ← Svc.context it
  let s ← Svc.state
  Svc.check (it.b 32 16 == s.fab.serial) 0x0308 1
  let ct := it.b 64 (it.f 48 4)
  let key := s.hier.ownTkey
  Svc.check (key.length == 32 && gcmTag key (it.b 52 12) (it.b 0 64) ct == it.payload.drop (64 + it.f 48 4)) 0x0107 0x0100
  let dig := sha256 it.payload
  match serialCheck s it.tenant (it.f 8 8) dig with
  | some u => Svc.finish u.1 u.2
  | none => do
    let b := gcmCrypt key (it.b 52 12) ct
    Svc.bad (c.st == .frozen) 0x0107
    Svc.bad (blobFits s c b) 0x0109
    Svc.update (fun s => imgSync it.tenant [] (modTenant it.tenant (fun e => { e with mserial := it.f 8 8, mdigest := dig }) (loadBlob it.tenant c b s)))
    done

/-- RESTORE (R99). -/
def execRestore (item : Nat) (s : State) : Host.Outcome State Fault Refusal := .next (runOpcode 0x000B item svcRestore s)

end Sys2Proof.Machine
end

