-- ==== Sys2Proof/Machine/Boot.lean ====
section
/-! DEFINITION. READY, updates of code and configuration and their rolls, RESTART, UPDATE_STATUS, CELLAR_FORMAT (17
R437-R451, 10 R289-R292, 12 R322, 14 R364, R371). -/

set_option Elab.async false

namespace Sys2Proof.Machine

/-! ## READY (Table 17.3) -/

/-- Reset causes (16 Table 16.5). -/
def causeCode (c : ResetCause) : Nat :=
  match c with
  | .powerUp => 0
  | .perst => 1
  | .resetPin => 2
  | .tamper => 3
  | .sequencer => 4
  | .lifecycle => 5

/-- The start-up record (16 Table 16.5, code 0002h). -/
def startRecord (s : State) : State :=
  record 2 srcArmature 0x0002 (toBE 1 (causeCode s.boot.cause) ++ toBE 2 (lcCode s.otp.force) ++ toBE 4 s.fcr.wasF) noTenant false s

/-- The stamp of a tamper source (14 R381). -/
def TamperEvent.stamp (e : TamperEvent) : Bytes := toBE 4 e.sec ++ toBE 2 (e.sub + 32768 * b2n e.batt)

/-- The report of a source whose UNREP bit is set (14 R371). -/
def unrepRecord (i : Nat) (s : State) : State :=
  if s.bk.unrep.getLsbD i then
    let id := tamperIds.getD i 0
    let e := tget s.bk.events i .zero
    let late := e.sec < (s.grd.powerUpAt - s.bk.tsZero) / 1000000000
    record 3 (srcTamper id) 0x0040 (toBE 1 id ++ toBE 1 (tamperClass s i) ++ e.stamp) noTenant late s
  else s

/-- The UNREP reports: the bits go to GRD_PEND and are cleared. -/
def unrepReports (s : State) : State :=
  let s := (List.range 20).foldl (fun (s : State) (i : Nat) => unrepRecord i s) s
  { s with grd := { s.grd with pend := s.bk.unrep }, bk := { s.bk with unrep := 0 } }

/-- The SVN floor of a kind rises with the image that becomes current (R436); kinds as ITYPE numbers them. -/
def burnFloor (kind svn : Nat) (s : State) : State :=
  { s with otp :=
    if kind == 1 then { s.otp with floorArm := max s.otp.floorArm svn }
    else if kind == 2 then { s.otp with floorSvc := max s.otp.floorSvc svn }
    else { s.otp with floorBne := max s.otp.floorBne svn } }

/-- A TRIAL image is committed (R440). -/
def commitTrial (s : State) : State :=
  if s.boot.trial then
    let k := { s.flash.arm with curB := s.boot.slotB, pend := false, tried := false }
    burnFloor 1 k.current.svn { s with flash := { s.flash with arm := k } }
  else s

/-- A part with a roster enters the hierarchy: a manager arbitrates, a worker compares its state with the manager's (13
R355, R357, Tables 13.7, 13.9). -/
def hierReady (s : State) : State :=
  if s.hier.roster.isNone then s
  else
    match roleOf s with
    | .manager => { s with hier := { s.hier with mst := .arbitrating, arbAt := s.now } }
    | .worker => { s with hier := { s.hier with mst := .resync, holdCnt := 0, heard := s.now } }
    | .unknown => s

/-- The collector at READY (16 Table 16.3). -/
def readyCollector (s : State) : ColState :=
  if (s.otp.force == .perso || s.otp.force == .field) && !s.grd.dbgOpen then .normal else .test

/-- READY: kept queues are resumed (04 R83). -/
def ready (s : State) : State :=
  let s := commitTrial (unrepReports (startRecord s))
  let s := { s with fcr := { s.fcr with st := readyCollector s }, boot := { s.boot with phase := 5, kept := none } }
  writeRmarks (hierReady s)

/-- BOOT_READY (R437). -/
def execBootReady (s : State) : Host.Outcome State Fault Refusal :=
  if s.boot.phase == 4 && s.grd.st == .watching && s.fcr.st == .startup then .next (ready s) else .next s

/-! ## The envelope of UPDATE (R443) -/

/-- The Moante set's officers 80h to 82h (15 R388). -/
def moanteOfficer (s : State) (i : Nat) : Option (Nat × Bytes) :=
  if 0x80 ≤ i && i ≤ 0x82 then some (1, s.fab.moante.getD (i - 0x80) []) else none

/-- Two keys of the Moante set. -/
def moanteShort (l : List Nat) : Option Nat := if l.length < 2 then some l.length else none

/-- Counter U with one kept record. -/
def updateCounter (s : State) : Envelope → Option (Nat × Nat) := counterCheck s.flash.u s.flash.urec.toList

def updateRule (s : State) : EnvRule :=
  let h := hierRule 0x1B 0 (fun _ => true) (fun s e => e.dserial == s.fab.serial) s
  if s.hier.hoff.isSome then { h with counter := updateCounter s }
  else { h with counter := updateCounter s, held := true, officer := moanteOfficer s, short := moanteShort }

/-- The durable point of an update: its effect is recorded together with U (R444). -/
def takeCounter (e : Envelope) (s : State) : State := { s with flash := { s.flash with u := e.counter, urec := some (e.counter, e.digest) } }

/-! ## Checks of the body (Tables 17.4, 17.2) -/

/-- A reserved field of the body is set. -/
def updateRsvd (b : Bytes) : Bool :=
  let ut := fld b 0 1
  let c := b.drop 8
  fld b 2 2 != 0 ||
    (1 ≤ ut && ut ≤ 3 && (fld c 5 3 != 0 || fld c 13 3 != 0 || fld c 20 12 != 0)) || (ut == 5 && fld c 1 1 != 0) ||
      (ut == 6 && fld c 2 2 != 0)

/-- UTYPE, TARGET and CLEN (01D0h). -/
def updateForm (b : Bytes) : Bool :=
  let ut := fld b 0 1
  let t := fld b 1 1
  8 ≤ b.length && b.length == 8 + fld b 4 4 &&
    (match ut with
      | 1 => t == 0
      | 2 => t < 8 || t == 0xFF
      | 3 => t < 24 || t == 0xFF
      | 4 => t == 0
      | 5 => t < 4 && fld b 4 4 == 4
      | 6 => t == 0 && fld b 4 4 == 4
      | _ => false)

/-- The longest body of a code kind (R435). -/
def imageMax (kind : Nat) : Nat := if kind == 1 then 3 * 1048576 else 480 * 1024

def imageVer (c : Bytes) : Nat := fld c 8 4
def imageSvn (c : Bytes) : Nat := fld c 12 1

/-- The header's form (01D1h). -/
def imageForm (kind : Nat) (c : Bytes) : Bool :=
  280 ≤ c.length && fld c 0 4 == 0x5644494D && fld c 4 1 == kind && imageSvn c ≤ 64 && fld c 16 4 ≤ imageMax kind &&
    c.length == 280 + fld c 16 4

/-- The two signature entries of a header. -/
def imageSigs (c : Bytes) : List SigEntry :=
  [80, 180].map (fun o => { officer := fld c o 1, alg := fld c (o + 1) 1, slen := fld c (o + 2) 2, sig := slice c (o + 4) 96 })

/-- DIGEST, and the form of the signatures: two distinct keys of the Moante set (01D2h). -/
def imageSealed (c : Bytes) : Bool :=
  let l := imageSigs c
  slice c 32 48 == sha384 (c.drop 280) && l.all (fun x => x.alg == 1 && x.slen == 96 && 0x80 ≤ x.officer && x.officer ≤ 0x82) &&
    decide (l.map (·.officer)).Nodup

/-- The floor of a code kind. -/
def floorOf (s : State) (kind : Nat) : Nat := if kind == 1 then s.otp.floorArm else if kind == 2 then s.otp.floorSvc else s.otp.floorBne

/-- The Moante signatures of an image verify. -/
def Svc.imageSigned (id : Nat) (it : Item) (c : Bytes) : List SigEntry → Svc Unit
  | [] => pure ()
  | x :: l => do
    let s ← Svc.state
    let k := ((moanteOfficer s x.officer).map (·.2)).getD []
    let ok ← Svc.sigOk id it graftContext 1 k x.sig (c.take 80)
    Svc.bad ok 0x01D2
    Svc.imageSigned id it c l

/-! ## Running updates -/

/-- Units that TARGET names, in ascending order. -/
def targetsOf (ut t : Nat) : List Nat :=
  if ut == 2 then (if t == 0xFF then List.range 8 else [t]) else if ut == 3 then (if t == 0xFF then List.range 24 else [t]) else []

/-- An UPDATE runs from here on; a second one is refused, and so is one whose counter has been used meanwhile. -/
def startUpdate (id : Nat) (e : Envelope) (s : State) : Answer × State :=
  if s.flash.upd.isSome then (.err 0x0105 0x01D6, s)
  else
    match updateCounter s e with
    | some u => (.err u.1 u.2, s)
    | none =>
      let b := e.body
      let ut := fld b 0 1
      let c := b.drop 8
      let u : Updating :=
        { item := id, utype := ut, targets := targetsOf ut (fld b 1 1), done := 0, image := { ver := imageVer c, svn := imageSvn c, u := e.counter }, counter := e.counter, digest := e.digest, stage := 0, retry := false }
      (.nums [], { s with flash := { s.flash with upd := some u } })

/-- An image is accepted: its writing begins (R444). -/
def startWriting (s : State) : State := { s with flash := { s.flash with upd := s.flash.upd.map (fun u => { u with stage := 1 }) } }

def imageUpdate (id : Nat) (it : Item) (kind : Nat) (c : Bytes) : Svc Reply := do
  Svc.bad (imageForm kind c) 0x01D1
  Svc.bad (imageSealed c) 0x01D2
  Svc.imageSigned id it c (imageSigs c)
  let s ← Svc.state
  Svc.bad (floorOf s kind ≤ imageSvn c) 0x01D3
  Svc.pend id startWriting

/-- NAME is printable ASCII, filled with zeros. -/
def nameOk (b : Bytes) : Bool :=
  let t := b.reverse.dropWhile (· == 0)
  t.all (fun x => isPrint x.toNat)

/-- Check 1 of Table 10.7. -/
def curveForm (c : Bytes) : Bool :=
  let pb := fld c 4 2
  let nb := fld c 6 2
  24 ≤ c.length && fld c 0 1 == 1 && fld c 1 1 < 32 && nameOk (slice c 8 16) &&
    (match fld c 2 1 with
      | 0 => fld c 3 1 == 0 && pb == 0 && nb == 0 && c.length == 24
      | 1 => 1 ≤ fld c 3 1 && fld c 3 1 ≤ 4 && 192 ≤ pb && pb ≤ 521 && pb ≤ nb + 3 && nb ≤ pb + 1 && c.length == 24 + 5 * ((pb + 7) / 8) + (nb + 7) / 8
      | _ => false)

/-- Check 2: no slot of the entry's type exists on the part. -/
def curveUnused (s : State) (i : Nat) : Bool := s.vks.slots.all (fun e => e.2.type != 0x20 + i)

/-- An entry is loaded or cleared (10 R289). -/
def putCurve (c : Bytes) (s : State) : State :=
  let i := fld c 1 1
  { s with flash := { s.flash with curves := if fld c 2 1 == 0 then terase s.flash.curves i else tput s.flash.curves i c } }

/-- The bases of the primality tests: 64 for p, 64 for n (log 29). -/
def curveBases (c : Bytes) : Nat := 64 * ((fld c 4 2 + 7) / 8 + (fld c 6 2 + 7) / 8)

def curveUpdate (id : Nat) (it : Item) (e : Envelope) (c : Bytes) : Svc Reply := do
  Svc.check (curveForm c) 0x0504 1
  let _ ← Svc.decideOk id (fun s => if curveUnused s (fld c 1 1) then (.nums [], s) else (.err 0x0504 2, s))
  if fld c 2 1 == 1 then
    let bases ← Svc.drawArmature id it (curveBases c)
    let _ ← Svc.engine .bne id it [] [] (.curveCheck c bases)
  Svc.update (fun s => takeCounter e (putCurve c s))
  done

/-- New cut-offs (12 R322): C_R acts on the next sample, C_A on the next window. -/
def putCutoffs (n cr ca : Nat) (s : State) : State :=
  { s with
    flash := { s.flash with crs := tput s.flash.crs n cr, cas := tput s.flash.cas n ca }
    ent := { s.ent with src := tmod s.ent.src n (fun x => { x with cr := cr, ca := ca }) } }

def cutoffUpdate (n : Nat) (e : Envelope) (c : Bytes) : Svc Reply := do
  let cr := fld c 0 1
  let ca := fld c 2 2
  Svc.bad (33 ≤ cr && cr ≤ 49 && 775 ≤ ca && ca ≤ 815) 0x01D8
  Svc.update (fun s => takeCounter e (putCutoffs n cr ca s))
  done

/-- A raised class: the copy in the backup domain, then the OTP bits (14 R364). -/
def raiseClass (i cls : Nat) (s : State) : State := burnRaises { s with bk := { s.bk with classes := tput s.bk.classes i cls } }

/-- A CLASS equal to the current one changes nothing, U included (log 79). -/
def classUpdate (e : Envelope) (c : Bytes) : Svc Reply := do
  let s ← Svc.state
  let cls := fld c 1 1
  Svc.check ([LifeCycle.test, .perso, .field].contains s.otp.force) 0x0901 (lcCode s.otp.force)
  match tamperBit (fld c 0 1) with
  | none => Svc.finish 0x0105 0x01F0
  | some i => do
    Svc.bad (cls == 2 || cls == 3) 0x01F0
    Svc.bad (tamperClass s i ≤ cls) 0x01F1
    Svc.update (fun s => if cls == tamperClass s i then s else takeCounter e (raiseClass i cls s))
    done

def svcUpdate (id : Nat) (it : Item) : Svc Reply :=
  Svc.signed id it true do
    let e ← Svc.envelope id it updateRule
    let b := e.body
    let c := b.drop 8
    Svc.check (!updateRsvd b) 0x0105 4
    Svc.bad (updateForm b) 0x01D0
    let _ ← Svc.decideOk id (startUpdate id e)
    match fld b 0 1 with
    | 4 => curveUpdate id it e c
    | 5 => cutoffUpdate (fld b 1 1) e c
    | 6 => classUpdate e c
    | kind => imageUpdate id it kind c

/-- UPDATE (R443-R446). -/
def execUpdate (item : Nat) (s : State) : Host.Outcome State Fault Refusal := .next (runSigned 0x0F10 item (svcUpdate item) s)

/-! ## Rolls (R445-R447) -/

/-- Ends the running UPDATE with a reply. -/
def updateEnds (status detail : Nat) (s : State) : State :=
  match s.flash.upd with
  | none => s
  | some u => itemEnd u.item status detail s

/-- A group's turn: it drains; one that a fault has taken out loads at once. -/
def drainGroup (g : Nat) (s : State) : State :=
  { s with dsp := { s.dsp with groups := tmod s.dsp.groups g (fun x =>
    { x with st := match x.st with
      | .online => .draining
      | .draining => .draining
      | .offline => .offline
      | .fault => .offline }) } }

/-- A lane's turn (10 Table 10.9): it drains; an idle one loads at once. A reservation of it ends. -/
def reloadLane (l : Nat) (s : State) : State :=
  let s := { s with bne := { s.bne with resv := s.bne.resv.filter (fun r => r.1 != l) } }
  modLane l (fun x => { x with st := match x.st with
    | .online => .draining
    | .draining => .draining
    | .loading => .loading
    | .testing => .draining
    | .offline => .loading }) s

/-- The roll goes on with the next unit; the reply follows the last. -/
def rollNext (s : State) : State :=
  match s.flash.upd with
  | none => s
  | some u =>
    match u.targets with
    | [] => updateEnds 0 0 s
    | n :: _ => if u.stage == 2 then drainGroup n s else reloadLane n s

/-- One more unit runs the new image. -/
def rolledOne (s : State) : State :=
  { s with flash := { s.flash with upd := s.flash.upd.map (fun u => { u with targets := u.targets.drop 1, done := u.done + 1 }) } }

/-- The other slot of a kind becomes current. -/
def ImageKind.flip (k : ImageKind) : ImageKind := { k with curB := !k.curB }

/-- The image of the running roll and the previous one change places. -/
def flipImage (stage : Nat) (s : State) : State :=
  { s with flash := if stage == 2 then { s.flash with svc := s.flash.svc.flip } else { s.flash with bne := s.flash.bne.flip } }

/-- The roll stops at a unit that has failed: the previous image is current again (R446). -/
def rollFailed (s : State) : State :=
  match s.flash.upd with
  | none => s
  | some u => updateEnds 0x0105 0x01D5 (flipImage u.stage s)

/-- An image goes into the slot of a kind that is not current. -/
def ImageKind.store (k : ImageKind) (i : Image) : ImageKind := if k.curB then { k with a := i } else { k with b := i }

/-- A service image or BNE microcode becomes current and the roll begins. -/
def beginRoll (u : Updating) (s : State) : State :=
  let s := { s with flash := { s.flash with upd := some { u with stage := u.utype } } }
  let s := if u.utype == 2 then { s with flash := { s.flash with svc := (s.flash.svc.store u.image).flip } }
    else { s with flash := { s.flash with bne := (s.flash.bne.store u.image).flip } }
  rollNext (burnFloor u.utype u.image.svn s)

/-- An Armature image is pending, with TRIAL set (R445). -/
def pendArmature (u : Updating) (s : State) : State :=
  updateEnds 0 0 { s with flash := { s.flash with arm := { s.flash.arm.store u.image with pend := true, tried := false } } }

/-- A reply that is written at once: the part resets after it. -/
def replyNow (id : Nat) (r : Reply) (s : State) : State :=
  let s := itemDone id r s
  match getItem s id with
  | none => s
  | some it => if hasRoom s it then releaseReply id it s else s

/-- Without a valid image the plinth writes slot A as current, answers, and resets (R440). -/
def plinthImage (u : Updating) (s : State) : State :=
  let k := { s.flash.arm with a := u.image, curB := false, pend := false, tried := false }
  let s := burnFloor 1 u.image.svn { s with flash := { s.flash with arm := k }, boot := { s.boot with env := { s.boot.env with imageAOk := true } } }
  restart .perst .nothing 0x0701 0 (replyNow u.item (.bare 0 0) s)

/-- The image of an UPDATE reads back: its durable point (R444). -/
def imageWritten (u : Updating) (s : State) : State :=
  let s := { s with flash := { s.flash with u := u.counter, urec := some (u.counter, u.digest) } }
  if u.utype != 1 then beginRoll u s else if s.boot.phase == 6 then plinthImage u s else pendArmature u s

/-- UPDATE_IMAGE_WRITTEN (R444). An image that does not read back against DIGEST changes nothing (log 80). -/
def execUpdateImageWritten (good : Bool) (s : State) : Host.Outcome State Fault Refusal :=
  match s.flash.upd with
  | none => .next s
  | some u =>
    if u.stage != 1 then .next s
    else if good then .next (imageWritten u s)
    else .next (updateEnds 0x0105 0x01D2 s)

/-- A group returns online with an image; its cores report faults anew. -/
def groupOnlineWith (g ver : Nat) (s : State) : State :=
  let s := { s with dsp := { s.dsp with groups := tput s.dsp.groups g { st := .online, ver := ver } } }
  ((List.range 6).map (fun i => 0x0300 + 6 * g + i) ++ [0x0400 + g]).foldl
    (fun (s : State) (n : Nat) => if (tfind s.fcr.srcs n).isSome then setFsrc n (fun f => { f with isol := false }) s else s) s

/-- A group stays offline as after a contained fault. -/
def groupLost (g : Nat) (s : State) : State := { s with dsp := { s.dsp with groups := tmod s.dsp.groups g (fun x => { x with st := .fault }) } }

/-- The group that a running UPDATE reloads. -/
def groupRolled (s : State) (g : Nat) : Option Updating :=
  s.flash.upd.filter (fun u => u.stage == 2 && u.targets.head? == some g)

/-- The self-test of a loaded group ends (R446). A group whose UPDATE has ended meanwhile takes the current image (log 68). -/
def groupLoaded (g : Nat) (pass : Bool) (s : State) : State :=
  let cur := s.flash.svc.current.ver
  match groupRolled s g with
  | none => if pass then groupOnlineWith g cur s else groupLost g s
  | some u =>
    if !u.retry then
      (if pass then rollNext (rolledOne (groupOnlineWith g cur s))
      else { s with flash := { s.flash with upd := some { u with retry := true } } })
    else if pass then rollFailed (groupOnlineWith g s.flash.svc.flip.current.ver s)
    else rollFailed (groupLost g s)

/-- GROUP_RELOAD_COMPLETE (R445, R446): of the drained group. -/
def execGroupReloadComplete (pass : Bool) (s : State) : Host.Outcome State Fault Refusal :=
  match s.dsp.groups.find? (fun e => e.2.st == .offline) with
  | none => .next s
  | some e => .next (selfCheck s (groupLoaded e.1 pass s))

/-! ## RESTART, UPDATE_STATUS -/

/-- RESTART is refused (R448). -/
def restartRefused (s : State) : Bool := isActive s || s.flash.upd.isSome

/-- The check of RESTART alone; its effect is the part's reset. -/
def restartItem (id : Nat) (it : Item) (s : State) : State :=
  if !it.payload.isEmpty then itemEnd id 0x0107 2 s
  else if restartRefused s then itemEnd id 0x0105 0x01D7 s
  else restart .perst .nothing 0x0701 0 (replyNow id (.bare 0 0) s)

/-- An opcode that is no service: it acts on the whole part. -/
def runWhole (op id : Nat) (f : Item → State → State) (s : State) : State :=
  match getItem s id with
  | none => s
  | some it => if it.isRunning && it.opcode == op && it.outer.isNone then f it s else s

/-- RESTART (R448). -/
def execRestart (item : Nat) (s : State) : Host.Outcome State Fault Refusal := .next (runWhole 0x0F11 item (restartItem item) s)

/-- The reply of UPDATE_STATUS (Table 17.8). -/
def updateStatusBytes (s : State) : Bytes :=
  let k := s.flash.arm
  toBE 1 (b2n s.boot.slotB) ++ toBE 1 (if k.pend then b2n (!k.curB) else 0xFF) ++ toBE 1 (b2n s.boot.trial + 2 * b2n s.boot.fellback) ++
    toBE 1 ((s.flash.upd.map (·.stage)).getD 0) ++ toBE 4 (k.slot s.boot.slotB).ver ++ toBE 4 s.flash.svc.current.ver ++
    toBE 4 s.flash.bne.current.ver ++ toBE 8 s.flash.u ++ toBE 1 s.otp.floorArm ++ toBE 1 s.otp.floorSvc ++ toBE 1 s.otp.floorBne ++
    toBE 1 ((s.flash.upd.map (·.done)).getD 0) ++ zeros 4

def svcUpdateStatus (it : Item) : Svc Reply := do
  Svc.len it.payload.isEmpty
  done (updateStatusBytes (← Svc.state))

/-- UPDATE_STATUS (R451). -/
def execUpdateStatus (item : Nat) (s : State) : Host.Outcome State Fault Refusal := .next (runOpcode 0x0F12 item svcUpdateStatus s)

/-! ## CELLAR_FORMAT (R449, R450) -/

def formatRule (s : State) : EnvRule :=
  { hierRule 0x1C 0 (fun e => e.blen == 8) (fun s e => e.dserial == s.fab.serial) s with counter := updateCounter s }

/-- The committed serial that officers sign: zero where the root record fails its CRC. -/
def formatSerial (s : State) : Nat :=
  match s.bk.root with
  | none => 0
  | some r => if r.crcOk then r.cserial else 0

/-- Checks 1 to 3; the cellar is FORMATTING from here on. -/
def formatChecks (b : Bytes) (s : State) : Answer × State :=
  if s.otp.force != .perso && s.otp.force != .field then (.err 0x0901 (lcCode s.otp.force), s)
  else if s.grd.dbgOpen then (.err 0x0902 0, s)
  else if s.clc.st != .closed || !(s.clc.drive0.usable || s.clc.drive1.usable) then (.err 0x0105 0x01DA, s)
  else if fld b 0 8 != formatSerial s then (.err 0x0105 0x01D9, s)
  else (.nums [], { s with clc := { s.clc with st := .formatting } })

/-- Tenants that hold overflow key objects. -/
def ovflTenants (s : State) : List Nat := ((s.vks.slots.filter (fun e => e.2.ovfl)).map (fun e => e.2.owner)).eraseDups

/-- The new cellar: the vine image's base moves into it, and a worker waits for its tenants' overflow key objects (R450). -/
def formatted (serial : Nat) (s : State) : State :=
  let l := ovflTenants s
  let s := formatCellar serial s
  let s := if s.vks.img.isSome then rewriteBase s else s
  if roleOf s == .worker then
    { s with hier := { s.hier with placed := tmap s.hier.placed (fun t p => if l.contains t then { p with full := false } else p) } }
  else s

def svcCellarFormat (id : Nat) (it : Item) : Svc Reply :=
  Svc.signed id it true do
    let e ← Svc.envelope id it formatRule
    let _ ← Svc.decideOk id (formatChecks e.body)
    let a ← Svc.await (askDraw id { it with nowait := false } (fun _ => 0) 8 false [] false)
    match a with
    | .err st d => do
      Svc.update (fun s => { s with clc := { s.clc with st := .closed } })
      Svc.finish st d
    | a => do
      Svc.update (fun s => takeCounter e (formatted (beNat a.bytes) s))
      done

/-- CELLAR_FORMAT. -/
def execCellarFormat (item : Nat) (s : State) : Host.Outcome State Fault Refusal := .next (runSigned 0x0F13 item (svcCellarFormat item) s)

end Sys2Proof.Machine
end

