-- ==== Sys2Proof/Machine/Cycle.lean ====
section
/-! DEFINITION. The cycle unit and the boundary events (02). -/

set_option Elab.async false

namespace Sys2Proof.Machine

/-! ## Periods and windows (R18-R20) -/

/-- P in ns. -/
def cycP (s : State) : Nat := s.cyu.period * 1000

/-- The tolerance w in ns (R19). -/
def cycW (s : State) : Nat := max 1000 (cycP s / 100)

/-- P_est in ns (R20): the mean of 16 counted intervals, to the ns below, within P ± w. -/
def cycPest (s : State) : Nat :=
  if s.cyu.ivals.length < 16 then cycP s
  else min (cycP s + cycW s) (max (cycP s - cycW s) (s.cyu.ivals.foldl (· + ·) 0 / 16))

/-- The expected instant of the next edge. -/
def cycNext (s : State) : Nat := s.cyu.base + cycPest s

/-- An instant lies in the window. -/
def inWindow (s : State) (t : Nat) : Bool := cycNext s ≤ t + cycW s && t ≤ cycNext s + cycW s

/-- FFFFFFFFFFFEh (R23). -/
def cycMax : Nat := 2 ^ 48 - 2

def modCyu (f : Cyu → Cyu) (s : State) : State := { s with cyu := f s.cyu }

/-! ## Boundary events (Table 2.4) -/

/-- Slots that hold leases. -/
def leaseSlots (s : State) : List Nat := (s.vks.slots.filter (fun e => e.2.persist && e.2.ucnt && !e.2.free)).map (·.1)

/-- The top-up of a part on which the slot's tenant is placed. How many uses it lacks its STATUS told, which no message of
this model carries: a free value (log 50). -/
def remoteTopUp (i part : Nat) (s : State) : State :=
  let u := takeFree 257 s
  let p := getSlot u.2 i
  let n := min u.1 p.unleased
  if n == 0 then u.2
  else
    let s := imgPutSlot i (putSlot i { p with unleased := p.unleased - n } u.2)
    sendTo part (.leaseGrant { slot := i, gen := p.gen, uses := n, unleased := p.unleased - n, mterm := s.hier.mterm }) s

/-- The leases of one slot: this part's own, then those of the linked parts (R243). -/
def topUpSlot (i : Nat) (s : State) : State :=
  let t := (getSlot s i).owner
  let here := ((tfind s.hier.placed t).map (·.here)).getD false
  let s := if here then topUp i s else s
  let s := (linkedPlaced s t).foldl (fun (s : State) (k : Nat) => remoteTopUp i k s) s
  noteSlots [i] (if (getSlot s i).ucount == 0 then s else resumeLease i s)

/-- Leases for the new cycle. -/
def boundaryLeases (s : State) : State :=
  if isActive s then (leaseSlots s).foldl (fun (s : State) (i : Nat) => topUpSlot i s) s else s

/-- Staged rule sets and template changes are released (05 R126, R127). -/
def releaseStaged (s : State) : State :=
  { s with dsp := { s.dsp with
    mpus := tmap s.dsp.mpus (fun _ m => if m.pend then { m with actB := !m.actB, pend := false } else m)
    tmpl := if s.dsp.tpend then s.dsp.ptmpl else s.dsp.tmpl, tpend := false } }

/-- A worker in HOLD counts the boundary (13 R359). -/
def holdTick (s : State) : State :=
  if s.hier.mst == .hold then { s with hier := { s.hier with holdCnt := min 64 (s.hier.holdCnt + 1) } } else s

/-- The events of a boundary; `edge`: of an edge, not of a local boundary (R33, R35). In P2 the number alone advances (15
R402). -/
def boundary (edge : Bool) (s : State) : State :=
  if s.grd.power == .p2 then s
  else
    let s := count 0x04 none s
    let s := if edge then refreshQuota (emit .cycout s) else s
    holdTick (twinCopy (checkpoint (releaseStaged (boundaryLeases s))))

/-! ## Edges of a manager (R26) -/

/-- The edge message of the active manager on each trellis port (R29). -/
def sendEdge (s : State) : State :=
  if isActive s then
    let st := match s.cyu.st with
      | .unlocked => 0
      | .acquire => 1
      | .locked => 2
      | .lost => 3
    let m : EdgeMsg := { num := s.cyu.num.getD noCycle, held := s.cyu.held, state := st, mterm := s.hier.mterm }
    (trellisUp s).foldl (fun (s : State) (k : Nat) => sendOn k (.edge m) s) s
  else s

/-- The unit enters UNLOCKED (R23, R26): the period timer starts, packets held for quota are released (Table 2.5), and the
workers are told (log 51). -/
def cycUnlock (t : Nat) (s : State) : State :=
  let s := modCyu (fun c => { c with st := .unlocked, lostSeen := true, timer := t, counts := false }) s
  unlockHeld (sendEdge (cycleRecord 2 3 0 s))

/-- The number that the next edge carries; none where the count ends (R23, R24). -/
def nextNumber (c : Cyu) : Option Nat :=
  match c.setN with
  | some n => some n
  | none => match c.num with
    | some n => if n < cycMax then some (n + 1) else none
    | none => some 0

/-- CYU_HELD and CYU_STRAY (R39). -/
def countHeld (s : State) : State := eachCopy (fun c => { c with heldN := satAdd max32 c.heldN 1 }) (count 0xF1 none s)
def countStray (s : State) : State := eachCopy (fun c => { c with stray := satAdd max32 c.stray 1 }) (count 0xF2 none s)

/-- A stray edge (R21). -/
def strayEdge (s : State) : State := cycleRecord 1 1 0 (countStray s)

/-- The intervals with one more, the last 16. -/
def addIval (c : Cyu) (t : Nat) : List Nat :=
  if c.counts then let l := c.ivals ++ [t - c.lastReal]; l.drop (l.length - 16) else c.ivals

/-- A real edge is accepted in LOCKED or CYCLE_LOST. -/
def acceptEdge (t : Nat) (s : State) : State :=
  match nextNumber s.cyu with
  | none => cycUnlock t s
  | some n =>
    let lost := s.cyu.st == .lost
    let s := count 0xF0 none (modCyu (fun c => { c with
      st := .locked, num := some n, setN := none, held := false, run := 0, ivals := addIval c t, counts := true, lastReal := t, base := t, lastAdv := t }) s)
    boundary true (sendEdge (if lost then cycleRecord 2 4 1 s else s))

/-- A held edge at a window's end. -/
def heldEdge (t : Nat) (s : State) : State :=
  match nextNumber s.cyu with
  | none => cycUnlock t s
  | some n =>
    let s := countHeld (modCyu (fun c => { c with
      num := some n, setN := none, held := true, run := c.run + 1, counts := false, base := cycNext s, lastAdv := t }) s)
    boundary true (sendEdge s)

/-- `a` divided by `b`, to the nearest integer, halves upward. -/
def divRound (a b : Nat) : Nat := (2 * a + b) / (2 * max b 1)

/-- The number of a lock (R23, R24, R27). -/
def lockNumber (t : Nat) (s : State) : Nat :=
  match s.cyu.num with
  | none => 0
  | some n => max (s.cyu.setN.getD 0) (n + max 1 (divRound (t - s.cyu.lastAdv) (cycPest s)))

/-- The third acquisition edge: LOCKED, or UNLOCKED where R23 forbids the lock. -/
def lockEdge (t : Nat) (s : State) : State :=
  let n := lockNumber t s
  if s.cyu.ended || cycMax < n then
    cycleRecord 2 3 0 (modCyu (fun c => { c with st := .unlocked, ended := true, acq := 0 }) s)
  else
    let last := s.cyu.num
    let s := count 0xF0 none (modCyu (fun c => { c with
      st := .locked, num := some n, setN := none, held := false, run := 0, counts := true, lastReal := t, base := t, lastAdv := t, acq := 0 }) s)
    let s := match last with
      | none => s
      | some m => cycleRecord 2 4 (n - m) s
    boundary true (sendEdge s)

/-- An edge in ACQUIRE. -/
def acquireEdge (t : Nat) (s : State) : State :=
  let d := t - s.cyu.acqLast
  let good := cycP s ≤ d + cycW s && d ≤ cycP s + cycW s
  let n := if good then s.cyu.acq + 1 else 1
  let s := modCyu (fun c => { c with acq := n, acqLast := t }) s
  if n == 3 then lockEdge t s else s

/-- A rising edge by Table 2.2. -/
def realEdge (t : Nat) (s : State) : State :=
  match s.cyu.st with
  | .unlocked => modCyu (fun c => { c with st := .acquire, acq := 1, acqLast := t }) s
  | .acquire => acquireEdge t s
  | .locked => if inWindow s t then acceptEdge t s else strayEdge s
  | .lost => if inWindow s t then acceptEdge t s else strayEdge s

/-- A pulse is an edge (18 R469): where the spec leaves it open, a free choice (log 54). -/
def pulseEdge (low high : Nat) (s : State) : Bool × State :=
  if high < 50 then (false, s)
  else if 100 ≤ high && 100 ≤ low then (true, s)
  else
    let u := takeFree 2 s
    (u.1 == 1, u.2)

/-- The cycle unit runs: powered and out of reset. -/
def cyuLive (s : State) : Bool := (s.grd.st == .watching || s.grd.st == .dormant) && !s.boot.perst

/-- CYCIN_EDGE (R17, R21, R26). A worker ignores CYCIN. -/
def execCycinEdge (at_ low high : Nat) (s : State) : Host.Outcome State Fault Refusal :=
  if !cyuLive s || roleOf s == .worker then .next s
  else
    let u := pulseEdge low high s
    if u.1 then .next (realEdge (max s.now at_) (u.2.at_ at_)) else .next u.2

/-! ## Timers of the unit -/

/-- 2P after the last accepted real edge (R26). -/
def lostDue (s : State) : Nat := s.cyu.lastReal + 2 * cycP s

/-- LOCKED passes to CYCLE_LOST. -/
def cycLose (s : State) : State :=
  cycleRecord 2 2 0 (modCyu (fun c => { c with st := .lost, lostSeen := true }) (s.at_ (lostDue s)))

/-- CYCLE_LOST_TIMEOUT (R26). -/
def execCycleLostTimeout (s : State) : Host.Outcome State Fault Refusal :=
  if cyuLive s && s.cyu.st == .locked then .next (cycLose s) else .next s

/-- The end of a window without an edge; 2P passes first where it comes first. -/
def windowEnd (s : State) : State :=
  let t := cycNext s + cycW s
  match s.cyu.st with
  | .locked => let s := if t < lostDue s then s else cycLose s
    heldEdge t (s.at_ t)
  | .lost => if s.cyu.run < 8 then heldEdge t (s.at_ t) else cycUnlock t (s.at_ t)
  | .unlocked => s
  | .acquire => s

/-- WINDOW_END (R26). -/
def execWindowEnd (s : State) : Host.Outcome State Fault Refusal := if cyuLive s then .next (windowEnd s) else .next s

/-- ACQUIRE_TIMEOUT (R26): the period timer runs on. -/
def execAcquireTimeout (s : State) : Host.Outcome State Fault Refusal :=
  if cyuLive s && s.cyu.st == .acquire then
    .next (modCyu (fun c => { c with st := .unlocked, acq := 0 }) (s.at_ (s.cyu.acqLast + 2 * cycP s)))
  else .next s

/-- LOCAL_BOUNDARY (R35): every P_est while UNLOCKED or ACQUIRE. -/
def execLocalBoundary (s : State) : Host.Outcome State Fault Refusal :=
  if cyuLive s && s.cycle.isNone then
    let t := s.cyu.timer + cycPest s
    .next (boundary false (modCyu (fun c => { c with timer := t }) (s.at_ t)))
  else .next s

/-! ## Edges of a worker (R29-R31) -/

/-- 2.5 µs (R30). -/
def edgeDelay : Nat := 2500

/-- The one-way latency of the link as measured, at link-up and again every 1,024 cycles: a free value (log 84). -/
def measureLatency (s : State) : State :=
  let u := takeFree edgeDelay s
  { u.2 with cyu := { u.2.cyu with skew := u.1 } }

/-- A worker queues an edge for the instant 2.5 µs after the manager's, the measured latency taken off. -/
def queueEdge (t : Nat) (m : EdgeMsg) (s : State) : State :=
  modCyu (fun c => { c with msgs := c.msgs ++ [(t + edgeDelay - c.skew, m)] }) s

/-- An edge message takes effect: the manager's number and held flag, without an acquisition. -/
def applyEdge (t : Nat) (m : EdgeMsg) (s : State) : State :=
  if m.state == 0 || m.state == 1 then (if s.cycle.isSome then cycUnlock t s else s)
  else
    let s := modCyu (fun c => { c with
      st := .locked, trellis := true, num := some m.num, held := m.held, run := 0, ivals := addIval c t, counts := !m.held, lastReal := t, base := t, lastAdv := t }) s
    boundary true (if m.held then countHeld s else count 0xF0 none s)

/-- EDGE_APPLY (R30, R31): the oldest edge, at its instant. -/
def execEdgeApply (s : State) : Host.Outcome State Fault Refusal :=
  match s.cyu.msgs with
  | [] => .next s
  | (t, m) :: r =>
    if cyuLive s && roleOf s == .worker then
      let s := modCyu (fun c => { c with msgs := r }) (s.at_ t)
      .next (applyEdge s.now m (if m.num % 1024 == 0 then measureLatency s else s))
    else .next s

end Sys2Proof.Machine
end

