-- ==== Sys2Proof/Machine/Hierarchy.lean ====
section
/-! DEFINITION. The roster, the directory, becoming and ceasing to be the active manager, and the opcodes of class 0Ch (13
R333-R343, R350-R355, R360; 02 R24). -/

set_option Elab.async false

namespace Sys2Proof.Machine

/-! ## Ports and the roster (R334, R340, Table 13.4) -/

/-- The ID that a position requires of its peer on a port or sub-link (R334). -/
def expectedPeer (s : State) (k : Nat) : Nat :=
  let me := myId s
  if me ≤ 1 then (if k == 4 then 1 - me else k + 2)
  else if me ≤ 5 then (if k == 0 then 0 else if k == 8 then 1 else 6 + 3 * (me - 2) + (k - 1))
  else directOf me

/-- A roster entry names a manager, or a worker. -/
def managerEntry (e : Bytes × Nat × Nat) : Bool := e.2.2 == 0

/-- The entries of a roster body, as far as it reaches. -/
def rosterEntries (b : Bytes) : List (Bytes × Nat × Nat) :=
  (List.range (fld b 12 1)).map (fun i => (slice b (16 + 20 * i) 16, fld b (32 + 20 * i) 1, fld b (33 + 20 * i) 1))

def rosterOf (b : Bytes) : Roster := { hid := fld b 0 8, period := fld b 8 4, twin := bit (fld b 13 1) 0, parts := rosterEntries b }

/-- A reserved field of a roster body is set. -/
def rosterRsvd (b : Bytes) : Bool :=
  1 < fld b 13 1 || fld b 14 2 != 0 || (List.range (fld b 12 1)).any (fun i => fld b (34 + 20 * i) 2 != 0)

/-- The form that R340 demands (01E1h). -/
def rosterForm (s : State) (b : Bytes) : Bool :=
  let r := rosterOf b
  let ids := r.parts.map (·.2.1)
  let n := fld b 12 1
  1 ≤ n && n ≤ 18 && 100 ≤ r.period && r.period ≤ 60000000 && decide ids.Nodup && ids.contains 0 && (r.twin || !ids.contains 1) &&
    r.parts.all (fun e => e.2.1 ≤ 17 && e.2.2 == (if e.2.1 ≤ 1 then 0 else 1)) &&
    (match s.hier.roster with | some o => o.hid == r.hid | none => true)

/-- Every worker on which a tenant is placed is in the roster (01E2h). -/
def rosterKeeps (s : State) (r : Roster) : Bool :=
  match s.hier.roster with
  | none => true
  | some o => o.parts.all (fun e =>
      r.parts.any (fun x => x.1 == e.1) || e.2.1 ≤ 1 || s.hier.dir.all (fun t => !(t.2.known && t.2.ids.contains e.2.1)))

/-- The peer of a port stands in the roster at the place that the port requires. -/
def peerListed (s : State) (p : Port) (k : Nat) : Bool :=
  match p.hello, s.hier.roster with
  | some h, some r => r.parts.any (fun e => e.1 == h.serial && e.2.1 == expectedPeer s k)
  | none, _ => true
  | some _, none => true

/-- A port that a contained fault has isolated. -/
def portIsolated (s : State) (k : Nat) : Bool := (fsrc s (0x0B00 + k % 8)).isol

/-- Links after a roster has been applied: those to parts not in it go down at once, the position's others come up. A change
of TWIN splits the ports anew (R334). -/
def relink (twinWas : Bool) (s : State) : State :=
  let keys := portKeys s
  let gone := s.hier.ports.filter (fun e => e.2.st != .down && (twinSet s != twinWas || !keys.contains e.1 || !peerListed s e.2 e.1))
  let s := gone.foldl (fun (s : State) (e : Nat × Port) => portDown e.1 s) s
  if s.hier.portsHeld || s.boot.phase < 2 || s.boot.phase == 6 then s
  else
    keys.foldl (fun (s : State) (k : Nat) => if (getPort s k).st == .down && !portIsolated s k then trainPort k s else s) s

/-- A roster is applied (R340, 02 R18). A part that had none enters the hierarchy at once (log 70). -/
def rosterApply (r : Roster) (s : State) : State :=
  let was := twinSet s
  let s := relink was { s with hier := { s.hier with roster := some r }, cyu := { s.cyu with nextPer := r.period } }
  if s.hier.mst == .noRoster && s.boot.phase == 5 then hierReady s else s

/-! ## Messages of the officer quorum that every part applies (R338) -/

/-- H, its records, and the copy of them. -/
def applyHier (e : Envelope) (s : State) : State :=
  noteHier { s with hier := { s.hier with hctr := e.counter, hrecs := addRecord s.hier.hrecs e } }

/-- The roster that a message carries names DSERIAL as a manager. -/
def carriedManager (e : Envelope) : Bool := (rosterEntries e.body).any (fun x => x.1 == e.dserial && managerEntry x)

/-- The roster held names DSERIAL as a manager. -/
def heldManager (s : State) (e : Envelope) : Bool :=
  match s.hier.roster with
  | some r => r.parts.any (fun x => x.1 == e.dserial && managerEntry x)
  | none => false

def rosterLen (e : Envelope) : Bool := 16 ≤ e.blen && e.blen == 16 + 20 * fld e.body 12 1

/-- The rule of KIND 10h and of KIND 11h. -/
def rosterRule : State → EnvRule := hierRule 0x10 0 rosterLen (fun _ e => carriedManager e)
def officersRule : State → EnvRule := hierRule 0x11 0 (fun _ => true) heldManager

/-- The change that a KIND 10h message makes, after its last checks. -/
def rosterChange (e : Envelope) (s : State) : Except (Nat × Nat) State :=
  let b := e.body
  if rosterRsvd b then .error (0x0105, 4)
  else if !rosterForm s b then .error (0x0105, 0x01E1)
  else if !rosterKeeps s (rosterOf b) then .error (0x0105, 0x01E2)
  else .ok (applyHier e (rosterApply (rosterOf b) s))

/-- The change that a KIND 11h message makes. -/
def officersChange (e : Envelope) (s : State) : Except (Nat × Nat) State :=
  match officerCheck e.body with
  | .error u => .error u
  | .ok o => .ok (applyHier e { s with hier := { s.hier with hoff := some o } })

/-- Workers of the roster, by position. -/
def rosterWorkers (s : State) : List Nat :=
  match s.hier.roster with
  | some r => (r.parts.map (·.2.1)).filter (2 ≤ ·)
  | none => []

/-- Those of them that are linked. -/
def linkedWorkers (s : State) : List Nat := (rosterWorkers s).filter (fun i => (routeTo s i).isSome)

/-- A part that is not linked is owed a message until its next link-up. -/
def owe (op : Nat) (env : Bytes) (ids : List Nat) (s : State) : State :=
  ids.foldl (fun (s : State) (i : Nat) =>
    { s with hier := { s.hier with owed := tput s.hier.owed i (tget s.hier.owed i [] ++ [(op, env)]) } }) s

/-- The active manager sends an applied message to every worker; the standby has it from the twin copy. -/
def spread (id : Nat) (it : Item) (e : Envelope) (s : State) : Apply × State :=
  if isActive s then
    let ids := linkedWorkers s
    let s := owe it.opcode it.payload ((rosterWorkers s).filter (fun i => !ids.contains i)) s
    (newApply id it e [] ids s, sendPlacement s.hier.refs ids (.hier it.opcode it.payload) s)
  else (newApply id it e [] [] s, s)

/-- A message that every part applies. -/
def svcEveryPart (id : Nat) (rule : State → EnvRule) (change : Envelope → State → Except (Nat × Nat) State) (it : Item) : Svc Reply :=
  Svc.signed id it true do
    let e ← Svc.envelope id it rule
    Svc.apply id (fun s =>
      match change e s with
      | .error u => .error u
      | .ok s => .ok (spread id it e s))

/-- HIER_CONFIG (R340). -/
def execHierConfig (item : Nat) (s : State) : Host.Outcome State Fault Refusal :=
  .next (runSigned 0x0C01 item (svcEveryPart item rosterRule rosterChange) s)

/-- HIER_OFFICERS (R338). -/
def execHierOfficers (item : Nat) (s : State) : Host.Outcome State Fault Refusal :=
  .next (runSigned 0x0C02 item (svcEveryPart item officersRule officersChange) s)

/-- A request that no item of this part places. -/
def plainRequest (op : EngineOp) (s : State) : Request :=
  { id := nextReq s, level := 31, client := .item 0, tenant := 0, flow := 0, keys := [], chain := [], op := op, dest := none, holding := [], lane := none, segs := 0, cont := false, got := [], stamp := [] }

/-- The distinct officers of signatures that all verify. -/
def signersOf (s : State) (m : Bytes) (officer : Nat → Option (Nat × Bytes)) : List SigEntry → List Nat → Option (List Nat)
  | [], acc => some acc
  | x :: l, acc =>
    match officer x.officer with
    | none => none
    | some k =>
      if k.1 != x.alg then none
      else
        match compute s.flash.curves (plainRequest (sigOp graftContext k.1 k.2 x.sig m) s) with
        | .ok _ => signersOf s m officer l (if acc.contains x.officer then acc else acc ++ [x.officer])
        | _ => none

/-- A KIND 10h or 11h message from the active manager, checked and applied as though it had arrived on the part's own PF
(R338); the checks take no time (log 82). -/
def hierHere (op : Nat) (env : Bytes) (s : State) : State :=
  let e := envelopeOf env
  let r := if op == 0x0C01 then rosterRule s else officersRule s
  let ok := (envCheck r e).isNone && r.held &&
    (match signersOf s e.signed r.officer e.sigs [] with
      | some l => (r.short l).isNone
      | none => false)
  if ok then
    match (if op == 0x0C01 then rosterChange e s else officersChange e s) with
    | .ok t => t
    | .error _ => s
  else s

/-! ## Transport keys and the refill of a part (R337, 17 R442) -/

/-- The transport keys go to the linked workers, and into the twin copy. -/
def sendTransport (s : State) : State :=
  sendPlacement s.hier.refs (linkedWorkers s) (.transport s.hier.tkeys) (noteHier { s with hier := { s.hier with refs := s.hier.refs + 1 } })

/-- A part has a new transport key: a free value (log 72). -/
def newTransport (serial : Bytes) (s : State) : State :=
  let u := takeFree (2 ^ 256) s
  let k := toBE 32 u.1
  let s := { u.2 with hier := { u.2.hier with tkeys := u.2.hier.tkeys.filter (fun e => e.1 != serial) ++ [(serial, k)] } }
  if serial == s.fab.serial then { s with hier := { s.hier with ownTkey := k } } else s

/-- The serial at a position. -/
def serialAt (s : State) (id : Nat) : Option Bytes :=
  s.hier.roster.bind (fun r => (r.parts.find? (fun e => e.2.1 == id)).map (·.1))

/-- A tenant's persistent slots. -/
def persistentOf (s : State) (t : Nat) : List Nat :=
  (s.vks.slots.filter (fun e => 256 ≤ e.1 && e.2.persist && !e.2.free && e.2.owner == t)).map (·.1)

/-- What a part that has linked receives: the slots of the tenants placed on it, the directory, the messages it is owed
(R338, 09 R248, R254; 17 R442). -/
def refillPart (id : Nat) (s : State) : State :=
  let ref := s.hier.refs
  let s := { s with hier := { s.hier with refs := ref + 1 } }
  let s := s.hier.dir.foldl (fun (s : State) (e : Nat × Tenant) =>
    let s := if e.2.known && e.2.ids.contains id then sendSlots e.1 ref [id] (persistentOf s e.1) true s else s
    sendPlacement ref [id] (.entry e.1 e.2) s) s
  let s := (tget s.hier.owed id []).foldl (fun (s : State) (m : Nat × Bytes) => sendPlacement ref [id] (.hier m.1 m.2) s) s
  { s with hier := { s.hier with owed := terase s.hier.owed id } }

/-- Workers have come within reach of the active manager. -/
def partsLinked (ids : List Nat) (s : State) : State :=
  let s := ids.foldl (fun (s : State) (i : Nat) => match serialAt s i with | some x => newTransport x s | none => s) s
  ids.foldl (fun (s : State) (i : Nat) => refillPart i s) (if ids.isEmpty then s else sendTransport s)

/-! ## Items that wait for a manager (R351, R359) -/

/-- The item waits for an answer to a message that has been sent. -/
def awaitsAnswer (s : State) (id : Nat) : Bool := waitsFor s id .forward && !s.hier.fwd.contains id

/-- Items that were waiting for an answer from the former manager end. -/
def failover (s : State) : State := endItems (fun id _ => awaitsAnswer s id) 0x0704 0 s

/-- Messages that waited for a manager are sent to it. -/
def flushForwards (s : State) : State :=
  if managerReachable s && !isActive s then
    let l := s.hier.fwd
    l.foldl (fun (s : State) (i : Nat) => if waitsFor s i .forward then sendForward i s else s) { s with hier := { s.hier with fwd := [] } }
  else s

/-- Lookups that wait for a lease ask the manager anew (log 75). -/
def reaskLeases (s : State) : State :=
  (s.vks.leaseW.map (·.1)).eraseDups.foldl (fun (s : State) (i : Nat) =>
    let t := (getSlot s i).owner
    sendManager (.leaseRequest { fromId := myId s, tenant := t, epoch := epochOf s t, slot := i }) s) s

/-! ## Becoming active (R351) -/

/-- A queue pair of a shadowed context: frozen, with the copied positions; nothing is left to fetch (log 71). -/
def shadowPair (q : ShadowQueue) : Queue :=
  { newQueue .frozen q.size q.pri q.vec q.cthr q.ctim q.sqbase q.cqbase with sqtail := q.sqhead, sqhead := q.sqhead, cqtail := q.cqtail, cqhead := q.cqtail, phase := q.phase }

/-- A shadowed context is created as FROZEN (R351 step 4). -/
def raiseShadow (x : ShadowCtx) (s : State) : State :=
  let i := freeInst s
  let c : Ctx :=
    { vf := x.vf, maxpri := x.maxpri, fbase := x.fbase, fcount := x.fcount, infl := x.infl, quota := x.quota, hold := x.hold, left := x.left, staged := none, st := .frozen, saved := false, fsrc := 0, rdetail := 0, waiters := [], quarAfter := none, flr := false, gone := false, inst := some i, freezer := [] }
  let s := instantiate i x.tenant { s with hfe := { s.hfe with ctxs := tput s.hfe.ctxs x.tenant c } }
  let s := if x.vf == 0 then s else x.queues.foldl (fun (s : State) (q : ShadowQueue) => addQueue x.vf q.qid (shadowPair q) s) s
  let s := x.flows.foldl (fun (s : State) (f : Nat × Nat × Nat) =>
    { s with dsp := { s.dsp with flows := tput s.dsp.flows f.1 { head := f.2.1, next := f.2.2 } } }) s
  ctxEvent c s

/-- The graft transport key of a manager that is active for the first time: a free value (R339). -/
def firstSeed (s : State) : State :=
  if !s.hier.gseed.isEmpty then s
  else
    let u := takeFree (2 ^ 512) s
    let k := toBE 64 u.1
    imgAppend (fun m => { m with tkeySeed := k }) { u.2 with hier := { u.2.hier with gseed := k } }

/-- A message of this part's own that waited for a manager is executed here now: its item begins again. -/
def rerunForwards (s : State) : State :=
  let l := s.hier.fwd
  l.foldl (fun (s : State) (i : Nat) =>
    if waitsFor s i .forward then
      modItem i (fun x =>
        match x.phase with
        | .waiting c k _ => { x with phase := .resumable c k s.now, answers := [] }
        | _ => x) s
    else s) { s with hier := { s.hier with fwd := [] } }

/-- This manager becomes the active one; `sync`: from STANDBY_SYNC, with its shadows (R351). -/
def becomeActive (sync : Bool) (s : State) : State :=
  let s := failover s
  let shadows := if sync then s.hier.shadows else []
  let s := { s with hier := { s.hier with
    mst := .active, driving := true, twinAct := true, mterm := s.hier.mterm + 1, toggleAt := s.now, mism := 0, undriven := false, closed := s.hier.cseq, out := [], delta := .empty, late := false, synced := false, shadows := [], resyncN := if portUp s 4 && twinSet s then 1 else 0 } }
  let s := (trellisUp s).foldl (fun (s : State) (k : Nat) => sendOn k (.takeover s.hier.mterm s.fab.serial) s) s
  let s := s.hier.dir.foldl (fun (s : State) (e : Nat × Tenant) => adoptEntry e.1 e.2 s) s
  let s := shadows.foldl (fun (s : State) (x : ShadowCtx) => raiseShadow x s) s
  let s := if s.hier.tkeys.any (fun e => e.1 == s.fab.serial) then s else newTransport s.fab.serial s
  let s := rerunForwards (firstSeed s)
  if sync then s else partsLinked (linkedWorkers s) s

/-- An active manager becomes a standby without a reset: what it had not finished for other parts, or not copied, ends. -/
def stepDown (m : MState) (s : State) : State :=
  let aps := s.hier.applies
  let s := dropTwinHold { s with
    hier := { s.hier with mst := m, applies := [], synced := false, late := false, out := [], delta := .empty, resyncN := 0, handover := none, toggleAt := s.now, undrivenAt := s.now }
    clc := { s.clc with copies := s.clc.copies.map (fun c => { c with delta := none }) }
    vks := { s.vks with leaseP := [] } }
  let s := endItems (fun id it =>
    it.fn == fnForward || aps.any (fun a => a.item == id || a.also.contains id) ||
      (match it.phase with | .waiting _ _ (.twin _) => true | _ => false)) 0x0704 0 s
  s.hier.dir.foldl (fun (s : State) (e : Nat × Tenant) => adoptEntry e.1 e.2 s) s

/-! ## CYCLE_SET (02 R24) -/

def cycleSetApply (id : Nat) (it : Item) (e : Envelope) (s : State) : Except (Nat × Nat) (Apply × State) :=
  let n := fld e.body 0 6
  if fld e.body 6 2 != 0 then .error (0x0105, 4)
  else if !isActive s then .error (0x0105, 0x01E8)
  else if s.cyu.setDone then .error (0x0105, 0x01E9)
  else
    match s.cycle with
    | none => .error (0x0402, 5)
    | some c =>
      if n ≤ c || n < s.vks.hwm || cycMax < n then .error (0x0105, 5)
      else
        let s := applyHier e { s with cyu := { s.cyu with setN := some n, setDone := true } }
        .ok (newApply id it e [] [] s, s)

def svcCycleSet (id : Nat) (it : Item) : Svc Reply :=
  Svc.signed id it true do
    let e ← Svc.envelope id it (hierRule 0x15 0 (fun e => e.blen == 8) (fun s e => e.dserial == activeSerial s))
    Svc.apply id (cycleSetApply id it e)

/-- CYCLE_SET. -/
def execCycleSet (item : Nat) (s : State) : Host.Outcome State Fault Refusal := .next (runSigned 0x0C08 item (svcCycleSet item) s)

/-! ## Tenants (R341, R342) -/

/-- A tenant is in the directory. -/
def isKnown (s : State) (t : Nat) : Bool := ((getTenant s t).map (·.known)).getD false

/-- The rule of the kinds that only the active manager applies. -/
def tenantKind (kind : Nat) (it : Item) (lenOk : Envelope → Bool) : State → EnvRule :=
  hierRule kind it.tenant lenOk (fun s e => e.dserial == s.fab.serial)

/-- The checks of a TENANT_CREATE body. -/
def createChecks (t : Nat) (b : Bytes) (s : State) : Answer × State :=
  if fld b 2 2 != 0 then (.err 0x0105 4, s)
  else
    match officerCheck (b.drop 4) with
    | .error (0x0105, 4) => (.err 0x0105 4, s)
    | o =>
      if 4096 < fld b 0 2 then (.err 0x0105 5, s)
      else if isKnown s t then (.err 0x0105 0x01E0, s)
      else
        match o with
        | .error u => (.err u.1 u.2, s)
        | .ok _ => (.nums [], s)

/-- A persistent slot that TENANT_CREATE makes at a free index: its index. -/
def createSlot (t type : Nat) (usage : BitVec 16) (hcache : Bool) (parent : Nat) (key : Bytes) (s : State) : Option Nat × State :=
  let u := takeFree 65280 s
  match chooseIndex u.2 u.1 65280 with
  | none => (none, u.2)
  | some i =>
    let s := u.2
    let s := putPersistent i { tenant := t, type := type, usage := usage, expo := false, hcache := hcache, ucnt := 0, expiry := never, parent := parent, stamp := stampUnder s parent, gen := (getSlot s i).gen, gctr := 0 } key s
    (some i, s)

/-- The directory entry of a new tenant; C goes on from an earlier tenant with its id (R341 step 4, 09 R253). -/
def newTenant (old : Option Tenant) (b : Bytes) (root vik : Nat × Nat) : Tenant :=
  { known := true, epoch := 1, ids := [], share := fld b 0 2, root := root, vik := vik, ctr := (old.map (·.ctr)).getD 0, recs := [], officers := officerSet (b.drop 4), map := none, vgen := (old.map (·.vgen)).getD 0, mserial := 0, mdigest := [] }

/-- A tenant is created, with its root and vault index key from the item's secret bytes. -/
def createApply (id : Nat) (it : Item) (e : Envelope) (s : State) : Except (Nat × Nat) (Apply × State) :=
  let b := e.body
  let t := it.tenant
  let key := ((getItem s id).map (·.holding)).getD []
  if isKnown s t then .error (0x0105, 0x01E0)
  else
    match createSlot t 0x7E 0 false 0 (key.take 32) s with
    | (none, s) => let _ := s; .error (0x0105, 0x0143)
    | (some i, s) =>
      let v := if fld b 0 2 == 0 then (some 0, s) else createSlot t 8 uTOKEN true i (key.drop 32) s
      match v with
      | (none, _) => .error (0x0105, 0x0143)
      | (some j, s) =>
        let gen (k : Nat) : Nat := if k == 0 then 0 else (getSlot s k).gen
        let te := newTenant (getTenant s t) b (i, gen i) (j, gen j)
        let l := if j == 0 then [i] else [i, j]
        let s := applyHier e (noteTenant t (noteSlots l (imgSync t l (adoptEntry t te s))))
        .ok (newApply id it e [] [] s, s)

def svcTenantCreate (id : Nat) (it : Item) : Svc Reply :=
  Svc.signed id it false do
    let e ← Svc.envelope id it (tenantKind 0x12 it (fun e => 4 ≤ e.blen))
    let _ ← Svc.decideOk id (createChecks it.tenant e.body)
    let n := if fld e.body 0 2 == 0 then 32 else 64
    let _ ← Svc.awaitOk (askDraw id { it with nowait := false } (fun _ => 1) n false [] true)
    Svc.apply id (createApply id it e)

/-- TENANT_CREATE. -/
def execTenantCreate (item : Nat) (s : State) : Host.Outcome State Fault Refusal := .next (runSigned 0x0C03 item (svcTenantCreate item) s)

/-- A tenant's vault is deleted: every record becomes unreadable at once (08 R220). -/
def deleteVault (t : Nat) (s : State) : State :=
  let drop (b : Batch) : Batch := { b with writes := b.writes.filter (fun w => w.tenant != t) }
  { s with clc := { s.clc with
    vault := s.clc.vault.filter (fun e => e.1 / 2 ^ 40 != t), shares := terase s.clc.shares t, sessions := terase s.clc.sessions t, batch := drop s.clc.batch, next := drop s.clc.next, copies := s.clc.copies.map (fun c => { c with batch := drop c.batch }) } }

/-- The entry that a deletion leaves: the final C, and what the parts need to let the tenant go. -/
def deletedTenant (e : Tenant) : Tenant :=
  { e with known := false, epoch := e.epoch + 1, ids := [], officers := none, map := none, vgen := e.vgen + 1, recs := [] }

def deleteApply (id : Nat) (it : Item) (e : Envelope) (s : State) : Except (Nat × Nat) (Apply × State) :=
  let t := it.tenant
  match getTenant s t with
  | none => .error (0x0105, 0x01E0)
  | some te =>
    if !te.known then .error (0x0105, 0x01E0)
    else
      let ids := linkedPlaced s t
      let d := deletedTenant te
      let s := applyHier e (modTenant t (fun _ => d) (deleteVault t s))
      let s := sendPlacement s.hier.refs ids (.entry t d) (adoptEntry t d (noteTenant t (imgSync t [] s)))
      .ok (newApply id it e [] ids s, s)

def svcTenantDelete (id : Nat) (it : Item) : Svc Reply :=
  Svc.signed id it false do
    let e ← Svc.envelope id it (tenantKind 0x13 it (fun e => e.blen == 0))
    Svc.apply id (deleteApply id it e)

/-- TENANT_DELETE. -/
def execTenantDelete (item : Nat) (s : State) : Host.Outcome State Fault Refusal := .next (runSigned 0x0C04 item (svcTenantDelete item) s)

/-! ## PLACE (R343) -/

/-- The positions of a PLACE body; none where NPL or IDS is not of its form. -/
def placeIds (b : Bytes) : Option (List Nat) :=
  let ids := ((slice b 4 4).map (·.toNat)).filter (· != 0xFF)
  if ids.length == fld b 0 1 && decide ids.Nodup && ids.all (fun i => i == 0 || (2 ≤ i && i ≤ 17)) then some ids else none

/-- The tenant has slots whose type names a loaded curve. -/
def usesCurves (s : State) (t : Nat) : Bool :=
  (persistentOf s t).any (fun i => let p := getSlot s i; 0x20 ≤ p.type && p.type ≤ 0x3F)

/-- The tenant holds overflow key objects. -/
def usesObjects (s : State) (t : Nat) : Bool := (persistentOf s t).any (fun i => (getSlot s i).ovfl)

/-- What other parts hold and no message told: free (log 33). -/
def partsAgree (ask : Bool) (s : State) : Bool × State :=
  if ask then let u := takeFree 2 s; (u.1 == 0, u.2) else (true, s)

/-- The refusals of PLACE, in order. -/
def placeRefusal (t : Nat) (ids : List Nat) (s : State) : Option Nat × State :=
  let old := ((getTenant s t).map (·.ids)).getD []
  let new := ids.filter (fun i => !old.contains i)
  let remote := new.any (· != 0)
  let held (i : Nat) : Nat := s.hier.dir.countP (fun e => e.2.known && e.2.ids.contains i)
  if ids.any (fun i => i != 0 && (routeTo s i).isNone) then (some 0x01E3, s)
  else
    let u := partsAgree (remote && usesCurves s t) s
    if !u.1 then (some 0x01E4, u.2)
    else if new.any (fun i => 64 ≤ held i) then (some 0x01E5, u.2)
    else if usesObjects s t && new.contains 0 && s.clc.st != .opened then (some 0x01B9, u.2)
    else
      let v := partsAgree (remote && usesObjects s t) u.2
      (if v.1 then none else some 0x01B9, v.2)

/-- The new placement in the directory; the newly placed parts receive their slots first (R343 steps 1 and 2). -/
def placeApply (id : Nat) (it : Item) (e : Envelope) (s : State) : Except (Nat × Nat) (Apply × State) :=
  let t := it.tenant
  let b := e.body
  if fld b 1 3 != 0 then .error (0x0105, 4)
  else
    match placeIds b, getTenant s t with
    | none, _ => .error (0x0105, 5)
    | some _, none => .error (0x0105, 0x01E0)
    | some ids, some te =>
      if !te.known then .error (0x0105, 0x01E0)
      else
        match placeRefusal t ids s with
        | (some d, _) => .error (0x0105, d)
        | (none, s) =>
          let new := ids.filter (fun i => i != 0 && !te.ids.contains i)
          let all := (te.ids ++ new).filter (· != 0)
          let s := applyHier e (modTenant t (fun x => { x with epoch := x.epoch + 1, ids := ids }) s)
          let s := sendSlots t s.hier.refs new (persistentOf s t) true (noteTenant t (imgSync t [] s))
          let u := applyNext { newApply id it e [] new s with after := some (all, t) } s
          .ok u

def svcPlace (id : Nat) (it : Item) : Svc Reply :=
  Svc.signed id it false do
    let e ← Svc.envelope id it (tenantKind 0x14 it (fun e => e.blen == 8))
    Svc.apply id (placeApply id it e)

/-- PLACE. -/
def execPlace (item : Nat) (s : State) : Host.Outcome State Fault Refusal := .next (runSigned 0x0C05 item (svcPlace item) s)

/-! ## HANDOVER, FORCE_ACTIVE (R353, R355) -/

def svcHandover (id : Nat) (it : Item) : Svc Reply := do
  Svc.len it.payload.isEmpty
  let s ← Svc.state
  Svc.bad (isActive s && s.hier.synced && s.hier.handover.isNone) 0x01E6
  Svc.pend id (fun s => handoverStep { s with hier := { s.hier with handover := some (id, none) } })

/-- HANDOVER. -/
def execHandover (item : Nat) (s : State) : Host.Outcome State Fault Refusal := .next (runOpcode 0x0C06 item (svcHandover item) s)

/-- The pair has been undriven for at least 3 µs. -/
def longUndriven (s : State) : Bool := s.hier.undriven && s.hier.undrivenAt + 3000 ≤ s.now

/-- SERIAL of the body is not compared with anything (log 77). -/
def forceApply (id : Nat) (it : Item) (e : Envelope) (s : State) : Except (Nat × Nat) (Apply × State) :=
  if s.hier.mst != .standbyUnsync || !longUndriven s then .error (0x0105, 0x01E7)
  else
    let s := applyHier e (armatureRecord 3 srcLnk (becomeActive false s))
    .ok (newApply id it e [] [] s, s)

def svcForceActive (id : Nat) (it : Item) : Svc Reply :=
  Svc.signed id it true do
    let e ← Svc.envelope id it (hierRule 0x16 0 (fun e => e.blen == 16) (fun s e => e.dserial == s.fab.serial))
    Svc.apply id (forceApply id it e)

/-- FORCE_ACTIVE. -/
def execForceActive (item : Nat) (s : State) : Host.Outcome State Fault Refusal := .next (runSigned 0x0C07 item (svcForceActive item) s)

/-! ## Queries (R339, R354, Table 13.8) -/

/-- MSTATE (Table 13.12). -/
def mstateCode (m : MState) : Nat :=
  match m with
  | .noRoster => 0
  | .arbitrating => 1
  | .active => 2
  | .standbySync => 3
  | .standbyResync => 4
  | .standbyUnsync => 5
  | .serving => 6
  | .hold => 7
  | .purged => 8
  | .resync => 9

/-- HOLD count as registers and replies show it. -/
def holdCount (s : State) : Nat := min 64 s.hier.holdCnt

def hierBytes (s : State) : Bytes :=
  let w := roleOf s == .worker
  let flags := b2n (twinLag s) + 2 * b2n s.hier.roster.isSome + 4 * b2n (portUp s 4)
  let links := (linkedIds s).foldl (fun a i => a + 2 ^ i) 0
  toBE 1 (b2n w) ++ toBE 1 (myId s) ++ toBE 1 (mstateCode s.hier.mst) ++ toBE 1 flags ++ toBE 4 s.hier.mterm ++ toBE 8 s.hier.hctr ++
    toBE 8 ((s.hier.roster.map (·.hid)).getD 0) ++ toBE 8 s.hier.cseq ++ toBE 1 (min 255 (lag s)) ++ toBE 1 (holdCount s) ++ zeros 2 ++
    toBE 4 links ++ (if w then zeros 16 else padTo 16 s.hier.partner) ++ zeros 8

def svcHierQuery (it : Item) : Svc Reply := do
  Svc.len it.payload.isEmpty
  done (hierBytes (← Svc.state))

/-- HIER_QUERY. -/
def execHierQuery (item : Nat) (s : State) : Host.Outcome State Fault Refusal := .next (runOpcode 0x0C09 item svcHierQuery s)

/-- IDS in a reply: unused bytes FFh. -/
def idBytes (l : List Nat) : Bytes := (l.map (BitVec.ofNat 8 ·) ++ List.replicate (4 - l.length) 0xFF).take 4

def dirBytes (s : State) (t : Nat) : Bytes :=
  match getTenant s t with
  | none => zeros 8 ++ idBytes [] ++ zeros 20
  | some e =>
    let here := ((tfind s.hier.placed t).map (·.here)).getD false
    toBE 4 e.epoch ++ toBE 1 e.ids.length ++ zeros 3 ++ idBytes e.ids ++ toBE 2 e.share ++
      toBE 1 (if !e.known then 0 else if here then 1 else 2) ++ zeros 1 ++ handleBytes e.root.1 e.root.2 ++ handleBytes e.vik.1 e.vik.2 ++ toBE 8 e.ctr

def svcDirQuery (it : Item) : Svc Reply := do
  Svc.len it.payload.isEmpty
  done (dirBytes (← Svc.state) it.tenant)

/-- DIR_QUERY. -/
def execDirQuery (item : Nat) (s : State) : Host.Outcome State Fault Refusal := .next (runOpcode 0x0C0A item svcDirQuery s)

def svcTkeyRead (it : Item) : Svc Reply := do
  Svc.len it.payload.isEmpty
  let s ← Svc.state
  Svc.bad (isActive s) 0x01E6
  done ((publicOf s.flash.curves 0x42 s.hier.gseed).getD [])

/-- TKEY_READ. -/
def execTkeyRead (item : Nat) (s : State) : Host.Outcome State Fault Refusal := .next (runOpcode 0x0C0B item svcTkeyRead s)

end Sys2Proof.Machine
end

