-- ==== Sys2Proof/Machine/LifeCycleOps.lean ====
section
/-! DEFINITION. Class 0Dh: life-cycle transitions, personalisation, debug authorisation, POWER_CTL (15 R386-R401, R406). -/

set_option Elab.async false

namespace Sys2Proof.Machine

/-- LIFECYCLE with the current code, where a condition on the state in force fails. -/
def Svc.lifeCycle (ok : LifeCycle → Bool) : Svc Unit := do
  let s ← Svc.state
  Svc.check (ok s.otp.force) 0x0901 (lcCode s.otp.force)

/-! ## LC_STATUS (Table 15.10) -/

/-- Bits 31:16 of a copy's last programmed row. -/
def rowCode (rows : List Nat) : Nat := (rows.getLast?.map (· / 65536)).getD 0

/-- Unprogrammed intent rows. -/
def intentFree (s : State) : Nat := 8 - s.otp.intent.length

/-- Copies that have a value, as bits. -/
def copiesValid (s : State) : Nat := b2n (copyValue s.otp.copy1).isSome + 2 * b2n (copyValue s.otp.copy2).isSome + 4 * b2n (copyValue s.otp.copy3).isSome

def krootCode (k : KRoot) : Nat :=
  match k with
  | .independent => 0
  | .maquette => 1
  | .unset => 0xFF

def lcStatusBytes (s : State) : Bytes :=
  let rows := [s.otp.copy1, s.otp.copy2, s.otp.copy3].flatMap (fun c => toBE 2 (rowCode c))
  toBE 2 (lcCode s.otp.force) ++ rows ++ toBE 2 ((intentValue s.otp.intent).map lcCode |>.getD 0) ++
    toBE 1 (copiesValid s + 8 * b2n s.boot.rollfwd) ++ toBE 1 (intentFree s) ++ toBE 1 (krootCode s.otp.kroot) ++
    toBE 1 (b2n s.grd.dbgOpen) ++ toBE 2 (if s.grd.dbgOpen then s.grd.rights.toNat else 0) ++ toBE 1 (b2n s.hier.hoff.isSome) ++
    toBE 1 (b2n s.grd.p1en) ++ toBE 1 s.grd.p1idle ++ zeros 1 ++ toBE 4 s.bk.pwrcyc ++ zeros 8

def svcLcStatus (it : Item) : Svc Reply := do
  Svc.len it.payload.isEmpty
  done (lcStatusBytes (← Svc.state))

/-- LC_STATUS. -/
def execLcStatus (item : Nat) (s : State) : Host.Outcome State Fault Refusal := .next (runOpcode 0x0D01 item svcLcStatus s)

/-! ## LC_TRANSITION (R388-R390) -/

def envTarget (e : Envelope) : Option LifeCycle := lcOf (fld e.body 0 2)

/-- The state in force before the last row of the copies: the code that at least two of them held. -/
def previousCode (o : Otp) : Option Nat :=
  let prev (c : List Nat) : List Nat := c.dropLast
  (majority { o with copy1 := prev o.copy1, copy2 := prev o.copy2, copy3 := prev o.copy3 }).map lcCode

/-- Step 4 as R389 substitutes it. -/
def lcStep4 (s : State) (e : Envelope) : Option (Nat × Nat) :=
  let now := lcCode s.otp.force
  match envTarget e with
  | none => some (0x0901, now)
  | some t =>
    if t == s.otp.force && previousCode s.otp == some e.counter then some (0x0010, 0)
    else if e.counter != now || !permitted s.otp.force t then some (0x0901, now)
    else none

/-- The sets that Table 15.2 asks to sign: the Moante set, the hierarchy officer quorum. -/
def lcSigners (s : State) (t : LifeCycle) : Bool × Bool :=
  match s.otp.force, t with
  | .perso, .field => (false, true)
  | .field, .analysis => (true, true)
  | .perso, .void => (s.hier.hoff.isNone, s.hier.hoff.isSome)
  | .field, .void => (false, true)
  | _, _ => (true, false)

/-- The signers of both sets together. -/
def lcOfficer (s : State) (w : Bool × Bool) (i : Nat) : Option (Nat × Bytes) :=
  if 0x80 ≤ i then (if w.1 then moanteOfficer s i else none) else (if w.2 then setOfficer s.hier.hoff i else none)

def lcShort (s : State) (w : Bool × Bool) (l : List Nat) : Option Nat :=
  let m := l.filter (0x80 ≤ ·)
  let h := l.filter (· < 0x80)
  if (w.1 && m.length < 2) || (w.2 && (setShort s.hier.hoff h).isSome) then some l.length else none

/-- The rule of KIND 18h, for the TARGET of its message. -/
def lcRule (it : Item) (s : State) : EnvRule :=
  let w := lcSigners s ((envTarget (envelopeOf it.payload)).getD .void)
  { kind := 0x18, shut := false, formOk := fun e => (envTarget e).isSome && e.counter < 65536, malformed := 0x01F4, lenOk := fun e => e.blen == 4, serial := fun e => e.dserial == s.fab.serial, tenant := 0, counter := lcStep4 s, held := !w.2 || s.hier.hoff.isSome, officer := lcOfficer s w, short := lcShort s w }

/-- A tenant context is attached, or the part is the active manager. -/
def serving (s : State) : Bool := !s.hfe.ctxs.isEmpty || isActive s

/-- Step 6 of R389. -/
def lcPrerequisites (s : State) (e : Envelope) : Option Nat :=
  if fld e.body 2 2 != 0 then some 4
  else if serving s then some 0x01F7
  else if s.otp.force == .perso && envTarget e == some .field && (s.hier.hoff.isNone || s.otp.kroot == .unset) then some 0x01F8
  else if 8 ≤ s.otp.intent.length then some 0x01F9
  else none

/-- Steps 1 to 3 of R390 begin: fetch stops with the intent row; sap and the records that a transition erases go at once. -/
def lcBegin (t : LifeCycle) (s : State) : State :=
  let former := s.otp.force
  let s := { s with otp := { s.otp with intent := s.otp.intent ++ [lcRow t] } }
  if t == .analysis || (t == .void && former != .analysis) then eraseRecords (clearSap s)
  else if t == .perso then clearSap s
  else s

def svcLcTransition (id : Nat) (it : Item) : Svc Reply :=
  Svc.signed id it true do
    let e ← Svc.envelope id it (lcRule it)
    match lcPrerequisites (← Svc.state) e with
    | some d => Svc.finish 0x0105 d
    | none => Svc.pend id (lcBegin ((envTarget e).getD .void))

/-- LC_TRANSITION. -/
def execLcTransition (item : Nat) (s : State) : Host.Outcome State Fault Refusal := .next (runSigned 0x0D02 item (svcLcTransition item) s)

/-- The item whose transition runs. -/
def lcItem (s : State) : Option Nat :=
  (s.dsp.items.find? (fun e => e.2.opcode == 0x0D02 && waitsFor s e.1 .event && e.2.gateAt < e.2.answers.length)).map (·.1)

/-- LC_ERASE_COMPLETE (R390 steps 3 to 6): the copies are programmed, the reply is written, and the part resets; the life-cycle
state in force is that of the start-up after it. -/
def execLcEraseComplete (s : State) : Host.Outcome State Fault Refusal :=
  match lcItem s, rollInto s.otp with
  | some id, some t =>
    let s := completeCopies t (transitionEffects s.otp.force t s)
    .next (restart .lifecycle .nothing 0x0701 0 (replyNow id (.bare 0 0) s))
  | _, _ => .next s

/-! ## KROOT_SET, HOFF_INSTALL (R393, R394) -/

/-- KROOT_MODE is set; the message advances H of this part. -/
def krootApply (e : Envelope) (s : State) : State :=
  applyHier e { s with otp := { s.otp with kroot := if fld e.body 0 1 == 0 then .independent else .maquette } }

def svcKrootSet (id : Nat) (it : Item) : Svc Reply := do
  Svc.lifeCycle (· == .perso)
  Svc.signed id it true do
    let e ← Svc.envelope id it (hierRule 0x19 0 (fun e => e.blen == 4) (fun s e => e.dserial == s.fab.serial))
    Svc.check (fld e.body 1 3 == 0) 0x0105 4
    Svc.range (fld e.body 0 1 ≤ 1)
    Svc.update (krootApply e)
    done

/-- KROOT_SET. -/
def execKrootSet (item : Nat) (s : State) : Host.Outcome State Fault Refusal := .next (runSigned 0x0D03 item (svcKrootSet item) s)

/-- The rule of KIND 1Ah: signed by the set that it installs, which must be valid before it can sign. -/
def hoffRule (it : Item) (s : State) : EnvRule :=
  let c := officerCheck (envelopeOf it.payload).body
  let o := match c with
    | .ok o => some o
    | .error _ => none
  let step4 : Option (Nat × Nat) :=
    if s.hier.hoff.isSome then some (0x0105, 0x01FA)
    else match c with
      | .error u => some u
      | .ok _ => none
  { kind := 0x1A, shut := false, formOk := fun e => e.counter == 0, lenOk := fun _ => true, serial := fun e => e.dserial == s.fab.serial, tenant := 0, counter := fun _ => step4, held := o.isSome, officer := setOfficer o, short := setShort o }

def hoffApply (e : Envelope) (s : State) : State :=
  { s with hier := { s.hier with hoff := officerSet e.body, hctr := 0, hrecs := [] } }

def svcHoffInstall (id : Nat) (it : Item) : Svc Reply := do
  Svc.lifeCycle (· == .perso)
  Svc.signed id it true do
    let e ← Svc.envelope id it (hoffRule it)
    Svc.update (hoffApply e)
    done

/-- HOFF_INSTALL. -/
def execHoffInstall (item : Nat) (s : State) : Host.Outcome State Fault Refusal := .next (runSigned 0x0D04 item (svcHoffInstall item) s)

/-! ## DEBUG_OPEN (R396-R398) -/

/-- The co-signature entries of a certificate, as far as they reach. -/
def cosigs (b : Bytes) : Option (List SigEntry × Bytes) := sigEntries (fld b 128 1) (b.drop 132)

/-- A reserved field of the certificate is set, or RIGHTS bit 15. -/
def certRsvd (b : Bytes) : Bool := fld b 6 2 != 0 || fld b 28 4 != 0 || fld b 129 3 != 0 || bit (fld b 2 2) 15

/-- Steps 2 to 5 of R397. -/
def certChecks (b : Bytes) (s : State) : Option (Nat × Nat) :=
  let l := ((cosigs b).map (·.1)).getD []
  if certRsvd b then some (0x0105, 4)
  else if fld b 0 2 != 1 || 15 < fld b 128 1 || !l.all SigEntry.form then some (0x0105, 0x01F4)
  else if s.grd.dbgOpen then some (0x0105, 0x01F5)
  else if fld b 4 2 != lcCode s.otp.force then some (0x0901, lcCode s.otp.force)
  else if slice b 8 16 != s.fab.serial then some (0x0308, 1)
  else if fld b 24 4 != s.bk.pwrcyc then some (0x0307, 0)
  else none

/-- The co-signatures are those of the hierarchy officer set (R397 step 6). -/
def needsCosigs (s : State) : Bool := s.otp.force == .field || (s.otp.force == .perso && s.hier.hoff.isSome)

/-- A right that the state does not grant (Table 15.6): SCAN in PERSO and FIELD. -/
def rightRefused (s : State) (rights : Nat) : Bool := bit rights 0 && (s.otp.force == .perso || s.otp.force == .field)

/-- A purge of class B scope (R398 step 2): slots, DRBG states, engine states, engine context key. Instances 0 and 1 and the
key come anew (step 4; log 85). -/
def debugPurge (s : State) : State :=
  let s := { s with
    vks := { s.vks with slots := [], epoch := s.vks.epoch + 1, freed := [], reserved := [] }
    eng := { s.eng with cache := [], saved := [], streams := [], ekey := none }
    ent := { s.ent with insts := [], ekey := false, urgent := [], normal := s.ent.normal.filter (· == .refill) } }
  instantiate 1 noTenant (instantiate 0 noTenant s)

/-- The trellis and twin ports are held down (R398 step 3). -/
def holdPorts (s : State) : State :=
  s.hier.ports.foldl (fun (s : State) (e : Nat × Port) => portDown e.1 s) { s with hier := { s.hier with portsHeld := true } }

/-- The root with debug open (R398 step 5, 09 Table 9.13); what the former root enciphered can be read no more, the cellar with it
(Table 15.4; log 86). -/
def debugRoot (s : State) : State :=
  let s := if s.otp.kroot == .maquette then setRoot .maquette maquetteRoot s else setRoot .none_ [] s
  cellarClose 0 s

/-- Debug opens: in PERSO and FIELD what the certificate must not see is erased first. -/
def debugOpens (rights : Nat) (s : State) : State :=
  let r := BitVec.ofNat 16 rights
  if s.otp.force == .perso || s.otp.force == .field then
    let s := debugRoot (holdPorts (debugPurge (clearSap s)))
    let s := openDebug r { s with grd := { s.grd with erased := true } }
    if s.fcr.st == .normal then { s with fcr := { s.fcr with st := .test } } else s
  else openDebug r s

/-- The context string of a co-signature of ALG 02h (Table 15.5). -/
def debugContext : Bytes := ascii "VORDAR DEBUG"

/-- The co-signatures, signatures 1 to NCOS. -/
def debugQuorum (id : Nat) (it : Item) (l : List SigEntry) : Svc Unit := do
  let s ← Svc.state
  if needsCosigs s then
    let d ← sigGo id it debugContext (it.b 0 128) (setOfficer s.hier.hoff) 1 l []
    match setShort s.hier.hoff d with
    | some n => Svc.finish 0x0309 n
    | none => pure ()
  else Svc.bad l.isEmpty 0x01F4

def svcDebugOpen (id : Nat) (it : Item) : Svc Reply := do
  let b := it.payload
  let l := ((cosigs b).map (·.1)).getD []
  Svc.lifeCycle (· != .void)
  Svc.len (132 ≤ b.length && (match cosigs b with | some (_, []) => true | _ => false))
  let _ ← Svc.decideOk id (fun s => match certChecks b s with
    | some u => (.err u.1 u.2, s)
    | none => (.nums [], s))
  let s ← Svc.state
  let ok ← Svc.sigOk id it debugContext 1 s.fab.dbgKey (slice b 32 96) (it.b 0 32)
  Svc.check ok 0x0306 0
  debugQuorum id it l
  let s ← Svc.state
  Svc.bad (!rightRefused s (fld b 2 2)) 0x01F6
  Svc.bad (!serving s) 0x01F7
  Svc.bad (!s.grd.dbgOpen) 0x01F5
  Svc.update (debugOpens (fld b 2 2))
  done

/-- DEBUG_OPEN. -/
def execDebugOpen (item : Nat) (s : State) : Host.Outcome State Fault Refusal := .next (runOpcode 0x0D05 item (svcDebugOpen item) s)

/-! ## POWER_CTL (R401) -/

/-- P2 may not be entered: debug, a tenant placed or attached, a manager's duty. -/
def p2Refused (s : State) : Bool :=
  s.grd.dbgOpen || !s.hfe.ctxs.isEmpty || s.hier.placed.any (fun e => e.2.here) || isActive s || s.hier.mst == .standbySync || s.hier.mst == .standbyResync

def svcPowerCtl (id : Nat) (it : Item) : Svc Reply := do
  Svc.lifeCycle (· != .void)
  Svc.len (it.payload.length == 4)
  Svc.zero it [(3, 1)]
  let req := it.f 2 1
  Svc.range (it.f 0 1 ≤ 1 && 1 ≤ it.f 1 1 && (req == 0 || req == 2))
  if req == 2 then Svc.lifeCycle (fun l => l == .perso || l == .field) else pure ()
  let s ← Svc.state
  Svc.bad (req == 0 || !p2Refused s) 0x01FB
  Svc.update (fun s => { s with grd := { s.grd with p1en := it.f 0 1 == 1, p1idle := it.f 1 1, p2item := if req == 2 then some id else s.grd.p2item } })
  done

/-- POWER_CTL. -/
def execPowerCtl (item : Nat) (s : State) : Host.Outcome State Fault Refusal := .next (runOpcode 0x0D06 item (svcPowerCtl item) s)

end Sys2Proof.Machine
end

