-- ==== Sys2Proof/Machine/Peers.lean ====
section
/-! DEFINITION. Link bring-up, the messages of the trellis and twin links, and the timers of managers and workers (13
R335-R337, R343-R351, R355-R359; 02 R29-R32). -/

set_option Elab.async false

namespace Sys2Proof.Machine

/-! ## Messages from managers -/

/-- A worker that has a manager again compares its state with it; what waited for a manager is sent (Table 13.9). -/
def leaveHold (s : State) : State :=
  if s.hier.mst == .hold || s.hier.mst == .purged then flushForwards { s with hier := { s.hier with mst := .resync } } else s

/-- A message that a manager originated: dropped under a lower MTERM; under a higher one an active manager gives up (R346). -/
def fromManager (mterm : Nat) (f : State → State) (s : State) : State :=
  if mterm < s.hier.mterm then s
  else if isActive s then (if s.hier.mterm < mterm then giveUp s else s)
  else f (leaveHold { s with hier := { s.hier with mterm := mterm, heard := s.now } })

/-- A message of the active manager reaches another part, over a link that is UP. -/
def managerMessage (mterm : Nat) (f : State → State) (s : State) : Host.Outcome State Fault Refusal :=
  if peerLive s && (isActive s || (managerPort s).isSome) then .next (fromManager mterm f (receivedManager s)) else .next s

/-- The ports of a direct worker to the workers behind it. -/
def behindPorts (s : State) : List Nat :=
  if roleOf s == .worker && 2 ≤ myId s && myId s ≤ 5 then [1, 2, 3].filter (fun k => portUp s k) else []

/-- A direct worker passes a manager's message on. -/
def passDown (m : LinkMsg) (s : State) : State := (behindPorts s).foldl (fun (s : State) (k : Nat) => sendOn k m s) s

/-! ## Bring-up (R335, R336) -/

/-- A check of a bring-up fails: REJECTED, with the step (R335). -/
def rejectPort (k step : Nat) (s : State) : State :=
  armatureRecord 2 srcLnk (setPort k (fun p => { p with st := .rejected, failst := step, hello := none }) s)

/-- Step 3: the chain, the roster, the position, HID. -/
def helloOk (s : State) (k : Nat) (m : HelloMsg) : Bool :=
  match s.hier.roster with
  | none => false
  | some r => Config.chainVerifies m.chain m.serial && m.hid == r.hid &&
      r.parts.any (fun e => e.1 == m.serial && e.2.1 == expectedPeer s k && e.2.2 == (if e.2.1 ≤ 1 then 0 else 1))

/-- A HELLO on a port that trains. -/
def helloTaken (k : Nat) (m : HelloMsg) (s : State) : State :=
  if helloOk s k m then sendOn k .finish (setPort k (fun p => { p with st := .auth, hello := some m }) s) else rejectPort k 3 s

/-- HELLO_MESSAGE. On a link that was UP, or further than training, the peer has begun anew: the link trains again. -/
def execHelloMessage (port : Nat) (m : HelloMsg) (s : State) : Host.Outcome State Fault Refusal :=
  if !peerLive s || s.hier.portsHeld || !(portKeys s).contains port || portIsolated s port then .next s
  else
    let s := received port s
    match (getPort s port).st with
    | .rejected => .next s
    | .training => .next (helloTaken port m s)
    | .down => .next (helloTaken port m (trainPort port s))
    | .auth => .next (helloTaken port m (trainPort port s))
    | .up => .next (helloTaken port m (trainPort port (portDown port s)))

/-- The twin link has come up. -/
def twinUp (serial : Bytes) (s : State) : State :=
  let s := { s with hier := { s.hier with partner := serial } }
  match s.hier.mst with
  | .active => noteHier (newTransport serial { s with hier := { s.hier with resyncN := if s.hier.synced then 0 else 1 } })
  | .arbitrating => { s with hier := { s.hier with arbAt := s.now } }
  | .standbyUnsync => if s.hier.undriven then s else { s with hier := { s.hier with mst := .standbyResync } }
  | _ => s

/-- A trellis link has come up: the active manager refills what lies behind it, a worker sends what waited. -/
def trellisLinked (k : Nat) (s : State) : State :=
  if isActive s then partsLinked ((rosterWorkers s).filter (fun i => routeTo s i == some k)) s
  else flushForwards (measureLatency { s with hier := { s.hier with heard := s.now } })

/-- A link is UP (R335 step 6). -/
def linkUp (k : Nat) (h : HelloMsg) (m : FinishMsg) (s : State) : State :=
  let s := setPort k (fun p =>
    { p with st := .up, width := m.width, speed := m.speed, peer := some (expectedPeer s k), key := Config.linkKey k p.shakes, shakes := p.shakes + 1 }) s
  if isActive s && s.hier.mterm < h.mterm then giveUp s
  else
    let s := { s with hier := { s.hier with mterm := max s.hier.mterm h.mterm } }
    if k == 4 then twinUp h.serial s else trellisLinked k s

/-- FINISH_MESSAGE. -/
def execFinishMessage (port : Nat) (m : FinishMsg) (s : State) : Host.Outcome State Fault Refusal :=
  let p := getPort s port
  match p.st, p.hello with
  | .auth, some h =>
    if !peerLive s then .next s
    else if Config.finishVerifies m.sigs m.confirm then .next (linkUp port h m (received port s))
    else .next (rejectPort port 6 (received port s))
  | _, _ => .next s

/-- LINK_RETRY: every 1 s a REJECTED link is attempted again. -/
def execLinkRetry (port : Nat) (s : State) : Host.Outcome State Fault Refusal :=
  if peerLive s && !s.hier.portsHeld && (getPort s port).st == .rejected then .next (trainPort port s) else .next s

/-- The source of a port's faults (16 Table 16.2). -/
def srcPort (k : Nat) : Nat := 0x0B00 + k % 8

/-- Tag failures of a port within 1 ms. -/
def tagWindow (l : List Nat) (t : Nat) : List Nat := l.filter (fun x => t < x + 1000000) ++ [t]

/-- FRAME_TAG_FAILURE (R336): a corrected fault of the port; the sixteenth within 1 ms is a contained one. -/
def execFrameTagFailure (port at_ : Nat) (s : State) : Host.Outcome State Fault Refusal :=
  if !linkLive s || !portUp s port then .next s
  else
    let s := s.at_ at_
    let l := tagWindow (getPort s port).tagAt s.now
    let s := setPort port (fun p => { p with tagAt := l }) s
    let s := count 0xDD none (eachCopy (fun c => { c with perr := tput c.perr port (satAdd max32 (tget c.perr port 0) 1) }) s)
    if l.length < 16 then .next (corrected (srcPort port) causeTag 0 s)
    else .next (uncorrectable { src := srcPort port, t := true, c := false, corrected := false, cause := causeTag, addr := 0, subject := 0 } causeTag false s)

/-- FRAME_COUNTER_LIMIT (R336): the handshake is repeated and the keys change; its frames pass inside the step (log 73). -/
def execFrameCounterLimit (port : Nat) (s : State) : Host.Outcome State Fault Refusal :=
  if !linkLive s || !portUp s port then .next s
  else
    let s := setPort port (fun p => { p with key := Config.linkKey port p.shakes, shakes := p.shakes + 1 }) s
    .next (sendOn port .finish (sendOn port .hello s))

/-! ## Polls and HOLD (R359) -/

/-- POLL_TIMER: every 1 ms the active manager polls its trellis ports; a worker answers a POLL and passes it on. In P2 the
link hardware answers (15 R402). -/
def execPollTimer (at_ : Nat) (m : Option PollMsg) (s : State) : Host.Outcome State Fault Refusal :=
  if !linkLive s then .next s
  else
    match m with
    | none =>
      if isActive s then
        let s := s.at_ at_
        .next ((trellisUp s).foldl (fun (s : State) (k : Nat) => sendOn k .poll s) s)
      else .next s
    | some p =>
      if roleOf s == .worker && (managerPort s).isSome then
        .next (fromManager p.mterm (fun s => passDown .poll (sendManager .status s)) (receivedManager (s.at_ at_)))
      else .next s

/-- The worker is bound to a manager. -/
def following (s : State) : Bool := s.hier.mst == .serving || s.hier.mst == .resync

/-- MANAGER_LOST: 3 ms without a valid manager message; lookups that wait for a lease end (09 R244). -/
def execManagerLost (s : State) : Host.Outcome State Fault Refusal :=
  if peerLive s && roleOf s == .worker && following s then
    let s := s.at_ (s.hier.heard + 3000000)
    .next (exhaustLease (fun _ => true) (armatureRecord 2 srcLnk { s with hier := { s.hier with mst := .hold, holdCnt := 0 } }))
  else .next s

/-- The ephemeral slots of every tenant are scrubbed (Table 13.9). -/
def scrubEphemeral (s : State) : State :=
  (s.vks.slots.filter (fun e => 256 ≤ e.1 && !e.2.free && !e.2.held && !e.2.persist)).foldl
    (fun (s : State) (e : Nat × Slot) => scrubSlot e.1 s) s

/-- HOLD_LIMIT: the HOLD count has reached 64. -/
def execHoldLimit (s : State) : Host.Outcome State Fault Refusal :=
  if peerLive s && s.hier.mst == .hold && 64 ≤ s.hier.holdCnt then
    let waiting (s : State) (i : Nat) : Bool := waitsFor s i .forward
    let s := endItems (fun i _ => waiting s i) 0x0205 1 (scrubEphemeral { s with hier := { s.hier with mst := .purged } })
    .next { s with hier := { s.hier with fwd := [] } }
  else .next s

/-- RESYNC_COMPLETE: the comparison with the manager is over. -/
def execResyncComplete (s : State) : Host.Outcome State Fault Refusal :=
  if peerLive s && s.hier.mst == .resync && (managerPort s).isSome then
    .next (flushForwards { s with hier := { s.hier with mst := .serving, holdCnt := 0 } })
  else .next s

/-! ## Slots that arrive (09 R248, R254) -/

/-- A persistent slot as a message brings it; `keep`: its lease here stays, where the slot is the same one. -/
def takeSlot (keep : Bool) (i : Nat) (p : Slot) (s : State) : State :=
  let old := getSlot s i
  let s := freeObject old s
  if p.free then
    let s := putSlot i { p with entry := none } (freeEntry old s)
    if old.free then s else { s with vks := { s.vks with freed := s.vks.freed ++ [i] } }
  else
    let stay := p.hcache && old.hcache && old.gen == p.gen
    let s := if stay then s else freeEntry old s
    let k := if p.ovfl then storeKey p.owner p.type p.key s else (p.key, false, s)
    let use := if keep && old.persist && old.gen == p.gen then old.ucount else 0
    giveEntry i (unfree i (putSlot i { p with key := k.1, ucount := use, entry := if stay then old.entry else none } k.2.2))

/-- Slots with their image record. -/
def takeSlots (keep : Bool) (l : List (Nat × Slot)) (s : State) : State :=
  if l.isEmpty then s
  else
    let s := l.foldl (fun (s : State) (e : Nat × Slot) => takeSlot keep e.1 e.2 s) s
    imgAppend (fun m => { m with slots := l.foldl (fun a e =>
      let p := getSlot s e.1
      if p.free || !p.persist then terase a e.1 else tput a e.1 (imgSlot p)) m.slots }) s

/-- A complete set: persistent slots of the tenant that it leaves out are gone. -/
def dropOthers (t : Nat) (l : List (Nat × Slot)) (s : State) : State :=
  let out := (persistentOf s t).filter (fun i => !l.any (fun e => e.1 == i))
  let s := out.foldl (fun (s : State) (i : Nat) => wipeSlot i s) s
  if out.isEmpty then s else imgAppend (fun m => { m with slots := m.slots.filter (fun e => !out.contains e.1) }) s

/-- The tenant's slots are complete here. -/
def setFull (t : Nat) (s : State) : State :=
  let p := tget s.hier.placed t { epoch := 0, here := false, full := false }
  { s with hier := { s.hier with placed := tput s.hier.placed t { p with full := true } } }

/-- KEYDIST is applied and acknowledged. -/
def keydistTake (m : KeydistMsg) (s : State) : State :=
  let s := takeSlots true m.slots (if m.complete then dropOthers m.tenant m.slots s else s)
  sendManager (.keydistAck m.ref) (if m.complete then setFull m.tenant s else s)

/-! ## Epochs (R345) -/

/-- A message is held for a placement update. -/
def holdMessage (m : HeldMsg) (s : State) : State := { s with hier := { s.hier with msgs := s.hier.msgs ++ [(s.now, m)] } }

/-- A message about a tenant: executed under the epoch held, rejected under a lower one, held under a higher one. -/
def byEpoch (t epoch : Nat) (held : HeldMsg) (reject take : State → State) (s : State) : State :=
  let ep := epochOf s t
  if epoch < ep then reject s else if ep < epoch then holdMessage held s else take s

/-- The rejection of a KEYDIST or an ANSWER. -/
def rejectToManager (ref t : Nat) (s : State) : State := sendManager (.stale ref (epochOf s t)) s

/-- The complete set of a placement comes before the placement's epoch and is taken at once (R343 steps 2 and 3; log 74). -/
def keydistIn (m : KeydistMsg) (s : State) : State :=
  if m.complete && epochOf s m.tenant ≤ m.epoch then keydistTake m s
  else byEpoch m.tenant m.epoch (.keydist m) (rejectToManager m.ref m.tenant) (keydistTake m) s

/-- The rejection of a forwarded message. -/
def rejectForward (m : ForwardMsg) (s : State) : State :=
  sendTo m.fromId (.answer { mterm := s.hier.mterm, tenant := m.tenant, epoch := epochOf s m.tenant, item := m.ref, body := .stale (epochOf s m.tenant) }) s

/-- A forwarded message becomes an item without a queue: its answer takes the place of a reply (09 R254; log 30). -/
def forwardItemOf (m : ForwardMsg) : Item :=
  { fn := fnForward, q := 0, pos := m.fromId, tag := 0, raddr := m.ref, rcap := 0, opcode := m.opcode, tenant := m.tenant, flow := 0, ord := false, seq := 0, nowait := m.nowait, pcrc := false, key := 0, epoch := m.epoch, notafter := 0, payload := m.payload, rsvd := false, crcOk := true, sn := 0, arr := 0, level := 31, phase := .ready, answers := [], holding := [], slot := none, wrote := none, map := none, windows := [], outer := none, reply := none, source := m.source }

/-- Entries for forwarded work lie behind the decanter's. -/
def forwardTake (m : ForwardMsg) (s : State) : State :=
  let id := firstGap 8192 (s.dsp.items.filter (fun e => 8192 ≤ e.1))
  enterList id { s with dsp := { s.dsp with items := tput s.dsp.items id (forwardItemOf m) } }

/-- The hierarchy's own kinds are work about no tenant's placement (log 81). -/
def forwardIn (m : ForwardMsg) (s : State) : State :=
  if opClass m.opcode == 0x0C then forwardTake m s
  else byEpoch m.tenant m.epoch (.forward m) (rejectForward m) (forwardTake m) s

/-- The item completes with the answer. -/
def answerTake (m : AnswerMsg) (s : State) : State :=
  let a : Answer := match m.body with
    | .reply 0 _ b => .ok b
    | .reply st d _ => .err st d
    | .stale e => .err 0x0204 (e % 65536)
  if awaitsAnswer s m.item && ((getItem s m.item).map (·.tenant)) == some m.tenant then itemAnswer m.item a s else s

def answerIn (m : AnswerMsg) (s : State) : State :=
  let stale := match m.body with
    | .stale _ => true
    | .reply _ _ _ => false
  if stale || ((getItem s m.item).map (fun i => opClass i.opcode)) == some 0x0C then answerTake m s
  else byEpoch m.tenant m.epoch (.answer m) (rejectToManager m.item m.tenant) (answerTake m) s

/-- A held message is judged again after a placement update. -/
def heldIn (m : HeldMsg) (s : State) : State :=
  match m with
  | .keydist k => keydistIn k s
  | .forward f => forwardIn f s
  | .answer a => answerIn a s
  | .lease l => leaseIn l s

/-- The tenant of a held message. -/
def heldTenant (m : HeldMsg) : Nat :=
  match m with
  | .keydist k => k.tenant
  | .forward f => f.tenant
  | .answer a => a.tenant
  | .lease l => l.tenant

/-- The epoch of a held message. -/
def heldEpoch (m : HeldMsg) : Nat :=
  match m with
  | .keydist k => k.epoch
  | .forward f => f.epoch
  | .answer a => a.epoch
  | .lease l => l.epoch

/-- The messages that a new epoch lets through, or makes stale. -/
def releaseHeld (t : Nat) (s : State) : State :=
  let ready (e : Nat × HeldMsg) : Bool := heldTenant e.2 == t && heldEpoch e.2 ≤ epochOf s t
  let l := s.hier.msgs.filter ready
  l.foldl (fun (s : State) (e : Nat × HeldMsg) => heldIn e.2 s)
    { s with hier := { s.hier with msgs := s.hier.msgs.filter (fun e => !ready e) } }

/-- The rejection of a held message. -/
def rejectHeld (m : HeldMsg) (s : State) : State :=
  match m with
  | .keydist k => rejectToManager k.ref k.tenant s
  | .forward f => rejectForward f s
  | .answer a => rejectToManager a.item a.tenant s
  | .lease l => sendTo l.fromId (.stale l.slot (epochOf s l.tenant)) s

/-- EPOCH_HOLD_TIMEOUT: the oldest held message has waited 1 ms. -/
def execEpochHoldTimeout (s : State) : Host.Outcome State Fault Refusal :=
  match s.hier.msgs with
  | [] => .next s
  | (t, m) :: r => .next (rejectHeld m ({ s with hier := { s.hier with msgs := r } }.at_ (t + 1000000)))

/-! ## Messages to a placed part -/

/-- A directory entry: the new epoch and placement are adopted and acknowledged (R344). -/
def entryIn (ref t : Nat) (e : Tenant) (s : State) : State :=
  if e.epoch < epochOf s t then rejectToManager ref t s
  else releaseHeld t (sendManager (.keydistAck ref) (imgSync t [] (adoptEntry t e s)))

/-- The transport keys of the hierarchy, this part's own among them (R337). -/
def transportIn (keys : List (Bytes × Bytes)) (s : State) : State :=
  let own := (keys.find? (fun e => e.1 == s.fab.serial)).map (·.2)
  { s with hier := { s.hier with tkeys := keys, ownTkey := own.getD s.hier.ownTkey } }

def placementIn (m : PlacementMsg) (s : State) : State :=
  match m.body with
  | .entry t e => entryIn m.ref t e s
  | .transport keys => transportIn keys s
  | .hier op env => sendManager (.keydistAck m.ref) (hierHere op env s)

/-- PLACEMENT_MESSAGE. -/
def execPlacementMessage (at_ : Nat) (m : PlacementMsg) (s : State) : Host.Outcome State Fault Refusal :=
  managerMessage m.mterm (placementIn m) (s.at_ at_)

/-- KEYDIST_MESSAGE. -/
def execKeydistMessage (at_ : Nat) (m : KeydistMsg) (s : State) : Host.Outcome State Fault Refusal :=
  managerMessage m.mterm (keydistIn m) (s.at_ at_)

/-- ANSWER_MESSAGE. -/
def execAnswerMessage (at_ : Nat) (m : AnswerMsg) (s : State) : Host.Outcome State Fault Refusal :=
  managerMessage m.mterm (answerIn m) (s.at_ at_)

/-- A takeover: its MTERM and serial are adopted; what waited for the former manager ends (R351 step 3). -/
def takeoverIn (mterm : Nat) (serial : Bytes) (s : State) : State :=
  let s := failover { s with hier := { s.hier with partner := serial } }
  reaskLeases (flushForwards (passDown (.takeover mterm serial) s))

/-- TAKEOVER_MESSAGE. -/
def execTakeoverMessage (at_ mterm : Nat) (serial : Bytes) (s : State) : Host.Outcome State Fault Refusal :=
  managerMessage mterm (takeoverIn mterm serial) (s.at_ at_)

/-- EDGE_MESSAGE (02 R29-R31): queued for its instant, and passed on. -/
def execEdgeMessage (at_ : Nat) (m : EdgeMsg) (s : State) : Host.Outcome State Fault Refusal :=
  if linkLive s && roleOf s == .worker && (managerPort s).isSome then
    .next (fromManager m.mterm (fun s => passDown (.edge m) (queueEdge s.now m s)) (receivedManager (s.at_ at_)))
  else .next s

/-! ## Messages to the active manager -/

/-- The part at a position can be heard. -/
def heardFrom (s : State) (id : Nat) : Bool := peerLive s && isActive s && (routeTo s id).isSome

/-- KEYDIST_ACK (09 R254, 13 R343). -/
def execKeydistAck (fromId ref : Nat) (s : State) : Host.Outcome State Fault Refusal :=
  if heardFrom s fromId then
    .next (modApplies (fun a => if a.ref == ref then { a with await := a.await.filter (· != fromId) } else a) (receivedFrom fromId s))
  else .next s

/-- FORWARD_MESSAGE (08 R219, 09 R254). -/
def execForwardMessage (at_ : Nat) (m : ForwardMsg) (s : State) : Host.Outcome State Fault Refusal :=
  if heardFrom s m.fromId then .next (forwardIn m (receivedFrom m.fromId (s.at_ at_))) else .next s

/-- The standby has everything: it is synchronised. -/
def syncedNow (cseq : Nat) (s : State) : Bool :=
  (s.hier.resyncN == 2 && s.hier.out.length ≤ 1) || (s.hier.resyncN == 1 && cseq == s.hier.cseq && s.hier.out.isEmpty)

/-- HANDOVER steps 4 and 5: its extra delta has been acknowledged (R353). -/
def handoverEnd (s : State) : State :=
  match s.hier.handover with
  | some (id, some n) => if n ≤ s.hier.cseq then stepDown .standbySync (replyNow id (.bare 0 0) s) else s
  | _ => s

/-- An acknowledged delta finishes what waited for it (R349, 08 R216, 09 R254). -/
def dackIn (cseq : Nat) (s : State) : State :=
  let past (d : Option Nat) : Option Nat := d.filter (cseq < ·)
  let s := { s with
    hier := { s.hier with cseq := max s.hier.cseq (min cseq s.hier.closed), out := s.hier.out.filter (cseq < ·), late := s.hier.late && cseq < s.hier.closed }
    clc := { s.clc with copies := s.clc.copies.map (fun c => { c with delta := past c.delta }) } }
  let s := if syncedNow cseq s then { s with hier := { s.hier with synced := true, resyncN := 0 } } else s
  handoverEnd (modApplies (fun a => { a with delta := past a.delta }) (finishCopies s))

/-- DACK_MESSAGE. -/
def execDackMessage (cseq mterm : Nat) (s : State) : Host.Outcome State Fault Refusal :=
  if !peerLive s || !isActive s || !portUp s 4 then .next s
  else if s.hier.mterm < mterm then .next (giveUp (received 4 s))
  else if mterm < s.hier.mterm then .next (received 4 s)
  else .next (dackIn cseq (received 4 s))

/-! ## The standby's side of the twin copy (R347, R356) -/

/-- Records of a tenant in this part's own vault; a share takes its extents at its first record (08 R219, R220). -/
def vaultIn (l : List VaultWrite) (s : State) : State :=
  if s.clc.st != .opened || l.isEmpty then s
  else
    let s := (l.map (·.tenant)).eraseDups.foldl (fun (s : State) (t : Nat) => (allocate t s).getD s) s
    journalCommit { s with clc := { s.clc with vault := l.foldl putRec s.clc.vault } }

/-- A directory entry from the active manager; the vault of a tenant that has been deleted goes with it. -/
def dirIn (t : Nat) (e : Tenant) (s : State) : State :=
  let gone := ((getTenant s t).map (fun o => o.vgen != e.vgen)).getD false
  imgSync t [] (adoptEntry t e (if gone then deleteVault t s else s))

/-- Roster, H, officers, transport keys, where the content carries them. -/
def hierIn (c : DeltaContent) (s : State) : State :=
  match c.roster with
  | none => s
  | some r =>
    let s := if s.hier.roster == some r then s else rosterApply r s
    transportIn c.tkeys { s with hier := { s.hier with hctr := c.hctr, hrecs := c.hrecs, hoff := c.hoff } }

/-- The cycle number at the copy's boundary, with the edges seen since, whose number the copy does not tell: free (02 R32; log
76). -/
def cycleIn (n : Nat) (s : State) : State :=
  if n == noCycle then s
  else
    let u := takeFree 4 s
    { u.2 with cyu := { u.2.cyu with num := some (min cycMax (n + u.1)) } }

/-- The content of a delta, applied whole. -/
def deltaIn (c : DeltaContent) (s : State) : State :=
  let s := c.dir.foldl (fun (s : State) (e : Nat × Tenant) => dirIn e.1 e.2 s) (hierIn c s)
  let s := takeSlots false c.slots s
  let s := vaultIn c.vault { s with vks := { s.vks with reserved := c.reserved }, clc := { s.clc with sessions := c.sessions } }
  cycleIn c.cycle { s with hier := { s.hier with shadows := c.ctxs } }

/-- A standby that copies. -/
def copies (s : State) : Bool := s.hier.mst == .standbySync || s.hier.mst == .standbyResync

/-- Applied in CSEQ order, then acknowledged. -/
def deltaTake (m : DeltaMsg) (s : State) : State :=
  if !copies s || !m.digestOk then s
  else if m.cseq ≤ s.hier.cseq then sendOn 4 (.dack m.cseq) s
  else if m.cseq == s.hier.cseq + 1 then
    let s := deltaIn m.content s
    sendOn 4 (.dack m.cseq) { s with hier := { s.hier with cseq := m.cseq } }
  else s

/-- DELTA_MESSAGE. -/
def execDeltaMessage (at_ : Nat) (m : DeltaMsg) (s : State) : Host.Outcome State Fault Refusal :=
  if peerLive s && portUp s 4 && roleOf s == .manager then .next (fromManager m.content.mterm (deltaTake m) (received 4 (s.at_ at_)))
  else .next s

/-- A CLOSED cellar is formatted anew for the copy, under a serial that is a free value (R356 step 2). -/
def cellarForCopy (s : State) : State :=
  if s.clc.st == .closed && (s.clc.drive0.usable || s.clc.drive1.usable) && s.vks.use != .none_ then
    let u := takeFree (2 ^ 64) s
    formatCellar u.1 u.2
  else s

/-- The snapshot replaces the standby's own state, and a new image base is written (R356 steps 1 and 2). -/
def snapshotIn (cseq : Nat) (c : DeltaContent) (s : State) : State :=
  let stale := (s.vks.slots.filter (fun e => 256 ≤ e.1 && e.2.persist && !e.2.free && (tfind c.slots e.1).isNone)).map (·.1)
  let s := stale.foldl (fun (s : State) (i : Nat) => wipeSlot i s) s
  let gone := (s.hier.dir.filter (fun e => (tfind c.dir e.1).isNone)).map (·.1)
  let s := gone.foldl (fun (s : State) (t : Nat) => deleteVault t s) s
  let s := { s with hier := { s.hier with dir := s.hier.dir.filter (fun e => !gone.contains e.1), placed := s.hier.placed.filter (fun e => !gone.contains e.1), cseq := cseq } }
  let s := deltaIn { c with vault := [] } (cellarForCopy s)
  let m : VineImage := { root := s.vks.root, slots := (s.vks.slots.filter (fun e => e.2.persist && !e.2.free)).map (fun e => (e.1, imgSlot e.2)), tenants := s.hier.dir, hwm := s.cycle.getD s.vks.hwm, tkeySeed := s.hier.gseed }
  rewriteBase { s with vks := { s.vks with img := some m, hwm := m.hwm } }

/-- A vault extent: the records of its tenant take the place of those held (R356 step 3). -/
def extentIn (w : List VaultWrite) (s : State) : State :=
  match w.head? with
  | none => s
  | some h => vaultIn w { s with clc := { s.clc with vault := s.clc.vault.filter (fun e => e.1 / 2 ^ 40 != h.tenant) } }

def bulkIn (m : BulkMsg) (s : State) : State :=
  match m with
  | .snapshot n c => snapshotIn n c { s with hier := { s.hier with mst := .standbyResync } }
  | .extent w => if s.hier.mst == .standbyResync then extentIn w s else s
  | .done =>
    if s.hier.mst == .standbyResync then sendOn 4 (.dack s.hier.cseq) { s with hier := { s.hier with mst := .standbySync } } else s

/-- The MTERM that a bulk message carries: the snapshot's; the others follow it on the same link. -/
def bulkTerm (m : BulkMsg) (s : State) : Nat :=
  match m with
  | .snapshot _ c => c.mterm
  | .extent _ => s.hier.mterm
  | .done => s.hier.mterm

/-- BULK_MESSAGE. -/
def execBulkMessage (m : BulkMsg) (s : State) : Host.Outcome State Fault Refusal :=
  if peerLive s && portUp s 4 && roleOf s == .manager && (copies s || isActive s) then .next (fromManager (bulkTerm m s) (bulkIn m) (received 4 s))
  else .next s

/-! ## TWIN_HOLD and arbitration (R350, R351, R355, Table 13.7) -/

/-- TWIN_HOLD_TOGGLE: the driving manager inverts the pair and reads it back; a second mismatch in a row ends its role. -/
def execTwinHoldToggle (at_ : Nat) (p n : Bool) (s : State) : Host.Outcome State Fault Refusal :=
  if !s.hier.driving || !linkLive s then .next s
  else
    let s := s.at_ at_
    let h := !s.hier.holdP
    let m := if p == h && n == !h then 0 else s.hier.mism + 1
    let s := { s with hier := { s.hier with holdP := h, mism := m, toggleAt := s.now } }
    if m < 2 then .next s else .next (armatureRecord 3 srcLnk (stepDown .standbyUnsync s))

/-- The pair reads as undriven. -/
def undrivenNow (s : State) : State := { s with hier := { s.hier with undriven := true, undrivenAt := s.hier.toggleAt } }

/-- MISSED_TOGGLES: 3 µs without a valid toggle. -/
def execMissedToggles (at_ : Nat) (s : State) : Host.Outcome State Fault Refusal :=
  let s' := s.at_ at_
  if !linkLive s || s.hier.driving || s.hier.undriven || roleOf s != .manager || s'.now < s.hier.toggleAt + 3000 then .next s
  else
    let s := undrivenNow s'
    match s.hier.mst with
    | .standbySync => .next (becomeActive true s)
    | .standbyResync => .next (armatureRecord 3 srcLnk { s with hier := { s.hier with mst := .standbyUnsync } })
    | _ => .next s

/-- Valid toggles of the partner (Table 13.7): an arbitrating manager becomes standby, synchronised at once where the CSEQs
are equal, which its DACK confirms. -/
def togglesSeen (cseq : Option Nat) (s : State) : State :=
  match s.hier.mst with
  | .arbitrating =>
    if cseq == some s.hier.cseq then sendOn 4 (.dack s.hier.cseq) { s with hier := { s.hier with mst := .standbySync } }
    else { s with hier := { s.hier with mst := .standbyResync } }
  | .standbyUnsync => if portUp s 4 then { s with hier := { s.hier with mst := .standbyResync } } else s
  | _ => s

/-- VALID_TOGGLES. -/
def execValidToggles (at_ : Nat) (partnerCseq : Option Nat) (s : State) : Host.Outcome State Fault Refusal :=
  if !linkLive s || s.hier.driving || roleOf s != .manager || !twinSet s then .next s
  else
    let s := s.at_ at_
    .next (togglesSeen partnerCseq { s with hier := { s.hier with toggleAt := s.now, undriven := false } })

/-- The CSEQ of the other manager, as its HELLO gave it. -/
def partnerCseq (s : State) : Nat := (((getPort s 4).hello).map (·.cseq)).getD 0

/-- The end of the takeover delay (R355). Without TWIN there is no twin link to wait for (log 83). -/
def takeoverDue (s : State) : Nat :=
  let ms := 1000000
  if !twinSet s then s.hier.arbAt + ms
  else if portUp s 4 then
    let first := partnerCseq s < s.hier.cseq || (partnerCseq s == s.hier.cseq && myId s == 0)
    s.hier.arbAt + (if first then ms else 500 * ms)
  else s.hier.arbAt + 1000 * ms + (if myId s == 0 then ms else 500 * ms)

/-- ARBITRATION_TIMEOUT: the delay ends with the pair undriven. -/
def execArbitrationTimeout (s : State) : Host.Outcome State Fault Refusal :=
  if linkLive s && s.hier.mst == .arbitrating && s.hier.undriven then .next (becomeActive false (s.at_ (takeoverDue s))) else .next s

end Sys2Proof.Machine
end

