-- ==== Sys2Proof/Machine/Power.lean ====
section
/-! DEFINITION. Entering and leaving the power states P1 and P2 (15 R400-R402, Table 15.7). -/

set_option Elab.async false

namespace Sys2Proof.Machine

/-- An engine unit is busy. -/
def enginesBusy (s : State) : Bool := s.eng.units.any (fun e => e.2.req.isSome) || s.bne.lanes.any (fun e => !e.2.ops.isEmpty)

/-- Nothing is in flight: no item, no fetched packet, no thread, no engine at work (R400). -/
def idle (s : State) : Bool :=
  s.dsp.items.isEmpty && s.hfe.fetched.isEmpty && s.dsp.pair0.isNone && s.dsp.pair1.isNone && s.dsp.control.isEmpty && !enginesBusy s

/-- P1_ENTRY (R400): the sender sees to it that the part has been idle for P1IDLE. -/
def execP1Entry (s : State) : Host.Outcome State Fault Refusal :=
  if s.grd.p1en && s.grd.power == .p0 && s.grd.st == .watching && s.boot.phase == 5 && idle s then
    .next (count 0x02 none { s with grd := { s.grd with power := .p1 } })
  else .next s

/-- WAKE (Table 15.15). -/
def wakeCode (c : WakeCause) : Nat :=
  match c with
  | .doorbell => 1
  | .bar0 => 2
  | .edge => 3
  | .link => 4
  | .timer => 5
  | .smbus => 6
  | .alarm => 7

/-- The part is in P0 again. -/
def wake (c : WakeCause) (s : State) : State := { s with grd := { s.grd with power := .p0, wake := wakeCode c } }

/-- P1_WAKE (R400). -/
def execP1Wake (cause : WakeCause) (s : State) : Host.Outcome State Fault Refusal :=
  if s.grd.power == .p1 then .next (wake cause s) else .next s

/-- P2_ENTRY (R401, R402): the guard is DORMANT; the HMAC cache and context save memory lose their power. -/
def execP2Entry (s : State) : Host.Outcome State Fault Refusal :=
  if s.grd.p2go && s.grd.power == .p0 && s.grd.st == .watching then
    .next { s with
      grd := { s.grd with power := .p2, st := .dormant, p2go := false }
      eng := { s.eng with cache := [], saved := [] } }
  else .next s

/-- What wakes a part from P2 (Table 15.7). -/
def wakesP2 (c : WakeCause) : Bool :=
  match c with
  | .doorbell => true
  | .link => true
  | .alarm => true
  | .bar0 => false
  | .edge => false
  | .timer => false
  | .smbus => false

/-- The noise sources test again; with `enough`, two have passed, which the spec leaves open (log 87). -/
def wakeSources (enough : Bool) (s : State) : State :=
  let s := startSources { s with ent := { s.ent with cond := .stopped, seeded := true } }
  if !enough then s
  else
    let a := takeFree 4 s
    let b := takeFree 3 a.2
    let second := if b.1 < a.1 then b.1 else b.1 + 1
    condCheck (modSource second (fun x => { x with st := .healthy }) (modSource a.1 (fun x => { x with st := .healthy }) b.2))

/-- P2_WAKE (R402): one checkpoint, sources and entropy unit anew, HMAC cache fills. -/
def execP2Wake (cause : WakeCause) (enough : Bool) (s : State) : Host.Outcome State Fault Refusal :=
  if s.grd.power == .p2 && wakesP2 cause then
    let s := wake cause { s with grd := { s.grd with st := .watching } }
    .next (refillCache (wakeSources enough (checkpoint s)))
  else .next s

end Sys2Proof.Machine
end

