-- ==== Sys2Proof/Machine/Units.lean ====
section
/-! DEFINITION. Ends of requests, known-answer suites of units and lanes, the reload of lanes, and the diagnostic opcodes
0F30h to 0F32h (05 R104, 10 R295, R296, 11 R313-R315). -/

set_option Elab.async false

namespace Sys2Proof.Machine

/-! ## Ends of requests -/

/-- ENGINE_REQUEST_COMPLETE (05 R104): of a unit, of a lane's resource, of the CLC. -/
def execEngineRequestComplete (src : Completion) (s : State) : Host.Outcome State Fault Refusal :=
  match src with
  | .unit n => .next (unitDone n s)
  | .lane l i => .next (selfCheck s (laneDone l i s))
  | .vault item => .next (cellarRead item true s)

/-! ## Units (11 R313-R315) -/

/-- What a diagnostic suite answers: the number of failed vectors. -/
def failedBytes (failed : Nat) : Bytes := toBE 4 failed ++ zeros 4

/-- The UNIT_TEST items of a unit end. -/
def answerTesters (n failed : Nat) (s : State) : State :=
  let l := ((tfind s.eng.units n).map (·.testers)).getD []
  let s := modUnit n (fun u => { u with testers := [] }) s
  l.foldl (fun (s : State) (i : Nat) => itemDone i { status := 0, detail := 0, payload := failedBytes failed } s) s

/-- A suite's end in TESTING (Table 11.8). -/
def unitTested (n failed : Nat) (s : State) : State :=
  if failed == 0 then answerTesters n failed (modUnit n (fun u => { u with st := .online }) s)
  else unitOffline n (answerTesters n failed (armatureRecord 2 (unitSrc n) s))

/-- UNIT_KAT_COMPLETE (R313, R315): of a TESTING unit, or of an ONLINE one that a UNIT_TEST has found idle. -/
def execUnitKatComplete (unit failed : Nat) (s : State) : Host.Outcome State Fault Refusal :=
  match tfind s.eng.units unit with
  | none => .next s
  | some u =>
    match u.st with
    | .testing => .next (selfCheck s (unitTested unit failed s))
    | .online =>
      if u.testers.isEmpty || u.req.isSome then .next s
      else
        let a := answerTesters unit failed s
        .next (if failed == 0 then a else selfCheck s (unitFault unit causeSelf 0 false a))
    | .offline => .next s

/-- A unit held OFFLINE until reset (Table 11.8). -/
def EngineUnit.stuck (u : EngineUnit) : Bool := u.st == .offline && 3 ≤ u.faults

/-- A UNIT_TEST reaches its unit: an OFFLINE one tests at once. -/
def startTest (n id : Nat) (s : State) : State :=
  modUnit n (fun u => { u with st := if u.st == .offline then .testing else u.st, testers := u.testers ++ [id] }) s

def svcUnitTest (id : Nat) (it : Item) : Svc Reply := do
  let n := it.f 0 1
  Svc.lenIs it 4
  Svc.zero it [(2, 2)]
  Svc.bad (n < 48 && it.f 1 1 == 1) 0x01C8
  let s ← Svc.state
  Svc.bad (!((tfind s.eng.units n).map EngineUnit.stuck |>.getD false)) 0x01C9
  Svc.pend id (startTest n id)

/-- UNIT_TEST (R315). -/
def execUnitTest (item : Nat) (s : State) : Host.Outcome State Fault Refusal := .next (runOpcode 0x0F32 item (svcUnitTest item) s)

/-! ## Lanes (10 Table 10.9, 17 R445, R446) -/

/-- The lane that a running UPDATE reloads. -/
def laneRolled (s : State) (l : Nat) : Bool :=
  match s.flash.upd with
  | some u => u.stage == 3 && u.targets.head? == some l
  | none => false

/-- LANE_DRAIN_COMPLETE (10 R295): the last operation has ended, or nothing runs; the new image is written, and the suite
starts. -/
def execLaneDrainComplete (lane : Nat) (s : State) : Host.Outcome State Fault Refusal :=
  match tfind s.bne.lanes lane with
  | none => .next s
  | some x =>
    let test := modLane lane (fun x => { x with st := .testing, mode := .idle }) s
    match x.st with
    | .draining => .next (if x.ops.isEmpty then test else s)
    | .loading => .next test
    | .offline => .next (if laneRolled s lane then test else s)
    | .online => .next s
    | .testing => .next s

/-- A LANE_TEST that runs the suite on a lane. -/
def suiteOn (s : State) (l : Nat) : Option LaneOp :=
  (tfind s.bne.lanes l).bind (fun x => x.ops.find? (fun o => o.req.op == .katSuite))

/-- It ends with the clock cycles that the suite took, which no table gives: a free value (log 28). -/
def suiteDone (l failed : Nat) (s : State) : State :=
  match suiteOn s l with
  | none => s
  | some o =>
    let u := takeFree 64000001 s
    let s := eachCopy (fun c => { c with lops := tput c.lops l (satAdd max32 (tget c.lops l 0) 1) }) (count (0x80 + l) none u.2)
    answerRequest o.req (.ok (toBE 4 u.1 ++ zeros 4 ++ toBE 4 failed)) (dropOp l o.sub s)

/-- A lane passes its suite: it serves, and a running reload goes on with the next lane. -/
def lanePassed (l : Nat) (s : State) : State :=
  let k := s.flash.bne.current
  let t := modLane l (fun x => { x with st := .online, ver := k.ver, uctr := k.u, katfail := false }) s
  if laneRolled s l then rollNext (rolledOne t) else t

/-- A lane fails its suite (Table 10.9); a running reload stops there (R446). -/
def laneFailed (l : Nat) (s : State) : State :=
  let roll := laneRolled s l
  let s := laneOffline l (modLane l (fun x => { x with katfail := true }) (armatureRecord 2 (laneSrc l) s))
  if roll then rollFailed s else s

/-- LANE_KAT_COMPLETE (10 R295, R296). -/
def execLaneKatComplete (lane failed : Nat) (s : State) : Host.Outcome State Fault Refusal :=
  match tfind s.bne.lanes lane with
  | none => .next s
  | some x =>
    let a := suiteDone lane failed s
    match x.st with
    | .testing => .next (selfCheck s (if failed == 0 then lanePassed lane a else laneFailed lane a))
    | .online => .next (if failed == 0 || (suiteOn s lane).isNone then a else selfCheck s (laneFault lane causeSelf 0 false a))
    | .draining => .next (if failed == 0 || (suiteOn s lane).isNone then a else selfCheck s (laneFault lane causeSelf 0 false a))
    | .loading => .next s
    | .offline => .next s

/-- A request of LANE_TEST names its lane. -/
def laneRequest (id : Nat) (it : Item) (op : EngineOp) (s : State) : Request := { itemRequest id it [] [] op none s with lane := some (it.f 0 1) }

/-- L and Ln of the CURVE code of OP 02h and 03h, judged once with OP (01C1h). -/
def laneCurve (it : Item) (s : State) : Answer × State :=
  let op := it.f 1 1
  if op == 0 || 4 < op then (.err 0x0105 0x01C1, s)
  else if op == 1 || op == 4 then (.nums [0, 0], s)
  else
    match curveOf s.flash.curves (it.f 2 1) with
    | some c => (.nums [c.l, c.ln], s)
    | none => (.err 0x0105 0x01C1, s)

/-- LANE_TEST may run on a lane. -/
def laneTestable (s : State) (l : Nat) : Bool :=
  ((tfind s.bne.lanes l).map (fun x => x.st == .online || x.st == .testing)).getD false

/-- The length of the operands (Table 10.10). -/
def laneLen (it : Item) (l ln : Nat) : Nat :=
  match it.f 1 1 with
  | 1 => 8 + 2 * ((it.f 4 2 + 7) / 8) + it.f 3 1
  | 2 => 9 + ln + 2 * l
  | 3 => 9 + 2 * l
  | _ => 8

/-- What the lane is asked. -/
def laneJob (it : Item) (l ln : Nat) : EngineOp :=
  let nb := (it.f 4 2 + 7) / 8
  let el := it.f 3 1
  match it.f 1 1 with
  | 1 => .modexp (it.f 4 2) (it.b 8 nb) (it.b (8 + nb) el) (it.b (8 + nb + el) nb)
  | 2 => .scalarMul (it.f 2 1) (it.b 8 ln) (it.b (8 + ln) (1 + 2 * l))
  | 3 => .pointCheck (it.f 2 1) (it.b 8 (1 + 2 * l))
  | _ => .katSuite

def svcLaneTest (id : Nat) (it : Item) : Svc Reply := do
  let op := it.f 1 1
  let c ← Svc.decideOk id (laneCurve it)
  let l := c.list.headD 0
  let ln := c.list.getD 1 0
  Svc.len (8 ≤ it.payload.length && it.payload.length == laneLen it l ln)
  Svc.zero it [(6, 2)]
  Svc.range (it.f 0 1 < 24 && (op == 2 || op == 3 || it.f 2 1 == 0) && (if op == 1 then 1 ≤ it.f 3 1 && it.f 3 1 ≤ 32 else it.f 3 1 == 0 && it.f 4 2 == 0))
  Svc.range (!(op == 2 || op == 3) || it.f (if op == 2 then 8 + ln else 8) 1 == 4)
  let _ ← Svc.decideOk id (fun s => if laneTestable s (it.f 0 1) then (.nums [], s) else (.err 0x0105 0x01C0, s))
  let a ← Svc.awaitOk (askEngine .bne id (laneRequest id it (laneJob it l ln)))
  done a.bytes

/-- LANE_TEST (R296). -/
def execLaneTest (item : Nat) (s : State) : Host.Outcome State Fault Refusal := .next (runOpcode 0x0F30 item (svcLaneTest item) s)

def svcCurveQuery (it : Item) : Svc Reply := do
  let i := it.f 0 1
  Svc.lenIs it 8
  Svc.zero it [(1, 7)]
  Svc.range (i < 32)
  let s ← Svc.state
  let used := s.vks.slots.countP (fun e => e.2.type == 0x20 + i)
  match tfind s.flash.curves i with
  | none => done (zeros 36 ++ toBE 4 used)
  | some b => done (sha256 b ++ slice b 4 2 ++ slice b 3 1 ++ [0] ++ toBE 4 used)

/-- CURVE_QUERY (R292, R296). -/
def execCurveQuery (item : Nat) (s : State) : Host.Outcome State Fault Refusal := .next (runOpcode 0x0F31 item svcCurveQuery s)

end Sys2Proof.Machine
end

