-- ==== Sys2Proof/Machine/Records.lean ====
section
/-! DEFINITION. Class 0Fh: REC_READ, REC_ACK, JRNL_READ, FAULT_STATUS (16 R425, R426). -/

set_option Elab.async false

namespace Sys2Proof.Machine

/-- LEN, reserved fields and ranges of the recorder opcodes (R425). -/
def Svc.recorder (it : Item) (len : Nat) (zero : List (Nat × Nat)) (range : Bool) : Svc Unit := do
  Svc.len (it.payload.length == len)
  Svc.zero it zero
  Svc.range range

/-- NEXT, N, reserved, and the records. -/
def recordsReply (next : Nat) (recs : List Bytes) : Svc Reply := done (toBE 4 next ++ toBE 2 recs.length ++ zeros 2 ++ recs.flatten)

/-! ## REC_READ, REC_ACK -/

/-- The records of the ring from an index on, of at least a severity, at most `n` (R426). -/
def ringFrom (s : State) (from_ n sev : Nat) : List Record := (s.fcr.ring.filter (fun r => from_ ≤ r.index && sev ≤ r.sev)).take n

/-- One more than the last index returned, or where the read began. -/
def ringNext (from_ : Nat) (l : List Record) : Nat := (l.getLast?.map (·.index + 1)).getD from_

def svcRecRead (it : Item) : Svc Reply := do
  Svc.recorder it 8 [(7, 1)] (1 ≤ it.f 4 2 && it.f 4 2 ≤ 256 && it.f 6 1 ≤ 3)
  let l := ringFrom (← Svc.state) (it.f 0 4) (it.f 4 2) (it.f 6 1)
  recordsReply (ringNext (it.f 0 4) l) (l.map (·.bytes))

/-- REC_READ. -/
def execRecRead (item : Nat) (s : State) : Host.Outcome State Fault Refusal := .next (runOpcode 0x0F01 item svcRecRead s)

/-- REC_ACK frees a record: its index is at most UPTO, and it is of severity 0 or flushed. -/
def ackFrees (upto : Nat) (r : Record) : Bool := r.index ≤ upto && (r.sev == 0 || r.flushed)

def ringAck (upto : Nat) (s : State) : State := { s with fcr := { s.fcr with ring := s.fcr.ring.filter (fun r => !ackFrees upto r) } }

def svcRecAck (it : Item) : Svc Reply := do
  Svc.recorder it 8 [(4, 4)] true
  let s ← Svc.state
  Svc.update (ringAck (it.f 0 4))
  done (toBE 4 (s.fcr.ring.countP (ackFrees (it.f 0 4))) ++ zeros 4)

/-- REC_ACK. -/
def execRecAck (item : Nat) (s : State) : Host.Outcome State Fault Refusal := .next (runOpcode 0x0F02 item svcRecAck s)

/-! ## JRNL_READ -/

/-- The journal's first page in the cellar (08 Table 8.2). -/
def journalPage : Nat := 2 + 65536 + 4096

/-- The slots examined, wrapping at the end of the journal. -/
def journalRun (slot n : Nat) : List Nat := (List.range n).map (fun i => (slot + i) % journalSlots)

/-- The cellar pages that hold slots. -/
def journalPages (l : List Nat) : List Nat := (l.map (fun k => journalPage + k / 64)).eraseDups

/-- Waits for a page of the cellar; a page that fails its check ends the item (08 R211). -/
def Svc.cellarPage (id page : Nat) : Svc Unit := fun r =>
  match r.rest with
  | .err st d :: l => .error (.reply (.bare st d) { r with rest := l }.state)
  | _ :: l => .ok ((), { r with rest := l })
  | [] => .error (.wait (itemWait id .page { r.state with clc := { r.state.clc with reads := tput r.state.clc.reads id page } }))

def Svc.cellarPages (id : Nat) : List Nat → Svc Unit
  | [] => pure ()
  | p :: r => do
    Svc.cellarPage id p
    Svc.cellarPages id r

def svcJrnlRead (id : Nat) (it : Item) : Svc Reply := do
  Svc.recorder it 8 [(6, 2)] (it.f 0 4 < journalSlots && 1 ≤ it.f 4 2 && it.f 4 2 ≤ 256)
  let run := journalRun (it.f 0 4) (it.f 4 2)
  if (← Svc.state).clc.st == .opened then
    Svc.cellarPages id (journalPages run)
  let j := journalOf (← Svc.state)
  recordsReply ((it.f 0 4 + it.f 4 2) % journalSlots) (run.filterMap (fun k => tfind j k))

/-- JRNL_READ. -/
def execJrnlRead (item : Nat) (s : State) : Host.Outcome State Fault Refusal := .next (runOpcode 0x0F03 item (svcJrnlRead item) s)

/-! ## FAULT_STATUS (Table 16.8) -/

/-- FCR_STATUS STATE (Table 16.12). -/
def colCode (c : ColState) : Nat :=
  match c with
  | .startup => 0
  | .normal => 1
  | .test => 2
  | .recovery => 3
  | .halted => 4

/-- Service groups that are not in use: OFFLINE or FAULT (05 R108). -/
def groupsOffline (s : State) : Nat := s.dsp.groups.countP (fun e => e.2.st == .offline || e.2.st == .fault)

/-- DROPS are read from the host's copies and left as they are (log 88). -/
def faultStatusBytes (s : State) : Bytes :=
  let drops := [0, 1, 2, 3].flatMap (fun v => toBE 4 (tget s.host.drop v 0))
  toBE 1 (colCode s.fcr.st) ++ toBE 1 (min 7 (groupsOffline s) + 8 * b2n (s.dsp.off0 || s.dsp.off1)) ++ toBE 2 s.fcr.lastCr ++
    toBE 2 s.fcr.lastF ++ zeros 2 ++ toBE 4 s.fcr.ridx ++ toBE 4 s.fcr.jpos ++ drops

def svcFaultStatus (it : Item) : Svc Reply := do
  Svc.len it.payload.isEmpty
  done (faultStatusBytes (← Svc.state))

/-- FAULT_STATUS. -/
def execFaultStatus (item : Nat) (s : State) : Host.Outcome State Fault Refusal := .next (runOpcode 0x0F04 item svcFaultStatus s)

end Sys2Proof.Machine
end

