-- ==== Sys2Proof/Machine/RegValues.lean ====
section
/-! DEFINITION. What every register of PF BAR0 and VF BAR0 reads (19 R473-R489, Tables 19.6-19.18, and the field maps of the
other chapters). Offsets within a block. -/

set_option Elab.async false

namespace Sys2Proof.Machine

/-- A word from fields: value and lowest bit. -/
def fields (l : List (Nat × Nat)) : Nat := l.foldl (fun a e => a + e.1 * 2 ^ e.2) 0

/-- A word with a bit for each number of a list. -/
def bitsOf (l : List Nat) : Nat := l.foldl (fun a n => a + 2 ^ n) 0

/-- Numbers below a bound that satisfy a test. -/
def which (n : Nat) (p : Nat → Bool) : List Nat := (List.range n).filter p

def low32 (n : Nat) : Nat := n % 2 ^ 32

/-! ## GEN (Tables 19.6-19.8, 17.9-17.11) -/

def genStep : Nat := 0x191205A7

def roleCode (r : Role) : Nat :=
  match r with
  | .manager => 0
  | .worker => 1
  | .unknown => 3

def genBoot (s : State) : Nat :=
  let b := s.boot
  fields [(b.phase, 0), (b2n b.slotB, 4), (b2n b.trial, 5), (b2n b.fellback, 12), (b2n b.freshroot, 13), (b2n b.vinefail, 14), (b2n b.closed, 15)]

def genReg (s : State) (c : Copies) (o : Nat) : Nat :=
  match o with
  | 0x00 => genStep
  | 0x04 => fields [(b2n (s.boot.phase == 5), 0), (roleCode (roleOf s), 1)]
  | 0x08 => c.accerr
  | 0x10 => genBoot s
  | 0x20 => s.boot.aqsql.toNat
  | 0x24 => s.boot.aqsqh.toNat
  | 0x28 => s.boot.aqcql.toNat
  | 0x2C => s.boot.aqcqh.toNat
  | 0x30 => s.boot.aqcfg.toNat
  | 0x40 => fld s.fab.serial 0 4
  | 0x44 => fld s.fab.serial 4 4
  | 0x48 => fld s.fab.serial 8 4
  | 0x4C => fld s.fab.serial 12 4
  | _ => 0

/-! ## HFE (Tables 19.9-19.11) -/

def hfeStatus (s : State) : Nat :=
  fields [(s.hfe.speed, 0), (s.hfe.width, 4), (s.hfe.numvf, 8), (b2n s.hfe.vfen, 15), (s.hfe.ctxs.length, 16)]

/-- The pairs of a VF: those that exist, and those in the error state. -/
def pairMap (s : State) (vf : Nat) : Nat :=
  if vf == 0 then 0
  else
    bitsOf (which 16 (fun q => (getQueue s vf q).isSome)) +
      2 ^ 16 * bitsOf (which 16 (fun q => ((getQueue s vf q).map (·.st)) == some .error))

def hfeReg (s : State) (c : Copies) (o : Nat) : Nat :=
  let x := getCtx s c.tsel
  let of (f : Ctx → Nat) : Nat := (x.map f).getD 0
  match o with
  | 0x00 => hfeStatus s
  | 0x08 => c.direct
  | 0x0C => c.dmaerr
  | 0x20 => c.tsel
  | 0x24 => of (fun x => fields [(ctxCode x.st, 0), (b2n x.saved, 4), (x.vf, 8), (x.fsrc, 16)])
  | 0x28 => of (fun x => fields [(x.fbase, 0), (x.fcount, 16)])
  | 0x2C => of (fun x => fields [(x.infl, 0), (ctxInflight s c.tsel x, 16)])
  | 0x30 => of (fun x => pairMap s x.vf)
  | 0x34 => of (fun x => fields [(x.maxpri, 0), (b2n x.hold, 8), (x.inst.getD 0, 16)])
  | _ => 0

/-! ## DSP (Tables 5.5, 5.6) -/

/-- The groups in a state, bit g for group g (log 96). -/
def groupsIn (s : State) (st : GroupState) : Nat :=
  bitsOf (which 8 (fun g => ((tfind s.dsp.groups g).map (·.st)) == some st))

/-- The item at the head of a flow. -/
def flowHead (s : State) (f : Nat) : Option Item :=
  let h := (tget s.dsp.flows f { head := 0, next := 0 }).head
  (s.dsp.items.find? (fun e => e.2.ord && e.2.flow == f && e.2.sn == h && e.2.fn ≤ 64)).map (·.2)

/-- HEADST: window empty, not complete, waiting for a twin copy, complete. -/
def headState (i : Option Item) : Nat :=
  match i with
  | none => 0
  | some i =>
    match i.phase with
    | .complete => 3
    | .waiting _ _ (.twin _) => 2
    | _ => 1

def flowStatus (s : State) (f : Nat) : Nat :=
  let x := ctxOfFlow s f
  let p := tget s.dsp.flows f { head := 0, next := 0 }
  fields [((p.next + 65536 - p.head) % 65536, 0), ((x.map (·.1)).getD 0, 16), (headState (flowHead s f), 28), (b2n (f < 256), 30), (b2n (f < 256 || x.isSome), 31)]

/-- Locked-region accesses within the last second. -/
def debugAccesses (s : State) : Nat := min 16 (s.grd.dbgAcc.countP (fun t => s.now < t + second))

def dspReg (s : State) (c : Copies) (o : Nat) : Nat :=
  let p := tget s.dsp.flows c.fsel { head := 0, next := 0 }
  match o with
  | 0x00 => s.dsp.items.countP (fun e => e.1 < 8192)
  | 0x04 => bitsOf (which 32 (fun n => s.dsp.items.any (fun e => e.2.listed && e.2.level == n)))
  | 0x08 => bitsOf (which 32 (fun n => s.dsp.control.any (fun t => t.level == n)))
  | 0x0C => fields [(groupsIn s .online, 0), (groupsIn s .draining, 8), (groupsIn s .fault, 16)]
  | 0x10 => s.eng.saved.length
  | 0x14 => c.mpuviol
  | 0x18 => debugAccesses s
  | 0x20 => c.fsel
  | 0x24 => flowStatus s c.fsel
  | 0x28 => fields [(p.head, 0), (p.next, 16)]
  | _ => 0

/-! ## CYU (Tables 2.6, 2.7) -/

def cycleCode (c : CycleState) : Nat :=
  match c with
  | .unlocked => 0
  | .acquire => 1
  | .locked => 2
  | .lost => 3

/-- The number as CYU_CNTL and its latch read it: the unlocked marker outside LOCKED and CYCLE_LOST (R38). -/
def cycleRead (s : State) : Nat := s.cycle.getD noCycle

def cyuReg (s : State) (c : Copies) (o : Nat) : Nat :=
  let u := s.cyu
  match o with
  | 0x00 => fields [(cycleCode u.st, 0), (b2n u.lostSeen, 4), (b2n u.held, 5), (b2n u.trellis, 6), (b2n u.setDone, 7), (u.run, 8)]
  | 0x04 => low32 (cycleRead s)
  | 0x08 => c.cyuH
  | 0x0C => u.period
  | 0x10 => cycPest s / 1000
  | 0x14 => c.heldN
  | 0x18 => c.stray
  | 0x1C => u.skew
  | _ => 0

/-! ## VKS (Tables 9.16, 9.17) -/

def vksStatus (s : State) : Nat :=
  fields [(s.vks.imgSt, 0), (b2n s.vks.half, 2), (b2n s.vks.imgIn, 3), (b2n (reclaimables s != 0), 4), (b2n (s.otp.kroot == .maquette), 6), (b2n (s.vks.use == .maquette), 7)]

def slotsInUse (s : State) (persist : Bool) : Nat := s.vks.slots.countP (fun e => 256 ≤ e.1 && !e.2.free && e.2.persist == persist)

def vksReg (s : State) (c : Copies) (o : Nat) : Nat :=
  match o with
  | 0x00 => vksStatus s
  | 0x04 => slotsInUse s false
  | 0x08 => slotsInUse s true
  | 0x0C => fields [(s.vks.sweep, 0), (min 65535 (reclaimables s), 16)]
  | 0x10 => hcacheSlots s
  | 0x14 => s.vks.logBytes
  | 0x18 => c.lkfail
  | _ => 0

/-! ## BNE (Tables 10.11, 10.12) -/

def laneCode (l : LaneState) : Nat :=
  match l with
  | .online => 0
  | .draining => 1
  | .loading => 2
  | .testing => 3
  | .offline => 4

def laneModeCode (m : LaneMode) : Nat :=
  match m with
  | .idle => 0
  | .whole => 1
  | .split => 2
  | .ntt => 3

/-- Busy sub-lanes: all four in whole and NTT mode. -/
def laneBusy (x : Lane) : Nat :=
  if x.ops.isEmpty then 0
  else if x.mode == .whole || x.mode == .ntt then 15
  else bitsOf (which 4 (fun i => !subFree x i))

def laneStatus (s : State) (n : Nat) : Nat :=
  let x := tget s.bne.lanes n .reset
  fields [(laneCode x.st, 0), (laneModeCode x.mode, 4), (laneBusy x, 8), (b2n ((s.bne.resv.map (·.1)) == some n), 12), (b2n x.katfail, 13)]

def lanesIn (s : State) (st : LaneState) : Nat := s.bne.lanes.countP (fun e => e.2.st == st)

def bneReg (s : State) (c : Copies) (o : Nat) : Nat :=
  let x := tget s.bne.lanes c.lsel .reset
  let sel (n : Nat) : Nat := if c.lsel < 24 then n else 0
  match o with
  | 0x00 => fields [(lanesIn s .online, 0), (lanesIn s .offline, 8), ((s.bne.resv.map (·.1)).getD 31, 16)]
  | 0x04 => s.bne.queue.length
  | 0x08 => bitsOf (which 32 (fun n => (tfind s.flash.curves n).isSome))
  | 0x0C => bitsOf (which 32 (fun n => s.vks.slots.any (fun e => e.2.type == 0x20 + n)))
  | 0x20 => c.lsel
  | 0x24 => sel (laneStatus s c.lsel)
  | 0x28 => sel (fields [(x.ver, 0), (x.uctr % 65536, 16)])
  | 0x2C => sel (tget c.lops c.lsel 0)
  | 0x30 => sel x.fault
  | _ => 0

/-! ## SYE and DGE (Tables 11.9, 11.10) -/

/-- Units from `lo`, `n` of them, that satisfy a test, as bits. -/
def unitBits (s : State) (lo n : Nat) (p : EngineUnit → Bool) : Nat :=
  bitsOf (which n (fun i => ((tfind s.eng.units (lo + i)).map p).getD false))

/-- HMAC cache fills that wait or run. -/
def fillsPending (s : State) : Nat :=
  let isFill (r : Request) : Bool := match r.client with
    | .fill _ _ => true
    | .item _ => false
  s.eng.dgeQ.countP isFill + s.eng.units.countP (fun e => (e.2.req.map isFill).getD false)

def symReg (s : State) (c : Copies) (o : Nat) : Nat :=
  let on (u : EngineUnit) : Bool := u.st == .online
  let off (u : EngineUnit) : Bool := u.st == .offline
  match o with
  | 0x00 => unitBits s 0 32 on
  | 0x04 => unitBits s 0 32 off
  | 0x08 => fields [(unitBits s 32 16 on, 0), (unitBits s 32 16 off, 16)]
  | 0x0C => fields [(s.eng.syeQ.length, 0), (s.eng.dgeQ.length, 16)]
  | 0x10 => fields [(s.eng.cache.countP (fun e => e.2.v256 || e.2.v512), 0), (fillsPending s, 16)]
  | 0x14 => c.susp
  | 0x18 => c.ctxfail
  | 0x1C => c.hcmiss
  | 0x20 => fields [(s.eng.lastSrc, 0), (s.eng.lastUnit, 16)]
  | 0x24 => unitBits s 0 32 (·.stuck)
  | 0x28 => unitBits s 32 16 (·.stuck)
  | _ => 0

/-! ## ENT (Tables 12.11, 12.12) -/

def sourceCode (x : SourceState) : Nat :=
  match x with
  | .startup => 0
  | .healthy => 1
  | .retest => 2
  | .failed => 3

/-- An unlisted source: its cutoffs are those of Table 12.2. -/
def Noise.reset : Noise := { st := .startup, fails := 0, apt := false, cr := 41, ca := 795 }

def entReg (s : State) (c : Copies) (o : Nat) : Nat :=
  let src (n : Nat) : Noise := tget s.ent.src n .reset
  let byte (n : Nat) : Nat := fields [(sourceCode (src n).st, 0), ((src n).fails % 4, 2), (b2n (src n).apt, 4)]
  let cut (n : Nat) : Nat := fields [((src n).cr, 0), ((src n).ca, 16)]
  match o with
  | 0x00 => fields [(condCode s.ent.cond, 0), (b2n s.ent.ekey, 3), (b2n s.ent.seeded, 4), (sourceMask s .healthy, 8)]
  | 0x04 => fields [(byte 0, 0), (byte 1, 8), (byte 2, 16), (byte 3, 24)]
  | 0x08 => fields [(s.ent.insts.length, 0), (s.ent.insts.countP (fun e => e.2.hard), 16)]
  | 0x0C => fields [(s.ent.waiting.length, 0), (s.ent.reserve.length, 16)]
  | 0x10 => cut 0
  | 0x14 => cut 1
  | 0x18 => cut 2
  | 0x1C => cut 3
  | 0x20 => c.seeds
  | 0x24 => c.hfail
  | _ => 0

/-! ## CLC (Tables 8.11, 8.12) -/

def cellarCode (x : CellarState) : Nat :=
  match x with
  | .absent => 0
  | .opened => 1
  | .closed => 2
  | .formatting => 3

def clcStatus (s : State) : Nat :=
  let k := s.clc
  fields [(cellarCode k.st, 0), (b2n k.drive0.usable, 2), (b2n k.drive1.usable, 3), (b2n k.off0, 4), (b2n k.off1, 5), (b2n k.replay, 6), (b2n (roleOf s == .manager && k.st == .opened), 7), (b2n (!k.repairs.isEmpty), 8), (b2n k.lag, 9)]

def clcReg (s : State) (c : Copies) (o : Nat) : Nat :=
  match o with
  | 0x00 => clcStatus s
  | 0x04 => low32 ((s.bk.root.map (·.cserial)).getD 0)
  | 0x08 => if s.clc.st == .absent then 0 else s.clc.pages
  | 0x0C => c.badpg
  | 0x10 => c.nverr
  | 0x14 => min 65536 s.clc.batch.pages
  | _ => 0

/-! ## LNK (Tables 13.11-13.13) -/

/-- Straps or serial disagree with the roster. -/
def strapMismatch (s : State) : Bool :=
  match s.hier.roster, s.boot.straps with
  | some _, some (r, i) =>
    (match ownEntry s with
      | none => true
      | some e => r != 2 && (e.2.1 != i || (e.2.2 == 1) != (r == 1)))
  | _, _ => false

def lnkStatus (s : State) : Nat :=
  let up (n : Nat) : Bool := portUp s n || portUp s (n + 8)
  fields [(bitsOf (which 4 up), 0), (mstateCode s.hier.mst, 4), (b2n (portUp s 4), 8), (b2n (twinLag s), 10), (b2n s.hier.twinAct, 11), (b2n (strapMismatch s), 12), ((s.boot.straps.map (·.1)).getD 0, 13), (myId s, 15)]

def portCode (p : PortState) : Nat :=
  match p with
  | .down => 0
  | .training => 1
  | .auth => 2
  | .up => 3
  | .rejected => 4

def portStatus (p : Port) : Nat := fields [(portCode p.st, 0), (p.failst, 4), (p.speed, 8), (p.width, 12)]

/-- A port's peer ID and its valid bit. -/
def portPeer (p : Port) : Nat :=
  match p.peer with
  | none => 0
  | some i => fields [(i, 0), (1, 7)]

/-- The selected port exists (R481). -/
def portSel (c : Copies) (n : Nat) : Nat := if c.psel % 8 < 5 then n else 0

def lnkReg (s : State) (c : Copies) (o : Nat) : Nat :=
  let p := getPort s c.psel
  match o with
  | 0x00 => lnkStatus s
  | 0x04 => s.hier.mterm
  | 0x08 => low32 s.hier.cseq
  | 0x0C => c.cseqH
  | 0x10 => fields [(min 255 (lag s), 0), (min (2 ^ 24 - 1) s.hier.lastKib, 8)]
  | 0x14 => fields [(holdCount s, 0), (b2n (s.hier.mst == .hold), 8), (b2n (s.hier.mst == .purged), 9)]
  | 0x20 => c.psel
  | 0x24 => portSel c (portStatus p)
  | 0x28 => portSel c (tget c.perr c.psel 0)
  | 0x2C => portSel c (portPeer p)
  | _ => 0

/-! ## GRD (Tables 14.9-14.11, 15.12-15.15) -/

/-- ALERT_N is low while a flag is set or VBAT is below the warning level (14 R370). -/
def alertLow (s : State) : Bool := s.bk.flags != 0 || s.grd.batWarn

def grdStatus (s : State) : Nat :=
  let g := s.grd
  fields [(b2n (alertLow s), 4), (b2n g.batWarn, 5), (b2n g.sapClr, 6), (b2n g.cold, 7), (g.lastCls, 12), (g.lastId, 16)]

def grdLcs (s : State) : Nat :=
  let k := match s.otp.kroot with
    | .unset => 0
    | .independent => 1
    | .maquette => 2
  fields [(k, 0), (b2n s.otp.klock, 2), (copiesValid s, 4), (intentFree s, 8), (b2n s.boot.rollfwd, 12), (lcCode s.otp.force, 16)]

def grdDbg (s : State) : Nat :=
  fields [(b2n s.grd.dbgOpen, 0), (b2n s.grd.erased, 1), (if s.grd.dbgOpen then s.grd.rights.toNat else 0, 16)]

def grdPwr (s : State) : Nat := fields [(b2n (s.grd.power == .p1), 0), (s.grd.wake, 4), (b2n s.grd.p1en, 8), (s.grd.p1idle, 16)]

/-- The registers of the selected source; zero where the selection names none. -/
def grdSource (s : State) (c : Copies) (o : Nat) : Nat :=
  match tamperBit c.gsel with
  | none => 0
  | some i =>
    let e := tget s.bk.events i .zero
    match o with
    | 0x34 => fields [(b2n (s.bk.flags.getLsbD i), 0), (b2n (s.grd.active.getLsbD i), 1), (b2n (onBattery c.gsel), 2), (tamperFloors.getD i 0, 4), (tamperClass s i, 8)]
    | 0x38 => e.sub
    | 0x40 => e.count
    | _ => 0

def grdReg (s : State) (c : Copies) (o : Nat) : Nat :=
  match o with
  | 0x00 => grdStatus s
  | 0x04 => s.bk.flags.toNat
  | 0x08 => s.grd.active.toNat
  | 0x0C => s.grd.pend.toNat
  | 0x10 => s.tsSub
  | 0x14 => c.tsH
  | 0x18 => s.bk.pwrcyc
  | 0x1C => s.opSecs / 3600
  | 0x20 => s.opSecs % 3600
  | 0x24 => s.grd.vbat
  | 0x28 => s.grd.temp.toNat
  | 0x30 => c.gsel
  | 0x3C => c.sstH
  | 0x50 => grdLcs s
  | 0x54 => grdDbg s
  | 0x58 => grdPwr s
  | _ => grdSource s c o

/-! ## FCR (Tables 16.11-16.14) -/

/-- Table 16.1 lists a source number. -/
def sourceListed (n : Nat) : Bool :=
  let k := n % 256
  match n / 256 with
  | 0x01 => k ≤ 64
  | 0x02 => k == 0
  | 0x03 => k < 48
  | 0x04 => k < 8
  | 0x05 => k < 32
  | 0x06 => k < 16
  | 0x07 => k < 24
  | 0x08 => k < 2
  | 0x09 => k < 3
  | 0x0A => k < 4
  | 0x0B => k < 5
  | 0x0C => k < 2
  | 0x0D => k ≤ 0x38
  | 0x0E => k < 28 || k == 0x20 || k == 0x21 || k == 0x22
  | 0x0F => k < 3
  | 0x10 => k < 3
  | _ => false

def fcrStatus (s : State) : Nat := fields [(colCode s.fcr.st, 0), (b2n s.fcr.fatal, 8), (b2n s.fcr.hblate, 9)]

/-- FCR_ERRPIN (Table 16.13). HOLD drives ERR_N only once a pulse has begun (log 95). -/
def errPin (s : State) : Nat :=
  let f := s.fcr
  fields [(b2n f.hold, 0), (b2n f.pulse, 1), (b2n f.locked, 2), (b2n ((f.hold && f.pulsed) || f.pulse || f.locked), 3)]

/-- The registers of the selected fault source. -/
def fcrSource (s : State) (c : Copies) (o : Nat) : Nat :=
  if !sourceListed c.ssel then 0
  else
    let f := fsrc s c.ssel
    match o with
    | 0x44 => fields [(f.last, 0), (b2n f.isol, 2), (b2n f.wire, 3)]
    | 0x48 => b2n f.errsel
    | 0x4C => tget c.scorr c.ssel 0
    | _ => 0

def fcrReg (s : State) (c : Copies) (o : Nat) : Nat :=
  match o with
  | 0x00 => fcrStatus s
  | 0x04 => errPin s
  | 0x0C => fields [(s.fcr.lastF, 0), (s.fcr.lastC, 16)]
  | 0x10 => c.corr
  | 0x14 => c.cont
  | 0x18 => s.fcr.ridx
  | 0x1C => s.fcr.unfl.length
  | 0x20 => fields [(s.fcr.jpos, 0), (b2n (s.clc.st == .opened), 31)]
  | 0x24 => c.jskip
  | 0x28 => tget c.drop 0 0
  | 0x2C => tget c.drop 1 0
  | 0x30 => tget c.drop 2 0
  | 0x34 => tget c.drop 3 0
  | 0x40 => c.ssel
  | _ => fcrSource s c o

/-! ## PMU (Tables 16.15, 16.16) -/

def pmuCounter (s : State) (n : Nat) : Counter := tget s.pmu n .zero

/-- The OVF bits of 32 counters. -/
def pmuOvf (s : State) (lo : Nat) : Nat := bitsOf (which 32 (fun n => (pmuCounter s (lo + n)).ovf))

def pmuReg (s : State) (c : Copies) (o : Nat) : Nat :=
  let k := pmuCounter s c.csel
  match o with
  | 0x00 => c.csel
  | 0x04 => k.evt.toNat + b2n k.ovf * 2 ^ 15
  | 0x08 => low32 k.cnt
  | 0x0C => c.pmuH
  | 0x10 => pmuOvf s 0
  | 0x14 => pmuOvf s 32
  | _ => 0

/-! ## MPU (Tables 19.12-19.16) -/

/-- The service template's number in MPU_MSEL. -/
def templateMaster : Nat := 0x3F

def Copies.master (c : Copies) : Nat := c.msel % 64
def Copies.slot (c : Copies) : Nat := c.msel / 256 % 64

/-- A master that takes no writes from any accessor: service cores, DMA5, the debug port. -/
def mpuLocked (m : Nat) : Bool := (2 ≤ m && m ≤ 0x31) || m == 0x37 || m == debugMaster

def windowSlot (k : Nat) : Bool := k ≤ 16

/-- A slot's rule in a master's active set, or in the other one. -/
def mpuRule (s : State) (m k : Nat) (active : Bool) : BitVec 64 :=
  if 54 ≤ k then 0
  else if m == templateMaster then (if k ≤ 16 then 0 else tget (if active then s.dsp.tmpl else s.dsp.ptmpl) k 0)
  else if m == 0x37 then BitVec.ofNat 64 (if windowSlot k then 0 else Config.dma5Rule k % 8)
  else if 0x38 < m then 0
  else
    let u := getMpu s m
    tget (if active == u.actB then u.b else u.a) k 0

def rightCode (r : Right) : Nat :=
  match r with
  | .read => 1
  | .write => 2
  | .fetch => 4

/-- MPU_VINFO: the right of the last denial. -/
def mpuInfo (u : Mpu) : Nat :=
  match u.vright with
  | none => 0
  | some r => fields [(rightCode r, 0), (1, 31)]

def mpuStatus (s : State) (m : Nat) : Nat :=
  if m == templateMaster then fields [(b2n s.dsp.tpend, 2)]
  else if 0x38 < m then 0
  else
    let u := getMpu s m
    fields [(b2n u.actB, 0), (b2n u.pend, 1), (b2n (mpuLocked m), 3)]

def mpuReg (s : State) (c : Copies) (o : Nat) : Nat :=
  let m := c.master
  let r (active : Bool) : Nat := (mpuRule s m c.slot active).toNat
  let u := if m ≤ 0x38 then getMpu s m else .reset
  match o with
  | 0x00 => c.msel
  | 0x04 => mpuStatus s m
  | 0x08 => low32 (r false)
  | 0x0C => if windowSlot c.slot then r false / 2 ^ 32 else 0
  | 0x10 => low32 (r true)
  | 0x14 => if windowSlot c.slot then r true / 2 ^ 32 else 0
  | 0x20 => low32 u.vaddr
  | 0x24 => u.vaddr / 2 ^ 32
  | 0x28 => mpuInfo u
  | _ => 0

/-! ## Register blocks (Table 19.1) -/

/-- What a register of the fourteen blocks reads for an accessor's copies. -/
def blockReg (s : State) (c : Copies) (off : Nat) : Nat :=
  let o := off % 0x4000
  match off / 0x4000 with
  | 0 => genReg s c o
  | 1 => hfeReg s c o
  | 2 => dspReg s c o
  | 3 => cyuReg s c o
  | 4 => vksReg s c o
  | 5 => bneReg s c o
  | 6 => symReg s c o
  | 7 => entReg s c o
  | 8 => clcReg s c o
  | 9 => lnkReg s c o
  | 10 => grdReg s c o
  | 11 => fcrReg s c o
  | 12 => pmuReg s c o
  | 13 => mpuReg s c o
  | _ => 0

/-! ## Queue windows, MSI-X (04 Table 4.5; 19 R474) -/

/-- The tenant that a function's window describes: the host's selection, or the VF's own. -/
def windowTenant (s : State) (fn : Nat) : Option Nat := if fn == 0 then some s.host.tsel else tenantOfVf s fn

def windowCtx (s : State) (fn : Nat) : Option (Nat × Ctx) := (windowTenant s fn).bind (fun t => (getCtx s t).map (fun c => (t, c)))

def queueStatus (p : Queue) : Nat :=
  let st := match p.st with
    | .enabled => 1
    | .frozen => 2
    | .error => 3
  fields [(st, 0), (p.pri, 8), (p.size, 16)]

/-- The registers of a pair at an offset from 1000h. -/
def pairReg (s : State) (fn o : Nat) : Nat :=
  match getQueue s fn (o / 0x20) with
  | none => 0
  | some p =>
    match o % 0x20 with
    | 0x00 => queueStatus p
    | 0x04 => p.sqhead
    | 0x08 => p.cqtail
    | _ => 0

def windowReg (s : State) (fn o : Nat) : Nat :=
  if 0x1000 ≤ o && o < 0x1200 then pairReg s fn (o - 0x1000)
  else
    match o with
    | 0x2000 =>
      let x := windowCtx s fn
      fields [((x.map (·.1)).getD 0, 0), ((x.map (fun e => ctxCode e.2.st)).getD 0, 16), (b2n (s.hfe.lost.getLsbD fn), 20)]
    | 0x2004 => ((windowCtx s fn).map (fun e => low32 (epochOf s e.1))).getD 0
    | 0x2008 => ((windowCtx s fn).map (·.2.units)).getD 0
    | 0x200C => (tget s.hfe.events fn 0).toNat
    | _ => 0

/-- An MSI-X table entry's DWORD. -/
def msixReg (s : State) (fn o : Nat) : Nat :=
  let e := tget s.hfe.msix (msixKey fn (o / 16)) .reset
  match o % 16 with
  | 0 => low32 e.addr
  | 4 => e.addr / 2 ^ 32
  | 8 => e.data
  | _ => b2n e.mask

/-- 32 pending bits. -/
def pbaReg (s : State) (fn o n : Nat) : Nat := bitsOf (which 32 (fun i => 8 * o + i < n && (tget s.hfe.msix (msixKey fn (8 * o + i)) .reset).pend))

/-- What the PF reads beyond the register blocks. -/
def pfReg (s : State) (off : Nat) : Nat :=
  if 0x80000 ≤ off && off < 0x84000 then windowReg s 0 (off - 0x80000)
  else if 0x90000 ≤ off && off < 0x90800 then msixReg s 0 (off - 0x90000)
  else if 0x98000 ≤ off && off < 0x98010 then pbaReg s 0 (off - 0x98000) 128
  else 0

/-- What a VF reads. -/
def vfReg (s : State) (fn off : Nat) : Nat :=
  if off < 0x4000 then windowReg s fn off
  else if 0x8000 ≤ off && off < 0x81E0 then msixReg s fn (off - 0x8000)
  else if 0xC000 ≤ off && off < 0xC008 then pbaReg s fn (off - 0xC000) 30
  else 0

end Sys2Proof.Machine
end

