-- ==== Sys2Proof/Machine/Registers.lean ====
section
/-! DEFINITION. Reads and writes of the register blocks, the queue windows and the MSI-X structures by their accessors (19
R473-R488, 16 R428-R431). -/

set_option Elab.async false

namespace Sys2Proof.Machine

/-! ## Accessors (R478) -/

/-- The copies of one of the four accessors; a VF has none. -/
def copiesOf (s : State) (a : Accessor) : Copies :=
  match a with
  | .host => s.host
  | .cp0 => s.cp0
  | .cp1 => s.cp1
  | .dbg => s.dbg
  | .vf _ => .reset

def modCopies (a : Accessor) (f : Copies → Copies) (s : State) : State :=
  match a with
  | .host => { s with host := f s.host }
  | .cp0 => { s with cp0 := f s.cp0 }
  | .cp1 => { s with cp1 := f s.cp1 }
  | .dbg => { s with dbg := f s.dbg }
  | .vf _ => s

/-- GEN_ACCERR of the requester (R475, R479). -/
def accErr (a : Accessor) (s : State) : State := modCopies a (fun c => { c with accerr := satAdd max32 c.accerr 1 }) s

/-- Where the register blocks end. -/
def blocksEnd : Nat := 0x38000

/-- The host reaches its BARs once the GEN registers are readable (17 R438; log 90). -/
def hostLive (s : State) : Bool := s.powered && !s.boot.perst && s.boot.phase != 0

/-- An accessor's request arrives: the host's and a VF's own while they are visible, a control pair's while it runs. -/
def reaches (s : State) (a : Accessor) (off : Nat) : Bool :=
  match a with
  | .host => hostLive s && off < 0x100000
  | .vf n => hostLive s && fnVisible s n && 1 ≤ n && n ≤ 64 && off < 0x10000
  | .cp0 => s.powered && s.boot.phase != 0 && !s.dsp.off0 && off < blocksEnd
  | .cp1 => s.powered && s.boot.phase != 0 && !s.dsp.off1 && off < blocksEnd
  | .dbg => off < blocksEnd

/-- The debug port reaches the blocks with the REGS right, and the PMU for reads with RDPMU (15 Table 15.6). -/
def debugMay (s : State) (off : Nat) (write : Bool) : Bool :=
  s.grd.dbgOpen && (s.grd.rights.getLsbD 12 || (s.grd.rights.getLsbD 5 && !write && off / 0x4000 == 12))

/-- The debug port's access meets a locked region. -/
def lockedFor (s : State) (a : Accessor) (off : Nat) (write : Bool) : Bool := a == .dbg && !debugMay s off write

/-! ## Reads (R475, R476, R481) -/

def valueOf (s : State) (a : Accessor) (off : Nat) : Nat :=
  match a with
  | .vf n => vfReg s n off
  | .host => if off < blocksEnd then blockReg s s.host off else pfReg s off
  | .cp0 => blockReg s s.cp0 off
  | .cp1 => blockReg s s.cp1 off
  | .dbg => blockReg s s.dbg off

/-- What a read of an RC register clears in the reader's copies. -/
def rcClear (off : Nat) (c : Copies) : Copies :=
  match off with
  | 0x00008 => { c with accerr := 0 }
  | 0x04008 => { c with direct := 0 }
  | 0x0400C => { c with dmaerr := 0 }
  | 0x08014 => { c with mpuviol := 0 }
  | 0x0C014 => { c with heldN := 0 }
  | 0x0C018 => { c with stray := 0 }
  | 0x10018 => { c with lkfail := 0 }
  | 0x1402C => { c with lops := terase c.lops c.lsel }
  | 0x18014 => { c with susp := 0 }
  | 0x18018 => { c with ctxfail := 0 }
  | 0x1801C => { c with hcmiss := 0 }
  | 0x1C020 => { c with seeds := 0 }
  | 0x1C024 => { c with hfail := 0 }
  | 0x2000C => { c with badpg := 0 }
  | 0x20010 => { c with nverr := 0 }
  | 0x24028 => { c with perr := terase c.perr c.psel }
  | 0x2C010 => { c with corr := 0 }
  | 0x2C014 => { c with cont := 0 }
  | 0x2C024 => { c with jskip := 0 }
  | 0x2C028 => { c with drop := terase c.drop 0 }
  | 0x2C02C => { c with drop := terase c.drop 1 }
  | 0x2C030 => { c with drop := terase c.drop 2 }
  | 0x2C034 => { c with drop := terase c.drop 3 }
  | 0x2C04C => { c with scorr := terase c.scorr c.ssel }
  | _ => c

/-- The seconds of the selected tamper source's last stamp. -/
def stampSeconds (s : State) (c : Copies) : Nat := ((tamperBit c.gsel).map (fun i => (tget s.bk.events i .zero).sec)).getD 0

/-- What a read of a low half latches for the reader (R481, 02 R38). -/
def latch (s : State) (off : Nat) (c : Copies) : Copies :=
  match off with
  | 0x0C004 => { c with cyuH := cycleRead s / 2 ^ 32 }
  | 0x24008 => { c with cseqH := s.hier.cseq / 2 ^ 32 }
  | 0x28010 => { c with tsH := s.tsSec }
  | 0x28038 => { c with sstH := stampSeconds s c }
  | 0x30008 => { c with pmuH := (pmuCounter s c.csel).cnt / 2 ^ 32 }
  | _ => c

/-- The function whose FN_EVENT an offset is. -/
def eventAt (a : Accessor) (off : Nat) : Option Nat :=
  match a with
  | .host => if off == 0x8200C then some 0 else none
  | .vf n => if off == 0x200C then some n else none
  | _ => none

/-- What a read of a DWORD changes. -/
def readEffect (a : Accessor) (off : Nat) (s : State) : State :=
  match eventAt a off with
  | some fn => { s with hfe := { s.hfe with events := terase s.hfe.events fn } }
  | none => if off < blocksEnd then modCopies a (fun c => rcClear off (latch s off c)) s else s

/-- The bytes that byte enables select. -/
def byteMask (be : BitVec 4) : Nat := (List.range 4).foldl (fun a i => if be.getLsbD i then a + 255 * 256 ^ i else a) 0

/-- A read of one DWORD: its requested bytes, and what it clears and latches. -/
def readDword (a : Accessor) (off : Nat) (be : BitVec 4) (s : State) : Word × State :=
  if be == 0 then (0, s) else (BitVec.ofNat 32 (valueOf s a off) &&& BitVec.ofNat 32 (byteMask be), readEffect a off s)

/-- The request is one or two accesses that R475 takes. -/
def takenRequest (r : RegAccess) : Bool := r.len == 1 || (r.len == 2 && r.off % 8 == 0)

/-- A read request (R475). -/
def regRead (a : Accessor) (r : RegAccess) (s : State) : State :=
  if r.off % 4 != 0 || !reaches s a r.off then s
  else if lockedFor s a r.off false then debugLocked r.off .read s
  else if !takenRequest r then accErr a (emit (.readData a [] true) s)
  else
    let x := readDword a r.off r.be s
    if r.len == 1 then emit (.readData a [x.1] false) x.2
    else
      let y := readDword a (r.off + 4) r.be2 x.2
      emit (.readData a [x.1, y.1] false) y.2

/-! ## Who may write what (R479, Table 19.4) -/

/-- Registers that the tables define in a block. -/
def blockOffsets (block : Nat) : List Nat :=
  match block with
  | 0 => [0x00, 0x04, 0x08, 0x10, 0x20, 0x24, 0x28, 0x2C, 0x30, 0x40, 0x44, 0x48, 0x4C]
  | 1 => [0x00, 0x08, 0x0C, 0x20, 0x24, 0x28, 0x2C, 0x30, 0x34]
  | 2 => [0x00, 0x04, 0x08, 0x0C, 0x10, 0x14, 0x18, 0x20, 0x24, 0x28]
  | 3 => [0x00, 0x04, 0x08, 0x0C, 0x10, 0x14, 0x18, 0x1C]
  | 4 => [0x00, 0x04, 0x08, 0x0C, 0x10, 0x14, 0x18]
  | 5 => [0x00, 0x04, 0x08, 0x0C, 0x20, 0x24, 0x28, 0x2C, 0x30]
  | 6 => [0x00, 0x04, 0x08, 0x0C, 0x10, 0x14, 0x18, 0x1C, 0x20, 0x24, 0x28]
  | 7 => [0x00, 0x04, 0x08, 0x0C, 0x10, 0x14, 0x18, 0x1C, 0x20, 0x24]
  | 8 => [0x00, 0x04, 0x08, 0x0C, 0x10, 0x14]
  | 9 => [0x00, 0x04, 0x08, 0x0C, 0x10, 0x14, 0x20, 0x24, 0x28, 0x2C]
  | 10 => [0x00, 0x04, 0x08, 0x0C, 0x10, 0x14, 0x18, 0x1C, 0x20, 0x24, 0x28, 0x30, 0x34, 0x38, 0x3C, 0x40, 0x50, 0x54, 0x58]
  | 11 => [0x00, 0x04, 0x08, 0x0C, 0x10, 0x14, 0x18, 0x1C, 0x20, 0x24, 0x28, 0x2C, 0x30, 0x34, 0x40, 0x44, 0x48, 0x4C]
  | 12 => [0x00, 0x04, 0x08, 0x0C, 0x10, 0x14]
  | 13 => [0x00, 0x04, 0x08, 0x0C, 0x10, 0x14, 0x18, 0x20, 0x24, 0x28]
  | _ => []

def regDefined (off : Nat) : Bool := (blockOffsets (off / 0x4000)).contains (off % 0x4000)

/-- A control pair. -/
def pairOf (a : Accessor) : Option Nat :=
  match a with
  | .cp0 => some 0
  | .cp1 => some 1
  | .host => none
  | .dbg => none
  | .vf _ => none

/-- Registers that all four accessors may write. -/
def sharedWritable : List Nat :=
  [0x04020, 0x08020, 0x14020, 0x24020, 0x28030, 0x2C040, 0x30000, 0x34000, 0x30004, 0x30010, 0x30014, 0x2C004, 0x2C048]

/-- Table 19.4. -/
def mayWrite (a : Accessor) (off : Nat) : Bool :=
  if sharedWritable.contains off then true
  else if [0x00020, 0x00024, 0x00028, 0x0002C, 0x00030].contains off then a == .host
  else if [0x2C008, 0x34008, 0x3400C, 0x34018].contains off then (pairOf a).isSome
  else false

/-! ## Select registers, PMU, FCR -/

/-- A write of a select register, cut to its fields (Table 19.5). -/
def writeSelect (off v : Nat) (c : Copies) : Copies :=
  match off with
  | 0x04020 => { c with tsel := v % 1024 }
  | 0x08020 => { c with fsel := v % 32768 }
  | 0x14020 => { c with lsel := v % 32 }
  | 0x24020 => { c with psel := v % 16 }
  | 0x28030 => { c with gsel := v % 256 }
  | 0x2C040 => { c with ssel := v % 65536 }
  | 0x30000 => { c with csel := v % 64 }
  | 0x34000 => { c with msel := v % 64 + 256 * (v / 256 % 64) }
  | _ => c

/-- The writable fields of PMU_EVT; CHAIN is an even counter's (Table 16.16). -/
def pmuEvtMask (n : Nat) : BitVec 32 := if n % 2 == 0 then 0x03FF7FFF else 0x03FF5FFF

/-- A write of PMU_EVT sets the event, zeroes the counter and clears its OVF (16 R428). -/
def writePmuEvt (n : Nat) (v : Word) (s : State) : State :=
  { s with pmu := tput s.pmu n { evt := v &&& pmuEvtMask n, cnt := 0, ovf := false } }

/-- A 1 clears OVF of its counter (16 R430). -/
def clearOvf (lo : Nat) (v : Word) (s : State) : State :=
  { s with pmu := tmap s.pmu (fun n c => if lo ≤ n && n < lo + 32 && v.getLsbD (n - lo) then { c with ovf := false } else c) }

/-- FCR_SCFG of the selected source, where it is one. -/
def writeScfg (src : Nat) (v : Word) (s : State) : State :=
  if sourceListed src then setFsrc src (fun f => { f with errsel := v.getLsbD 0 }) s else s

/-! ## PF queue pair 0 (17 R439) -/

def aqOn (s : State) : Bool := s.boot.aqcfg.getLsbD 31

/-- An address register of pair 0; ignored while EN is 1. -/
def writeAq (off : Nat) (v : Word) (s : State) : State :=
  if aqOn s then s
  else
    match off with
    | 0x00020 => { s with boot := { s.boot with aqsql := v &&& 0xFFFFF000 } }
    | 0x00024 => { s with boot := { s.boot with aqsqh := v } }
    | 0x00028 => { s with boot := { s.boot with aqcql := v &&& 0xFFFFF000 } }
    | _ => { s with boot := { s.boot with aqcqh := v } }

def aqSize (v : Word) : Nat := (v.extractLsb' 16 4).toNat
def aqVec (v : Word) : Nat := (v.extractLsb' 8 8).toNat

/-- LSIZE and VEC name a ring and an entry that exist (log 91). -/
def aqGood (v : Word) : Bool := 4 ≤ aqSize v && aqSize v ≤ 12 && (aqVec v < 128 || aqVec v == 0xFF)

/-- The pair that the GEN registers describe: priority 31, a message for every entry (log 91). -/
def aqPair (s : State) (v : Word) : Queue :=
  newQueue .enabled (2 ^ aqSize v) 31 (aqVec v) 0 0 (s.boot.aqsqh.toNat * 2 ^ 32 + s.boot.aqsql.toNat)
    (s.boot.aqcqh.toNat * 2 ^ 32 + s.boot.aqcql.toNat)

def setAqcfg (v : Word) (s : State) : State := { s with boot := { s.boot with aqcfg := v } }

/-- A write of GEN_AQCFG (Table 17.11): setting EN creates pair 0, clearing it deletes the pair as DELETE_QUEUE does; VEC is
stored and in force at once, LSIZE while EN is 0. -/
def writeAqcfg (v : Word) (s : State) : State :=
  if aqOn s then
    let size := s.boot.aqcfg &&& 0x000F0000
    let vec := if aqVec v < 128 then aqVec v else 0xFF
    let s := modQueue 0 0 (fun p => { p with vec := vec }) (setAqcfg ((v &&& 0x8000FF00) ||| size) s)
    if v.getLsbD 31 then s else modQueue 0 0 (fun p => { p with del := true }) s
  else if v.getLsbD 31 && aqGood v && (getQueue s 0 0).isNone then
    addQueue 0 0 (aqPair s v) (setAqcfg (v &&& 0x800FFF00) s)
  else setAqcfg (v &&& 0x000FFF00) s

/-! ## The MPU block (R485-R488) -/

/-- A slot's rule with one of its DWORDs written: the layouts of 05 Tables 5.3 and 5.4. -/
def ruleWrite (k : Nat) (hi : Bool) (v : Word) (r : BitVec 64) : BitVec 64 :=
  if windowSlot k then
    if hi then (r &&& 0x00000000FFFFFFFF) ||| ((v &&& 0x0007FFFF).zeroExtend 64 <<< 32)
    else (r &&& 0xFFFFFFFF00000000) ||| (v &&& 0xFFFFE007).zeroExtend 64
  else if hi then r
  else (v &&& 7).zeroExtend 64

/-- Writes of a master's inactive set. -/
def modInactive (f : Table (BitVec 64) → Table (BitVec 64)) (u : Mpu) : Mpu :=
  if u.actB then { u with a := f u.a } else { u with b := f u.b }

/-- MPU_ILO, MPU_IHI of a master that takes writes. -/
def writeMasterRule (a : Accessor) (m k : Nat) (hi : Bool) (v : Word) (s : State) : State :=
  if (getMpu s m).pend then accErr a s
  else if 54 ≤ k then s
  else setMpu m (modInactive (fun t => tput t k (ruleWrite k hi v (tget t k 0)))) s

/-- MPU_ILO, MPU_IHI of the service template: slots 17 to 53 of the pending one (R487). -/
def writeTemplateRule (a : Accessor) (k : Nat) (hi : Bool) (v : Word) (s : State) : State :=
  if s.dsp.tpend then accErr a s
  else if k ≤ 16 || 54 ≤ k then s
  else { s with dsp := { s.dsp with ptmpl := tput s.dsp.ptmpl k (ruleWrite k hi v (tget s.dsp.ptmpl k 0)) } }

/-- A write of MPU_ILO or MPU_IHI by a control pair. A LOCKED master drops and counts it; a number that names no master ignores
it. -/
def writeRule (a : Accessor) (hi : Bool) (v : Word) (s : State) : State :=
  let c := copiesOf s a
  if c.master == templateMaster then writeTemplateRule a c.slot hi v s
  else if mpuLocked c.master then accErr a s
  else if 0x38 < c.master then s
  else writeMasterRule a c.master c.slot hi v s

/-- MPU_CMD on a master (Table 19.15, R486). While a swap is staged, only the cancel is taken. -/
def masterCmd (a : Accessor) (m op : Nat) (s : State) : State :=
  let p := (getMpu s m).pend
  match op with
  | 1 => if p then accErr a s else setMpu m (fun u => { u with actB := !u.actB }) s
  | 2 => if p then accErr a s else setMpu m (fun u => { u with pend := true }) s
  | 3 => setMpu m (fun u => { u with pend := false }) s
  | 4 => if p then accErr a s else setMpu m (fun u => if u.actB then { u with a := u.b } else { u with b := u.a }) s
  | _ => s

/-- MPU_CMD on the service template (R487). -/
def templateCmd (a : Accessor) (op : Nat) (s : State) : State :=
  let p := s.dsp.tpend
  match op with
  | 1 => if p then accErr a s else { s with dsp := { s.dsp with tmpl := s.dsp.ptmpl } }
  | 2 => if p then accErr a s else { s with dsp := { s.dsp with tpend := true } }
  | 3 => { s with dsp := { s.dsp with tpend := false, ptmpl := s.dsp.tmpl } }
  | 4 => if p then accErr a s else { s with dsp := { s.dsp with ptmpl := s.dsp.tmpl } }
  | _ => s

/-- A write of MPU_CMD by a control pair. -/
def writeMpuCmd (a : Accessor) (v : Word) (s : State) : State :=
  let m := (copiesOf s a).master
  let op := v.toNat % 8
  if m == templateMaster then templateCmd a op s
  else if mpuLocked m then accErr a s
  else if 0x38 < m then s
  else masterCmd a m op s

/-! ## Writes of the blocks -/

/-- A write that the writer may make. -/
def blockStore (a : Accessor) (off : Nat) (v : Word) (s : State) : State :=
  match off with
  | 0x30004 => writePmuEvt (copiesOf s a).csel v s
  | 0x30010 => clearOvf 0 v s
  | 0x30014 => clearOvf 32 v s
  | 0x2C004 => { s with fcr := { s.fcr with hold := v.getLsbD 0 } }
  | 0x2C048 => writeScfg (copiesOf s a).ssel v s
  | 0x2C008 => heartbeat ((pairOf a).getD 0) s
  | 0x00020 => writeAq off v s
  | 0x00024 => writeAq off v s
  | 0x00028 => writeAq off v s
  | 0x0002C => writeAq off v s
  | 0x00030 => writeAqcfg v s
  | 0x34008 => writeRule a false v s
  | 0x3400C => writeRule a true v s
  | 0x34018 => writeMpuCmd a v s
  | _ => modCopies a (writeSelect off v.toNat) s

/-- A write of a DWORD of the blocks: stored, or dropped and counted, or ignored where no register is defined (R473, R479). -/
def blockWrite (a : Accessor) (off : Nat) (v : Word) (s : State) : State :=
  if mayWrite a off then blockStore a off v s
  else if regDefined off then accErr a s
  else s

/-! ## Writes of queue windows and MSI-X tables -/

/-- A doorbell of a window; its other registers are read only (04 Table 4.5). -/
def windowWrite (fn o : Nat) (v : Word) (s : State) : State :=
  if o < 0x80 then (if o % 8 == 0 then sqTail fn (o / 8) v.toNat s else cqHead fn (o / 8) v.toNat s) else s

/-- A DWORD of an MSI-X entry (04 R84). -/
def msixWrite (fn o : Nat) (v : Word) (s : State) : State :=
  let k := msixKey fn (o / 16)
  let e := tget s.hfe.msix k .reset
  let e := match o % 16 with
    | 0 => { e with addr := e.addr / 2 ^ 32 * 2 ^ 32 + v.toNat }
    | 4 => { e with addr := v.toNat * 2 ^ 32 + e.addr % 2 ^ 32 }
    | 8 => { e with data := v.toNat }
    | _ => { e with mask := v.getLsbD 0 }
  sendPending fn { s with hfe := { s.hfe with msix := tput s.hfe.msix k e } }

def pfWrite (off : Nat) (v : Word) (s : State) : State :=
  if 0x80000 ≤ off && off < 0x84000 then windowWrite 0 (off - 0x80000) v s
  else if 0x90000 ≤ off && off < 0x90800 then msixWrite 0 (off - 0x90000) v s
  else s

def vfWrite (fn off : Nat) (v : Word) (s : State) : State :=
  if off < 0x4000 then windowWrite fn off v s
  else if 0x8000 ≤ off && off < 0x81E0 then msixWrite fn (off - 0x8000) v s
  else s

/-- A write of one DWORD: with a byte left out it is dropped and counted (R475). -/
def writeDword (a : Accessor) (off : Nat) (be : BitVec 4) (v : Word) (s : State) : State :=
  if be != 15 then accErr a s
  else
    match a with
    | .vf n => vfWrite n off v s
    | .host => if off < blocksEnd then blockWrite a off v s else pfWrite off v s
    | _ => blockWrite a off v s

/-- A write request (R475). -/
def regWrite (a : Accessor) (r : RegAccess) (v w : Word) (s : State) : State :=
  if r.off % 4 != 0 || !reaches s a r.off then s
  else if lockedFor s a r.off true then debugLocked r.off .write s
  else if !takenRequest r then accErr a s
  else
    let s := writeDword a r.off r.be v s
    if r.len == 1 then s else writeDword a (r.off + 4) r.be2 w s

/-- A write of one register. -/
def writeReg (a : Accessor) (off : Nat) (be : BitVec 4) (v : Word) (s : State) : State :=
  regWrite a { off := off, len := 1, be := be, be2 := 0 } v 0 s

/-! ## The commands -/

/-- RC_REGISTER_READ (R475, R481). -/
def execRcRegisterRead (a : Accessor) (r : RegAccess) (s : State) : Host.Outcome State Fault Refusal := .next (regRead a r s)

/-- LATCH_LOW_READ (02 R38, 19 R481). -/
def execLatchLowRead (a : Accessor) (r : RegAccess) (s : State) : Host.Outcome State Fault Refusal := .next (regRead a r s)

/-- PMU_EVT_WRITE (16 R428). -/
def execPmuEvtWrite (a : Accessor) (be : BitVec 4) (v : Word) (s : State) : Host.Outcome State Fault Refusal :=
  .next (writeReg a 0x30004 be v s)

/-- PMU_OVF_CLEAR (16 R430). -/
def execPmuOvfClear (a : Accessor) (hi : Bool) (be : BitVec 4) (v : Word) (s : State) : Host.Outcome State Fault Refusal :=
  .next (writeReg a (if hi then 0x30014 else 0x30010) be v s)

/-- Events that count clock cycles, which the model does not run (16 Table 16.10; log 92). -/
def clockEvent (n : Nat) : Bool :=
  [0x001, 0x003, 0x016, 0x017, 0x018, 0x075, 0x099].contains n || (0x060 ≤ n && n ≤ 0x067)

/-- PMU_COUNTER_WRAP (16 R430): counter `n` stands before its wrap, or counts clock cycles, whose number the model does not
hold, and one more occurrence comes. -/
def execPmuCounterWrap (n : Nat) (s : State) : Host.Outcome State Fault Refusal :=
  let c := pmuCounter s n
  if c.en && (c.cnt == 2 ^ 48 - 1 || clockEvent c.event) && !(n % 2 == 1 && chained s (n - 1)) then
    .next (pmuWrapped n { s with pmu := tput s.pmu n { c with cnt := 0 } })
  else .next s

/-- ERRPIN_HOLD_WRITE (16 R416). -/
def execErrpinHoldWrite (a : Accessor) (be : BitVec 4) (v : Word) (s : State) : Host.Outcome State Fault Refusal :=
  .next (writeReg a 0x2C004 be v s)

/-- MPU_RULE_WRITE (R486, R487). -/
def execMpuRuleWrite (a : Accessor) (hi : Bool) (be : BitVec 4) (v : Word) (s : State) : Host.Outcome State Fault Refusal :=
  .next (writeReg a (if hi then 0x3400C else 0x34008) be v s)

/-- MPU_SWAP_NOW: OP 001b. -/
def execMpuSwapNow (a : Accessor) (s : State) : Host.Outcome State Fault Refusal := .next (writeReg a 0x34018 15 1 s)

/-- MPU_SWAP_STAGED: OP 010b. -/
def execMpuSwapStaged (a : Accessor) (s : State) : Host.Outcome State Fault Refusal := .next (writeReg a 0x34018 15 2 s)

/-- MPU_CANCEL: OP 011b. -/
def execMpuCancel (a : Accessor) (s : State) : Host.Outcome State Fault Refusal := .next (writeReg a 0x34018 15 3 s)

/-- MPU_COPY_ACTIVE: OP 100b. -/
def execMpuCopyActive (a : Accessor) (s : State) : Host.Outcome State Fault Refusal := .next (writeReg a 0x34018 15 4 s)

/-- AQ_ENABLE (17 R439): a write of GEN_AQCFG with EN set. -/
def execAqEnable (a : Accessor) (v : Word) (s : State) : Host.Outcome State Fault Refusal :=
  .next (writeReg a 0x00030 15 (v ||| 0x80000000) s)

/-- AQ_DISABLE (17 R439): a write of GEN_AQCFG with EN clear. -/
def execAqDisable (a : Accessor) (v : Word) (s : State) : Host.Outcome State Fault Refusal :=
  .next (writeReg a 0x00030 15 (v &&& 0x7FFFFFFF) s)

/-- REGISTER_WRITE (R475, R479). -/
def execRegisterWrite (a : Accessor) (r : RegAccess) (v w : Word) (s : State) : Host.Outcome State Fault Refusal :=
  .next (regWrite a r v w s)

end Sys2Proof.Machine
end

