-- ==== Sys2Proof/Machine/Smbus.lean ====
section
/-! DEFINITION. The SMBus port and the TAP (16 R427; 18 R456). -/

set_option Elab.async false

namespace Sys2Proof.Machine

/-! ## SMBus (16 R427) -/

/-- The eight registers of HEALTH_GET, most significant byte first (log 93). -/
def healthBytes (s : State) : Bytes :=
  [grdStatus s, s.bk.flags.toNat, s.grd.temp.toNat, s.grd.vbat, grdLcs s, fcrStatus s, s.fcr.lastF + s.fcr.lastC * 2 ^ 16, s.fcr.ridx].flatMap (toBE 4)

/-- HEALTH_GET: answered in every guard state except BATTERY; SMB_ALERT_N goes high. -/
def execHealthGet (s : State) : Host.Outcome State Fault Refusal :=
  if s.powered then .next (emit (.smbus (healthBytes s)) { s with fcr := { s.fcr with smbAlert := false } }) else .next s

/-- MCTP_CONTROL: answered in hardware, with an answer that MCTP defines (log 18). -/
def execMctpControl (msg : Bytes) (s : State) : Host.Outcome State Fault Refusal :=
  if s.powered then .next (emit (.smbus (Config.mctpAnswer msg)) s) else .next s

/-! ## TAP (18 R456) -/

/-- BYPASS: one register of one bit, which captures 0, between TDI and TDO. -/
def bypassOut (bits : List Bool) : List Bool := (false :: bits).take bits.length

/-- TAP_BYPASS: offered in every state. -/
def execTapBypass (bits : List Bool) (s : State) : Host.Outcome State Fault Refusal :=
  if s.powered then .next (emit (.tdo (bypassOut bits)) s) else .next s

/-- The 32 bits of GEN_STEP, bit 0 first (19 Table 19.7). -/
def idcodeOut : List Bool := (List.range 32).map (fun i => bit genStep i)

/-- TAP_IDCODE: offered in every state. -/
def execTapIdcode (s : State) : Host.Outcome State Fault Refusal :=
  if s.powered then .next (emit (.tdo idcodeOut) s) else .next s

/-- Boundary scan is available while debug is open with the SCAN right. -/
def scanMay (s : State) : Bool := s.powered && s.grd.dbgOpen && s.grd.rights.getLsbD 0

/-- `n` bits that the boundary register shifts out: what the balls read, which no rule gives, so free ones (log 94). -/
def boundaryBits (n : Nat) (s : State) : List Bool × State :=
  let u := takeFree (2 ^ n) s
  ((List.range n).map (fun i => bit u.1 i), u.2)

/-- A boundary-scan instruction shifts the register; otherwise the TAP does not offer it, and nothing happens (log 94). -/
def boundaryScan (bits : List Bool) (s : State) : State :=
  if scanMay s then
    let u := boundaryBits bits.length s
    emit (.tdo u.1) u.2
  else s

/-- TAP_SAMPLE_PRELOAD. -/
def execTapSamplePreload (bits : List Bool) (s : State) : Host.Outcome State Fault Refusal := .next (boundaryScan bits s)

/-- TAP_EXTEST. -/
def execTapExtest (bits : List Bool) (s : State) : Host.Outcome State Fault Refusal := .next (boundaryScan bits s)

end Sys2Proof.Machine
end

