-- ==== Sys2Proof/Machine/Dispatch.lean ====
section
/-! DEFINITION. exec: one arm per command, each one call of its meaning. -/

namespace Sys2Proof.Machine

/-- The effect of one command on everything but the queue (95). -/
def exec (i : Instr) (s : State) : Host.Outcome State Fault Refusal :=
      match i with
      | .sqTailWrite fn q v => Sys2Proof.Machine.execSqTailWrite fn q v s
      | .cqHeadWrite fn q v => Sys2Proof.Machine.execCqHeadWrite fn q v s
      | .submissionEntryFetch entry segs => Sys2Proof.Machine.execSubmissionEntryFetch entry segs s
      | .packetAdmission pkt => Sys2Proof.Machine.execPacketAdmission pkt s
      | .hostDmaError e => Sys2Proof.Machine.execHostDmaError e s
      | .itemHandoff => Sys2Proof.Machine.execItemHandoff s
      | .itemResume core => Sys2Proof.Machine.execItemResume core s
      | .windowGrant item base len => Sys2Proof.Machine.execWindowGrant item base len s
      | .decanterRelease item => Sys2Proof.Machine.execDecanterRelease item s
      | .ctimExpiry fn q => Sys2Proof.Machine.execCtimExpiry fn q s
      | .vfFlr vf => Sys2Proof.Machine.execVfFlr vf s
      | .pfFlr => Sys2Proof.Machine.execPfFlr s
      | .tenantResetComplete tenant => Sys2Proof.Machine.execTenantResetComplete tenant s
      | .freezeComplete tenant => Sys2Proof.Machine.execFreezeComplete tenant s
      | .deleteQueueComplete fn q => Sys2Proof.Machine.execDeleteQueueComplete fn q s
      | .cycinEdge at_ low high => Sys2Proof.Machine.execCycinEdge at_ low high s
      | .windowEnd => Sys2Proof.Machine.execWindowEnd s
      | .cycleLostTimeout => Sys2Proof.Machine.execCycleLostTimeout s
      | .acquireTimeout => Sys2Proof.Machine.execAcquireTimeout s
      | .localBoundary => Sys2Proof.Machine.execLocalBoundary s
      | .edgeMessage at_ m => Sys2Proof.Machine.execEdgeMessage at_ m s
      | .edgeApply => Sys2Proof.Machine.execEdgeApply s
      | .cycleSet item => Sys2Proof.Machine.execCycleSet item s
      | .attach item => Sys2Proof.Machine.execAttach item s
      | .detach item => Sys2Proof.Machine.execDetach item s
      | .createQueue item => Sys2Proof.Machine.execCreateQueue item s
      | .tenantReset item => Sys2Proof.Machine.execTenantReset item s
      | .deleteQueue item => Sys2Proof.Machine.execDeleteQueue item s
      | .setQuota item => Sys2Proof.Machine.execSetQuota item s
      | .quarantine item => Sys2Proof.Machine.execQuarantine item s
      | .queryTenant item => Sys2Proof.Machine.execQueryTenant item s
      | .freeze item => Sys2Proof.Machine.execFreeze item s
      | .save item => Sys2Proof.Machine.execSave item s
      | .restore item => Sys2Proof.Machine.execRestore item s
      | .thaw item => Sys2Proof.Machine.execThaw item s
      | .graft item => Sys2Proof.Machine.execGraft item s
      | .prune item => Sys2Proof.Machine.execPrune item s
      | .scrub item => Sys2Proof.Machine.execScrub item s
      | .query item => Sys2Proof.Machine.execQuery item s
      | .derive item => Sys2Proof.Machine.execDerive item s
      | .generate item => Sys2Proof.Machine.execGenerate item s
      | .officerSet item => Sys2Proof.Machine.execOfficerSet item s
      | .vineStatus item => Sys2Proof.Machine.execVineStatus item s
      | .pinTranslate item => Sys2Proof.Machine.execPinTranslate item s
      | .pinVerify item => Sys2Proof.Machine.execPinVerify item s
      | .pinChange item => Sys2Proof.Machine.execPinChange item s
      | .pinGenerate item => Sys2Proof.Machine.execPinGenerate item s
      | .cvvGenerate item => Sys2Proof.Machine.execCvvGenerate item s
      | .cvvVerify item => Sys2Proof.Machine.execCvvVerify item s
      | .arqcVerify item => Sys2Proof.Machine.execArqcVerify item s
      | .scriptMac item => Sys2Proof.Machine.execScriptMac item s
      | .scriptEncrypt item => Sys2Proof.Machine.execScriptEncrypt item s
      | .dukptDerive item => Sys2Proof.Machine.execDukptDerive item s
      | .dukptPinTranslate item => Sys2Proof.Machine.execDukptPinTranslate item s
      | .dukptCipher item => Sys2Proof.Machine.execDukptCipher item s
      | .dukptMac item => Sys2Proof.Machine.execDukptMac item s
      | .macGenerate item => Sys2Proof.Machine.execMacGenerate item s
      | .macVerify item => Sys2Proof.Machine.execMacVerify item s
      | .encrypt item => Sys2Proof.Machine.execEncrypt item s
      | .decrypt item => Sys2Proof.Machine.execDecrypt item s
      | .keyWrap item => Sys2Proof.Machine.execKeyWrap item s
      | .keyUnwrap item => Sys2Proof.Machine.execKeyUnwrap item s
      | .digest item => Sys2Proof.Machine.execDigest item s
      | .streamStart item => Sys2Proof.Machine.execStreamStart item s
      | .streamUpdate item => Sys2Proof.Machine.execStreamUpdate item s
      | .streamFinish item => Sys2Proof.Machine.execStreamFinish item s
      | .rsaSign item => Sys2Proof.Machine.execRsaSign item s
      | .rsaVerify item => Sys2Proof.Machine.execRsaVerify item s
      | .rsaDecrypt item => Sys2Proof.Machine.execRsaDecrypt item s
      | .ecdsaSign item => Sys2Proof.Machine.execEcdsaSign item s
      | .ecdsaVerify item => Sys2Proof.Machine.execEcdsaVerify item s
      | .ecdh item => Sys2Proof.Machine.execEcdh item s
      | .eddsaSign item => Sys2Proof.Machine.execEddsaSign item s
      | .eddsaVerify item => Sys2Proof.Machine.execEddsaVerify item s
      | .mlkemEncaps item => Sys2Proof.Machine.execMlkemEncaps item s
      | .mlkemDecaps item => Sys2Proof.Machine.execMlkemDecaps item s
      | .mldsaSign item => Sys2Proof.Machine.execMldsaSign item s
      | .mldsaVerify item => Sys2Proof.Machine.execMldsaVerify item s
      | .keygen item => Sys2Proof.Machine.execKeygen item s
      | .pubkeyRead item => Sys2Proof.Machine.execPubkeyRead item s
      | .kbImport item => Sys2Proof.Machine.execKbImport item s
      | .kbExport item => Sys2Proof.Machine.execKbExport item s
      | .tokenise item => Sys2Proof.Machine.execTokenise item s
      | .detokenise item => Sys2Proof.Machine.execDetokenise item s
      | .delete item => Sys2Proof.Machine.execDelete item s
      | .exportOpen item => Sys2Proof.Machine.execExportOpen item s
      | .exportNext item => Sys2Proof.Machine.execExportNext item s
      | .vaultQuery item => Sys2Proof.Machine.execVaultQuery item s
      | .random item => Sys2Proof.Machine.execRandom item s
      | .drbgStatus item => Sys2Proof.Machine.execDrbgStatus item s
      | .hierConfig item => Sys2Proof.Machine.execHierConfig item s
      | .hierOfficers item => Sys2Proof.Machine.execHierOfficers item s
      | .tenantCreate item => Sys2Proof.Machine.execTenantCreate item s
      | .tenantDelete item => Sys2Proof.Machine.execTenantDelete item s
      | .place item => Sys2Proof.Machine.execPlace item s
      | .handover item => Sys2Proof.Machine.execHandover item s
      | .forceActive item => Sys2Proof.Machine.execForceActive item s
      | .hierQuery item => Sys2Proof.Machine.execHierQuery item s
      | .dirQuery item => Sys2Proof.Machine.execDirQuery item s
      | .tkeyRead item => Sys2Proof.Machine.execTkeyRead item s
      | .lcStatus item => Sys2Proof.Machine.execLcStatus item s
      | .lcTransition item => Sys2Proof.Machine.execLcTransition item s
      | .lcEraseComplete => Sys2Proof.Machine.execLcEraseComplete s
      | .krootSet item => Sys2Proof.Machine.execKrootSet item s
      | .hoffInstall item => Sys2Proof.Machine.execHoffInstall item s
      | .debugOpen item => Sys2Proof.Machine.execDebugOpen item s
      | .powerCtl item => Sys2Proof.Machine.execPowerCtl item s
      | .adapterRecord item => Sys2Proof.Machine.execAdapterRecord item s
      | .mapLoad item => Sys2Proof.Machine.execMapLoad item s
      | .mapQuery item => Sys2Proof.Machine.execMapQuery item s
      | .recRead item => Sys2Proof.Machine.execRecRead item s
      | .recAck item => Sys2Proof.Machine.execRecAck item s
      | .jrnlRead item => Sys2Proof.Machine.execJrnlRead item s
      | .faultStatus item => Sys2Proof.Machine.execFaultStatus item s
      | .update item => Sys2Proof.Machine.execUpdate item s
      | .updateImageWritten good => Sys2Proof.Machine.execUpdateImageWritten good s
      | .groupReloadComplete pass => Sys2Proof.Machine.execGroupReloadComplete pass s
      | .restart item => Sys2Proof.Machine.execRestart item s
      | .updateStatus item => Sys2Proof.Machine.execUpdateStatus item s
      | .cellarFormat item => Sys2Proof.Machine.execCellarFormat item s
      | .tamperClear item => Sys2Proof.Machine.execTamperClear item s
      | .laneTest item => Sys2Proof.Machine.execLaneTest item s
      | .curveQuery item => Sys2Proof.Machine.execCurveQuery item s
      | .unitTest item => Sys2Proof.Machine.execUnitTest item s
      | .engineRequestStart k => Sys2Proof.Machine.execEngineRequestStart k s
      | .segmentEnd unit => Sys2Proof.Machine.execSegmentEnd unit s
      | .engineRequestComplete src => Sys2Proof.Machine.execEngineRequestComplete src s
      | .bneRequestStart => Sys2Proof.Machine.execBneRequestStart s
      | .hcacheFillWriteback => Sys2Proof.Machine.execHcacheFillWriteback s
      | .laneDrainComplete lane => Sys2Proof.Machine.execLaneDrainComplete lane s
      | .laneKatComplete lane failed => Sys2Proof.Machine.execLaneKatComplete lane failed s
      | .unitKatComplete unit failed => Sys2Proof.Machine.execUnitKatComplete unit failed s
      | .groupDrainComplete group => Sys2Proof.Machine.execGroupDrainComplete group s
      | .sweeperStep => Sys2Proof.Machine.execSweeperStep s
      | .vineBaseRewrite => Sys2Proof.Machine.execVineBaseRewrite s
      | .leaseBlockRequest m => Sys2Proof.Machine.execLeaseBlockRequest m s
      | .leaseBlockGrant m => Sys2Proof.Machine.execLeaseBlockGrant m s
      | .startupTestComplete src pass apt => Sys2Proof.Machine.execStartupTestComplete src pass apt s
      | .healthTestFail src apt => Sys2Proof.Machine.execHealthTestFail src apt s
      | .healthyRunCount src => Sys2Proof.Machine.execHealthyRunCount src s
      | .conditionerBlockClose samples => Sys2Proof.Machine.execConditionerBlockClose samples s
      | .drbgDraw => Sys2Proof.Machine.execDrbgDraw s
      | .drawTimeout => Sys2Proof.Machine.execDrawTimeout s
      | .cellarReadComplete item good => Sys2Proof.Machine.execCellarReadComplete item good s
      | .commitLogWritten => Sys2Proof.Machine.execCommitLogWritten s
      | .commitFlushDone => Sys2Proof.Machine.execCommitFlushDone s
      | .nvmePortFailure port => Sys2Proof.Machine.execNvmePortFailure port s
      | .smartWarning drive => Sys2Proof.Machine.execSmartWarning drive s
      | .vaultSweeperStep tenant page => Sys2Proof.Machine.execVaultSweeperStep tenant page s
      | .pageMessage page digestMatches => Sys2Proof.Machine.execPageMessage page digestMatches s
      | .helloMessage port m => Sys2Proof.Machine.execHelloMessage port m s
      | .finishMessage port m => Sys2Proof.Machine.execFinishMessage port m s
      | .linkRetry port => Sys2Proof.Machine.execLinkRetry port s
      | .frameTagFailure port at_ => Sys2Proof.Machine.execFrameTagFailure port at_ s
      | .frameCounterLimit port => Sys2Proof.Machine.execFrameCounterLimit port s
      | .pollTimer at_ m => Sys2Proof.Machine.execPollTimer at_ m s
      | .managerLost => Sys2Proof.Machine.execManagerLost s
      | .holdLimit => Sys2Proof.Machine.execHoldLimit s
      | .resyncComplete => Sys2Proof.Machine.execResyncComplete s
      | .placementMessage at_ m => Sys2Proof.Machine.execPlacementMessage at_ m s
      | .keydistMessage at_ m => Sys2Proof.Machine.execKeydistMessage at_ m s
      | .keydistAck fromId ref => Sys2Proof.Machine.execKeydistAck fromId ref s
      | .epochHoldTimeout => Sys2Proof.Machine.execEpochHoldTimeout s
      | .forwardMessage at_ m => Sys2Proof.Machine.execForwardMessage at_ m s
      | .answerMessage at_ m => Sys2Proof.Machine.execAnswerMessage at_ m s
      | .takeoverMessage at_ mterm serial => Sys2Proof.Machine.execTakeoverMessage at_ mterm serial s
      | .deltaMessage at_ m => Sys2Proof.Machine.execDeltaMessage at_ m s
      | .dackMessage cseq mterm => Sys2Proof.Machine.execDackMessage cseq mterm s
      | .bulkMessage m => Sys2Proof.Machine.execBulkMessage m s
      | .twinHoldToggle at_ p n => Sys2Proof.Machine.execTwinHoldToggle at_ p n s
      | .missedToggles at_ => Sys2Proof.Machine.execMissedToggles at_ s
      | .arbitrationTimeout => Sys2Proof.Machine.execArbitrationTimeout s
      | .tamperDetect at_ src => Sys2Proof.Machine.execTamperDetect at_ src s
      | .responseComplete stillActive => Sys2Proof.Machine.execResponseComplete stillActive s
      | .heldTimeout => Sys2Proof.Machine.execHeldTimeout s
      | .armingTimeout => Sys2Proof.Machine.execArmingTimeout s
      | .mainPowerUp at_ => Sys2Proof.Machine.execMainPowerUp at_ s
      | .mainPowerLoss at_ => Sys2Proof.Machine.execMainPowerLoss at_ s
      | .batteryTamper at_ src => Sys2Proof.Machine.execBatteryTamper at_ src s
      | .vbatColdStart at_ seeds => Sys2Proof.Machine.execVbatColdStart at_ seeds s
      | .vbatWarning millivolts => Sys2Proof.Machine.execVbatWarning millivolts s
      | .debugPortLockedAccess at_ addr right => Sys2Proof.Machine.execDebugPortLockedAccess at_ addr right s
      | .faultReport at_ r more => Sys2Proof.Machine.execFaultReport at_ r more s
      | .isolationTimeout src => Sys2Proof.Machine.execIsolationTimeout src s
      | .errPulseEnd => Sys2Proof.Machine.execErrPulseEnd s
      | .heartbeatWrite at_ pair => Sys2Proof.Machine.execHeartbeatWrite at_ pair s
      | .heartbeatTimeout => Sys2Proof.Machine.execHeartbeatTimeout s
      | .sequencerFlushDone => Sys2Proof.Machine.execSequencerFlushDone s
      | .sequencerError => Sys2Proof.Machine.execSequencerError s
      | .journalFlush => Sys2Proof.Machine.execJournalFlush s
      | .pwrfailNAssert at_ => Sys2Proof.Machine.execPwrfailNAssert at_ s
      | .perstNAssert at_ => Sys2Proof.Machine.execPerstNAssert at_ s
      | .resetNAssert at_ => Sys2Proof.Machine.execResetNAssert at_ s
      | .perstNRelease at_ env => Sys2Proof.Machine.execPerstNRelease at_ env s
      | .bootReady => Sys2Proof.Machine.execBootReady s
      | .p1Entry => Sys2Proof.Machine.execP1Entry s
      | .p1Wake cause => Sys2Proof.Machine.execP1Wake cause s
      | .p2Entry => Sys2Proof.Machine.execP2Entry s
      | .p2Wake cause enough => Sys2Proof.Machine.execP2Wake cause enough s
      | .healthGet => Sys2Proof.Machine.execHealthGet s
      | .mctpControl msg => Sys2Proof.Machine.execMctpControl msg s
      | .tapBypass bits => Sys2Proof.Machine.execTapBypass bits s
      | .tapIdcode => Sys2Proof.Machine.execTapIdcode s
      | .tapSamplePreload bits => Sys2Proof.Machine.execTapSamplePreload bits s
      | .tapExtest bits => Sys2Proof.Machine.execTapExtest bits s
      | .rcRegisterRead a r => Sys2Proof.Machine.execRcRegisterRead a r s
      | .latchLowRead a r => Sys2Proof.Machine.execLatchLowRead a r s
      | .pmuEvtWrite a be v => Sys2Proof.Machine.execPmuEvtWrite a be v s
      | .pmuOvfClear a hi be v => Sys2Proof.Machine.execPmuOvfClear a hi be v s
      | .pmuCounterWrap n => Sys2Proof.Machine.execPmuCounterWrap n s
      | .errpinHoldWrite a be v => Sys2Proof.Machine.execErrpinHoldWrite a be v s
      | .mpuRuleWrite a hi be v => Sys2Proof.Machine.execMpuRuleWrite a hi be v s
      | .mpuSwapNow a => Sys2Proof.Machine.execMpuSwapNow a s
      | .mpuSwapStaged a => Sys2Proof.Machine.execMpuSwapStaged a s
      | .mpuCancel a => Sys2Proof.Machine.execMpuCancel a s
      | .mpuCopyActive a => Sys2Proof.Machine.execMpuCopyActive a s
      | .aqEnable a v => Sys2Proof.Machine.execAqEnable a v s
      | .aqDisable a v => Sys2Proof.Machine.execAqDisable a v s
      | .registerWrite a r v w => Sys2Proof.Machine.execRegisterWrite a r v w s
      | .validToggles at_ partnerCseq => Sys2Proof.Machine.execValidToggles at_ partnerCseq s
      | .controlThreadReady t => Sys2Proof.Machine.execControlThreadReady t s
      | .configurationWrite w => Sys2Proof.Machine.execConfigurationWrite w s
      | .pwrfailNRelease at_ => Sys2Proof.Machine.execPwrfailNRelease at_ s
      | .announcedPowerDown at_ => Sys2Proof.Machine.execAnnouncedPowerDown at_ s
      | .journalFlushComplete => Sys2Proof.Machine.execJournalFlushComplete s
      | .flushResetTimeout => Sys2Proof.Machine.execFlushResetTimeout s

end Sys2Proof.Machine
end

