-- ==== Sys2Proof/Safety.lean ====
section
/-! DEFINITION. The terms in which claims speak of a run: an item at work, its payload, and what no step may undo. -/

set_option Elab.async false

namespace Sys2Proof.Machine

/-- Item `id` is `it`: it holds an issue slot, carries `op` as its own opcode, and has had the answers `l` (05 R104). -/
def Running (s : State) (id op : Nat) (it : Item) (l : List Answer) : Prop :=
  getItem s id = some it ∧ (∃ core ctx, it.phase = .running core ctx) ∧ it.opcode = op ∧ it.outer = none ∧ it.answers = l

/-- The payload has LEN bytes, and those at the listed offsets and lengths are zero (06 R132, R133). -/
def Laid (it : Item) (len : Nat) (l : List (Nat × Nat)) : Prop :=
  it.payload.length = len ∧ ∀ e ∈ l, isZero (slice it.payload e.1 e.2) = true

/-- A payload handle names a tenant's slot, not a reserved one (06 R130). -/
def Handle (h : Nat) : Prop := 256 ≤ h / 65536

/-- A REFBLK passes steps 3 and 4 of 06 R133: its handle, METHOD, PVKI and table are in range, its fields agree with
METHOD, and REFVAL is read in its form or is zero (06 R144). -/
def RefFits (r : RefBlock) (read : Bool) : Prop :=
  Handle r.pvk ∧ r.method ≤ 1 ∧ r.pvki ≤ 9 ∧ r.dtab.all (· < 10) = true ∧ r.agrees = true ∧
    (if read then r.formed = true else r.refval.all (· == 0) = true) ∧
    (r.method = 1 ∨ (List.range 10).all (fun d => 1 ≤ r.dtab.count d && r.dtab.count d ≤ 2) = true)

/-- The recorded draws behind `n` bytes below a limit, where one draw gave enough, and those bytes (06 R140, R148). -/
def DrewBelow (limit n : Nat) (draws : List Answer) (bytes : Bytes) : Prop :=
  ∃ b, draws = [.ok b] ∧ n ≤ (b.filter (fun x => x.toNat < limit)).length ∧ bytes = (b.filter (fun x => x.toNat < limit)).take n

/-- The recorded draws behind an output block's fill (06 R140). -/
def Fills (fmt n : Nat) (draws : List Answer) : Prop :=
  if fmt = 1 ∨ fmt = 4 then ∃ b, draws = [.ok b] else if fmt = 3 then ∃ b, DrewBelow 252 n draws b else draws = []

/-- The digest of a message: the message itself under INMODE 00h, else what the DGE answered (07 R188). -/
def Digested (inmode : Nat) (msg d : Bytes) (a : List Answer) : Prop :=
  (inmode = 0 ∧ a = [] ∧ d = msg) ∨ (inmode = 1 ∧ a = [.ok d])

/-- A new-slot block as a service asks for it (07 R167, R168). -/
def SlotBlock.new (b : SlotBlock) (slot tenant : Nat) (fromKey : Bool) : NewSlot :=
  { idx := slot, tenant := tenant, type := b.type, usage := b.usage, ucnt := b.ucnt, life := b.life, xrst := b.xrst == 1, expo := false, fromKey := fromKey }

/-- The distinct officers of a message's entries, in order (09 R252 step 5). -/
def Envelope.officers (e : Envelope) : List Nat :=
  e.sigs.foldl (fun acc x => if acc.contains x.officer then acc else acc ++ [x.officer]) []

/-- Every entry names an officer of the set with that officer's algorithm, and the distinct officers are enough (09 R252). -/
def Quorate (r : EnvRule) (e : Envelope) : Prop :=
  r.held = true ∧ (∀ x ∈ e.sigs, ∃ k, r.officer x.officer = some k ∧ k.1 = x.alg) ∧ r.short e.officers = none

/-- The recorded answers of a message that this part executes, up to step 5 of 09 R252: its turn came, steps 1 to 4 passed,
and the BNE found every signature valid. -/
def verifiedAnswers (e : Envelope) : List Answer :=
  [.nums [1], .nums [], .nums []] ++ e.sigs.map (fun _ => Answer.ok [])

/-- What an applied message leaves: its reply at once, or the item waits with its reply held for what is still owed; the next
message of the counter has its turn (09 R254). -/
def applied (id : Nat) (g : Option Nat) (u : Apply × State) : State :=
  let s := { u.2 with hier := { u.2.hier with refs := u.2.hier.refs + 1 } }
  wakeGate g (if u.1.over then itemDone id u.1.reply s
    else itemWait id .event { s with hier := { s.hier with applies := s.hier.applies ++ [u.1] } })

/-- The recorded answers of a vault operation up to its first lookup: decided here, cellar open, digest, turn (08 R223). -/
def vaultAnswers (dig : Bytes) : List Answer := [.nums [1], .nums [], .ok dig, .nums []]

/-- The recorded answers of a lookup that found nothing, and of one that found a record; neither waits for a copy. -/
def lookedNone : List Answer := [.ok [], .ok (zeros 8)]
def lookedUp (place : Nat) (r : Bytes) : List Answer := [.ok [], .ok (zeros 8 ++ toBE 6 place ++ r)]

/-- The reply DONE with a payload. -/
def Reply.done (b : Bytes) : Reply := { status := 0, detail := 0, payload := b }

/-- A packet passes steps 5 to 8 of admission (03 R50): those of its context, or step 7 for the PF's own classes. -/
def Admitted (s : State) (it : Item) : Prop :=
  match it.owner with
  | none => admitPf s it = .pass
  | some t => ∃ c, getCtx s t = some c ∧ admitCtx s it c = .pass

/-- The rule of a master's active set at a slot (05 R125). -/
def activeRule (s : State) (m k : Nat) : BitVec 64 :=
  match tfind s.dsp.mpus m with
  | none => 0
  | some u => tget (if u.actB then u.b else u.a) k 0

/-! ## What no step undoes -/

/-- The class that OTP raises a tamper source to: 0 none, 2 B, 3 C (14 R364). -/
def otpClass (o : Otp) (i : Nat) : Nat := if o.raiseC.getLsbD i then 3 else if o.raiseB.getLsbD i then 2 else 0

/-- OTP holds every raise that the class copies of backup-domain memory hold (14 R364). -/
def RaisesBurnt (s : State) : Prop := ∀ i, tget s.bk.classes i 0 ≤ otpClass s.otp i

/-- A copy slot programmed further: no row is taken back but a last one that may be programmed again (15 R386, R391). -/
def RowsGrown (a b : List Nat) : Prop := a.length ≤ b.length ∧ a.dropLast <+: b

/-- One-time-programmable memory only gains: life-cycle rows, the lock of KROOT_MODE, the fuse secret, which nothing replaces but
all ones, raise bits and floors; the intent slot keeps to its eight rows (14 R364, 15 R386, R388, R392, 17 R436). -/
structure OtpGrown (a b : Otp) : Prop where
  copies : RowsGrown a.copy1 b.copy1 ∧ RowsGrown a.copy2 b.copy2 ∧ RowsGrown a.copy3 b.copy3
  intent : a.intent <+: b.intent ∧ (a.intent.length ≤ 8 → b.intent.length ≤ 8)
  klock : a.klock = true → b.klock = true
  fuse : ∀ f, a.fuse = some f → b.fuse = some f ∨ b.fuse = some (List.replicate 32 0xFF)
  raises : ∀ i, (a.raiseB.getLsbD i = true → b.raiseB.getLsbD i = true) ∧ (a.raiseC.getLsbD i = true → b.raiseC.getLsbD i = true)
  floors : a.floorArm ≤ b.floorArm ∧ a.floorSvc ≤ b.floorSvc ∧ a.floorBne ≤ b.floorBne

/-- What holds of a state `s` that comes after `r`: the queue of commands is as it was, the identity that fabrication gave
stands, time has not run back, OTP has only gained, the raises are burnt and the item table keeps its form if they did. -/
structure Since (r s : State) : Prop where
  queue : s.pending = r.pending
  fab : s.fab = r.fab
  clock : r.now ≤ s.now
  otp : OtpGrown r.otp s.otp
  raised : RaisesBurnt r → RaisesBurnt s
  sorted : tsorted r.dsp.items = true → tsorted s.dsp.items = true

end Sys2Proof.Machine
end

