-- ==== Sys2Proof/Certificates/Slice0/Obligations.lean ====
section
/-! DEFINITION. The statements about the VD9120: what each command does and leaves alone, in the spec's rules. -/

set_option Elab.async false

open Sys2Proof Sys2Proof.Machine

/-! ## The machine -/

/-- 95: each step is one operation of the table, whole; the one at the front of the queue runs on the state with the queue's
rest, and an empty queue idles (the model's choices: logs 1 and 19). -/
def Obligations.StepRunsFrontCommand : Prop :=
  (∀ (c : Instr) (rest : List Instr) (s : State), step { s with pending := c :: rest } = exec c { s with pending := rest }) ∧
    ∀ s : State, s.pending = [] → step s = .next s

/-! ## The host front end -/

/-- 04 R80, R81, Table 4.5: a doorbell write within the ring sets the pair's tail or head, leaves every other pair and every
other field, and a new head lets the RMARK entries that wait be written. -/
def Obligations.DoorbellSetsPointer : Prop :=
  ∀ (s : State) (fn q v : Nat) (p : Queue), q < 16 → fnVisible s fn = true → getQueue s fn q = some p → p.st ≠ .error →
    v % 4096 < p.size →
    (∃ t, exec (.sqTailWrite fn q v) s = .next t ∧ getQueue t fn q = some { p with sqtail := v % 4096 } ∧
      (∀ f r, r < 16 → (f, r) ≠ (fn, q) → getQueue t f r = getQueue s f r) ∧
      t = { s with hfe := { s.hfe with queues := t.hfe.queues } }) ∧
    ∃ t, exec (.cqHeadWrite fn q v) s = .next (writeRmarks t) ∧ getQueue t fn q = some { p with cqhead := v % 4096 } ∧
      (∀ f r, r < 16 → (f, r) ≠ (fn, q) → getQueue t f r = getQueue s f r) ∧
      t = { s with hfe := { s.hfe with queues := t.hfe.queues } } ∧
      ((∀ e ∈ s.hfe.queues, e.2.rmark = false) → writeRmarks t = t)

/-- 04 R80: a doorbell value outside the ring puts the pair in the error state and moves no pointer; cause bit 0 of the
function's FN_EVENT is set. -/
def Obligations.DoorbellOutOfRange : Prop :=
  ∀ (s : State) (fn q v : Nat) (p : Queue), fnVisible s fn = true → getQueue s fn q = some p → p.st ≠ .error →
    p.size ≤ v % 4096 →
    ∃ t, exec (.sqTailWrite fn q v) s = .next t ∧ getQueue t fn q = some { p with st := .error } ∧
      (tget t.hfe.events fn 0).getLsbD 0 = true ∧ t.dsp = s.dsp ∧ t.hfe.ctxs = s.hfe.ctxs

/-- 04 R76, R82, Table 4.2: the entry of the pair whose turn it is joins the fetched packets with the fields it carries, and
the pair's head advances. -/
def Obligations.EntryFetchTakesEntry : Prop :=
  ∀ (s : State) (entry segs : Bytes) (fn q : Nat) (p : Queue), nextPair s = some (fn, q) → getQueue s fn q = some p →
    hfeLive s = true → entry.length = 32 → segs.length = 16 * entrySegs entry →
    s.dsp.items.length + s.hfe.fetched.length < 8192 → staged s + delivered entry segs ≤ stagingSize →
    ∃ t, exec (.submissionEntryFetch entry segs) s = .next t ∧
      t.hfe.fetched = s.hfe.fetched ++ [⟨fn, q, p.sqhead, fldLE entry 12 2, fldLE entry 16 8, fldLE entry 24 4,
        delivered entry segs, false⟩] ∧
      getQueue t fn q = some { p with sqhead := (p.sqhead + 1) % p.size } ∧
      t = { s with hfe := { s.hfe with fetched := t.hfe.fetched, queues := t.hfe.queues, rrFn := fn + 1, rrQ := t.hfe.rrQ }, pmu := t.pmu }

/-- 03 R56: a packet is fetched only when staging can hold its delivered length. Until then the entry stays in its queue, the
turn passes to the other queues, and nothing else changes: no status is returned, and no later fetch refuses the packet
for it. -/
def Obligations.EntryFetchWaitsForStaging : Prop :=
  ∀ (s : State) (entry segs : Bytes),
    (∀ t, exec (.submissionEntryFetch entry segs) s = .next t → t.hfe.fetched ≠ s.hfe.fetched →
      staged s + delivered entry segs ≤ stagingSize) ∧
    ∀ (fn q : Nat) (p : Queue), nextPair s = some (fn, q) → getQueue s fn q = some p → hfeLive s = true →
      entry.length = 32 → segs.length = 16 * entrySegs entry → s.dsp.items.length + s.hfe.fetched.length < 8192 →
      stagingSize < staged s + delivered entry segs →
      ∃ t, exec (.submissionEntryFetch entry segs) s = .next t ∧
        t = { s with hfe := { s.hfe with rrFn := fn + 1, rrQ := tput s.hfe.rrQ fn (q + 1) } } ∧
        (∀ f r, (fetchPairs t f = fetchPairs s f) ∧ getQueue t f r = getQueue s f r) ∧
        ((∃ f ∈ fetchFns s, fn < f) → ∀ f r, nextPair t = some (f, r) → fn < f)

/-- 03 R50, R53, 05 R103, R111: a packet that passes every step becomes a ready item with the fields of its header, at the
end of its service list unless it is a flow-serial item whose turn has not come, and costs its context one unit. -/
def Obligations.PacketAdmissionMakesItem : Prop :=
  ∀ (s : State) (f : Fetched) (pkt : Bytes) (id : Nat), s.hfe.fetched.find? (mayAdmit s) = some f → hfeLive s = true →
    pkt.length = f.dlen → directCheck s f.fn pkt = none → freeEntryNo s = some id →
    let it := itemOf s f pkt (if (headerOf pkt).ord then (tget s.dsp.flows (headerOf pkt).flow { head := 0, next := 0 }).next else 0)
    Admitted s it → admitForm it = none →
    ∃ t n, exec (.packetAdmission pkt) s = .next t ∧ getItem t id = some { it with arr := n } ∧
      ((flowSerial it.opcode && it.ord) = false → n = s.dsp.arr + 1) ∧
      t.hfe.fetched = removeFirst (mayAdmit s) s.hfe.fetched ∧
      (∀ j, j ≠ id → getItem t j = getItem s j) ∧
      (∀ ten c, it.owner = some ten → getCtx s ten = some c → c.quota ≠ 0 →
        getCtx t ten = some { c with left := c.left - 1 }) ∧
      t = { s with hfe := { s.hfe with fetched := t.hfe.fetched, ctxs := t.hfe.ctxs }, dsp := t.dsp, pmu := t.pmu }

/-- 03 R50 steps 1 to 4, R58: a packet that fails one of them makes no item and takes no flow number; its reply is written. -/
def Obligations.PacketAdmissionDirectReply : Prop :=
  ∀ (s : State) (f : Fetched) (pkt : Bytes) (d : Direct), s.hfe.fetched.find? (mayAdmit s) = some f → hfeLive s = true →
    pkt.length = f.dlen → directCheck s f.fn pkt = some d → pairRoom s f.fn f.q = true →
    ∃ t, exec (.packetAdmission pkt) s = .next t ∧ t.dsp = s.dsp ∧ t.hfe.ctxs = s.hfe.ctxs ∧
      t.hfe.fetched = removeFirst (mayAdmit s) s.hfe.fetched

/-- 04 R78, R80, R88, 19 Table 19.9: what each host transfer that fails leaves. A failed entry read stops its pair; a failed
packet read drops the packet and is a contained fault of its function; a failed reply write is one too, after the item's
completion entry; a failed completion write stops the pair and the item is gone. Each is counted. -/
def Obligations.HostDmaErrorsAreContained : Prop :=
  ∀ s : State, hfeLive s = true →
    (∀ fn q p, getQueue s fn q = some p → p.fetches = true → fnFetches s fn = true →
      ∃ t, exec (.hostDmaError (.entryRead fn q)) s = .next t ∧ getQueue t fn q = some { p with st := .error } ∧
        t.host.dmaerr = satAdd max32 s.host.dmaerr 1 ∧ t.dsp = s.dsp ∧ t.hfe.fetched = s.hfe.fetched) ∧
    (∀ f rest, s.hfe.fetched = f :: rest →
      exec (.hostDmaError .packetRead) s =
        .next (fnFault f.fn f.q causeError (countDma { s with hfe := { s.hfe with fetched := rest } }))) ∧
    ∀ id it, getItem s id = some it → it.fn ≤ 64 → atHead s it = true → hasRoom s it = true →
      exec (.hostDmaError (.replyWrite id)) s = .next (fnFault it.fn it.q causeError (releaseTrunc id it (countDma s))) ∧
      ∃ t, exec (.hostDmaError (.completionWrite id)) s = .next t ∧ getItem t id = none ∧
        (∀ p, getQueue s it.fn it.q = some p → getQueue t it.fn it.q = some { p with st := .error })

/-- 04 R85: CTIM microseconds after the first unsignalled entry the pair's message is sent, or pends while masked, and the
pair has no unsignalled entry left. -/
def Obligations.CtimExpirySignals : Prop :=
  ∀ (s : State) (fn q : Nat) (p : Queue), getQueue s fn q = some p → p.unsig ≠ 0 → p.ctim ≠ 0 → p.vec ≠ 0xFF →
    hfeLive s = true →
    ∃ t, exec (.ctimExpiry fn q) s = .next t ∧ getQueue t fn q = some { p with unsig := 0 } ∧
      t.now = max s.now (p.unsigAt + 1000 * p.ctim) ∧
      (if msixOpen s fn p.vec then t.out = s.out ++ [.msix fn p.vec]
        else t.out = s.out ∧ (tget t.hfe.msix (msixKey fn p.vec) .reset).pend = true)

/-- 04 R91, R92: an FLR returns the function's rings to 0 with PHASE 1; on the PF every queue is gone and VF Enable is clear. -/
def Obligations.FunctionResets : Prop :=
  ∀ s : State,
    (∀ vf, 1 ≤ vf → fnVisible s vf = true →
      ∃ t, exec (.vfFlr vf) s = .next t ∧
        ∀ q p, q < 16 → getQueue t vf q = some p → p.sqtail = 0 ∧ p.sqhead = 0 ∧ p.cqhead = 0 ∧ p.cqtail = 0 ∧ p.phase = true) ∧
    ∃ t, exec .pfFlr s = .next t ∧ t.hfe.vfen = false ∧ t.hfe.numvf = 0 ∧
      (∀ fn q, fn ≤ 64 → q < 16 → getQueue t fn q = none) ∧ t.hier.placed = s.hier.placed ∧ t.cyu = s.cyu

/-- 19 R482: a reset of the part, whatever its cause, what it keeps and what it ends its items with, and a loss of main power leave
every copy at its Reset value; PERST_N and RESET_N reset the part so. A PF FLR returns the host's copies alone, and clears
GEN_AQCFG EN. -/
def Obligations.ResetsReturnCopies : Prop :=
  ∀ s : State,
    (∀ a ∈ [Accessor.host, .cp0, .cp1, .dbg],
      (∀ c k st d, copiesOf (partReset c k st d s) a = .reset) ∧ copiesOf (powerOff s) a = .reset) ∧
    (∀ t, s.powered = true → pinFlush s = false →
      exec (.resetNAssert t) s = .next (startUp (partReset .resetPin .nothing 0x0701 0 (s.at_ t))) ∧
      (s.boot.perst = false → exec (.perstNAssert t) s =
        .next (partReset .perst .nothing 0x0701 0 { s.at_ t with boot := { s.boot with perst := true } }))) ∧
    ∃ t, exec .pfFlr s = .next t ∧ t.host = .reset ∧ t.cp0 = s.cp0 ∧ t.cp1 = s.cp1 ∧ t.dbg = s.dbg ∧
      t.boot.aqcfg = s.boot.aqcfg &&& 0x7FFFFFFF

/-- 04 R91, R96, R97: a reset, a freeze and a deletion end once the items they wait for are gone; their items then complete
with DONE. -/
def Obligations.WaitsForItemsEnd : Prop :=
  ∀ s : State,
    (∀ t c, getCtx s t = some c → c.st = .resetting → itemsOf s t = [] → c.gone = false →
      exec (.tenantResetComplete t) s = .next (endReset t c s)) ∧
    (∀ t c, getCtx s t = some c → c.st = .resetting → itemsOf s t = [] → c.gone = true →
      exec (.tenantResetComplete t) s = .next (removeCtx t s)) ∧
    (∀ t c, getCtx s t = some c → c.freezer ≠ [] → ctxInflight s t c = 0 →
      exec (.freezeComplete t) s =
        .next (c.freezer.foldl (fun s i => itemEnd i 0 0 s) (modCtx t (fun c => { c with freezer := [] }) s))) ∧
    ∀ fn q p, getQueue s fn q = some p → p.del = true → (fn, q) ≠ (0, 0) →
      countItems (fun i it => it.fn == fn && it.q == q && !p.delers.contains i) s = 0 →
      (∀ f ∈ s.hfe.fetched, ¬(f.fn = fn ∧ f.q = q)) →
      exec (.deleteQueueComplete fn q) s =
        .next (p.delers.foldl (fun s i => itemEnd i 0 0 s) { s with hfe := { s.hfe with queues := terase s.hfe.queues (qkey fn q) } })

/-- 04 R74, R84, R491: what a configuration write sets, and that a pending message goes out once its vector is let go. -/
def Obligations.ConfigurationWrites : Prop :=
  ∀ s : State, s.boot.perst = false → s.powered = true →
    (∀ e n, ∃ t, exec (.configurationWrite (.vfEnable e n)) s = .next t ∧ t.hfe.vfen = e ∧ t.hfe.numvf = min n 64 ∧
      t = { s with hfe := t.hfe }) ∧
    (∀ w sp, ∃ t, exec (.configurationWrite (.link w sp)) s = .next t ∧ t.hfe.width = w ∧ t.hfe.speed = sp ∧
      t = { s with hfe := t.hfe }) ∧
    (∀ fn e m, exec (.configurationWrite (.msixControl fn e m)) s =
      .next (sendPending fn { s with hfe := { s.hfe with msixFn := tput s.hfe.msixFn fn (e, m) } })) ∧
    ∀ fn vec a d m, tfind s.hfe.msix (msixKey fn vec) = none →
      ∃ u, exec (.configurationWrite (.msixEntry fn vec a d m)) s = .next (sendPending fn u) ∧
        tfind u.hfe.msix (msixKey fn vec) = some { addr := a, data := d, mask := m, pend := false }

/-! ## The dispatcher -/

/-- 05 R102, R105, R107, R122, R123, R126, 03 R67: the head item of the highest level starts on the core chosen, with windows
on its packet and its reply buffer, and the core's rule set gives it those windows, its own local area and the service
template, and nothing else. -/
def Obligations.HandOffStartsItem : Prop :=
  ∀ (s : State) (id core ctx : Nat) (it : Item), hfeLive s = true → nextItem s = some (id, it) → getItem s id = some it →
    pickCore s = some core → freeContext s core = some ctx → recheck s it = none →
    ∃ t a b, exec .itemHandoff s = .next t ∧
      getItem t id = some { it with phase := .running core ctx, map := mapOf s it, windows :=
        [windowRule a (units64 (32 + it.payload.length + 4 * b2n it.pcrc)) true false,
          windowRule b (units64 (36 + replyMax it.opcode)) true true] } ∧
      (∀ j, j ≠ id → getItem t j = getItem s j) ∧
      activeRule t (coreMaster core) 16 = areaRule ctx ∧
      (∀ k, 26 ≤ k → activeRule t (coreMaster core) k = 0) ∧ t.hfe = s.hfe ∧ t.out = s.out

/-- 01 R15, 15 R405: an item whose deadline has passed, or whose class the life-cycle state does not allow, ends at its
hand-off without running. -/
def Obligations.HandOffRechecks : Prop :=
  ∀ (s : State) (id core ctx : Nat) (it : Item) (st d : Nat), hfeLive s = true → nextItem s = some (id, it) →
    pickCore s = some core → freeContext s core = some ctx → recheck s it = some (st, d) →
    ∃ u, exec .itemHandoff s = .next (itemEnd id st d u) ∧ u.dsp.items = s.dsp.items

/-- 05 R104, R106, R126: an answered item gets its core back with the windows it had. -/
def Obligations.ResumeReturnsCore : Prop :=
  ∀ (s : State) (id core ctx at_ : Nat) (it : Item), hfeLive s = true →
    (∀ e ∈ residents s core, e.2.isRunning = false) → firstAnswered s core = some (id, ctx, at_) → getItem s id = some it →
    ∃ t, exec (.itemResume core) s = .next t ∧ getItem t id = some { it with phase := .running core ctx } ∧
      (∀ j, j ≠ id → getItem t j = getItem s j) ∧ t.hfe = s.hfe

/-- 05 R123: a running item with a free window number gets a window, readable and writable; the sixteenth is the last. -/
def Obligations.WindowGrantAddsWindow : Prop :=
  ∀ (s : State) (id core ctx base len : Nat) (it : Item), getItem s id = some it → it.phase = .running core ctx →
    (it.windows.length < 16 →
      ∃ t, exec (.windowGrant id base len) s = .next t ∧
        getItem t id = some { it with windows := it.windows ++ [windowRule base len true true] } ∧
        ∀ j, j ≠ id → getItem t j = getItem s j) ∧
    (16 ≤ it.windows.length → exec (.windowGrant id base len) s = .next s)

/-- 05 R112-R114, 04 R78: an item at the head of its flow whose ring has room is released: its reply is written, and what
its release brings follows. A full ring makes it wait, and only its wait is counted. -/
def Obligations.ReleaseWritesReply : Prop :=
  ∀ (s : State) (id : Nat) (it : Item), getItem s id = some it → it.fn ≤ 64 → hfeLive s = true → atHead s it = true →
    (hasRoom s it = true →
      exec (.decanterRelease id) s = .next (handoverStep (writeRmarks (afterRelease id it (releaseReply id it s)))) ∧
      getItem (releaseReply id it s) id = none ∧
      ∀ f, f ≠ it.flow → tfind (releaseReply id it s).dsp.flows f = tfind s.dsp.flows f) ∧
    (hasRoom s it = false → ∃ t, exec (.decanterRelease id) s = .next t ∧ t = { s with pmu := t.pmu })

/-- 05 R113: an ordered item that is not at the head of its flow, or not complete, is not released. -/
def Obligations.ReleaseInFlowOrder : Prop :=
  ∀ (s : State) (id : Nat) (it : Item), getItem s id = some it → it.fn ≤ 64 →
    (it.phase ≠ .complete ∨ (it.ord = true ∧ (tget s.dsp.flows it.flow { head := 0, next := 0 }).head ≠ it.sn)) →
    exec (.decanterRelease id) s = .next s

/-- 05 R109: a ready thread runs on the pair that R109 names; a pre-empted one waits ahead of the others, and a thread that
no pair takes at once waits at the end. Neither pair's other thread, nor any item, is touched. -/
def Obligations.ThreadReadyPlacesThread : Prop :=
  ∀ (s : State) (th : Thread),
    (pairFor s th = none → ∃ t, exec (.controlThreadReady th) s = .next t ∧ t.dsp.control = s.dsp.control ++ [th] ∧
      pairThread t 0 = pairThread s 0 ∧ pairThread t 1 = pairThread s 1 ∧ t.dsp.items = s.dsp.items) ∧
    ∀ p, p < 2 → pairFor s th = some p → ∃ t, exec (.controlThreadReady th) s = .next t ∧ pairThread t p = some th ∧
      pairThread t (1 - p) = pairThread s (1 - p) ∧ t.dsp.control = (pairThread s p).toList ++ s.dsp.control ∧
      t.dsp.items = s.dsp.items

/-- 05 R108, 17 R445: a draining group goes offline when no item is resident on it, but for the UPDATE that drains it. -/
def Obligations.GroupDrainGoesOffline : Prop :=
  ∀ (s : State) (n : Nat) (g : Group), tfind s.dsp.groups n = some g → g.st = .draining →
    (∀ e ∈ s.dsp.items, (e.2.seat.map (fun u => groupOf u.1)) ≠ some n ∨ s.flash.upd.map (·.item) = some e.1) →
    ∃ t, exec (.groupDrainComplete n) s = .next t ∧ tfind t.dsp.groups n = some { g with st := .offline } ∧
      (∀ m, m ≠ n → tfind t.dsp.groups m = tfind s.dsp.groups m) ∧ t.dsp.items = s.dsp.items

/-! ## The cycle unit -/

/-- 02 R21, R23, R26 (Table 2.2): a real edge inside the window is accepted, with the next number or the pending set's; it ends
CYCLE_LOST and a held run. -/
def Obligations.AcceptedEdgeAdvancesNumber : Prop :=
  ∀ (s : State) (at_ low high n : Nat), cyuLive s = true → roleOf s ≠ .worker → 100 ≤ low → 100 ≤ high →
    (s.cyu.st = .locked ∨ s.cyu.st = .lost) → inWindow s (max s.now at_) = true →
    (s.cyu.setN = some n ∨ (s.cyu.setN = none ∧ s.cyu.num.map (· + 1) = some n ∧ n ≤ cycMax)) →
    ∃ t, exec (.cycinEdge at_ low high) s = .next t ∧ t.now = max s.now at_ ∧ t.cyu.st = .locked ∧ t.cyu.num = some n ∧
      t.cyu.held = false ∧ t.cyu.run = 0 ∧ t.cyu.lastReal = max s.now at_ ∧ t.cyu.setN = none

/-- 02 R21: the first real edge inside a window is accepted, with the next number. A further edge inside its window falls outside
every window left, and an edge outside every window is stray: the cycle unit stands as it was, CYU_STRAY counts in every
accessor's copy, and a severity 1 record goes to the event recorder, whose ring takes it as R420 says. -/
def Obligations.StrayEdgesAdvanceNothing : Prop :=
  ∀ (s : State) (at_ low high : Nat), cyuLive s = true → roleOf s ≠ .worker → 100 ≤ low → 100 ≤ high →
    (s.cyu.st = .locked ∨ s.cyu.st = .lost) →
    (inWindow s (max s.now at_) = false →
      ∃ t, exec (.cycinEdge at_ low high) s = .next t ∧ t.cyu = s.cyu ∧ t.host.stray = satAdd max32 s.host.stray 1 ∧
        t.cp0.stray = satAdd max32 s.cp0.stray 1 ∧ t.cp1.stray = satAdd max32 s.cp1.stray 1 ∧
        t.dbg.stray = satAdd max32 s.dbg.stray 1 ∧
        ∃ r : Record, r.sev = 1 ∧ r.index = s.fcr.ridx ∧ t.fcr.ridx = (s.fcr.ridx + 1) % 2 ^ 32 ∧
          t.fcr.ring = (ringAdd s.fcr.ring r).getD s.fcr.ring) ∧
    (inWindow s (max s.now at_) = true → ∀ n, nextNumber s.cyu = some n →
      ∃ t, exec (.cycinEdge at_ low high) s = .next t ∧ t.cyu.st = .locked ∧ t.cyu.num = some n ∧ t.cyu.lastReal = max s.now at_) ∧
    ∀ t, 100 ≤ s.cyu.period → inWindow s (max s.now at_) = true → exec (.cycinEdge at_ low high) s = .next t →
      t.cyu.st = .locked → ∀ b, max s.now at_ ≤ b → b ≤ cycNext s + cycW s → inWindow t b = false

/-- 02 R26 (Table 2.2), R27: acquisition. The first edge starts it, one at P ± w counts, any other starts again, and the third
locks at 0 at the first lock since reset. -/
def Obligations.AcquisitionLocks : Prop :=
  ∀ (s : State) (at_ low high : Nat), cyuLive s = true → roleOf s ≠ .worker → 100 ≤ low → 100 ≤ high →
    (s.cyu.st = .unlocked → ∃ t, exec (.cycinEdge at_ low high) s = .next t ∧
      t = { s with now := max s.now at_, cyu := { s.cyu with st := .acquire, acq := 1, acqLast := max s.now at_ } }) ∧
    (s.cyu.st = .acquire →
      let d := max s.now at_ - s.cyu.acqLast
      let good := cycP s ≤ d + cycW s ∧ d ≤ cycP s + cycW s
      (good ∧ s.cyu.acq = 1 → ∃ t, exec (.cycinEdge at_ low high) s = .next t ∧
        t = { s with now := max s.now at_, cyu := { s.cyu with acq := 2, acqLast := max s.now at_ } }) ∧
      (¬good → ∃ t, exec (.cycinEdge at_ low high) s = .next t ∧
        t = { s with now := max s.now at_, cyu := { s.cyu with acq := 1, acqLast := max s.now at_ } }) ∧
      (good ∧ s.cyu.acq = 2 ∧ s.cyu.num = none ∧ s.cyu.ended = false → ∃ t, exec (.cycinEdge at_ low high) s = .next t ∧
        t.cyu.st = .locked ∧ t.cyu.num = some 0 ∧ t.cyu.held = false) ∧
      (good ∧ s.cyu.acq = 2 ∧ s.cyu.ended = true → ∃ t, exec (.cycinEdge at_ low high) s = .next t ∧
        t.cyu.st = .unlocked ∧ t.cyu.num = s.cyu.num))

/-- 02 R26 (Table 2.2), R35: what each timer of the unit does when it runs out. -/
def Obligations.CycleTimers : Prop :=
  ∀ s : State, cyuLive s = true →
    (s.cyu.st = .locked → ∃ t, exec .cycleLostTimeout s = .next t ∧ t.cyu = { s.cyu with st := .lost, lostSeen := true } ∧
      t.now = max s.now (s.cyu.lastReal + 2 * cycP s)) ∧
    (∀ n k, s.cyu.setN = none → s.cyu.num = some k → n = k + 1 → n ≤ cycMax →
      (s.cyu.st = .locked ∧ cycNext s + cycW s < s.cyu.lastReal + 2 * cycP s) ∨ (s.cyu.st = .lost ∧ s.cyu.run < 8) →
      ∃ t, exec .windowEnd s = .next t ∧ t.cyu.st = s.cyu.st ∧ t.cyu.num = some n ∧ t.cyu.held = true ∧
        t.cyu.run = s.cyu.run + 1 ∧ t.cyu.lastReal = s.cyu.lastReal) ∧
    (s.cyu.st = .lost → 8 ≤ s.cyu.run → ∃ t, exec .windowEnd s = .next t ∧ t.cyu.st = .unlocked ∧ t.cyu.num = s.cyu.num ∧
      t.cycle = none) ∧
    (s.cyu.st = .acquire → ∃ t, exec .acquireTimeout s = .next t ∧
      t = { s with now := max s.now (s.cyu.acqLast + 2 * cycP s), cyu := { s.cyu with st := .unlocked, acq := 0 } }) ∧
    (s.cyu.st = .unlocked ∨ s.cyu.st = .acquire → ∃ t, exec .localBoundary s = .next t ∧
      t.cyu = { s.cyu with timer := s.cyu.timer + cycPest s })

/-- 02 R29-R31: a worker queues its manager's edge for 2.5 microseconds after the manager's, the measured latency taken off,
and takes the manager's number and held flag when it comes. -/
def Obligations.WorkerFollowsEdges : Prop :=
  ∀ s : State, roleOf s = .worker →
    (∀ at_ m, linkLive s = true → (managerPort s).isSome = true → s.hier.mterm ≤ m.mterm → s.hier.mst = .serving →
      ∃ t, exec (.edgeMessage at_ m) s = .next t ∧
        t.cyu = { s.cyu with msgs := s.cyu.msgs ++ [(max s.now at_ + 2500 - s.cyu.skew, m)] }) ∧
    ∀ due m rest, s.cyu.msgs = (due, m) :: rest → cyuLive s = true →
      (m.state = 2 ∨ m.state = 3 → ∃ t, exec .edgeApply s = .next t ∧ t.cyu.st = .locked ∧ t.cyu.num = some m.num ∧
        t.cyu.held = m.held ∧ t.cyu.msgs = rest ∧ t.now = max s.now due) ∧
      (m.state = 0 ∨ m.state = 1 → ∃ t, exec .edgeApply s = .next t ∧ t.cyu.msgs = rest ∧ t.cycle = none)

/-! ## Items that complete -/

/-- 05 R112, R113, 07 R185: an item that completes keeps its place and its queue, holds its reply, and gives back what it held;
no other item leaves, none but it completes, and nothing of the host front end, the guard, the OTP or the hierarchy changes. -/
def Obligations.CompletionHoldsReply : Prop :=
  ∀ (s : State) (id : Nat) (it : Item) (r : Reply), getItem s id = some it → it.phase ≠ .complete → it.outer = none →
    (∃ n, getItem (itemDone id r s) id = some { it with
        phase := .complete, reply := some r, slot := none, holding := [], windows := [], answers := [], arr := n }) ∧
    (∀ j, ((getItem (itemDone id r s) j).isSome = (getItem s j).isSome)) ∧
    (∀ j x, j ≠ id → getItem (itemDone id r s) j = some x → x.phase = .complete → ∃ y, getItem s j = some y ∧ y.phase = .complete) ∧
    (itemDone id r s).hfe = s.hfe ∧ (itemDone id r s).grd = s.grd ∧ (itemDone id r s).otp = s.otp ∧
    (itemDone id r s).bk = s.bk ∧ (itemDone id r s).hier = s.hier ∧ (itemDone id r s).clc = s.clc ∧
    (itemDone id r s).out = s.out ∧ (itemDone id r s).cyu = s.cyu ∧ (itemDone id r s).fcr = s.fcr

/-! ## Class 00h: contexts and queue pairs -/

/-- 04 R72, R93, R94, Table 4.6: an ATTACH with every field in its range and none of checks 2 to 6 against it builds the
tenant's context, NORMAL and with a full quota, and replies DONE. -/
def Obligations.AttachBuildsContext : Prop :=
  ∀ (s : State) (id : Nat) (it : Item), Running s id 0x0001 it [] → Laid it 24 [(2, 2), (10, 2), (17, 7)] →
    fld it.payload 1 1 ≤ 31 → 1 ≤ fld it.payload 6 2 → 1 ≤ fld it.payload 8 2 → fld it.payload 8 2 ≤ 8192 →
    fld it.payload 12 4 ≠ 0xFFFFFFFF → fld it.payload 16 1 ≤ 1 → attachRefusal s it = none →
    ∃ t c, exec (.attach id) s = .next (itemDone id (.done []) t) ∧ getCtx t it.tenant = some c ∧
      c.vf = fld it.payload 0 1 ∧ c.maxpri = fld it.payload 1 1 ∧ c.fbase = fld it.payload 4 2 ∧
      c.fcount = fld it.payload 6 2 ∧ c.infl = fld it.payload 8 2 ∧ c.quota = fld it.payload 12 4 ∧
      c.left = fld it.payload 12 4 ∧ c.st = .normal ∧ (∀ u, u ≠ it.tenant → getCtx t u = getCtx s u)

/-- 04 R94: the refusals of ATTACH after its ranges, the first that fails: not placed, already attached, 64 contexts, the VF,
the flow share. -/
def Obligations.AttachRefusesInOrder : Prop :=
  ∀ (s : State) (id : Nat) (it : Item), Running s id 0x0001 it [] → Laid it 24 [(2, 2), (10, 2), (17, 7)] →
    fld it.payload 1 1 ≤ 31 → 1 ≤ fld it.payload 6 2 → 1 ≤ fld it.payload 8 2 → fld it.payload 8 2 ≤ 8192 →
    fld it.payload 12 4 ≠ 0xFFFFFFFF → fld it.payload 16 1 ≤ 1 →
    let placed := ∃ p, tfind s.hier.placed it.tenant = some p ∧ p.here = true
    let vfBad := 64 < fld it.payload 0 1 ∨ (tenantOfVf s (fld it.payload 0 1)).isSome = true
    let flowBad := fld it.payload 4 2 < 256 ∨ 32768 < fld it.payload 4 2 + fld it.payload 6 2 ∨
      ∃ e ∈ s.hfe.ctxs, fld it.payload 4 2 < e.2.fbase + e.2.fcount ∧ e.2.fbase < fld it.payload 4 2 + fld it.payload 6 2
    let refuses := fun d => exec (.attach id) s = .next (itemEnd id 0x0105 d s)
    (¬placed → refuses 0x0101) ∧
    (placed → (getCtx s it.tenant).isSome = true → refuses 0x0104) ∧
    (placed → getCtx s it.tenant = none → 64 ≤ s.hfe.ctxs.length → refuses 0x0105) ∧
    (placed → getCtx s it.tenant = none → s.hfe.ctxs.length < 64 → vfBad → refuses 0x0102) ∧
    (placed → getCtx s it.tenant = none → s.hfe.ctxs.length < 64 → ¬vfBad → flowBad → refuses 0x0103)

/-- 04 R75, R96: a CREATE_QUEUE with its fields in their ranges makes the pair, enabled, with its pointers at 0 and PHASE 1. -/
def Obligations.CreateQueueMakesPair : Prop :=
  ∀ (s : State) (id : Nat) (it : Item) (fn q : Nat), Running s id 0x0003 it [] → Laid it 32 [(24, 8)] →
    fn = fld it.payload 0 1 → q = fld it.payload 1 1 → fn ≤ 64 → q ≤ 15 → (fn, q) ≠ (0, 0) →
    fld it.payload 2 2 ∈ [16, 32, 64, 128, 256, 512, 1024, 2048, 4096] → fld it.payload 4 1 ≤ 31 →
    (fld it.payload 5 1 = 0xFF ∨ fld it.payload 5 1 < if fn = 0 then 128 else 30) →
    fld it.payload 8 8 % 4096 = 0 → fld it.payload 16 8 % 4096 = 0 → getQueue s fn q = none →
    (fn = 0 ∨ ∃ ten c, tenantOfVf s fn = some ten ∧ getCtx s ten = some c ∧ fld it.payload 4 1 ≤ c.maxpri) →
    ∃ t p, exec (.createQueue id) s = .next (itemDone id (.done []) t) ∧ getQueue t fn q = some p ∧
      p.pri = fld it.payload 4 1 ∧ p.size = fld it.payload 2 2 ∧ p.vec = fld it.payload 5 1 ∧ p.cthr = fld it.payload 6 1 ∧
      p.ctim = fld it.payload 7 1 ∧ p.sqbase = fld it.payload 8 8 ∧ p.cqbase = fld it.payload 16 8 ∧
      p.sqtail = 0 ∧ p.sqhead = 0 ∧ p.cqhead = 0 ∧ p.cqtail = 0 ∧ p.phase = true ∧ p.del = false ∧
      (p.st = .enabled ∨ ∃ ten c, tenantOfVf s fn = some ten ∧ getCtx s ten = some c ∧ c.st = .frozen ∧ p.st = .frozen) ∧
      (∀ f r, r < 16 → (f, r) ≠ (fn, q) → getQueue t f r = getQueue s f r)

/-- 04 R86, R90, R93, R94: SET_QUOTA stages its values for the next boundary; QUARANTINE quarantines; QUERY_TENANT reads the
context, 32 zero bytes where there is none; THAW returns a frozen context that no SAVE has taken to NORMAL. -/
def Obligations.ContextCommandsComplete : Prop :=
  ∀ (s : State) (id : Nat) (it : Item),
    (∀ c, Running s id 0x0006 it [] → Laid it 8 [(5, 3)] → fld it.payload 0 4 ≠ 0xFFFFFFFF → fld it.payload 4 1 ≤ 1 →
      getCtx s it.tenant = some c →
      ∃ t, exec (.setQuota id) s = .next (itemDone id (.done []) t) ∧
        getCtx t it.tenant = some { c with staged := some (fld it.payload 0 4, fld it.payload 4 1 == 1) }) ∧
    (∀ c, Running s id 0x0007 it [] → getCtx s it.tenant = some c →
      exec (.quarantine id) s = .next (itemDone id (.done []) (quarantine it.tenant 0 s))) ∧
    (∀ c, Running s id 0x0008 it [] → getCtx s it.tenant = some c →
      exec (.queryTenant id) s = .next (itemDone id (.done (queryBytes c)) s)) ∧
    (Running s id 0x0008 it [] → getCtx s it.tenant = none →
      exec (.queryTenant id) s = .next (itemDone id (.done (List.replicate 32 0)) s)) ∧
    ∀ c, Running s id 0x000C it [] → getCtx s it.tenant = some c → c.st = .frozen → c.saved = false →
      ∃ t, exec (.thaw id) s = .next (itemDone id (.done []) t) ∧ getCtx t it.tenant = some { c with st := .normal, fsrc := 0 }

/-- 04 R91, R96, R97: DETACH and TENANT_RESET begin a reset, DELETE_QUEUE stops the pair's fetch, FREEZE freezes a NORMAL
context; each item then waits for the end of what it began. -/
def Obligations.ContextCommandsWait : Prop :=
  ∀ (s : State) (id : Nat) (it : Item), tsorted s.dsp.items = true →
    (∀ c, Running s id 0x0002 it [] → getCtx s it.tenant = some c →
      ∃ t x, exec (.detach id) s = .next t ∧ waitsFor t id .event = true ∧ getCtx t it.tenant = some x ∧
        x.st = .resetting ∧ x.gone = true ∧ (c.st ≠ .resetting → x.rdetail = 3 ∧ x.waiters = [id]) ∧
        (c.st = .resetting → x.rdetail = c.rdetail ∧ x.waiters = c.waiters ++ [id])) ∧
    (∀ c, Running s id 0x0004 it [] → getCtx s it.tenant = some c →
      ∃ t x, exec (.tenantReset id) s = .next t ∧ waitsFor t id .event = true ∧ getCtx t it.tenant = some x ∧
        x.st = .resetting ∧ x.gone = c.gone ∧ (c.st ≠ .resetting → x.rdetail = 1 ∧ x.waiters = [id]) ∧
        (c.st = .resetting → x.rdetail = c.rdetail ∧ x.waiters = c.waiters ++ [id])) ∧
    (∀ p, Running s id 0x0005 it [] → Laid it 4 [(2, 2)] → fld it.payload 0 1 ≤ 64 → fld it.payload 1 1 ≤ 15 →
      getQueue s (fld it.payload 0 1) (fld it.payload 1 1) = some p →
      ∃ t, exec (.deleteQueue id) s = .next t ∧ waitsFor t id .event = true ∧
        getQueue t (fld it.payload 0 1) (fld it.payload 1 1) = some { p with del := true, delers := p.delers ++ [id] }) ∧
    ∀ c, Running s id 0x0009 it [] → getCtx s it.tenant = some c → c.st = .normal →
      ∃ t, exec (.freeze id) s = .next t ∧ waitsFor t id .event = true ∧
        getCtx t it.tenant = some { c with st := .frozen, freezer := c.freezer ++ [id] }

/-- 04 R98, R99: SAVE, once its IV has been drawn, replies the blob and marks the context saved, its generator gone; RESTORE of
a blob that authenticates, is fresh and fits loads the frozen context and thaws it. -/
def Obligations.MigrationCompletes : Prop :=
  ∀ (s : State) (id : Nat) (it : Item) (c : Ctx), getCtx s it.tenant = some c →
    (∀ iv key, Running s id 0x000A it [.nums [], .ok iv] → it.payload.length = 16 →
      (s.hier.tkeys.find? (fun e => e.1 == it.payload)).map (·.2) = some key →
      ∃ t b, exec (.save id) s = .next (itemDone id (.done b) t) ∧ (saveBlob it.tenant c it.payload key iv s).1 = .ok b ∧
        getCtx t it.tenant = some { c with saved := true, inst := none }) ∧
    let n := fld it.payload 48 4
    let ct := slice it.payload 64 n
    let b := gcmCrypt s.hier.ownTkey (slice it.payload 52 12) ct
    Running s id 0x000B it [] → Laid it (80 + n) [(2, 2), (6, 2)] → fld it.payload 0 2 = 1 → fld it.payload 4 2 = it.tenant →
      slice it.payload 32 16 = s.fab.serial → s.hier.ownTkey.length = 32 →
      gcmTag s.hier.ownTkey (slice it.payload 52 12) (slice it.payload 0 64) ct = it.payload.drop (64 + n) →
      serialCheck s it.tenant (fld it.payload 8 8) (sha256 it.payload) = none → c.st = .frozen → blobFits s c b = true →
      ∃ t x, exec (.restore id) s = .next (itemDone id (.done []) t) ∧ getCtx t it.tenant = some x ∧ x.st = .normal ∧
        x.quota = fld b 144 4 ∧ x.left = fld b 144 4 - fld b 149 4

/-! ## Classes 02h to 04h -/

/-- 06 R132, R138-R148, R139: the PIN services. A payload in its ranges asks the SYE for its key with PINENC (and for the PVK
with PINVER); on the answer, PIN_TRANSLATE replies the outgoing block, or PIN_FORMAT where no PIN came; PIN_VERIFY replies
DONE or VERIFY_FAIL; PIN_CHANGE and PIN_GENERATE reply the reference value. -/
def Obligations.PinServicesReply : Prop :=
  ∀ (s : State) (id : Nat) (it : Item) (pan l : List Nat) (fills draws : List Answer) (out rnd : Bytes),
    (let i := it.f 0 1; let o := it.f 1 1; let b := panBound i || panBound o
      Laid it 36 ([(2, 2), (9, 1)] ++ blockTail i 20) → i ≤ 4 → o ≤ 4 → Handle (it.f 4 4) →
      panField (it.b 8 12) (if b then 12 else 0) (if b then 19 else 0) = some pan → pairOk i o = true → Fills o 10 fills →
      (Running s id 0x0201 it fills → exec (.pinTranslate id) s = .next (askEngine .sye id
        (itemRequest id it [keyNeed it it.key (pinTypes i) uPINENC] [] (.pinDecipher i pan [it.b 20 16]) none) s)) ∧
      (Running s id 0x0201 it (fills ++ [.nums l, .ok out]) → ((numsPins 2 l).headD none).isSome = true →
        exec (.pinTranslate id) s = .next (itemDone id (.done out) s)) ∧
      (Running s id 0x0201 it (fills ++ [.nums l]) → (numsPins 2 l).headD none = none →
        exec (.pinTranslate id) s = .next (itemEnd id 0x0105 0x0120 s))) ∧
    (let i := it.f 0 1; let r := refBlock (it.b 32 32)
      Laid it 64 ([(1, 3), (5, 1)] ++ blockTail i 16 ++ refRsvd 32) → i ≤ 4 → panField (it.b 4 12) 12 19 = some pan → RefFits r true →
      (Running s id 0x0202 it [] → exec (.pinVerify id) s = .next (askEngine .sye id (itemRequest id it
        [keyNeed it it.key (pinTypes i) uPINENC, keyNeed it r.pvk tdesTypes uPINVER] []
        (.pinRef i pan [it.b 16 16] r.method r.vdata r.pvki) none) s)) ∧
      (Running s id 0x0202 it [.nums l] → exec (.pinVerify id) s = .next
        (if r.verifies ((numsPins 1 l).headD none) (l.drop (l.length - 16)) then itemDone id (.done []) s else itemEnd id 0x0501 0 s))) ∧
    (let i := it.f 0 1; let r := refBlock (it.b 48 32); let x := l.drop (l.length - 32)
      Laid it 80 ([(2, 2), (5, 1)] ++ blockTail i 16 ++ blockTail i 32 ++ refRsvd 48) → i ≤ 4 → it.f 1 1 ≤ 1 →
      panField (it.b 4 12) 12 19 = some pan → RefFits r (it.f 1 1 == 1) → (it.f 1 1 = 0 → isZero (it.b 16 16) = true) →
      Running s id 0x0203 it [.nums l] →
      (∀ pin v, (it.f 1 1 = 0 ∨ r.verifies ((numsPins 2 l).headD none) (x.take 16) = true) → (numsPins 2 l).getD 1 none = some pin →
        r.value (x.drop 16) pin = some v → exec (.pinChange id) s = .next (itemDone id (.done (refvalBytes v)) s)) ∧
      (it.f 1 1 = 1 → r.verifies ((numsPins 2 l).headD none) (x.take 16) = false →
        exec (.pinChange id) s = .next (itemEnd id 0x0501 0 s))) ∧
    (let o := it.f 0 1; let n := it.f 1 1; let g := it.f 2 1; let r := refBlock (it.b 16 32)
      let pin0 := rnd.map (fun b => b.toNat % 10)
      let x := nibbles (out.drop 16)
      let pin := if g = 0 then pin0 else naturalPin r.dtab x r.chklen
      Laid it 48 ([(3, 1), (5, 1)] ++ refRsvd 16) → o ≤ 4 → 4 ≤ n → n ≤ 12 → g ≤ 1 → panField (it.b 4 12) 12 19 = some pan →
      RefFits r false → (g = 1 → r.method = 0 ∧ n = r.chklen) → (r.method = 0 → r.chklen ≤ n) →
      (if g = 0 then DrewBelow 250 n draws rnd else draws = []) → Fills o (14 - n) fills →
      ∀ blk, Running s id 0x0204 it (draws ++ fills ++ [.ok out, .ok blk]) →
        exec (.pinGenerate id) s = .next (itemDone id (.done (blk ++ refvalBytes ((r.value x pin).getD []))) s))

/-- 06 R149-R155, R132: the card services. A payload in its ranges asks the SYE for the card key with its usage, and the
derivations of an issuer master key; on the answer the value, the MAC or the script is the reply, and CVV_VERIFY compares. -/
def Obligations.CardServicesReply : Prop :=
  ∀ (s : State) (id : Nat) (it : Item) (pan l : List Nat) (out : Bytes), panField (it.b 0 12) 12 19 = some pan →
    (let asks := fun (op : Nat) (keys : List KeyReq) (chain : List KeyStep) (e : EngineOp) (c : Instr) =>
      (Running s id op it [] → exec c s = .next (askEngine .sye id (itemRequest id it keys chain e none) s))
    let replies := fun (op : Nat) (c : Instr) => (Running s id op it [.ok out] → exec c s = .next (itemDone id (.done out) s))
    let date := nibbles (it.b 12 4)
    let dated := (date.take 7).all (· < 10) = true ∧ date.getD 7 0 = 15 ∧ 3 ≤ it.f 16 1 ∧ it.f 16 1 ≤ 5
    let icc := KeyStep.icc pan (psnDigits (it.f 12 1))
    (Laid it 20 [(1, 1), (17, 3)] → dated →
      asks 0x0301 [keyNeed it it.key [1] uCVK] [] (.cvv (pan ++ date.take 7)) (.cvvGenerate id) ∧
      (Running s id 0x0301 it [.nums l] → exec (.cvvGenerate id) s = .next (itemDone id
        (.done (packNibbles (l.take (it.f 16 1) ++ List.replicate (8 - (l.take (it.f 16 1)).length) 15))) s))) ∧
    (Laid it 24 [(1, 1), (17, 3)] → dated → ((nibbles (it.b 20 4)).take (it.f 16 1)).all (· < 10) = true →
      ((nibbles (it.b 20 4)).drop (it.f 16 1)).all (· == 15) = true →
      asks 0x0302 [keyNeed it it.key [1] uCVK] [] (.cvv (pan ++ date.take 7)) (.cvvVerify id) ∧
      (Running s id 0x0302 it [.nums l] → exec (.cvvVerify id) s = .next
        (if l.take (it.f 16 1) == (nibbles (it.b 20 4)).take (it.f 16 1) then itemDone id (.done []) s else itemEnd id 0x0501 0 s))) ∧
    (bcd2 (it.f 12 1) = true →
      (let td := it.f 40 2; let m := it.f 13 1; let p := it.f 28 1
      Laid it (44 + td) [(1, 1), (29, 3), (42, 2)] → m ≤ 2 → p ≤ 8 → 1 ≤ td → td ≤ 1024 → (m ≠ 2 → p = 0) →
        (m = 0 → isZero (it.b 24 4) = true) → (m = 1 → isZero (it.b 26 2) = true) → isZero (it.b (32 + p) (8 - p)) = true →
        asks 0x0303 [keyNeed it it.key imkTypes (uICCMK ||| uMACV ||| (if m = 0 then 0 else uMACG))]
          [icc, .session (padTo 8 (it.b 14 2))] (.arqc m (it.b 16 8) (it.b 24 4) (it.b 32 p) (it.b 44 td)) (.arqcVerify id) ∧
        replies 0x0303 (.arqcVerify id)) ∧
      (let ml := it.f 24 2
      Laid it (28 + ml) [(1, 1), (14, 2), (26, 2)] → 4 ≤ it.f 13 1 → it.f 13 1 ≤ 8 → 1 ≤ ml → ml ≤ 1024 →
        asks 0x0304 [keyNeed it it.key imkTypes (uICCMK ||| uMACG)] [icc, .session (it.b 16 8)]
          (.mac 0xFF 2 (it.f 13 1) (it.b 28 ml)) (.scriptMac id) ∧ replies 0x0304 (.scriptMac id)) ∧
      (let dl := it.f 30 2; let padm := it.f 14 1; let i := it.f 28 1; let chain := [icc, .session (it.b 16 8)]
      let key := keyNeed it it.key imkTypes (uICCMK ||| uENC)
      (it.f 13 1 = 1 → Laid it 48 ([(1, 1), (15, 1), (29, 1)] ++ blockTail i 32) → padm ≤ 1 → i ≤ 4 → i ≠ 2 → dl = 0 →
        Handle (it.f 24 4) →
        asks 0x0305 [key, keyNeed it (it.f 24 4) (pinTypes i) uPINENC] chain (.scriptPin i padm pan (it.b 32 16)) (.scriptEncrypt id) ∧
          replies 0x0305 (.scriptEncrypt id)) ∧
      (it.f 13 1 = 0 → Laid it (48 + dl) [(1, 1), (15, 1), (29, 1)] → padm ≤ 1 → 1 ≤ dl → dl ≤ 1024 →
        isZero (it.b 24 5) = true → isZero (it.b 32 16) = true →
        asks 0x0305 [key] chain (.scriptData padm (it.b 48 dl)) (.scriptEncrypt id) ∧ replies 0x0305 (.scriptEncrypt id)))))

/-- 06 R156-R163, R132: the DUKPT services. A parameter block in its ranges asks the SYE for the BDK with BDK usage and the
working key's derivation; on the answer the cryptogram or the MAC is the reply, a MAC is verified whole, and a PIN that
was recovered is sent out under the outgoing key. -/
def Obligations.DukptServicesReply : Prop :=
  ∀ (s : State) (id : Nat) (it : Item) (pan l : List Nat) (fills : List Answer) (out : Bytes),
    let sch := it.f 0 1; let wkt := it.f 1 1; let wkl := it.f 2 1; let c := ksnCounter sch it.payload
    sch ≤ 1 → (sch = 0 → isZero (it.b 14 2) = true) → c ≠ 0 → oneBits c ≤ (if sch = 0 then 10 else 16) →
    (sch = 0 → wkt ≠ 4 ∧ wkt ≠ 7) → (if sch = 0 then wkl = 0 else wkl = 1 ∨ wkl = 2) →
    (let asks := fun (op : Nat) (a : List Answer) (e : EngineOp) (cmd : Instr) =>
      (Running s id op it a → exec cmd s = .next (askEngine .sye id (itemRequest id it [bdkNeed it] (dukptChain it) e none) s))
    (let i := it.f 16 1; let o := it.f 17 1; let b := panBound i || panBound o
      Laid it 52 ([(3, 1), (18, 2), (25, 1)] ++ blockTail i 36) → i ≤ 4 → o ≤ 4 → Handle (it.f 20 4) →
      panField (it.b 24 12) (if b then 12 else 0) (if b then 19 else 0) = some pan → wkt = 1 → (i = 4 ↔ sch = 1) →
      pairOk i o = true → Fills o 10 fills →
      asks 0x0402 fills (.pinDecipher i pan [it.b 36 16]) (.dukptPinTranslate id) ∧
      (Running s id 0x0402 it (fills ++ [.nums l, .ok out]) → ((numsPins 2 l).headD none).isSome = true →
        exec (.dukptPinTranslate id) s = .next (itemDone id (.done out) s))) ∧
    (let dl := it.f 36 4; let n := if sch = 0 then 8 else 16; let enc := it.f 16 1 == 1; let mode := it.f 17 1
      Laid it (40 + dl) [(3, 1), (18, 2)] → it.f 16 1 ≤ 1 → mode ≤ 1 → n ≤ dl → dl ≤ 1048576 → dl % n = 0 →
      (wkt = 7 ∨ wkt = if enc then 6 else 5) → (mode = 0 → isZero (it.b 20 16) = true) →
      (mode = 1 → sch = 0 → isZero (it.b 28 8) = true) →
      asks 0x0403 [] (.cipher mode enc false (it.b 20 16) [] (it.b 40 dl) [] 0) (.dukptCipher id) ∧
      (Running s id 0x0403 it [.ok out] →
        exec (.dukptCipher id) s = .next (itemDone id (.done (if enc then out.drop 16 else out)) s))) ∧
    (let ml := it.f 36 4; let gen := it.f 16 1 == 1; let n := it.f 17 1
      Laid it (40 + ml) [(3, 1), (19, 1)] → it.f 16 1 ≤ 1 → 4 ≤ n → n ≤ (if sch = 0 then 8 else 16) → it.f 18 1 ≤ 1 →
      ml ≤ 1048576 → (wkt = 4 ∨ wkt = if gen then 3 else 2) → (sch = 1 → it.f 18 1 = 0) →
      (gen = true → isZero (it.b 20 16) = true) →
      asks 0x0404 [] (.mac 0xFE (it.f 18 1 + 1) n (it.b 40 ml)) (.dukptMac id) ∧
      (Running s id 0x0404 it [.ok out] → exec (.dukptMac id) s = .next
        (if gen then itemDone id (.done out) s else if padTo 16 out == it.b 20 16 then itemDone id (.done []) s
          else itemEnd id 0x0501 0 s))) ∧
    (∀ slot, Laid it 24 [(3, 1), (23, 1)] → it.f 22 1 ≤ 1 → 1 ≤ wkt → wkt ≤ 7 → (it.f 16 4 ≠ 0 ∨ it.f 22 1 = 1) →
      let d : NewSlot := { idx := slot, tenant := it.tenant, type := if sch = 0 then 1 else if wkl = 2 then 5 else 3, usage := wktUsage wkt, ucnt := it.f 16 4, life := it.f 20 2, xrst := it.f 22 1 == 1, expo := false, fromKey := true }
      (Running s id 0x0401 it [.nums [slot]] → exec (.dukptDerive id) s =
        .next (askEngine .sye id (itemRequest id it [bdkNeed it] (dukptChain it) .lookupOnly (some d)) s)) ∧
      (Running s id 0x0401 it [.nums [slot], .ok out] → exec (.dukptDerive id) s = .next (itemDone id (.done out) s))))

/-! ## Classes 05h to 07h, 09h and 0Bh -/

/-- 07 R167-R181, R198-R200: MACs, ciphers, key wraps and key blocks. A payload in its ranges asks the engine of its algorithm
for the key with the usage of its opcode; on the answer the bytes are the reply, and MAC_VERIFY compares the whole MAC. -/
def Obligations.CipherServicesReply : Prop :=
  ∀ (s : State) (id : Nat) (it : Item) (out : Bytes),
    (let asks := fun (op : Nat) (a : List Answer) (k : Engine) (keys : List KeyReq) (e : EngineOp) (d : Option NewSlot) (c : Instr) =>
      (Running s id op it a → exec c s = .next (askEngine k id (itemRequest id it keys [] e d) s))
    let replies := fun (op : Nat) (a : List Answer) (c : Instr) =>
      (Running s id op it (a ++ [.ok out]) → exec c s = .next (itemDone id (.done out) s))
    (∀ eng types lo hi, let ml := it.f 4 4; let alg := it.f 0 1; let padm := it.f 1 1; let n := it.f 2 1
      macAlg alg = some (eng, types, lo, hi) → Laid it (24 + ml) [(3, 1)] → padm ≤ 3 → (padm = 0 ↔ alg ≠ 1 ∧ alg ≠ 3) →
      lo ≤ n → n ≤ hi →
      let op := if eng = .dge then EngineOp.hmac alg n (it.b 24 ml) else .mac alg padm n (it.b 24 ml)
      (isZero (it.b 8 16) = true → asks 0x0501 [] eng [keyNeed it it.key types uMACG] op none (.macGenerate id) ∧
        replies 0x0501 [] (.macGenerate id)) ∧
      (n ≤ 16 → asks 0x0502 [] eng [keyNeed it it.key types uMACV] op none (.macVerify id) ∧
        (Running s id 0x0502 it [.ok out] → exec (.macVerify id) s = .next
          (if padTo 16 out == it.b 8 16 then itemDone id (.done []) s else itemEnd id 0x0501 0 s)))) ∧
    (∀ v draws, let mode := it.f 0 1; let tl := it.f 1 1; let src := it.f 2 1; let al := it.f 20 4; let dl := it.f 24 4
      let iv := it.b 4 16; let types := if mode ≤ 1 then blockTypes else aesTypes
      let op := fun enc => EngineOp.cipher mode enc (src == 1) v (it.b 44 al) (it.b (44 + al) dl) (it.b 28 16) tl
      Laid it (44 + al + dl) [(3, 1)] → mode ≤ 3 → (if mode = 3 then 12 ≤ tl ∧ tl ≤ 16 else tl = 0) →
      (mode = 0 → isZero iv = true) → (mode = 3 → isZero (iv.drop 12) = true) → (mode ≠ 3 → al = 0) →
      (mode ≤ 1 → dl ≠ 0 ∧ dl % 8 = 0) →
      ((src = 0 ∧ draws = [] ∧ v = iv) ∨ (src = 1 ∧ mode ≠ 0 ∧ isZero iv = true ∧ draws = [.ok v]) →
        isZero (it.b 28 16) = true → asks 0x0601 draws .sye [keyNeed it it.key types uENC] (op true) none (.encrypt id) ∧
          replies 0x0601 draws (.encrypt id)) ∧
      (src = 0 → v = iv → (mode ≠ 3 → isZero (it.b 28 16) = true) →
        asks 0x0602 [] .sye [keyNeed it it.key types uDEC] (op false) none (.decrypt id) ∧ replies 0x0602 [] (.decrypt id))) ∧
    (Laid it 8 [(1, 3)] → it.f 0 1 ≤ 1 → Handle (it.f 4 4) →
      asks 0x0603 [] .sye [keyNeed it it.key aesTypes uWRAP, keyNeed it (it.f 4 4) symTypes 0] (.wrap (it.f 0 1 == 1)) none (.keyWrap id) ∧
      replies 0x0603 [] (.keyWrap id)) ∧
    (∀ slot, let wl := it.f 16 4; let b := slotBlock (it.b 4 12)
      Laid it (20 + wl) ([(1, 3)] ++ blockRsvd 4) → it.f 0 1 ≤ 1 → b.xrst ≤ 1 → wl % 8 = 0 →
      (if it.f 0 1 = 1 then 16 else 24) ≤ wl → wl ≤ 72 → b.ok symTypes = true → (b.ucnt ≠ 0 ∨ b.xrst = 1) →
      asks 0x0604 [.nums [slot]] .sye [keyPersist it it.key aesTypes uUNWRAP] (.unwrap (it.f 0 1 == 1) (it.b 20 wl)) (some (b.new slot it.tenant true)) (.keyUnwrap id) ∧
      replies 0x0604 [.nums [slot]] (.keyUnwrap id)) ∧
    (∀ slot k m, let bl := it.f 12 4; let b := slotBlock (it.b 0 12)
      let d : NewSlot := { idx := slot, tenant := it.tenant, type := 0, usage := m, ucnt := b.ucnt, life := b.life, xrst := b.xrst == 1, expo := k.expo == 0x45, fromKey := true }
      Laid it (16 + bl) (blockRsvd 0) → b.xrst ≤ 1 → kbParse (it.b 16 bl) = some k → kbUsage k.usage k.alg k.mode = some m →
      b.type = 0 → b.usage = 0 → (b.ucnt ≠ 0 ∨ b.xrst = 1) →
      asks 0x0901 [.nums [slot]] .sye [keyPersist it it.key (if k.version = 0x44 then aesTypes else tdesTypes) uUNWRAP]
        (.kbImport (it.b 16 bl)) (some d) (.kbImport id) ∧ replies 0x0901 [.nums [slot]] (.kbImport id)) ∧
    ∀ fill, let v := it.f 0 1
      Laid it 12 [(7, 1)] → (v = 0x42 ∨ v = 0x44) → it.f 4 1 ∈ [0x45, 0x4E, 0x53] → isPrint (it.f 5 1) = true →
      isPrint (it.f 6 1) = true → Handle (it.f 8 4) →
      asks 0x0902 [.ok fill] .sye [keyNeed it it.key blockTypes uWRAP, keyNeed it (it.f 8 4) symTypes 0]
        (.kbExport (it.b 0 7) fill) none (.kbExport id) ∧ replies 0x0902 [.ok fill] (.kbExport id))

/-- 07 R182-R186, 12 R329-R331: digests, streams and random bytes. A stream opens with its first part, grows by each part in
order, and is gone when its last part replies. -/
def Obligations.DigestServicesReply : Prop :=
  ∀ (s : State) (id : Nat) (it : Item) (out : Bytes),
    (let alg := it.f 0 1; let n := it.f 2 2; let ml := it.f 4 4
      Laid it (8 + ml) [(1, 1)] → isHash alg = true → outlenOk alg n = true → (isShake alg = false → n = 0) →
      (Running s id 0x0701 it [] →
        exec (.digest id) s = .next (askEngine .dge id (itemRequest id it [] [] (.hash alg n (it.b 8 ml)) none) s)) ∧
      (Running s id 0x0701 it [.ok out] → exec (.digest id) s = .next (itemDone id (.done out) s))) ∧
    (let ml := it.f 8 4; let msg := it.b 12 ml; let alg := it.f 0 1; let n := it.f 2 2
      it.ord = true →
      (Laid it (12 + ml) [(1, 1)] → (isHash alg = true ∨ isHmacAlg alg = true) → outlenOk alg n = true →
        (isShake alg = false → isHmacAlg alg = false → n = 0) → (isHmacAlg alg = true ↔ it.key ≠ 0) →
        (Running s id 0x0702 it [] → tfind s.eng.streams it.flow = none → it.f 4 4 = 0 → streamsTaken s id < 4096 →
          ∃ t, exec (.streamStart id) s = .next t ∧ t.eng.streams = s.eng.streams ∧ t.hfe = s.hfe) ∧
        (Running s id 0x0702 it [.ok [], .ok out] → ∃ t, exec (.streamStart id) s = .next (itemDone id (.done []) t) ∧
          tfind t.eng.streams it.flow = some { tenant := it.tenant, alg := alg, outlen := n, key := it.key, part := 1, data := msg } ∧
          ∀ f, f ≠ it.flow → tfind t.eng.streams f = tfind s.eng.streams f)) ∧
      (∀ st, Laid it (12 + ml) [(1, 1), (0, 1), (2, 2)] → tfind s.eng.streams it.flow = some st →
        (Running s id 0x0703 it [.nums [st.alg, st.key], .ok out] → ∃ t, exec (.streamUpdate id) s = .next (itemDone id (.done []) t) ∧
          tfind t.eng.streams it.flow = some { st with part := st.part + 1, data := st.data ++ msg } ∧
          ∀ f, f ≠ it.flow → tfind t.eng.streams f = tfind s.eng.streams f) ∧
        (Running s id 0x0703 it [] → it.f 4 4 ≠ st.part → ∃ t, exec (.streamUpdate id) s = .next (itemEnd id 0x0105 0x0163 t)) ∧
        (Running s id 0x0704 it [.nums [st.alg, st.key]] → exec (.streamFinish id) s = .next (askEngine .dge id
          (itemRequest id it (streamKey it st.alg st.key) [] (.stream st.alg st.outlen msg (st.data ++ msg)) none) s)) ∧
        (Running s id 0x0704 it [.nums [st.alg, st.key], .ok out] → ∃ t, exec (.streamFinish id) s = .next (itemDone id (.done out) t) ∧
          tfind t.eng.streams it.flow = none ∧ ∀ f, f ≠ it.flow → tfind t.eng.streams f = tfind s.eng.streams f))) ∧
    (let n := it.f 0 4; let al := it.f 5 1
      it.payload.length = 8 + al → it.f 4 1 ≤ 1 → it.f 6 2 = 0 → 1 ≤ n → n ≤ (if it.f 4 1 = 1 then 65536 else 1048576) → al ≤ 48 →
      (Running s id 0x0B01 it [] → exec (.random id) s =
        .next (askDraw id it (fun s => instOf s it.tenant) n (it.f 4 1 == 1) (it.b 8 al) false s)) ∧
      (Running s id 0x0B01 it [.ok out] → exec (.random id) s = .next (itemDone id (.done out) s))) ∧
    (it.payload = [] → Running s id 0x0B02 it [] →
      let i := instOf s it.tenant; let d := getInst s i
      exec (.drbgStatus id) s = .next (itemDone id (.done (toBE 4 d.reqs ++ toBE 4 d.bytes ++ toBE 1 (instState s i) ++
        toBE 1 (condCode s.ent.cond) ++ toBE 1 (sourceMask s .healthy) ++ zeros 5)) s))

/-! ## Class 08h -/

/-- 07 R187-R193: RSA, ECDSA, ECDH and EdDSA. A payload in its ranges, its digest at hand and its secret bytes drawn, asks the BNE
for the private key with its usage; on the answer the bytes are the reply. -/
def Obligations.PublicKeyServicesReply : Prop :=
  ∀ (s : State) (id : Nat) (it : Item) (out d : Bytes) (dg : List Answer),
    let runs := fun (op : Nat) (a : List Answer) (keys : List KeyReq) (e : EngineOp) (n : Option NewSlot) (c : Instr) (reply : Bytes) =>
      (Running s id op it a → exec c s = .next (askEngine .bne id (itemRequest id it keys [] e n) s)) ∧
      (Running s id op it (a ++ [.ok out]) → exec c s = .next (itemDone id (.done reply) s))
    let hash := it.f 1 1;
    (let sch := it.f 0 1; let sl := it.f 2 1; let rsa := fun ml => sch ≤ 1 ∧ it.f 3 1 ≤ 1 ∧ hash ∈ rsaHashes ∧
        (if sch = 0 then sl = 0 else sl ≤ hashLen hash) ∧ (it.f 3 1 = 0 → ml = hashLen hash);
      (∀ salt draws, let ml := it.f 8 4
        Laid it (12 + ml) [(4, 4)] → rsa ml → (if sch = 1 ∧ sl ≠ 0 then draws = [.ok salt] else draws = [] ∧ salt = []) →
        Digested (it.f 3 1) (it.b 12 ml) d dg →
        runs 0x0801 (draws ++ dg) [keyNeed it it.key [0x50] uSIGN] (.rsaSign sch hash sl salt d) none (.rsaSign id) out) ∧
      (let ml := it.f 8 4; let mb := it.f 4 2; let el := it.f 6 1; let nb := (mb + 7) / 8
        Laid it (12 + 2 * nb + el + ml) [(7, 1)] → rsa ml → 1 ≤ el → el ≤ 32 → Digested (it.f 3 1) (it.b (12 + 2 * nb + el) ml) d dg →
        runs 0x0802 dg [] (.rsaVerify sch hash sl mb (it.b 12 nb) (it.b (12 + nb) el) (it.b (12 + nb + el) nb) d) none (.rsaVerify id) []) ∧
      (let ll := it.f 2 2; let cl := it.f 4 4
        Laid it (8 + ll + cl) [(1, 1)] → hashLen (it.f 0 1) ≠ 0 → ll ≤ 1024 →
        runs 0x0803 [] [keyNeed it it.key [0x50] uDEC] (.rsaDecrypt (it.f 0 1) (it.b 8 ll) (it.b (8 + ll) cl)) none (.rsaDecrypt id) out)) ∧
    (let code := it.f 0 1; let ml := it.f 4 4
      let ec := it.f 2 1 ≤ 1 ∧ hash ∈ ecHashes ∧ (it.f 2 1 = 0 → ml = hashLen hash);
      (∀ l ln sec, Laid it (8 + ml) [(3, 1)] → ec → Digested (it.f 2 1) (it.b 8 ml) d dg →
        runs 0x0804 ([.nums [l, ln], .ok sec] ++ dg) [keyNeed it it.key [curveType code] uSIGN] (.ecdsaSign code d) none (.ecdsaSign id) out) ∧
      (∀ l ln, Laid it (8 + (1 + 2 * l) + 2 * ln + ml) [(3, 1)] → ec → it.f 8 1 = 4 →
        Digested (it.f 2 1) (it.b (8 + (1 + 2 * l) + 2 * ln) ml) d dg →
        runs 0x0805 ([.nums [l, ln]] ++ dg) [] (.ecdsaVerify code (it.b 8 (1 + 2 * l)) (it.b (8 + (1 + 2 * l)) (2 * ln)) d) none (.ecdsaVerify id) []) ∧
      ∀ l ln slot, let ol := it.f 2 2; let b := slotBlock (it.b 4 12); let pl := if code = 0x11 then 32 else 1 + 2 * l
        Laid it (16 + pl + ol) ([(1, 1)] ++ blockRsvd 4) → ol ≤ 256 → b.xrst ≤ 1 → (code = 0x11 ∨ it.f 16 1 = 4) →
        b.ok derivedTypes = true → (b.ucnt ≠ 0 ∨ b.xrst = 1) →
        runs 0x0806 [.nums [l, ln], .nums [slot]] [keyNeed it it.key [curveType code] uAGREE]
          (.ecdh code (it.b 16 pl) (it.b (16 + pl) ol)) (some (b.new slot it.tenant true)) (.ecdh id) out) ∧
    (let ml := it.f 4 4;
      (Laid it (8 + ml) [(0, 4)] → runs 0x0807 [] [keyNeed it it.key [0x18] uSIGN] (.eddsaSign (it.b 8 ml)) none (.eddsaSign id) out) ∧
      (Laid it (104 + ml) [(0, 4)] → runs 0x0808 [] [] (.eddsaVerify (it.b 8 32) (it.b 40 64) (it.b 104 ml)) none (.eddsaVerify id) []))

/-- 07 R194-R197, Tables 7.17, 7.18: ML-KEM, ML-DSA, KEYGEN and PUBKEY_READ. -/
def Obligations.LatticeServicesReply : Prop :=
  ∀ (s : State) (id : Nat) (it : Item) (out sec : Bytes) (slot : Nat),
    let runs := fun (op : Nat) (a : List Answer) (keys : List KeyReq) (e : EngineOp) (n : Option NewSlot) (c : Instr) (reply : Bytes) =>
      (Running s id op it a → exec c s = .next (askEngine .bne id (itemRequest id it keys [] e n) s)) ∧
      (Running s id op it (a ++ [.ok out]) → exec c s = .next (itemDone id (.done reply) s))
    let p := it.f 0 1; let b := slotBlock (it.b 4 12)
    (1 ≤ p → p ≤ 3 →
      (b.xrst ≤ 1 → b.ok derivedTypes = true → (b.ucnt ≠ 0 ∨ b.xrst = 1) →
        (Laid it (16 + kemEkLen p) ([(1, 3)] ++ blockRsvd 4) →
          runs 0x0809 [.nums [slot], .ok sec] [] (.kemEncaps p (it.b 16 (kemEkLen p))) (some (b.new slot it.tenant false)) (.mlkemEncaps id) out) ∧
        (Laid it (16 + kemCtLen p) ([(1, 3)] ++ blockRsvd 4) →
          runs 0x080A [.nums [slot]] [keyNeed it it.key [0x3F + p] uAGREE] (.kemDecaps p (it.b 16 (kemCtLen p)))
            (some (b.new slot it.tenant true)) (.mlkemDecaps id) out)) ∧
      (let cl := it.f 2 1; let ml := it.f 4 4; let o := 8 + dsaPkLen p + dsaSigLen p
        (Laid it (8 + cl + ml) [(3, 1)] → it.f 1 1 ≤ 1 →
          runs 0x080B (if it.f 1 1 = 0 then [.ok sec] else []) [keyNeed it it.key [0x43 + p] uSIGN]
            (.dsaSign p (it.f 1 1) (it.b 8 cl) (it.b (8 + cl) ml)) none (.mldsaSign id) out) ∧
        (Laid it (o + cl + ml) [(1, 1), (3, 1)] →
          runs 0x080C [] [] (.dsaVerify p (it.b 8 (dsaPkLen p)) (it.b (8 + dsaPkLen p) (dsaSigLen p)) (it.b o cl) (it.b (o + cl) ml))
            none (.mldsaVerify id) []))) ∧
    (∀ n, Laid it 16 ([(2, 2)] ++ blockRsvd 4) → b.xrst ≤ 1 → kindOk p (it.f 1 1) = true → b.type = 0 → b.usage = kindUsage p →
      (b.ucnt ≠ 0 ∨ b.xrst = 1) →
      runs 0x080D [.nums [n], .nums [slot], .ok sec] [] (.keygen p (it.f 1 1)) (some (b.new slot it.tenant false)) (.keygen id) out) ∧
    (it.payload = [] → runs 0x080E [] [{ keyNeed it it.key privateTypes (uSIGN ||| uAGREE ||| uDEC) with anyOf := true }] .pubkey none
      (.pubkeyRead id) out)

/-! ## Class 01h -/

/-- 09 R260, R261, R263-R266, Tables 9.9, 9.10: the opcodes that act on this part's own slots. PRUNE frees an ephemeral slot and
advances its generation; SCRUB holds it, its generation kept; both leave the hierarchy as it was, send nothing, and refuse a persistent slot with 01BEh. GENERATE writes
a slot under the tenant root, DERIVE asks for its bytes under KEY; QUERY and VINE_STATUS read. No other slot changes. -/
def Obligations.LocalKeyServices : Prop :=
  ∀ (s : State) (id : Nat) (it : Item), keysShut s = false →
    (let i := it.key / 65536
      ∀ p, it.payload = [] → findBare s i (it.key % 65536) it.tenant = .pass p →
      (p.persist = false →
        (Running s id 0x0102 it [] → ∃ t, exec (.prune id) s = .next (itemDone id (.done []) t) ∧ (getSlot t i).type = 0 ∧
          (getSlot t i).gen = nextGen p.gen ∧ (getSlot t i).held = false ∧ isZero (getSlot t i).key = true ∧
          (getSlot t i).tag = slotTag i (getSlot t i) ∧ (∀ j, j ≠ i → getSlot t j = getSlot s j) ∧ t.hier = s.hier ∧ t.out = s.out) ∧
        (Running s id 0x0103 it [] → ∃ t, exec (.scrub id) s = .next (itemDone id (.done []) t) ∧ (getSlot t i).type = 0 ∧
          (getSlot t i).gen = p.gen ∧ (getSlot t i).held = true ∧ isZero (getSlot t i).key = true ∧
          (getSlot t i).tag = slotTag i (getSlot t i) ∧ (∀ j, j ≠ i → getSlot t j = getSlot s j) ∧ t.hier = s.hier ∧ t.out = s.out)) ∧
      (p.persist = true →
        (Running s id 0x0102 it [] → ∃ t, exec (.prune id) s = .next (itemEnd id 0x0105 0x01BE t) ∧ t.vks = s.vks) ∧
        (Running s id 0x0103 it [] → ∃ t, exec (.scrub id) s = .next (itemEnd id 0x0105 0x01BE t) ∧ t.vks = s.vks)) ∧
      (Running s id 0x0104 it [] → ∃ t, t.vks = s.vks ∧ exec (.query id) s = .next (itemDone id (.done (toBE 1 p.type ++
        toBE 1 p.flags ++ toBE 2 p.usage.toNat ++ toBE 1 p.depth ++ toBE 1 (lineage s p) ++ toBE 1 p.klen ++
        toBE 1 (queryState s p) ++ (if p.type = 0x7E then zeros 4 else toBE 2 p.parent ++ toBE 2 (p.stamp.headD 0)) ++
        toBE 4 (if p.ucnt then p.ucount else max32) ++ toBE 6 p.expiry ++ zeros 2 ++ toBE 8 p.gctr)) t))) ∧
    (let b := slotBlock (it.b 0 12)
      ∀ slot, b.xrst ≤ 1 → b.ok symTypes = true → (b.ucnt ≠ 0 ∨ b.xrst = 1) →
      (∀ out, let ll := it.f 12 2
        Laid it (16 + ll) (blockRsvd 0 ++ [(14, 2)]) → ll ≤ 256 →
        (Running s id 0x0105 it [.nums [slot]] → exec (.derive id) s = .next (askEngine (deriveEngine s it.key) id
          (itemRequest id it [keyNeed it it.key [3, 4, 5, 8] uDERIVE] [] (.kdf (it.b 16 ll) (typeLen b.type)) (some (b.new slot it.tenant true))) s)) ∧
        (Running s id 0x0105 it [.nums [slot], .ok out] → exec (.derive id) s = .next (itemDone id (.done out) s))) ∧
      ∀ sec, Running s id 0x0106 it [.nums [slot], .ok sec] → Laid it 12 (blockRsvd 0) → (b.life = 0 ∨ s.cycle.isSome = true) →
        ∃ t, exec (.generate id) s = .next (itemDone id (.done (handleBytes slot (getSlot t slot).gen ++ zeros 4)) t) ∧
          (getSlot t slot).gen = (getSlot s slot).gen ∧ (getSlot t slot).type = b.type ∧ (getSlot t slot).usage = b.usage ∧
          (getSlot t slot).owner = it.tenant ∧ (getSlot t slot).parent = tenantRoot s it.tenant ∧
          (getSlot t slot).persist = false ∧ (getSlot t slot).expo = false ∧ (getSlot t slot).ucount = b.ucnt ∧
          (getSlot t slot).xrst = (b.xrst == 1) ∧
          (getSlot t slot).expiry = (if b.life = 0 then never else s.cycle.getD 0 + b.life) ∧
          ∀ j, j ≠ slot → getSlot t j = getSlot s j) ∧
    (∀ d, it.payload = [] → Running s id 0x0108 it [] → getTenant s it.tenant = some d →
      exec (.vineStatus id) s = .next (itemDone id (.done (toBE 8 d.ctr ++ toBE 1 ((d.officers.map (·.k)).getD 0) ++
        toBE 1 ((d.officers.map (·.keys.length)).getD 0) ++ zeros 2 ++ handleBytes d.root.1 d.root.2 ++
        toBE 2 (tenantSlots s it.tenant true) ++ toBE 2 (tenantSlots s it.tenant false) ++ zeros 4 ++
        ((d.officers.map (fun o => sha256 o.raw)).getD (zeros 32)) ++ zeros 8)) s))

/-! ## Signed messages -/

/-- 09 R254-R259, R493, 03 R64, 08 R229, 13 R341-R343: a message of a tenant's officers, or about a tenant, that passes its
checks is applied: the slot pruned, scrubbed or written, the officer set, the table, the session, the entry or the
placement changed, and the counter advanced with it. -/
def Obligations.TenantMessagesApply : Prop :=
  ∀ (s : State) (id : Nat) (it : Item) (e : Envelope) (l : List Answer), envelopeOf it.payload = e → l = verifiedAnswers e → s.boot.phase ≠ 6 →
    (Quorate (tenantRule it 1 graftLen s) e → let g := graftBody e.body
      (∀ f, (g.op = 3 ∧ f = pruneSlot g.idx ∨ g.op = 4 ∧ f = scrubSlot g.idx) → Running s id 0x0101 it (l ++ [.nums []]) →
        let u := applyTenant it.tenant e [g.idx] (f s)
        baseTooBig u = false → let ids := linkedPlaced u it.tenant; let t := sendSlots it.tenant u.hier.refs ids [g.idx] false u
        exec (.graft id) s = .next (applied id it.gate (newApply id it e (toBE 4 g.handle ++ zeros 4) ids t, t)) ∧
        (getSlot u g.idx).type = 0) ∧
      (∀ par k, g.op = 1 → g.wmode = 1 → g.new = true → g.hcache = false → g.type ≠ 0x12 → g.type ≠ 0x50 →
        ¬(0x20 ≤ g.type ∧ g.type ≤ 0x3F) → graftParent it.tenant g s = .ok par → g.handle ≠ 0 → takable s g.idx = true →
        placedIds s it.tenant = [] → Running s id 0x0101 it (l ++ [.nums [], .ok k]) →
        let w := graftWrite it.tenant g.idx par g e.counter it.holding s
        let u := applyTenant it.tenant e [g.idx] w
        baseTooBig u = false → let ids := linkedPlaced u it.tenant; let t := sendSlots it.tenant u.hier.refs ids [g.idx] false u
        exec (.graft id) s = .next (applied id it.gate
          (newApply id it e (handleBytes g.idx (getSlot t g.idx).gen ++ zeros 4) ids t, t)) ∧
        ∃ p, getSlot w g.idx = p ∧ p.key = it.holding ∧ p.type = g.type ∧ p.persist = true ∧ p.usage = g.usage ∧
          p.owner = it.tenant ∧ p.parent = par ∧ p.stamp = stampUnder s par ∧ p.gen = (getSlot s g.idx).gen ∧
          p.expiry = g.expiry ∧ p.ucount = 0 ∧ p.unleased = g.ucnt ∧ p.gctr = e.counter)) ∧
    (∀ o d, Quorate (tenantRule it 2 (fun _ => true) s) e → officerCheck e.body = .ok o → Running s id 0x0107 it l →
      let u := applyTenant it.tenant e [] (modTenant it.tenant (fun t => { t with officers := some o }) s)
      baseTooBig u = false → getTenant u it.tenant = some d → let ids := linkedPlaced u it.tenant
      exec (.officerSet id) s = .next (applied id it.gate
        (newApply id it e [] ids u, sendPlacement u.hier.refs ids (.entry it.tenant d) u))) ∧
    (∀ d, Quorate (tenantRule it 3 (fun _ => true) s) e → mapCheck e.body = none → Running s id 0x0E02 it l →
      let m := if mapNtypes e.body = 0 then none else some { body := e.body, counter := e.counter }
      let u := applyTenant it.tenant e [] (modTenant it.tenant (fun t => { t with map := m }) s)
      getTenant u it.tenant = some d → let ids := linkedPlaced u it.tenant
      exec (.mapLoad id) s = .next (applied id it.gate
        (newApply id it e [] ids u, sendPlacement u.hier.refs ids (.entry it.tenant d) u))) ∧
    (∀ k, Quorate (tenantRule it 4 (fun e => e.blen == 24) s) e → Running s id 0x0A04 it (l ++ [.nums [], .ok k]) →
      let b := e.body
      let v : Session := { first := fld b 0 8, last := fld b 8 8, kek := (fld b 16 4 / 65536, fld b 16 4 % 65536), cursor := 0, prev := 0 }
      let u := applyTenant it.tenant e [] (setSession it.tenant (some v) s)
      exec (.exportOpen id) s = .next (applied id it.gate (newApply id it e [] [] u, u)) ∧
      tfind (setSession it.tenant (some v) s).clc.sessions it.tenant = some v) ∧
    (∀ i j v w, Quorate (tenantKind 0x12 it (fun e => 4 ≤ e.blen) s) e → Running s id 0x0C03 it (l ++ [.nums [], .ok []]) →
      isKnown s it.tenant = false → createSlot it.tenant 0x7E 0 false 0 (it.holding.take 32) s = (some i, v) →
      (if fld e.body 0 2 = 0 then j = 0 ∧ w = v else createSlot it.tenant 8 uTOKEN true i (it.holding.drop 32) v = (some j, w)) →
      let d := newTenant (getTenant w it.tenant) e.body (i, if i = 0 then 0 else (getSlot w i).gen) (j, if j = 0 then 0 else (getSlot w j).gen)
      let slots := if j = 0 then [i] else [i, j]
      let u := applyHier e (noteTenant it.tenant (noteSlots slots (imgSync it.tenant slots (adoptEntry it.tenant d w))))
      exec (.tenantCreate id) s = .next (applied id it.gate (newApply id it e [] [] u, u))) ∧
    (∀ d, Quorate (tenantKind 0x13 it (fun e => e.blen == 0) s) e → Running s id 0x0C04 it l → getTenant s it.tenant = some d →
      d.known = true → let ids := linkedPlaced s it.tenant
      let u := applyHier e (modTenant it.tenant (fun _ => deletedTenant d) (deleteVault it.tenant s))
      let v := adoptEntry it.tenant (deletedTenant d) (noteTenant it.tenant (imgSync it.tenant [] u))
      exec (.tenantDelete id) s = .next (applied id it.gate
        (newApply id it e [] ids (sendPlacement u.hier.refs ids (.entry it.tenant (deletedTenant d)) v),
          sendPlacement u.hier.refs ids (.entry it.tenant (deletedTenant d)) v))) ∧
    ∀ ids d u, Quorate (tenantKind 0x14 it (fun e => e.blen == 8) s) e → Running s id 0x0C05 it l → fld e.body 1 3 = 0 →
      placeIds e.body = some ids → getTenant s it.tenant = some d → d.known = true → placeRefusal it.tenant ids s = (none, u) →
      let new := ids.filter (fun i => i != 0 && !d.ids.contains i)
      let v := applyHier e (modTenant it.tenant (fun x => { x with epoch := x.epoch + 1, ids := ids }) u)
      let w := sendSlots it.tenant v.hier.refs new (persistentOf v it.tenant) true (noteTenant it.tenant (imgSync it.tenant [] v))
      exec (.place id) s = .next (applied id it.gate (applyNext { newApply id it e [] new w with
        after := some ((d.ids ++ new).filter (· != 0), it.tenant) } w))

/-- 13 R338, R340, R355, 02 R24, 14 R370, R371, 15 R388-R394, 17 R443-R450: a message of the officers of this part that passes
its checks is applied: roster, officer set, cycle number, command of the hierarchy, KROOT_MODE, tamper flags, life-cycle
intent, image, curve entry, cut-offs, class, cellar. -/
def Obligations.PartMessagesApply : Prop :=
  ∀ (s : State) (id : Nat) (it : Item) (e : Envelope) (l : List Answer), envelopeOf it.payload = e → l = verifiedAnswers e → s.boot.phase ≠ 6 →
    (Quorate (rosterRule s) e → rosterRsvd e.body = false → rosterForm s e.body = true → rosterKeeps s (rosterOf e.body) = true →
      Running s id 0x0C01 it l →
      exec (.hierConfig id) s = .next (applied id it.gate (spread id it e (applyHier e (rosterApply (rosterOf e.body) s))))) ∧
    (∀ o, Quorate (officersRule s) e → officerCheck e.body = .ok o → Running s id 0x0C02 it l →
      exec (.hierOfficers id) s = .next (applied id it.gate
        (spread id it e (applyHier e { s with hier := { s.hier with hoff := some o } })))) ∧
    (∀ c, Quorate (hierRule 0x15 0 (fun e => e.blen == 8) (fun s e => e.dserial == activeSerial s) s) e → let n := fld e.body 0 6
      fld e.body 6 2 = 0 → isActive s = true → s.cyu.setDone = false → s.cycle = some c → c < n → s.vks.hwm ≤ n → n ≤ cycMax →
      Running s id 0x0C08 it l → let u := applyHier e { s with cyu := { s.cyu with setN := some n, setDone := true } }
      exec (.cycleSet id) s = .next (applied id it.gate (newApply id it e [] [] u, u)) ∧ u.cyu.setN = some n ∧ u.cyu.num = s.cyu.num) ∧
    (Quorate (hierRule 0x16 0 (fun e => e.blen == 16) (fun s e => e.dserial == s.fab.serial) s) e → s.hier.mst = .standbyUnsync →
      longUndriven s = true → Running s id 0x0C07 it l →
      let u := applyHier e (armatureRecord 3 srcLnk (becomeActive false s))
      exec (.forceActive id) s = .next (applied id it.gate (newApply id it e [] [] u, u))) ∧
    (s.otp.force = .perso →
      (Quorate (hierRule 0x19 0 (fun e => e.blen == 4) (fun s e => e.dserial == s.fab.serial) s) e → fld e.body 1 3 = 0 →
        fld e.body 0 1 ≤ 1 → Running s id 0x0D03 it l → ∃ u, exec (.krootSet id) s = .next (wakeGate it.gate (itemDone id (.done []) u)) ∧
          u.otp = { s.otp with kroot := if fld e.body 0 1 = 0 then .independent else .maquette } ∧ u.hier.hctr = e.counter) ∧
      (Quorate (hoffRule it s) e → Running s id 0x0D04 it l →
        exec (.hoffInstall id) s = .next (wakeGate it.gate (itemDone id (.done [])
          { s with hier := { s.hier with hoff := officerSet e.body, hctr := 0, hrecs := [] } })))) ∧
    (∀ target, Quorate (lcRule it s) e → envTarget e = some target → lcPrerequisites s e = none → Running s id 0x0D02 it l →
      exec (.lcTransition id) s = .next (wakeGate it.gate (itemWait id .event (lcBegin target s))) ∧
      (lcBegin target s).otp = { s.otp with intent := s.otp.intent ++ [lcRow target] }) ∧
    (Quorate (tamperRule s) e → fld e.body 4 4 = 0 → fld e.body 0 4 < 2 ^ 20 → Running s id 0x0F20 it l →
      let keep := s.bk.flags &&& ~~~(BitVec.ofNat 20 (fld e.body 0 4) &&& ~~~s.grd.active)
      exec (.tamperClear id) s = .next (wakeGate it.gate (itemDone id (.done (toBE 4 keep.toNat)) { s with
        bk := { s.bk with flags := keep, gctr := e.counter, gdig := e.digest }, cyu := { s.cyu with lostSeen := false } }))) ∧
    (∀ b, Quorate (formatRule s) e → Running s id 0x0F13 it (l ++ [.nums [], .ok b]) →
      exec (.cellarFormat id) s = .next (wakeGate it.gate (itemDone id (.done []) (takeCounter e (formatted (beNat b) s))))) ∧
    (Quorate (updateRule s) e → updateRsvd e.body = false → updateForm e.body = true →
      let k := fld e.body 0 1; let n := fld e.body 1 1; let c := e.body.drop 8
      (1 ≤ k → k ≤ 3 → imageForm k c = true → imageSealed c = true → floorOf s k ≤ imageSvn c →
        Running s id 0x0F10 it (l ++ [.nums [], .ok [], .ok []]) →
        exec (.update id) s = .next (wakeGate it.gate (itemWait id .event (startWriting s)))) ∧
      (∀ drawn, k = 4 → curveForm c = true → (if fld c 2 1 = 1 then ∃ b, drawn = [Answer.ok b, .ok []] else drawn = []) →
        Running s id 0x0F10 it (l ++ [.nums [], .nums []] ++ drawn) →
        exec (.update id) s = .next (wakeGate it.gate (itemDone id (.done []) (takeCounter e (putCurve c s))))) ∧
      (k = 5 → 33 ≤ fld c 0 1 → fld c 0 1 ≤ 49 → 775 ≤ fld c 2 2 → fld c 2 2 ≤ 815 → Running s id 0x0F10 it (l ++ [.nums []]) →
        exec (.update id) s = .next (wakeGate it.gate (itemDone id (.done []) (takeCounter e (putCutoffs n (fld c 0 1) (fld c 2 2) s))))) ∧
      ∀ i, k = 6 → s.otp.force ∈ [.test, .perso, .field] → tamperBit (fld c 0 1) = some i → (fld c 1 1 = 2 ∨ fld c 1 1 = 3) →
        tamperClass s i < fld c 1 1 → Running s id 0x0F10 it (l ++ [.nums []]) →
        exec (.update id) s = .next (wakeGate it.gate (itemDone id (.done []) (takeCounter e (raiseClass i (fld c 1 1) s)))))

/-! ## Classes 0Ah, 0Ch to 0Fh: the other services -/

/-- 08 R214-R231: TOKENISE and DETOKENISE under FF1 ask the SYE for KEY with TOKEN and reply its digits; in random mode a known PAN
replies its token, a new one replies the candidate once both records have been copied; an unknown token is NOT_FOUND.
DELETE replies once its tombstones have been copied. EXPORT_NEXT replies the enciphered chunk and moves its session on.
What the manager answers a worker's command is that command's reply. -/
def Obligations.TokenServicesReply : Prop :=
  ∀ (s : State) (id : Nat) (it : Item) (pan m : List Nat) (dig out : Bytes),
    (panField (it.b 8 12) 12 19 = some pan → it.f 1 1 ≤ 8 → it.f 2 1 ≤ 4 →
      let lead := it.f 1 1; let trail := it.f 2 1; let tl := it.f 3 1
      let ff1 := fun enc => EngineOp.ff1 enc (ff1Tweak pan lead trail (it.b 20 tl)) (middle pan lead trail)
      let key := [keyNeed it (it.f 4 4) aesTypes uTOKEN]
      (it.f 0 1 = 0 → tl ≤ 16 → Handle (it.f 4 4) → isZero ((it.b 20 16).drop tl) = true → lead + trail + 6 ≤ pan.length →
        (Laid it 84 [(9, 1)] → isZero (it.b 36 48) = true →
          (Running s id 0x0A01 it [] → exec (.tokenise id) s =
            .next (wakeGate it.gate (askEngine .sye id (itemRequest id it key [] (ff1 true) none) s))) ∧
          (Running s id 0x0A01 it [.nums m] → exec (.tokenise id) s =
            .next (wakeGate it.gate (itemDone id (.done (tokenReply (withMiddle pan lead trail m) false 0)) s)))) ∧
        (Laid it 36 [(9, 1)] → Running s id 0x0A02 it [.nums m] → exec (.detokenise id) s =
          .next (wakeGate it.gate (itemDone id (.done (panReply (withMiddle pan lead trail m) 0 0 [])) s)))) ∧
      (it.f 0 1 = 1 → tl = 0 → it.f 4 4 = 0 → isZero (it.b 20 16) = true →
        (Laid it 84 [(9, 1)] → lead + trail + 6 ≤ pan.length →
          (∀ place r, r.length = 128 → Running s id 0x0A01 it (vaultAnswers dig ++ lookedUp place r) →
            exec (.tokenise id) s = .next (wakeGate it.gate
              (itemDone id (.done (tokenReply (recOf r).token true (recOf r).serial)) s))) ∧
          (∀ draws b serial n, DrewBelow 250 (pan.length - lead - trail) draws b →
            let c := withMiddle pan lead trail (b.map (fun x => x.toNat % 10))
            c ≠ pan → Running s id 0x0A01 it (vaultAnswers dig ++ lookedNone ++ draws ++ lookedNone ++ lookedNone ++ [.nums [serial, n], .ok []]) →
            exec (.tokenise id) s = .next (wakeGate it.gate (itemDone id (.done (tokenReply c false serial)) s))) ∧
          (Running s id 0x0A01 it [.nums [0], .ok out] →
            exec (.tokenise id) s = .next (wakeGate it.gate (itemDone id (.done out) s)))) ∧
        (Laid it 36 [(9, 1)] → lead = 0 → trail = 0 →
          (∀ place r, r.length = 128 → Running s id 0x0A02 it (vaultAnswers dig ++ lookedUp place r) →
            exec (.detokenise id) s = .next (wakeGate it.gate (itemDone id
              (.done (panReply (recOf r).pan (recOf r).serial (recOf r).created (recOf r).attr)) s))) ∧
          (Running s id 0x0A02 it (vaultAnswers dig ++ lookedNone) →
            exec (.detokenise id) s = .next (wakeGate it.gate (itemEnd id 0x0801 0 s)))))) ∧
    (∀ p q r1 r2 n, Laid it 16 [(1, 3), (5, 1)] → it.f 0 1 = 1 → panField (it.b 4 12) 12 19 = some pan → r1.length = 128 → r2.length = 128 →
      Running s id 0x0A03 it (vaultAnswers dig ++ lookedUp p r1 ++ lookedUp q r2 ++ [.nums [n], .ok []]) →
      exec (.delete id) s = .next (wakeGate it.gate (itemDone id (.done []) s))) ∧
    (∀ v iv chunk k g, it.payload.length = 8 → let cursor := it.f 0 8
      cursor ≠ lastCursor → tfind s.clc.sessions it.tenant = some v → chunk.length = 12 →
      let next := fld chunk 0 8; let head := toBE 8 cursor ++ chunk ++ zeros 12
      (Running s id 0x0A05 it [.nums [1], .nums [k, g], .ok iv, .ok [], .nums [0], .ok chunk, .ok out] →
        ∃ t, exec (.exportNext id) s = .next (itemDone id (.done (iv ++ zeros 4 ++ head ++ out.drop 16)) t) ∧
          tfind t.clc.sessions it.tenant = some (if cursor = v.cursor then { v with cursor := next, prev := cursor } else v))) ∧
    (it.payload = [] → Running s id 0x0A06 it [.nums [1]] → let recs := recordsOf s it.tenant
      exec (.vaultQuery id) s = .next (itemDone id (.done (toBE 4 (((getTenant s it.tenant).map (·.share)).getD 0) ++ zeros 4 ++
        toBE 8 (recs.countP (·.2.live)) ++ toBE 8 (recs.countP (·.2.tomb)) ++ toBE 8 (getShare s it.tenant).serial ++
        toBE 4 (b2n (tfind s.clc.sessions it.tenant).isSome + 2 * b2n (s.clc.st == .opened)) ++ zeros 4)) s))

/-- 13 R353, R354, Tables 13.7-13.12, 15 R390, R396-R401: HANDOVER waits for the takeover; the queries read; POWER_CTL sets P1 and
asks for P2; DEBUG_OPEN with its signatures good opens debug; an erasure's end programs the copies, replies, and resets. -/
def Obligations.HierarchyServicesReply : Prop :=
  ∀ (s : State) (id : Nat) (it : Item),
    (it.payload = [] →
      (Running s id 0x0C06 it [] → isActive s = true → s.hier.synced = true → s.hier.handover = none → exec (.handover id) s =
        .next (itemWait id .event (handoverStep { s with hier := { s.hier with handover := some (id, none) } }))) ∧
      (Running s id 0x0C06 it [] → isActive s = false → exec (.handover id) s = .next (itemEnd id 0x0105 0x01E6 s)) ∧
      (Running s id 0x0C09 it [] → exec (.hierQuery id) s = .next (itemDone id (.done (hierBytes s)) s)) ∧
      (Running s id 0x0C0A it [] → exec (.dirQuery id) s = .next (itemDone id (.done (dirBytes s it.tenant)) s)) ∧
      (Running s id 0x0C0B it [] → isActive s = true → exec (.tkeyRead id) s =
        .next (itemDone id (.done ((publicOf s.flash.curves 0x42 s.hier.gseed).getD [])) s)) ∧
      (Running s id 0x0D01 it [] → exec (.lcStatus id) s = .next (itemDone id (.done (lcStatusBytes s)) s))) ∧
    (let req := it.f 2 1;
      Running s id 0x0D06 it [] → Laid it 4 [(3, 1)] → it.f 0 1 ≤ 1 → 1 ≤ it.f 1 1 → s.otp.force ≠ .void →
      (req = 0 ∨ req = 2 ∧ (s.otp.force = .perso ∨ s.otp.force = .field) ∧ p2Refused s = false) →
      exec (.powerCtl id) s = .next (itemDone id (.done [])
        { s with grd := { s.grd with p1en := it.f 0 1 == 1, p1idle := it.f 1 1, p2item := if req = 2 then some id else s.grd.p2item } })) ∧
    (∀ l, let b := it.payload
      132 ≤ b.length → cosigs b = some (l, []) → s.otp.force ≠ .void → s.boot.phase ≠ 6 → certChecks b s = none → serving s = false →
      rightRefused s (fld b 2 2) = false →
      (if needsCosigs s then (∀ x ∈ l, ∃ k, setOfficer s.hier.hoff x.officer = some k ∧ k.1 = x.alg) ∧
          setShort s.hier.hoff (l.foldl (fun acc x => if acc.contains x.officer then acc else acc ++ [x.officer]) []) = none
        else l = []) →
      Running s id 0x0D05 it ([.nums [], .ok []] ++ l.map (fun _ => Answer.ok [])) →
      exec (.debugOpen id) s = .next (itemDone id (.done []) (debugOpens (fld b 2 2) s)) ∧
      (debugOpens (fld b 2 2) s).grd.dbgOpen = true) ∧
    ∀ t, lcItem s = some id → rollInto s.otp = some t →
      let u := completeCopies t (transitionEffects s.otp.force t s)
      exec .lcEraseComplete s = .next (restart .lifecycle .nothing 0x0701 0 (replyNow id (.bare 0 0) u)) ∧ u.otp.force = t

/-- 03 R66-R68, 10 R290, R292, R296, 11 R315, 16 R425, R426, 17 R444-R448, R451: the recorder's, the adapter's, the diagnostic
and the update opcodes, and the ends of an image's writing and of a group's reload. -/
def Obligations.ManagementServicesReply : Prop :=
  ∀ (s : State) (id : Nat) (it : Item),
    (Laid it 8 [(7, 1)] → 1 ≤ it.f 4 2 → it.f 4 2 ≤ 256 → it.f 6 1 ≤ 3 → Running s id 0x0F01 it [] →
      let l := ringFrom s (it.f 0 4) (it.f 4 2) (it.f 6 1)
      exec (.recRead id) s = .next (itemDone id (.done (toBE 4 (ringNext (it.f 0 4) l) ++ toBE 2 l.length ++ zeros 2 ++
        (l.map (·.bytes)).flatten)) s)) ∧
    (Laid it 8 [(4, 4)] → Running s id 0x0F02 it [] → ∃ t, exec (.recAck id) s = .next (itemDone id
        (.done (toBE 4 (s.fcr.ring.countP (ackFrees (it.f 0 4))) ++ zeros 4)) t) ∧
      (∀ r, r ∈ t.fcr.ring ↔ r ∈ s.fcr.ring ∧ ¬(r.index ≤ it.f 0 4 ∧ (r.sev = 0 ∨ r.flushed = true))) ∧ t.fcr.jpos = s.fcr.jpos) ∧
    (Laid it 8 [(6, 2)] → it.f 0 4 < journalSlots → 1 ≤ it.f 4 2 → it.f 4 2 ≤ 256 → s.clc.st ≠ .opened → Running s id 0x0F03 it [] →
      let l := (journalRun (it.f 0 4) (it.f 4 2)).filterMap (fun k => tfind (journalOf s) k)
      exec (.jrnlRead id) s = .next (itemDone id (.done (toBE 4 ((it.f 0 4 + it.f 4 2) % journalSlots) ++ toBE 2 l.length ++
        zeros 2 ++ l.flatten)) s)) ∧
    (it.payload = [] →
      (Running s id 0x0F04 it [] → exec (.faultStatus id) s = .next (itemDone id (.done (faultStatusBytes s)) s)) ∧
      (Running s id 0x0F12 it [] → exec (.updateStatus id) s = .next (itemDone id (.done (updateStatusBytes s)) s)) ∧
      (Running s id 0x0E03 it [] → exec (.mapQuery id) s =
        .next (itemDone id (.done (mapDigest ((getTenant s it.tenant).bind (·.map)))) s)) ∧
      (Running s id 0x0F11 it [] → isActive s = false → s.flash.upd = none → exec (.restart id) s =
        .next (restart .perst .nothing 0x0701 0 (replyNow id (.bare 0 0) s)))) ∧
    (Laid it 8 [(1, 7)] → it.f 0 1 < 32 → Running s id 0x0F31 it [] →
      let used := toBE 4 (s.vks.slots.countP (fun e => e.2.type == 0x20 + it.f 0 1))
      exec (.curveQuery id) s = .next (itemDone id (.done (match tfind s.flash.curves (it.f 0 1) with
        | none => zeros 36 ++ used
        | some b => sha256 b ++ slice b 4 2 ++ slice b 3 1 ++ [0] ++ used)) s)) ∧
    (∀ u, Laid it 4 [(2, 2)] → it.f 0 1 < 48 → it.f 1 1 = 1 → tfind s.eng.units (it.f 0 1) = some u → u.stuck = false →
      Running s id 0x0F32 it [] → exec (.unitTest id) s = .next (itemWait id .event (startTest (it.f 0 1) id s))) ∧
    (∀ l ln out, let op := it.f 1 1
      Laid it (laneLen it l ln) [(6, 2)] → it.f 0 1 < 24 → (op = 2 ∨ op = 3 ∨ it.f 2 1 = 0) →
      (if op = 1 then 1 ≤ it.f 3 1 ∧ it.f 3 1 ≤ 32 else it.f 3 1 = 0 ∧ it.f 4 2 = 0) →
      (op = 2 → it.f (8 + ln) 1 = 4) → (op = 3 → it.f 8 1 = 4) →
      (Running s id 0x0F30 it [.nums [l, ln], .nums []] → exec (.laneTest id) s =
        .next (askEngine .bne id (laneRequest id it (laneJob it l ln)) s)) ∧
      (Running s id 0x0F30 it [.nums [l, ln], .nums [], .ok out] → exec (.laneTest id) s = .next (itemDone id (.done out) s))) ∧
    (∀ i e p, Running s id 0x0E01 it [] → adapterCheck it = .ok (i, e, p) → admitForm (innerItem it i e p) = none →
      ∃ t, exec (.adapterRecord id) s = .next (adapterInner id (innerItem it i e p) t) ∧ getItem t id = some (innerItem it i e p) ∧
        ∀ j, j ≠ id → getItem t j = getItem s j) ∧
    (∀ u, s.flash.upd = some u → u.stage = 1 →
      exec (.updateImageWritten true) s = .next (imageWritten u s) ∧ exec (.updateImageWritten false) s = .next (updateEnds 0x0105 0x01D2 s)) ∧
    ∀ g, s.dsp.groups.find? (fun e => e.2.st == .offline) = some g → groupRolled s g.1 = none →
      ∃ t, tfind t.dsp.groups g.1 = some { st := .online, ver := s.flash.svc.current.ver } ∧
        exec (.groupReloadComplete true) s = .next (selfCheck s t)

/-! ## Engines, units, lanes, slots -/

/-- 05 R104, R116-R119, 10 R277, 11 R305: a free unit takes the request at its queue's head; one that asks for no key and no slot
starts work. A message goes on to its next segment, or its context is saved and it queues again behind requests of its level. An
ended request answers its item. A lane with room takes the first request that fits; the first that needs a pair or a whole lane and
finds none reserves the lane that is free earliest. A fill writes the states of its slot's cache entry. -/
def Obligations.EngineCommandsWork : Prop :=
  ∀ (s : State) (k : EngineKind) (r : Request) (q : List Request) (n i l id : Nat) (a : Answer) (o : LaneOp) (e : Nat),
    (noUnits s k = false → queueOf s k = r :: q → freeUnit s k = some n → s.eng.ekey ≠ none → r.cont = false →
      let t := countStart k r (modUnit n (fun u => { u with req := some r }) (setQueue k q s))
      exec (.engineRequestStart k) s = .next (unitTook n (takeKeys r t)) ∧
      (r.keys = [] → r.dest = none → r.client = .item id → takeKeys r t = .ready r t ∧
        ∃ u, exec (.engineRequestStart k) s = .next u ∧ queueOf u k = q ∧ (tfind u.eng.units n).bind (·.req) = some r)) ∧
    (noUnits s k = true → queueOf s k = [] → exec (.engineRequestStart k) s = .next s) ∧
    (workingOn s n = some r → r.segs + 1 < segments r.op → let k := if isPipe n then EngineKind.sye else .dge
      let press := (queueOf s k).any (fun x => r.level ≤ x.level) && (freeUnit s k).isNone
      (press = false → exec (.segmentEnd n) s = .next (modUnit n (fun u => { u with req := some { r with segs := r.segs + 1 } }) s)) ∧
      (press = true → freeSave s = some e → ∃ t, exec (.segmentEnd n) s = .next t ∧
        queueOf t k = enqueue { r with segs := r.segs + 1, cont := true } (queueOf s k) ∧ (tfind t.eng.units n).bind (·.req) = none ∧
        (tfind t.eng.saved e).map (fun c => (c.ctr, c.req, c.seg)) = some (s.eng.savectr, r.id, r.segs + 1) ∧
        t.eng.savectr = s.eng.savectr + 1)) ∧
    (workingOn s n = some r → r.client = .item id → segments r.op ≤ r.segs + 1 → waitsFor s id (.engine r.id) = true →
      compute s.flash.curves r = .ok a → ∃ t, exec (.engineRequestComplete (.unit n)) s = .next (itemAnswer id a t) ∧
        (tfind t.eng.units n).bind (·.req) = none ∧ t.dsp = s.dsp) ∧
    (laneOp s l i = some o → s.vks.leaseW.all (fun e => e.2.2 ≠ lanePlace l i) = true → o.req.client = .item id → o.req.lane = none →
      waitsFor s id (.engine o.req.id) = true → compute s.flash.curves o.req = .ok a →
      ∃ t, exec (.engineRequestComplete (.lane l i)) s = .next (selfCheck s (itemAnswer id a t)) ∧ laneOp t l i = none ∧
        t.dsp = s.dsp ∧ t.now = max s.now o.fin) ∧
    ((∃ x ∈ s.bne.lanes, x.2.st ≠ .offline) →
      (mustReserve s = none → s.bne.queue = r :: q → placeFor s r = some (l, i) → exec .bneRequestStart s = .next (startLane l i r s)) ∧
      (mustReserve s = some r → s.bne.resv = none → earliest (s.bne.lanes.filter (fun e => e.2.st == .online)) = some l →
        let t := count 0x98 none { s with bne := { s.bne with resv := some (l, r.id) } }
        s.bne.queue.findSome? (placeFor t) = none → exec .bneRequestStart s = .next t)) ∧
    ∀ g, s.eng.units.findSome? fillOf = some (n, r, i, g) → (getSlot s i).entry = some e → (getSlot s i).gen = g →
      (getSlot s i).hcache = true → (tfind s.eng.cache e).map (·.slot) = some i → exec .hcacheFillWriteback s = .next { s with eng := { s.eng with
        units := tmod s.eng.units n (fun u => { u with req := none })
        cache := tmod s.eng.cache e (cacheStates (((r.got.head?).map (·.2)).getD [])) } }

/-- 10 R295, Table 10.9, 11 R313-R315, 09 R243, R244, R262, R271: a drained lane and a suite's end; the sweeper frees the slot at its
place where it may be reclaimed and moves on; a full log is written anew; the active manager grants up to 256 unleased uses, the
worker adds them to its slot, the standby counts them spent and answers, and the manager's own block joins its slot. -/
def Obligations.UnitAndSlotCommandsWork : Prop :=
  ∀ (s : State) (n failed : Nat),
    (∀ x, tfind s.bne.lanes n = some x →
      (x.st = .loading ∨ x.st = .draining ∧ x.ops = [] → exec (.laneDrainComplete n) s =
        .next (modLane n (fun x => { x with st := .testing, mode := .idle }) s)) ∧
      (x.st = .testing → suiteOn s n = none →
        (laneRolled s n = false → exec (.laneKatComplete n 0) s = .next (selfCheck s (modLane n
          (fun x => { x with st := .online, ver := s.flash.bne.current.ver, uctr := s.flash.bne.current.u, katfail := false }) s))) ∧
        (failed ≠ 0 → exec (.laneKatComplete n failed) s = .next (selfCheck s (laneFailed n s))))) ∧
    (∀ u, tfind s.eng.units n = some u → u.st = .testing →
      exec (.unitKatComplete n 0) s = .next (selfCheck s (answerTesters n 0 (modUnit n (fun u => { u with st := .online }) s))) ∧
      (failed ≠ 0 → exec (.unitKatComplete n failed) s =
        .next (selfCheck s (unitOffline n (answerTesters n failed (armatureRecord 2 (unitSrc n) s)))))) ∧
    (let i := s.vks.sweep; reclaimables s ≠ 0 → ∃ t, exec .sweeperStep s = .next t ∧
      t.vks.sweep = (if i + 1 < 65536 then i + 1 else 256) ∧
      (reclaimable s i (getSlot s i) = true → (getSlot t i).free = true ∧ (getSlot t i).key = []) ∧
      ∀ j, j ≠ i → getSlot t j = getSlot s j) ∧
    (logFull s = true → s.vks.img ≠ none → ∃ t, exec .vineBaseRewrite s = .next t ∧ t.vks.logBytes = 0 ∧ t.vks.half = !s.vks.half ∧
      t.bk.fresh.half = t.vks.half ∧ t.bk.fresh.chain = t.vks.chain ∧ t.vks.slots = s.vks.slots) ∧
    (∀ m : LeaseRequest, peerLive s = true → isActive s = true → (routeTo s m.fromId).isSome = true → m.epoch = epochOf s m.tenant →
      let p := getSlot s m.slot; let k := min 256 p.unleased; let s' := receivedFrom m.fromId s
      (p.persist = true → p.ucnt = true → 0 < p.unleased → hasStandby s = false → exec (.leaseBlockRequest m) s =
        .next (grantTo m k (noteSlots [m.slot] (imgPutSlot m.slot (putSlot m.slot { p with unleased := p.unleased - k } s'))))) ∧
      (p.unleased = 0 → exec (.leaseBlockRequest m) s = .next (grantTo m 0 s'))) ∧
    ∀ m : LeaseGrant, peerLive s = true → s.hier.mterm ≤ m.mterm →
      let p := getSlot s m.slot
      (isActive s = true → ∀ k, s.vks.leaseP.find? (fun e => e.1 == m.slot) = some (m.slot, myId s, k) →
        exec (.leaseBlockGrant m) s = .next (resumeLease m.slot (putSlot m.slot { p with ucount := p.ucount + k }
          { received 4 s with vks := { s.vks with leaseP := removeFirst (fun x => x.1 == m.slot) s.vks.leaseP } }))) ∧
      (isActive s = false → (managerPort s).isSome = true → let s' := receivedManager s
        (roleOf s = .worker → p.gen = m.gen → m.uses ≠ 0 → exec (.leaseBlockGrant m) s =
          .next (resumeLease m.slot (putSlot m.slot { p with ucount := p.ucount + m.uses, unleased := m.unleased } s'))) ∧
        (roleOf s ≠ .worker → exec (.leaseBlockGrant m) s =
          .next (sendOn 4 (.leaseRecord m.slot m.uses) (imgPutSlot m.slot (putSlot m.slot { p with unleased := m.unleased } s')))))

/-! ## Entropy unit, cellar -/

/-- 12 R317-R325, R328, R329: a start-up test makes its source HEALTHY or counts a failure, as a health test does, FAILED at the
third; a healthy run clears the count; 1,024 samples give one output, the first of them the engine context key; a draw from an
instance within its limits is generated and answered; the oldest draw that has waited 50 ms is refused NO_ENTROPY. -/
def Obligations.EntropyCommandsWork : Prop :=
  ∀ (s : State) (n : Nat) (x : Noise) (apt : Bool) (d : Draw) (r : List Draw) (b : Bytes),
    (tfind s.ent.src n = some x →
      (x.st = .startup ∨ x.st = .retest → ∃ t, exec (.startupTestComplete n true apt) s = .next t ∧
        tfind t.ent.src n = some { x with st := .healthy } ∧ t.ent.insts = s.ent.insts) ∧
      (∀ c, (c = Instr.startupTestComplete n false apt ∧ (x.st = .startup ∨ x.st = .retest)) ∨ (c = .healthTestFail n apt ∧ x.st = .healthy) →
        ∃ t, exec c s = .next t ∧ tfind t.ent.src n = some { x with
          fails := x.fails + 1, apt := apt, st := if 3 ≤ x.fails + 1 then .failed else .retest }) ∧
      (x.st = .healthy → ∃ t, exec (.healthyRunCount n) s = .next t ∧ tfind t.ent.src n = some { x with fails := 0 } ∧
        t = { s with ent := { s.ent with src := t.ent.src } })) ∧
    (b.length = 128 → s.ent.cond = .seeding ∨ s.ent.cond = .running →
      (s.ent.ekey = false → ∃ t, exec (.conditionerBlockClose b) s = .next t ∧ t.eng.ekey = some (sha256 b) ∧ t.ent.ekey = true ∧
        t.ent.insts = s.ent.insts) ∧
      (s.ent.ekey = true → exec (.conditionerBlockClose b) s = .next (condOutput (sha256 b) s))) ∧
    (s.ent.asked = d :: r → s.ent.cond = .running → (getInst s d.inst).hard = false → d.pr = false → d.got = [] → 0 < d.n →
      d.n ≤ 65536 → let u := count 0xC1 ((getItem s d.item).bind (·.owner)) { s with ent := { s.ent with asked := r } }
      let g := genPart d.inst d.n d.adata u
      exec .drbgDraw s = .next (answerDraw { d with got := g.1 } g.2) ∧ g.1.length = d.n) ∧
    (s.ent.waiting = d :: r → exec .drawTimeout s = .next (refuseDraw d 0x0602 2 { s.at_ (d.since + 50000000) with
      ent := { s.ent with waiting := r, urgent := s.ent.urgent.filter (· != .fresh d.id) } }))

/-- 08 R205, R211, R215, R222: the log's end makes its batch durable and the pending root current, its flush ends the commit; a page
read answers the item that waits, a failed one ends it CELLAR; a warning is recorded, a repaired page is good again, the sweeper frees
tombstones that no path needs, a failed port takes its drive offline. -/
def Obligations.CellarCommandsWork : Prop :=
  ∀ (s : State) (n pages page k : Nat) (c : Copying) (r : RootRec),
    (s.clc.closing = some (n, pages) → s.bk.root = some r → s.clc.st = .opened →
      (s.clc.copies.find? (fun c => c.batch.num == n && !c.durable) = some c → ∃ t, exec .commitLogWritten s = .next (finishCopies t) ∧
        t.clc.vault = c.batch.writes.foldl putRec s.clc.vault ∧
        t.clc.copies = s.clc.copies.map (fun x => if x.batch.num = n then { x with durable := true } else x) ∧
        t.bk.root.map (fun r => (r.pserial, r.cserial, r.crcOk)) = some (r.cserial + 1, r.cserial, true) ∧ t.dsp = s.dsp) ∧
      ((∀ c ∈ s.clc.copies, c.batch.num = n → c.durable = true) → ∃ t, exec .commitFlushDone s = .next t ∧ t.clc.closing = none ∧
        t.bk.root = some { r with cserial := r.pserial, croot := r.proot, crcOk := true } ∧ t.clc.vault = s.clc.vault)) ∧
    (tfind s.clc.reads n = some page → waitsFor s n .page = true →
      (s.clc.bad.contains page = false → ∃ t, exec (.cellarReadComplete n true) s = .next (selfCheck s (itemAnswer n (.ok []) t)) ∧
        t.clc.reads = terase s.clc.reads n ∧ t.dsp = s.dsp) ∧
      (s.clc.bad.length < 256 → hasStandby s = false → ∃ t, exec (.cellarReadComplete n false) s =
        .next (selfCheck s (itemEnd n 0x0802 1 t)) ∧ t.clc.bad.contains page = true ∧ t.dsp = s.dsp)) ∧
    ((if n = 0 then s.clc.drive0 else s.clc.drive1).usable = true → exec (.smartWarning n) s = .next (cellarRecord 1 n s) ∧
      (collecting s = true → (if n = 0 then s.clc.off0 else s.clc.off1) = false → exec (.nvmePortFailure n) s =
        .next (selfCheck s (driveOffline n (setFsrc (0x0900 + n) (fun f => { f with isol := true }) (containedReport (0x0900 + n)
          causeError 0 0 false false (eachCopy (fun c => { c with nverr := satAdd max32 c.nverr 1 }) s))))))) ∧
    (s.clc.repairs.contains page = true → ∃ t, exec (.pageMessage page true) s = .next t ∧ t.clc.bad = s.clc.bad.filter (· != page) ∧
      t.clc.repairs = removeFirst (· == page) s.clc.repairs ∧ t.clc.vault = s.clc.vault) ∧
    (let dead := (recordsOf s k).filter (fun e => e.1 / 32 == page && e.2.tomb);
      isActive s = true → s.clc.st = .opened → page < sharePages s k → dead ≠ [] → pathThrough (sharePages s k) page (recordsOf s k) = false →
      exec (.vaultSweeperStep k page) s = .next (joinBatch
        (dead.map (fun e => { tenant := k, page := page, place := e.1 % 32, val := { e.2 with kind := 0 } })) s).2)

/-! ## Links and the hierarchy -/

/-- 13 R335, R336: a HELLO that passes its checks moves the port to AUTH and answers FINISH, a FINISH that verifies brings the link
up; a failed check rejects the port with its step; a rejected link trains again; a tag failure is a corrected fault, the sixteenth
within 1 ms a contained one; a counter at its limit changes the keys. 13 R350, R351, R355, R359: polls, HOLD and its limit, the
comparison's end, TWIN_HOLD, and the takeover. -/
def Obligations.LinkCommandsWork : Prop :=
  ∀ (s : State) (k t : Nat) (m : HelloMsg) (fin : FinishMsg),
    (peerLive s = true → s.hier.portsHeld = false →
      ((portKeys s).contains k = true → portIsolated s k = false → (getPort s k).st = .training → exec (.helloMessage k m) s =
        .next (let u := received k s; if helloOk s k m then sendOn k .finish (setPort k (fun p => { p with st := .auth, hello := some m }) u)
          else rejectPort k 3 u)) ∧
      ((getPort s k).st = .auth → (getPort s k).hello = some m → exec (.finishMessage k fin) s =
        .next (if Config.finishVerifies fin.sigs fin.confirm then linkUp k m fin (received k s) else rejectPort k 6 (received k s))) ∧
      ((getPort s k).st = .rejected → exec (.linkRetry k) s = .next (trainPort k s))) ∧
    (linkLive s = true → portUp s k = true →
      (let l := tagWindow (getPort s k).tagAt (max s.now t);
        let u := count 0xDD none (eachCopy (fun c => { c with perr := tput c.perr k (satAdd max32 (tget c.perr k 0) 1) })
          (setPort k (fun p => { p with tagAt := l }) (s.at_ t)));
        (l.length < 16 → exec (.frameTagFailure k t) s = .next (corrected (srcPort k) causeTag 0 u)) ∧
        (16 ≤ l.length → exec (.frameTagFailure k t) s = .next (uncorrectable
          { src := srcPort k, t := true, c := false, corrected := false, cause := causeTag, addr := 0, subject := 0 } causeTag false u))) ∧
      ∃ u, exec (.frameCounterLimit k) s = .next (sendOn k .finish (sendOn k .hello u)) ∧
        (getPort u k).key = Config.linkKey k (getPort s k).shakes ∧ (getPort u k).shakes = (getPort s k).shakes + 1) ∧
    (linkLive s = true → isActive s = true →
      exec (.pollTimer t none) s = .next ((trellisUp s).foldl (fun (s : State) (k : Nat) => sendOn k .poll s) (s.at_ t))) ∧
    (peerLive s = true →
      (roleOf s = .worker → following s = true → exec .managerLost s = .next (exhaustLease (fun _ => true) (armatureRecord 2 srcLnk
        { s.at_ (s.hier.heard + 3000000) with hier := { s.hier with mst := .hold, holdCnt := 0 } }))) ∧
      (s.hier.mst = .hold → 64 ≤ s.hier.holdCnt → ∃ u, exec .holdLimit s = .next u ∧ u.hier.fwd = []) ∧
      (s.hier.mst = .resync → (managerPort s).isSome = true →
        exec .resyncComplete s = .next (flushForwards { s with hier := { s.hier with mst := .serving, holdCnt := 0 } }))) ∧
    (linkLive s = true → s.hier.driving = true → let h := !s.hier.holdP
      let u := fun x => { s.at_ t with hier := { s.hier with holdP := h, mism := x, toggleAt := max s.now t } }
      exec (.twinHoldToggle t h (!h)) s = .next (u 0) ∧
      (s.hier.mism = 0 → exec (.twinHoldToggle t (!h) (!h)) s = .next (u 1)) ∧
      (s.hier.mism = 1 → exec (.twinHoldToggle t (!h) (!h)) s = .next (armatureRecord 3 srcLnk (stepDown .standbyUnsync (u 2))))) ∧
    (linkLive s = true → s.hier.driving = false → roleOf s = .manager →
      (s.hier.undriven = false → s.hier.toggleAt + 3000 ≤ max s.now t →
        (s.hier.mst = .standbySync → exec (.missedToggles t) s = .next (becomeActive true (undrivenNow (s.at_ t)))) ∧
        (s.hier.mst = .standbyResync → exec (.missedToggles t) s = .next (armatureRecord 3 srcLnk
          { undrivenNow (s.at_ t) with hier := { (undrivenNow (s.at_ t)).hier with mst := .standbyUnsync } }))) ∧
      (twinSet s = true → s.hier.mst = .arbitrating → ∃ u, exec (.validToggles t (some s.hier.cseq)) s = .next (sendOn 4 (.dack s.hier.cseq) u) ∧
        u.hier = { s.hier with toggleAt := max s.now t, undriven := false, mst := .standbySync })) ∧
    (linkLive s = true → s.hier.mst = .arbitrating → s.hier.undriven = true →
      exec .arbitrationTimeout s = .next (becomeActive false (s.at_ (takeoverDue s))))

/-- 13 R343-R349, R356, 09 R254: what a bound worker takes from its manager: a takeover, entries, keys and answers, under the epoch
held, rejected below it, held above it and rejected after 1 ms; what the active manager takes: acknowledgements and forwarded work;
what a standby takes: deltas in order, acknowledged, and the end of the bulk copy. -/
def Obligations.HierarchyMessagesWork : Prop :=
  ∀ (s : State) (t mt k : Nat) (serial : Bytes),
    (peerLive s = true → following s = true → (managerPort s).isSome = true → s.hier.mterm ≤ mt →
      let r := receivedManager (s.at_ t)
      let u := { r with hier := { s.hier with mterm := mt, heard := max s.now t } }
      exec (.takeoverMessage t mt serial) s = .next (takeoverIn mt serial u) ∧
      (∀ ref keys, exec (.placementMessage t ⟨mt, ref, .transport keys⟩) s = .next (transportIn keys u)) ∧
      (∀ ref (e : Tenant), (epochOf s k ≤ e.epoch → exec (.placementMessage t ⟨mt, ref, .entry k e⟩) s =
          .next (releaseHeld k (sendManager (.keydistAck ref) (imgSync k [] (adoptEntry k e u))))) ∧
        (e.epoch < epochOf s k → exec (.placementMessage t ⟨mt, ref, .entry k e⟩) s = .next (rejectToManager ref k u))) ∧
      (∀ m : KeydistMsg, m.mterm = mt → m.complete = false →
        (m.epoch = epochOf s m.tenant → exec (.keydistMessage t m) s = .next (keydistTake m u)) ∧
        (m.epoch < epochOf s m.tenant → exec (.keydistMessage t m) s = .next (rejectToManager m.ref m.tenant u)) ∧
        (epochOf s m.tenant < m.epoch → exec (.keydistMessage t m) s = .next (holdMessage (.keydist m) u))) ∧
      (∀ m : AnswerMsg, m.mterm = mt → m.epoch = epochOf s m.tenant → awaitsAnswer s m.item = true →
        (getItem s m.item).map (·.tenant) = some m.tenant → ∀ b, m.body = .reply 0 0 b →
        exec (.answerMessage t m) s = .next (itemAnswer m.item (.ok b) u))) ∧
    (∀ (m : HeldMsg) l, s.hier.msgs = (t, m) :: l →
      exec .epochHoldTimeout s = .next (rejectHeld m ({ s with hier := { s.hier with msgs := l } }.at_ (t + 1000000)))) ∧
    (heardFrom s k = true →
      exec (.keydistAck k mt) s = .next (modApplies (fun a => if a.ref == mt then { a with await := a.await.filter (· != k) } else a)
        (receivedFrom k s)) ∧
      (∀ m : ForwardMsg, m.fromId = k → m.epoch = epochOf s m.tenant →
        exec (.forwardMessage t m) s = .next (forwardTake m (receivedFrom k (s.at_ t))))) ∧
    (peerLive s = true → portUp s 4 = true →
      (isActive s = true → exec (.dackMessage k s.hier.mterm) s = .next (dackIn k (received 4 s))) ∧
      (roleOf s = .manager → copies s = true →
        (∀ m : DeltaMsg, m.content.mterm = s.hier.mterm → m.digestOk = true → m.cseq = s.hier.cseq + 1 →
          ∃ u, exec (.deltaMessage t m) s = .next (sendOn 4 (.dack m.cseq) u) ∧ u.hier.cseq = m.cseq) ∧
        (s.hier.mst = .standbyResync → ∃ u, exec (.bulkMessage .done) s = .next (sendOn 4 (.dack s.hier.cseq) u) ∧
          u.hier = { s.hier with mst := .standbySync, heard := s.now })))

/-! ## Guard, faults, pins and power -/

/-- 14 R364-R381, 05 R128: a source that becomes active is flagged, counted and responded to by its class, recorded only in HELD; the
guard's states follow each other; main power counts its cycles and goes; on battery a detection is flagged and class C clears sap; a
cold start leaves zeros and VBAT_LOW; a locked access is refused and recorded, the sixteenth within a second raises DEBUG_PROBE. -/
def Obligations.GuardCommandsWork : Prop :=
  ∀ (s : State) (t src i : Nat), tamperBit src = some i →
    (s.powered = true → let d := detect i false (s.at_ t); let d' := { d with grd := { d.grd with active := d.grd.active ||| bit20 i } }
      d'.bk.flags = s.bk.flags ||| bit20 i ∧ d'.bk.unrep = s.bk.unrep ||| bit20 i ∧
      (tget d'.bk.events i .zero).count = satAdd max32 (tget s.bk.events i .zero).count 1 ∧
      (s.grd.st = .watching ∨ s.grd.st = .dormant ∨ s.grd.st = .arming ∨ s.grd.st = .responding ∧ s.grd.cls < tamperClass s i →
        ∃ u, exec (.tamperDetect t src) s = .next u ∧ u = respond src (tamperClass s i) d' ∧ u.grd.st = .responding ∧
          u.grd.cls = tamperClass s i ∧ u.grd.lastId = src ∧ u.boot.gates = true) ∧
      (s.grd.st = .held ∨ s.grd.st = .responding ∧ tamperClass s i ≤ s.grd.cls → exec (.tamperDetect t src) s = .next d')) ∧
    (∀ a, s.grd.st = .responding → s.fcr.flushing = false → exec (.responseComplete a) s =
      .next { s with grd := { s.grd with st := if a = 0 then .arming else .held, active := a, cls := 0 } }) ∧
    (s.grd.st = .held → exec .heldTimeout s = .next { s with grd := { s.grd with st := .arming, active := 0 } }) ∧
    (s.grd.st = .arming → exec .armingTimeout s = .next (startUp { s with grd := { s.grd with st := .watching, active := 0 } })) ∧
    (s.grd.st = .battery → exec (.mainPowerUp t) s = .next { s.at_ t with
      bk := { s.bk with pwrcyc := (s.bk.pwrcyc + 1) % 2 ^ 32 }, grd := { s.grd with st := .arming, active := 0, powerUpAt := max s.now t } }) ∧
    (s.powered = true → ∃ u, exec (.mainPowerLoss t) s = .next u ∧ u = powerOff (s.at_ t) ∧ u.grd.st = .battery ∧ u.boot.perst = true ∧
      u.bk = { s.bk with opsecs := (s.at_ t).opSecs }) ∧
    (s.powered = false → onBattery src = true → ∃ u, exec (.batteryTamper t src) s = .next u ∧ u.bk.flags = s.bk.flags ||| bit20 i ∧
      (tamperClass s i = 3 → u.bk.sap = zeros 64) ∧ (tamperClass s i ≠ 3 → u.bk.sap = s.bk.sap) ∧ u.grd = s.grd) ∧
    (∀ seeds, ∃ u, exec (.vbatColdStart t seeds) s = .next u ∧ u.bk = coldBackup (max s.now t) seeds ∧ u.bk.flags = bit20 9 ∧
      u.bk.sap = zeros 64 ∧ u.bk.pwrcyc = 0) ∧
    (∀ mv, let u := { s with grd := { s.grd with vbat := mv, batWarn := mv < 2600 } }
      (s.powered = true → 2 ≤ s.boot.phase → exec (.vbatWarning mv) s = .next (batCheck u)) ∧
      (s.powered = false → exec (.vbatWarning mv) s = .next u)) ∧
    ∀ a r, s.grd.st = .watching → s.boot.phase ≠ 0 → let l := s.grd.dbgAcc.filter (fun x => max s.now t < x + 1000000000) ++ [max s.now t]
      let u := emit .debugError (mpuRecord debugMaster a r noTenant (mpuDenied debugMaster a r (s.at_ t)))
      let u := { u with grd := { u.grd with dbgAcc := l } }
      exec (.debugPortLockedAccess t a r) s = .next (if 16 ≤ l.length then tamper 0x32 19 u else u)

/-- 16 R411-R418, R422, R423, 13 R357, R358, 18 R468: an error wire reports, a corrected one apart, several of one cycle together; a unit
that is not quiet is fatal, a missing heartbeat too; the recovery flush ends in the recovery reset; a sequencer error halts with ERR_N
locked; a background flush starts with the unflushed records and its end marks them flushed; a reset that waits takes effect. -/
def Obligations.FaultCommandsWork : Prop :=
  ∀ (s : State) (t n : Nat) (r : ErrorReport),
    (collecting s = true →
      (r.t = true → r.c = false → r.corrected = true → exec (.faultReport t r []) s =
        .next (selfCheck (s.at_ t) (corrected r.src r.cause r.addr (s.at_ t)))) ∧
      (r.t = true → r.c = false → r.corrected = false → r.cause ≠ causeEcc1 → exec (.faultReport t r []) s = .next (selfCheck (s.at_ t)
        (uncorrectable r r.cause false (setFsrc r.src (fun f => { f with wire := false }) (s.at_ t))))) ∧
      (r.t = r.c → (fsrc s r.src).wire = false → exec (.faultReport t r []) s = .next (selfCheck (s.at_ t)
        (uncorrectable r causeWire true (setFsrc r.src (fun f => { f with wire := true }) (s.at_ t))))) ∧
      (∀ q l, exec (.faultReport t r (q :: l)) s = .next (selfCheck (s.at_ t) (reports (r :: q :: l) (s.at_ t)))) ∧
      ((fsrc s n).last = 2 → s.fcr.st ≠ .recovery → ∃ u, exec (.isolationTimeout n) s = .next u ∧
        u = fatalFault n causeTimeout 0 (fsrc s n).wire true s ∧ u.fcr.st = .recovery ∧ u.fcr.lastF = n ∧ u.boot.gates = true) ∧
      ((if n = 0 then s.dsp.off0 else s.dsp.off1) = false → exec (.heartbeatWrite t n) s =
        .next { s.at_ t with fcr := { s.fcr with beatAt := some (max s.now t) } }) ∧
      (s.fcr.beatAt = some n → s.grd.st = .watching → exec .heartbeatTimeout s =
        .next (fatal 0x0F02 causeTimeout 0 (s.at_ (n + 4000000)))) ∧
      (s.fcr.unfl ≠ [] → s.fcr.flushing = false → exec .journalFlush s =
        .next { s with fcr := { s.fcr with flush := s.fcr.unfl, flushing := true } })) ∧
    exec .errPulseEnd s = .next { s with fcr := { s.fcr with pulse := false } } ∧
    (s.fcr.flushing = true →
      (s.fcr.seqRun = true → s.grd.st ≠ .responding → s.boot.deferred = none →
        exec .sequencerFlushDone s = .next (restart .sequencer .classA 0x0702 s.fcr.lastF (journalWrite s))) ∧
      (s.fcr.seqRun = true → s.grd.st = .responding → ∃ u, exec .sequencerFlushDone s = .next u ∧ u.fcr.seqRun = false ∧
        u.fcr.flushing = false ∧ u.grd = s.grd) ∧
      (s.fcr.seqRun = false → s.boot.deferred = none → ∃ u, exec .journalFlushComplete s = .next u ∧ u.fcr.flushing = false ∧
        u.fcr.flush = [] ∧ (∀ x ∈ u.fcr.unfl, x ∈ s.fcr.unfl ∧ ∀ y ∈ s.fcr.flush, y.index ≠ x.index))) ∧
    (s.fcr.seqRun = true → ∃ u, exec .sequencerError s = .next u ∧ u.fcr.st = .halted ∧ u.fcr.locked = true ∧ u.boot.gates = true ∧
      u.fcr.seqRun = false) ∧
    ∀ c, s.boot.deferred = some (c, t) → exec .flushResetTimeout s = .next (restart c .nothing 0x0701 0 (s.at_ t))

/-- 16 R423, R427, 17 R437, 15 R400-R402, 18 R456, R464-R467, 04 R491: PWRFAIL_N records and flushes, PERST_N and RESET_N reset the part,
the release latches the straps; Armature becomes READY; P1 and P2 are entered and left; HEALTH_GET, MCTP and the TAP answer. -/
def Obligations.PinAndPowerCommandsWork : Prop :=
  ∀ (s : State) (t : Nat) (env : BootEnv) (msg : Bytes) (bits : List Bool),
    (s.powered = true →
      (s.boot.pwrfail = false → collecting s = true → ∃ u, exec (.pwrfailNAssert t) s = .next u ∧ u.boot.pwrfail = true ∧
        u.boot.pwrfailAt = max s.now t ∧ u.fcr.flushing = true ∧ u.fcr.flush = u.fcr.unfl) ∧
      (pinFlush s = false →
        (s.boot.perst = false → exec (.perstNAssert t) s =
          .next (partReset .perst .nothing 0x0701 0 { s.at_ t with boot := { s.boot with perst := true } })) ∧
        exec (.resetNAssert t) s = .next (restart .resetPin .nothing 0x0701 0 (s.at_ t))) ∧
      (pinFlush s = true → ∃ u, exec (.resetNAssert t) s = .next u ∧ u.boot.deferred = some (.resetPin, max s.now t + 6000000) ∧
        u.boot.gates = true ∧ u.fcr = s.fcr) ∧
      (s.boot.perst = true → exec (.perstNRelease t env) s = .next (startUp { s.at_ t with
        boot := { s.boot with perst := false, straps := some (env.role, env.id), env := env } })) ∧
      (s.boot.pwrfail = true → s.boot.pwrfailAt + 1000000 ≤ t → exec (.announcedPowerDown t) s = .next (powerOff (s.at_ t))) ∧
      exec .healthGet s = .next (emit (.smbus (healthBytes s)) { s with fcr := { s.fcr with smbAlert := false } }) ∧
      exec (.mctpControl msg) s = .next (emit (.smbus (Config.mctpAnswer msg)) s) ∧
      exec (.tapBypass bits) s = .next (emit (.tdo ((false :: bits).take bits.length)) s) ∧
      exec .tapIdcode s = .next (emit (.tdo idcodeOut) s) ∧
      (s.grd.dbgOpen = true → s.grd.rights.getLsbD 0 = true → ∀ c ∈ [Instr.tapSamplePreload bits, .tapExtest bits],
        ∃ l u, exec c s = .next (emit (.tdo l) u) ∧ l.length = bits.length ∧ u = { s with free := u.free })) ∧
    exec (.pwrfailNRelease t) s = .next { s.at_ t with boot := { s.boot with pwrfail := false } } ∧
    (s.grd.st = .watching →
      (s.boot.phase = 4 → s.fcr.st = .startup → exec .bootReady s = .next (ready s)) ∧
      (s.grd.p1en = true → s.grd.power = .p0 → s.boot.phase = 5 → idle s = true →
        exec .p1Entry s = .next (count 0x02 none { s with grd := { s.grd with power := .p1 } })) ∧
      (s.grd.p2go = true → s.grd.power = .p0 → exec .p2Entry s = .next { s with
        grd := { s.grd with power := .p2, st := .dormant, p2go := false }, eng := { s.eng with cache := [], saved := [] } })) ∧
    ∀ c, (s.grd.power = .p1 → exec (.p1Wake c) s = .next { s with grd := { s.grd with power := .p0, wake := wakeCode c } }) ∧
      ∀ b, s.grd.power = .p2 → wakesP2 c = true → exec (.p2Wake c b) s = .next (refillCache (wakeSources b (checkpoint
        { s with grd := { s.grd with power := .p0, wake := wakeCode c, st := .watching } })))

/-! ## Registers -/

/-- 19 R473-R481, 02 R38, 16 R416, R428, R430, 17 R439: an accessor that reaches a register reads its value under the byte enables, and
the read clears and latches in its own copies alone; select registers, PMU_EVT, PMU_OVF and HOLD take writes; a partial or
closed write is dropped and counted, one to an undefined offset ignored; a wrap carries or sets OVF; GEN_AQCFG creates and deletes PF
pair 0. -/
def Obligations.RegisterCommandsWork : Prop :=
  ∀ (s : State) (a : Accessor) (off n : Nat) (hi : Bool) (be : BitVec 4) (v w : Word),
    let r : RegAccess := { off := off, len := 1, be := be, be2 := 0 }
    let writes := fun x => reaches s a x = true ∧ lockedFor s a x true = false
    (off % 4 = 0 → off < blocksEnd → reaches s a off = true → lockedFor s a off false = false → eventAt a off = none → be ≠ 0 →
      ∃ u, exec (.rcRegisterRead a r) s = .next u ∧ exec (.latchLowRead a r) s = .next u ∧
        u = emit (.readData a [BitVec.ofNat 32 (valueOf s a off) &&& BitVec.ofNat 32 (byteMask be)] false)
          (modCopies a (fun c => rcClear off (latch s off c)) s) ∧
        (∀ b, b ≠ a → copiesOf u b = copiesOf s b) ∧
        (a = .host → off = 0x00008 → u.host = { s.host with accerr := 0 }) ∧
        (a = .host → off = 0x28010 → u.host = { s.host with tsH := s.tsSec })) ∧
    (writes 0x30004 → exec (.pmuEvtWrite a 15 v) s = .next { s with pmu := tput s.pmu (copiesOf s a).csel { evt := v &&& pmuEvtMask (copiesOf s a).csel, cnt := 0, ovf := false } }) ∧
    (writes (if hi then 0x30014 else 0x30010) → ∃ u, exec (.pmuOvfClear a hi 15 v) s = .next u ∧ u = { s with pmu := u.pmu } ∧
      ∀ k, let lo := if hi then 32 else 0
        tfind u.pmu k = (tfind s.pmu k).map (fun c => if lo ≤ k ∧ k < lo + 32 ∧ v.getLsbD (k - lo) = true then { c with ovf := false } else c)) ∧
    ((pmuCounter s n).en = true → (pmuCounter s n).cnt = 2 ^ 48 - 1 →
      (n % 2 = 0 → chained s n = false → ∃ u, exec (.pmuCounterWrap n) s = .next u ∧ u = { s with pmu := u.pmu } ∧
        pmuCounter u n = { pmuCounter s n with cnt := 0, ovf := true } ∧ ∀ k, k ≠ n → pmuCounter u k = pmuCounter s k) ∧
      (chained s n = true → (pmuCounter s (n + 1)).cnt + 1 < 2 ^ 48 → ∃ u, exec (.pmuCounterWrap n) s = .next u ∧
        u = { s with pmu := u.pmu } ∧ pmuCounter u n = { pmuCounter s n with cnt := 0 } ∧
        pmuCounter u (n + 1) = { pmuCounter s (n + 1) with cnt := (pmuCounter s (n + 1)).cnt + 1 })) ∧
    (writes 0x2C004 → exec (.errpinHoldWrite a 15 v) s = .next { s with fcr := { s.fcr with hold := v.getLsbD 0 } }) ∧
    (off % 4 = 0 → off < blocksEnd → writes off → (∀ k, a ≠ .vf k) →
      (be ≠ 15 → exec (.registerWrite a r v w) s = .next (accErr a s)) ∧
      (be = 15 → regDefined off = true → mayWrite a off = false → exec (.registerWrite a r v w) s = .next (accErr a s)) ∧
      (be = 15 → regDefined off = false → mayWrite a off = false → exec (.registerWrite a r v w) s = .next s) ∧
      (be = 15 → off ∈ [0x04020, 0x08020, 0x14020, 0x24020, 0x28030, 0x2C040, 0x30000, 0x34000] →
        exec (.registerWrite a r v w) s = .next (modCopies a (writeSelect off v.toNat) s))) ∧
    (a = .host → hostLive s = true →
      (∀ x, x = v ||| 0x80000000 → aqOn s = false → aqGood x = true → getQueue s 0 0 = none →
        exec (.aqEnable a v) s = .next (addQueue 0 0 (aqPair s x) (setAqcfg (x &&& 0x800FFF00) s))) ∧
      (∀ p, aqOn s = true → getQueue s 0 0 = some p → ∃ u, exec (.aqDisable a v) s = .next u ∧ aqOn u = false ∧
        getQueue u 0 0 = some { p with vec := if aqVec v < 128 then aqVec v else 0xFF, del := true } ∧
        ∀ f q, q < 16 → (f, q) ≠ (0, 0) → getQueue u f q = getQueue s f q))

/-- 19 R485-R488, 05 R125: a control pair writes the inactive set of a master and swaps, stages, cancels and copies sets, the active rules
changing at a swap alone; while a swap is staged only the cancel is taken; the template commits in the same way; a LOCKED master takes
nothing, and each write turned away is counted. -/
def Obligations.MpuCommandsWork : Prop :=
  ∀ (s : State) (a : Accessor) (hi : Bool) (v : Word), a = .cp0 ∨ a = .cp1 → reaches s a 0 = true →
    let m := (copiesOf s a).master
    let k := (copiesOf s a).slot
    let u := getMpu s m
    let commits := [Instr.mpuSwapNow a, .mpuSwapStaged a, .mpuCopyActive a, .mpuRuleWrite a hi 15 v]
    (mpuLocked m = true → ∀ c ∈ .mpuCancel a :: commits, exec c s = .next (accErr a s)) ∧
    (mpuLocked m = false → m ≤ 0x38 →
      (u.pend = true → ∀ c ∈ commits, exec c s = .next (accErr a s)) ∧
      exec (.mpuCancel a) s = .next (setMpu m (fun _ => { u with pend := false }) s) ∧
      (u.pend = false →
        (k < 54 → ∃ t, exec (.mpuRuleWrite a hi 15 v) s = .next t ∧ (∀ i j, activeRule t i j = activeRule s i j) ∧
          t = setMpu m (modInactive (fun l => tput l k (ruleWrite k hi v (tget l k 0)))) s) ∧
        exec (.mpuSwapNow a) s = .next (setMpu m (fun _ => { u with actB := !u.actB }) s) ∧
        exec (.mpuSwapStaged a) s = .next (setMpu m (fun _ => { u with pend := true }) s) ∧
        ∃ t, exec (.mpuCopyActive a) s = .next t ∧ (∀ i j, activeRule t i j = activeRule s i j) ∧
          (getMpu t m).a = (getMpu t m).b)) ∧
    (m = templateMaster →
      (s.dsp.tpend = true → ∀ c ∈ commits, exec c s = .next (accErr a s)) ∧
      exec (.mpuCancel a) s = .next { s with dsp := { s.dsp with tpend := false, ptmpl := s.dsp.tmpl } } ∧
      (s.dsp.tpend = false →
        (17 ≤ k → k < 54 → exec (.mpuRuleWrite a hi 15 v) s = .next { s with dsp := { s.dsp with ptmpl := tput s.dsp.ptmpl k (ruleWrite k hi v (tget s.dsp.ptmpl k 0)) } }) ∧
        (k ≤ 16 → exec (.mpuRuleWrite a hi 15 v) s = .next s) ∧
        exec (.mpuSwapNow a) s = .next { s with dsp := { s.dsp with tmpl := s.dsp.ptmpl } } ∧
        exec (.mpuSwapStaged a) s = .next { s with dsp := { s.dsp with tpend := true } } ∧
        exec (.mpuCopyActive a) s = .next { s with dsp := { s.dsp with ptmpl := s.dsp.tmpl } }))

/-- 19 R477, R482, R489, Table 19.18: the register blocks read their Reset values in the part right after reset, for every accessor; the
queue and the outputs are empty. A reset of the part returns every copy to its Reset value. The surroundings at reset (PERST_N low,
BLANK, no drive) are the model's choice: 6. -/
def Obligations.ResetLeavesResetValues : Prop :=
  State.reset.pending = [] ∧ State.reset.out = [] ∧
    (∀ a ∈ [Accessor.host, .cp0, .cp1, .dbg], copiesOf State.reset a = .reset) ∧
    (∀ e ∈ [(0x08024, 0xC0000000), (0x0C004, 0xFFFFFFFF), (0x0C008, 0xFFFF), (0x1000C, 0x100), (0x14000, 0x001F0000),
        (0x14024, 2), (0x1C010, 0x031B0029), (0x1C014, 0x031B0029), (0x1C018, 0x031B0029), (0x1C01C, 0x031B0029),
        (0x28030, 1), (0x28034, 0x110), (0x28054, 0x7FFF0001), (0x28058, 0x000A0000), (0x2C040, 0x100)],
      blockReg State.reset .reset e.1 = e.2) ∧
    blockReg State.reset .reset 0x0C010 = blockReg State.reset .reset 0x0C00C ∧
    (∀ b ∈ [(0x08000, [0x00, 0x04, 0x08, 0x0C, 0x10, 0x14, 0x18, 0x20, 0x28]), (0x0C000, [0x00, 0x14, 0x18, 0x1C]),
        (0x10000, [0x00, 0x04, 0x08, 0x10, 0x14, 0x18]), (0x14000, [0x04, 0x08, 0x0C, 0x20, 0x28, 0x2C, 0x30]),
        (0x18000, [0x00, 0x04, 0x08, 0x0C, 0x10, 0x14, 0x18, 0x1C, 0x20, 0x24, 0x28]),
        (0x1C000, [0x00, 0x04, 0x08, 0x0C, 0x20, 0x24]), (0x20000, [0x00, 0x04, 0x08, 0x0C, 0x10, 0x14]),
        (0x24000, [0x00, 0x04, 0x08, 0x0C, 0x10, 0x14, 0x20, 0x24, 0x28, 0x2C]),
        (0x2C000, [0x00, 0x04, 0x10, 0x14, 0x18, 0x1C, 0x20, 0x24, 0x28, 0x2C, 0x30, 0x34, 0x44, 0x48, 0x4C]),
        (0x30000, [0x00, 0x04, 0x08, 0x0C, 0x10, 0x14])],
      ∀ o ∈ b.2, blockReg State.reset .reset (b.1 + o) = 0) ∧
    ∀ (s : State) (t : Nat), s.powered = true → pinFlush s = false → s.boot.perst = false →
      ∃ u, exec (.perstNAssert t) s = .next u ∧ ∀ a ∈ [Accessor.host, .cp0, .cp1, .dbg], copiesOf u a = .reset

/-! ## What no step undoes -/

/-- 14 R364, 15 R386, R391, R392, 17 R436, 13 R335: no command, whatever the state, adds to the queue, changes the part's identity, runs
the clock back or takes anything out of OTP: rows, locks, fuse secret, raise bits and SVN floors only grow. Where OTP holds every raise,
it still does, and no tamper source is in a lower class; where the item table is in its canonical form, it stays so. -/
def Obligations.StepsUndoNothing : Prop :=
  ∀ s t : State, step s = .next t → Since { s with pending := s.pending.tail } t ∧
    (RaisesBurnt s → RaisesBurnt t ∧ ∀ i, tamperClass s i ≤ tamperClass t i) ∧
    (tsorted s.dsp.items = true → tsorted t.dsp.items = true)

/-- 14 R364: after reset, OTP holds every raise of the class copies, and every source is in the class of its floor; the item table is in
its canonical form. -/
def Obligations.ResetMeetsInvariants : Prop :=
  RaisesBurnt State.reset ∧ (∀ i, tamperClass State.reset i = tamperFloors.getD i 0) ∧ tsorted State.reset.dsp.items = true
end

