-- ==== Sys2Proof/Laws/Tables.lean ====
section
/-! SUPPORT. The laws of sparse tables: what a reader finds after each operation, and that every operation keeps the
indices strictly rising. -/

set_option Elab.async false

namespace Sys2Proof.Machine

variable {α : Type}

/-! ## Reading after writing -/

@[simp] theorem tfind_nil (k : Nat) : tfind ([] : Table α) k = none := rfl

theorem tfind_cons (i : Nat) (v : α) (r : Table α) (k : Nat) :
    tfind ((i, v) :: r) k = if i = k then some v else tfind r k := rfl

@[simp] theorem tfind_tput_self (t : Table α) (k : Nat) (v : α) : tfind (tput t k v) k = some v := by
  induction t with
  | nil => simp [tput, tfind]
  | cons e r ih =>
    obtain ⟨i, w⟩ := e
    unfold tput
    split
    · simp [tfind]
    · split <;> simp_all [tfind]

theorem tfind_tput_ne (t : Table α) {k j : Nat} (v : α) (h : j ≠ k) : tfind (tput t k v) j = tfind t j := by
  induction t with
  | nil => simp [tput, tfind, h.symm]
  | cons e r ih =>
    obtain ⟨i, w⟩ := e
    unfold tput
    split
    · simp [tfind, h.symm]
    · split
      · rename_i hi
        subst hi
        simp [tfind, h.symm]
      · simp [tfind, ih]

@[simp] theorem tfind_tmod_self (t : Table α) (k : Nat) (f : α → α) : tfind (tmod t k f) k = (tfind t k).map f := by
  induction t with
  | nil => rfl
  | cons e r ih =>
    obtain ⟨i, w⟩ := e
    unfold tmod
    split <;> simp_all [tfind]

theorem tfind_tmod_ne (t : Table α) {k j : Nat} (f : α → α) (h : j ≠ k) : tfind (tmod t k f) j = tfind t j := by
  induction t with
  | nil => rfl
  | cons e r ih =>
    obtain ⟨i, w⟩ := e
    unfold tmod
    split
    · rename_i hi
      subst hi
      simp [tfind, h.symm]
    · simp [tfind, ih]

@[simp] theorem tfind_terase_self (t : Table α) (k : Nat) : tfind (terase t k) k = none := by
  induction t with
  | nil => rfl
  | cons e r ih =>
    obtain ⟨i, w⟩ := e
    by_cases h : i = k <;> simp_all [terase, tfind]

theorem tfind_terase_ne (t : Table α) {k j : Nat} (h : j ≠ k) : tfind (terase t k) j = tfind t j := by
  induction t with
  | nil => rfl
  | cons e r ih =>
    obtain ⟨i, w⟩ := e
    by_cases hi : i = k
    · subst hi
      simpa [terase, tfind, h.symm] using ih
    · simp only [terase, List.filter_cons, bne_iff_ne, ne_eq, hi, not_false_eq_true, ite_true, tfind] at *
      rw [ih]

@[simp] theorem tfind_tmap (t : Table α) (f : Nat → α → α) (k : Nat) : tfind (tmap t f) k = (tfind t k).map (f k) := by
  induction t with
  | nil => rfl
  | cons e r ih =>
    obtain ⟨i, w⟩ := e
    by_cases h : i = k
    · subst h
      simp [tmap, tfind]
    · simpa [tmap, tfind, h] using ih

/-! ## The canonical form -/

/-- The indices of a table. -/
abbrev tkeys (t : Table α) : List Nat := t.map (·.1)

theorem tsorted_iff (t : Table α) : tsorted t = true ↔ (tkeys t).Pairwise (· < ·) := by
  induction t with
  | nil => simp [tsorted]
  | cons e r ih =>
    cases r with
    | nil => simp [tsorted]
    | cons e' r' =>
      obtain ⟨i, v⟩ := e
      obtain ⟨j, w⟩ := e'
      simp only [tsorted, Bool.and_eq_true, decide_eq_true_eq, ih, tkeys, List.map_cons, List.pairwise_cons]
      constructor
      · rintro ⟨h, h1, h2⟩
        refine ⟨?_, h1, h2⟩
        intro a ha
        rcases List.mem_cons.1 ha with rfl | ha
        · exact h
        · exact Nat.lt_trans h (h1 a ha)
      · rintro ⟨h, h1, h2⟩
        exact ⟨h j (List.mem_cons_self ..), h1, h2⟩

/-- In a table in canonical form every entry is the one its index finds. -/
theorem tfind_of_mem {t : Table α} (h : tsorted t = true) {k : Nat} {v : α} (hm : (k, v) ∈ t) : tfind t k = some v := by
  rw [tsorted_iff] at h
  induction t with
  | nil => cases hm
  | cons e r ih =>
    obtain ⟨i, w⟩ := e
    simp only [tkeys, List.map_cons, List.pairwise_cons] at h
    rw [tfind_cons]
    rcases List.mem_cons.1 hm with he | hr
    · cases he
      simp
    · have : i < k := h.1 k (List.mem_map.2 ⟨_, hr, rfl⟩)
      rw [if_neg (by omega)]
      exact ih h.2 hr

theorem tkeys_tmod (t : Table α) (k : Nat) (f : α → α) : tkeys (tmod t k f) = tkeys t := by
  induction t with
  | nil => rfl
  | cons e r ih =>
    obtain ⟨i, w⟩ := e
    unfold tmod
    split <;> simp_all [tkeys]

theorem tkeys_tmap (t : Table α) (f : Nat → α → α) : tkeys (tmap t f) = tkeys t := by simp [tkeys, tmap]

theorem mem_tkeys_tput {t : Table α} {k a : Nat} {v : α} (h : a ∈ tkeys (tput t k v)) : a = k ∨ a ∈ tkeys t := by
  induction t with
  | nil => simpa [tput, tkeys] using h
  | cons e r ih =>
    obtain ⟨i, w⟩ := e
    unfold tput at h
    split at h
    · simpa [tkeys] using h
    · split at h
      · rename_i hi
        subst hi
        simp only [tkeys, List.map_cons, List.mem_cons] at h ⊢
        exact .inr h
      · simp only [tkeys, List.map_cons, List.mem_cons] at h ⊢ ih
        rcases h with h | h
        · exact .inr (.inl h)
        · exact (ih h).imp id .inr

theorem tsorted_tput {t : Table α} (h : tsorted t = true) (k : Nat) (v : α) : tsorted (tput t k v) = true := by
  rw [tsorted_iff] at h ⊢
  induction t with
  | nil => simp [tput]
  | cons e r ih =>
    obtain ⟨i, w⟩ := e
    simp only [tkeys, List.map_cons, List.pairwise_cons] at h
    unfold tput
    split
    · rename_i hk
      simp only [tkeys, List.map_cons, List.pairwise_cons, List.mem_cons, forall_eq_or_imp]
      exact ⟨⟨hk, fun a ha => Nat.lt_trans hk (h.1 a ha)⟩, h⟩
    · split
      · rename_i hi
        subst hi
        simpa [tkeys] using h
      · simp only [tkeys, List.map_cons, List.pairwise_cons]
        refine ⟨fun a ha => ?_, ih h.2⟩
        rcases mem_tkeys_tput ha with rfl | ha
        · omega
        · exact h.1 a ha

theorem tsorted_tmod {t : Table α} (h : tsorted t = true) (k : Nat) (f : α → α) : tsorted (tmod t k f) = true := by
  rw [tsorted_iff] at h ⊢
  rwa [tkeys_tmod]

theorem tsorted_tmap {t : Table α} (h : tsorted t = true) (f : Nat → α → α) : tsorted (tmap t f) = true := by
  rw [tsorted_iff] at h ⊢
  rwa [tkeys_tmap]

theorem tsorted_filter {t : Table α} (h : tsorted t = true) (p : Nat × α → Bool) : tsorted (t.filter p) = true := by
  rw [tsorted_iff] at h ⊢
  exact h.sublist (List.filter_sublist.map _)

theorem tsorted_terase {t : Table α} (h : tsorted t = true) (k : Nat) : tsorted (terase t k) = true := tsorted_filter h _

end Sys2Proof.Machine
end

