-- ==== Sys2Proof/Laws/State.lean ====
section
/-! SUPPORT. What each named update of the state does to each of its fields; no later proof unfolds a record update. -/

set_option Elab.async false

namespace Sys2Proof.Machine

/-! ## at_ -/

@[simp] theorem atTime_pending (s : State) (t : Nat) : (s.at_ t).pending = s.pending := rfl
@[simp] theorem atTime_now (s : State) (t : Nat) : (s.at_ t).now = max s.now t := rfl
@[simp] theorem atTime_out (s : State) (t : Nat) : (s.at_ t).out = s.out := rfl
@[simp] theorem atTime_free (s : State) (t : Nat) : (s.at_ t).free = s.free := rfl
@[simp] theorem atTime_fab (s : State) (t : Nat) : (s.at_ t).fab = s.fab := rfl
@[simp] theorem atTime_otp (s : State) (t : Nat) : (s.at_ t).otp = s.otp := rfl
@[simp] theorem atTime_bk (s : State) (t : Nat) : (s.at_ t).bk = s.bk := rfl
@[simp] theorem atTime_grd (s : State) (t : Nat) : (s.at_ t).grd = s.grd := rfl
@[simp] theorem atTime_boot (s : State) (t : Nat) : (s.at_ t).boot = s.boot := rfl
@[simp] theorem atTime_flash (s : State) (t : Nat) : (s.at_ t).flash = s.flash := rfl
@[simp] theorem atTime_cyu (s : State) (t : Nat) : (s.at_ t).cyu = s.cyu := rfl
@[simp] theorem atTime_hfe (s : State) (t : Nat) : (s.at_ t).hfe = s.hfe := rfl
@[simp] theorem atTime_dsp (s : State) (t : Nat) : (s.at_ t).dsp = s.dsp := rfl
@[simp] theorem atTime_eng (s : State) (t : Nat) : (s.at_ t).eng = s.eng := rfl
@[simp] theorem atTime_bne (s : State) (t : Nat) : (s.at_ t).bne = s.bne := rfl
@[simp] theorem atTime_vks (s : State) (t : Nat) : (s.at_ t).vks = s.vks := rfl
@[simp] theorem atTime_ent (s : State) (t : Nat) : (s.at_ t).ent = s.ent := rfl
@[simp] theorem atTime_clc (s : State) (t : Nat) : (s.at_ t).clc = s.clc := rfl
@[simp] theorem atTime_hier (s : State) (t : Nat) : (s.at_ t).hier = s.hier := rfl
@[simp] theorem atTime_fcr (s : State) (t : Nat) : (s.at_ t).fcr = s.fcr := rfl
@[simp] theorem atTime_pmu (s : State) (t : Nat) : (s.at_ t).pmu = s.pmu := rfl
@[simp] theorem atTime_host (s : State) (t : Nat) : (s.at_ t).host = s.host := rfl
@[simp] theorem atTime_cp0 (s : State) (t : Nat) : (s.at_ t).cp0 = s.cp0 := rfl
@[simp] theorem atTime_cp1 (s : State) (t : Nat) : (s.at_ t).cp1 = s.cp1 := rfl
@[simp] theorem atTime_dbg (s : State) (t : Nat) : (s.at_ t).dbg = s.dbg := rfl

/-! ## emit -/

@[simp] theorem emit_pending (o : Out) (s : State) : (emit o s).pending = s.pending := rfl
@[simp] theorem emit_now (o : Out) (s : State) : (emit o s).now = s.now := rfl
@[simp] theorem emit_out (o : Out) (s : State) : (emit o s).out = s.out ++ [o] := rfl
@[simp] theorem emit_free (o : Out) (s : State) : (emit o s).free = s.free := rfl
@[simp] theorem emit_fab (o : Out) (s : State) : (emit o s).fab = s.fab := rfl
@[simp] theorem emit_otp (o : Out) (s : State) : (emit o s).otp = s.otp := rfl
@[simp] theorem emit_bk (o : Out) (s : State) : (emit o s).bk = s.bk := rfl
@[simp] theorem emit_grd (o : Out) (s : State) : (emit o s).grd = s.grd := rfl
@[simp] theorem emit_boot (o : Out) (s : State) : (emit o s).boot = s.boot := rfl
@[simp] theorem emit_flash (o : Out) (s : State) : (emit o s).flash = s.flash := rfl
@[simp] theorem emit_cyu (o : Out) (s : State) : (emit o s).cyu = s.cyu := rfl
@[simp] theorem emit_hfe (o : Out) (s : State) : (emit o s).hfe = s.hfe := rfl
@[simp] theorem emit_dsp (o : Out) (s : State) : (emit o s).dsp = s.dsp := rfl
@[simp] theorem emit_eng (o : Out) (s : State) : (emit o s).eng = s.eng := rfl
@[simp] theorem emit_bne (o : Out) (s : State) : (emit o s).bne = s.bne := rfl
@[simp] theorem emit_vks (o : Out) (s : State) : (emit o s).vks = s.vks := rfl
@[simp] theorem emit_ent (o : Out) (s : State) : (emit o s).ent = s.ent := rfl
@[simp] theorem emit_clc (o : Out) (s : State) : (emit o s).clc = s.clc := rfl
@[simp] theorem emit_hier (o : Out) (s : State) : (emit o s).hier = s.hier := rfl
@[simp] theorem emit_fcr (o : Out) (s : State) : (emit o s).fcr = s.fcr := rfl
@[simp] theorem emit_pmu (o : Out) (s : State) : (emit o s).pmu = s.pmu := rfl
@[simp] theorem emit_host (o : Out) (s : State) : (emit o s).host = s.host := rfl
@[simp] theorem emit_cp0 (o : Out) (s : State) : (emit o s).cp0 = s.cp0 := rfl
@[simp] theorem emit_cp1 (o : Out) (s : State) : (emit o s).cp1 = s.cp1 := rfl
@[simp] theorem emit_dbg (o : Out) (s : State) : (emit o s).dbg = s.dbg := rfl

/-! ## modItem -/

@[simp] theorem modItem_pending (id : Nat) (f : Item → Item) (s : State) : (modItem id f s).pending = s.pending := rfl
@[simp] theorem modItem_now (id : Nat) (f : Item → Item) (s : State) : (modItem id f s).now = s.now := rfl
@[simp] theorem modItem_out (id : Nat) (f : Item → Item) (s : State) : (modItem id f s).out = s.out := rfl
@[simp] theorem modItem_free (id : Nat) (f : Item → Item) (s : State) : (modItem id f s).free = s.free := rfl
@[simp] theorem modItem_fab (id : Nat) (f : Item → Item) (s : State) : (modItem id f s).fab = s.fab := rfl
@[simp] theorem modItem_otp (id : Nat) (f : Item → Item) (s : State) : (modItem id f s).otp = s.otp := rfl
@[simp] theorem modItem_bk (id : Nat) (f : Item → Item) (s : State) : (modItem id f s).bk = s.bk := rfl
@[simp] theorem modItem_grd (id : Nat) (f : Item → Item) (s : State) : (modItem id f s).grd = s.grd := rfl
@[simp] theorem modItem_boot (id : Nat) (f : Item → Item) (s : State) : (modItem id f s).boot = s.boot := rfl
@[simp] theorem modItem_flash (id : Nat) (f : Item → Item) (s : State) : (modItem id f s).flash = s.flash := rfl
@[simp] theorem modItem_cyu (id : Nat) (f : Item → Item) (s : State) : (modItem id f s).cyu = s.cyu := rfl
@[simp] theorem modItem_hfe (id : Nat) (f : Item → Item) (s : State) : (modItem id f s).hfe = s.hfe := rfl
@[simp] theorem modItem_dsp (id : Nat) (f : Item → Item) (s : State) : (modItem id f s).dsp = { s.dsp with items := tmod s.dsp.items id f } := rfl
@[simp] theorem modItem_eng (id : Nat) (f : Item → Item) (s : State) : (modItem id f s).eng = s.eng := rfl
@[simp] theorem modItem_bne (id : Nat) (f : Item → Item) (s : State) : (modItem id f s).bne = s.bne := rfl
@[simp] theorem modItem_vks (id : Nat) (f : Item → Item) (s : State) : (modItem id f s).vks = s.vks := rfl
@[simp] theorem modItem_ent (id : Nat) (f : Item → Item) (s : State) : (modItem id f s).ent = s.ent := rfl
@[simp] theorem modItem_clc (id : Nat) (f : Item → Item) (s : State) : (modItem id f s).clc = s.clc := rfl
@[simp] theorem modItem_hier (id : Nat) (f : Item → Item) (s : State) : (modItem id f s).hier = s.hier := rfl
@[simp] theorem modItem_fcr (id : Nat) (f : Item → Item) (s : State) : (modItem id f s).fcr = s.fcr := rfl
@[simp] theorem modItem_pmu (id : Nat) (f : Item → Item) (s : State) : (modItem id f s).pmu = s.pmu := rfl
@[simp] theorem modItem_host (id : Nat) (f : Item → Item) (s : State) : (modItem id f s).host = s.host := rfl
@[simp] theorem modItem_cp0 (id : Nat) (f : Item → Item) (s : State) : (modItem id f s).cp0 = s.cp0 := rfl
@[simp] theorem modItem_cp1 (id : Nat) (f : Item → Item) (s : State) : (modItem id f s).cp1 = s.cp1 := rfl
@[simp] theorem modItem_dbg (id : Nat) (f : Item → Item) (s : State) : (modItem id f s).dbg = s.dbg := rfl

/-! ## dropItem -/

@[simp] theorem dropItem_pending (id : Nat) (s : State) : (dropItem id s).pending = s.pending := rfl
@[simp] theorem dropItem_now (id : Nat) (s : State) : (dropItem id s).now = s.now := rfl
@[simp] theorem dropItem_out (id : Nat) (s : State) : (dropItem id s).out = s.out := rfl
@[simp] theorem dropItem_free (id : Nat) (s : State) : (dropItem id s).free = s.free := rfl
@[simp] theorem dropItem_fab (id : Nat) (s : State) : (dropItem id s).fab = s.fab := rfl
@[simp] theorem dropItem_otp (id : Nat) (s : State) : (dropItem id s).otp = s.otp := rfl
@[simp] theorem dropItem_bk (id : Nat) (s : State) : (dropItem id s).bk = s.bk := rfl
@[simp] theorem dropItem_grd (id : Nat) (s : State) : (dropItem id s).grd = s.grd := rfl
@[simp] theorem dropItem_boot (id : Nat) (s : State) : (dropItem id s).boot = s.boot := rfl
@[simp] theorem dropItem_flash (id : Nat) (s : State) : (dropItem id s).flash = s.flash := rfl
@[simp] theorem dropItem_cyu (id : Nat) (s : State) : (dropItem id s).cyu = s.cyu := rfl
@[simp] theorem dropItem_hfe (id : Nat) (s : State) : (dropItem id s).hfe = s.hfe := rfl
@[simp] theorem dropItem_dsp (id : Nat) (s : State) : (dropItem id s).dsp = { s.dsp with items := terase s.dsp.items id } := rfl
@[simp] theorem dropItem_eng (id : Nat) (s : State) : (dropItem id s).eng = s.eng := rfl
@[simp] theorem dropItem_bne (id : Nat) (s : State) : (dropItem id s).bne = s.bne := rfl
@[simp] theorem dropItem_vks (id : Nat) (s : State) : (dropItem id s).vks = s.vks := rfl
@[simp] theorem dropItem_ent (id : Nat) (s : State) : (dropItem id s).ent = s.ent := rfl
@[simp] theorem dropItem_clc (id : Nat) (s : State) : (dropItem id s).clc = s.clc := rfl
@[simp] theorem dropItem_hier (id : Nat) (s : State) : (dropItem id s).hier = s.hier := rfl
@[simp] theorem dropItem_fcr (id : Nat) (s : State) : (dropItem id s).fcr = s.fcr := rfl
@[simp] theorem dropItem_pmu (id : Nat) (s : State) : (dropItem id s).pmu = s.pmu := rfl
@[simp] theorem dropItem_host (id : Nat) (s : State) : (dropItem id s).host = s.host := rfl
@[simp] theorem dropItem_cp0 (id : Nat) (s : State) : (dropItem id s).cp0 = s.cp0 := rfl
@[simp] theorem dropItem_cp1 (id : Nat) (s : State) : (dropItem id s).cp1 = s.cp1 := rfl
@[simp] theorem dropItem_dbg (id : Nat) (s : State) : (dropItem id s).dbg = s.dbg := rfl

/-! ## itemWait -/

@[simp] theorem itemWait_pending (id : Nat) (w : Wait) (s : State) : (itemWait id w s).pending = s.pending := rfl
@[simp] theorem itemWait_now (id : Nat) (w : Wait) (s : State) : (itemWait id w s).now = s.now := rfl
@[simp] theorem itemWait_out (id : Nat) (w : Wait) (s : State) : (itemWait id w s).out = s.out := rfl
@[simp] theorem itemWait_free (id : Nat) (w : Wait) (s : State) : (itemWait id w s).free = s.free := rfl
@[simp] theorem itemWait_fab (id : Nat) (w : Wait) (s : State) : (itemWait id w s).fab = s.fab := rfl
@[simp] theorem itemWait_otp (id : Nat) (w : Wait) (s : State) : (itemWait id w s).otp = s.otp := rfl
@[simp] theorem itemWait_bk (id : Nat) (w : Wait) (s : State) : (itemWait id w s).bk = s.bk := rfl
@[simp] theorem itemWait_grd (id : Nat) (w : Wait) (s : State) : (itemWait id w s).grd = s.grd := rfl
@[simp] theorem itemWait_boot (id : Nat) (w : Wait) (s : State) : (itemWait id w s).boot = s.boot := rfl
@[simp] theorem itemWait_flash (id : Nat) (w : Wait) (s : State) : (itemWait id w s).flash = s.flash := rfl
@[simp] theorem itemWait_cyu (id : Nat) (w : Wait) (s : State) : (itemWait id w s).cyu = s.cyu := rfl
@[simp] theorem itemWait_hfe (id : Nat) (w : Wait) (s : State) : (itemWait id w s).hfe = s.hfe := rfl
@[simp] theorem itemWait_eng (id : Nat) (w : Wait) (s : State) : (itemWait id w s).eng = s.eng := rfl
@[simp] theorem itemWait_bne (id : Nat) (w : Wait) (s : State) : (itemWait id w s).bne = s.bne := rfl
@[simp] theorem itemWait_vks (id : Nat) (w : Wait) (s : State) : (itemWait id w s).vks = s.vks := rfl
@[simp] theorem itemWait_ent (id : Nat) (w : Wait) (s : State) : (itemWait id w s).ent = s.ent := rfl
@[simp] theorem itemWait_clc (id : Nat) (w : Wait) (s : State) : (itemWait id w s).clc = s.clc := rfl
@[simp] theorem itemWait_hier (id : Nat) (w : Wait) (s : State) : (itemWait id w s).hier = s.hier := rfl
@[simp] theorem itemWait_fcr (id : Nat) (w : Wait) (s : State) : (itemWait id w s).fcr = s.fcr := rfl
@[simp] theorem itemWait_pmu (id : Nat) (w : Wait) (s : State) : (itemWait id w s).pmu = s.pmu := rfl
@[simp] theorem itemWait_host (id : Nat) (w : Wait) (s : State) : (itemWait id w s).host = s.host := rfl
@[simp] theorem itemWait_cp0 (id : Nat) (w : Wait) (s : State) : (itemWait id w s).cp0 = s.cp0 := rfl
@[simp] theorem itemWait_cp1 (id : Nat) (w : Wait) (s : State) : (itemWait id w s).cp1 = s.cp1 := rfl
@[simp] theorem itemWait_dbg (id : Nat) (w : Wait) (s : State) : (itemWait id w s).dbg = s.dbg := rfl

/-! ## itemAnswer -/

@[simp] theorem itemAnswer_pending (id : Nat) (a : Answer) (s : State) : (itemAnswer id a s).pending = s.pending := rfl
@[simp] theorem itemAnswer_now (id : Nat) (a : Answer) (s : State) : (itemAnswer id a s).now = s.now := rfl
@[simp] theorem itemAnswer_out (id : Nat) (a : Answer) (s : State) : (itemAnswer id a s).out = s.out := rfl
@[simp] theorem itemAnswer_free (id : Nat) (a : Answer) (s : State) : (itemAnswer id a s).free = s.free := rfl
@[simp] theorem itemAnswer_fab (id : Nat) (a : Answer) (s : State) : (itemAnswer id a s).fab = s.fab := rfl
@[simp] theorem itemAnswer_otp (id : Nat) (a : Answer) (s : State) : (itemAnswer id a s).otp = s.otp := rfl
@[simp] theorem itemAnswer_bk (id : Nat) (a : Answer) (s : State) : (itemAnswer id a s).bk = s.bk := rfl
@[simp] theorem itemAnswer_grd (id : Nat) (a : Answer) (s : State) : (itemAnswer id a s).grd = s.grd := rfl
@[simp] theorem itemAnswer_boot (id : Nat) (a : Answer) (s : State) : (itemAnswer id a s).boot = s.boot := rfl
@[simp] theorem itemAnswer_flash (id : Nat) (a : Answer) (s : State) : (itemAnswer id a s).flash = s.flash := rfl
@[simp] theorem itemAnswer_cyu (id : Nat) (a : Answer) (s : State) : (itemAnswer id a s).cyu = s.cyu := rfl
@[simp] theorem itemAnswer_hfe (id : Nat) (a : Answer) (s : State) : (itemAnswer id a s).hfe = s.hfe := rfl
@[simp] theorem itemAnswer_eng (id : Nat) (a : Answer) (s : State) : (itemAnswer id a s).eng = s.eng := rfl
@[simp] theorem itemAnswer_bne (id : Nat) (a : Answer) (s : State) : (itemAnswer id a s).bne = s.bne := rfl
@[simp] theorem itemAnswer_vks (id : Nat) (a : Answer) (s : State) : (itemAnswer id a s).vks = s.vks := rfl
@[simp] theorem itemAnswer_ent (id : Nat) (a : Answer) (s : State) : (itemAnswer id a s).ent = s.ent := rfl
@[simp] theorem itemAnswer_clc (id : Nat) (a : Answer) (s : State) : (itemAnswer id a s).clc = s.clc := rfl
@[simp] theorem itemAnswer_hier (id : Nat) (a : Answer) (s : State) : (itemAnswer id a s).hier = s.hier := rfl
@[simp] theorem itemAnswer_fcr (id : Nat) (a : Answer) (s : State) : (itemAnswer id a s).fcr = s.fcr := rfl
@[simp] theorem itemAnswer_pmu (id : Nat) (a : Answer) (s : State) : (itemAnswer id a s).pmu = s.pmu := rfl
@[simp] theorem itemAnswer_host (id : Nat) (a : Answer) (s : State) : (itemAnswer id a s).host = s.host := rfl
@[simp] theorem itemAnswer_cp0 (id : Nat) (a : Answer) (s : State) : (itemAnswer id a s).cp0 = s.cp0 := rfl
@[simp] theorem itemAnswer_cp1 (id : Nat) (a : Answer) (s : State) : (itemAnswer id a s).cp1 = s.cp1 := rfl
@[simp] theorem itemAnswer_dbg (id : Nat) (a : Answer) (s : State) : (itemAnswer id a s).dbg = s.dbg := rfl

/-! ## modQueue -/

@[simp] theorem modQueue_pending (fn q : Nat) (f : Queue → Queue) (s : State) : (modQueue fn q f s).pending = s.pending := rfl
@[simp] theorem modQueue_now (fn q : Nat) (f : Queue → Queue) (s : State) : (modQueue fn q f s).now = s.now := rfl
@[simp] theorem modQueue_out (fn q : Nat) (f : Queue → Queue) (s : State) : (modQueue fn q f s).out = s.out := rfl
@[simp] theorem modQueue_free (fn q : Nat) (f : Queue → Queue) (s : State) : (modQueue fn q f s).free = s.free := rfl
@[simp] theorem modQueue_fab (fn q : Nat) (f : Queue → Queue) (s : State) : (modQueue fn q f s).fab = s.fab := rfl
@[simp] theorem modQueue_otp (fn q : Nat) (f : Queue → Queue) (s : State) : (modQueue fn q f s).otp = s.otp := rfl
@[simp] theorem modQueue_bk (fn q : Nat) (f : Queue → Queue) (s : State) : (modQueue fn q f s).bk = s.bk := rfl
@[simp] theorem modQueue_grd (fn q : Nat) (f : Queue → Queue) (s : State) : (modQueue fn q f s).grd = s.grd := rfl
@[simp] theorem modQueue_boot (fn q : Nat) (f : Queue → Queue) (s : State) : (modQueue fn q f s).boot = s.boot := rfl
@[simp] theorem modQueue_flash (fn q : Nat) (f : Queue → Queue) (s : State) : (modQueue fn q f s).flash = s.flash := rfl
@[simp] theorem modQueue_cyu (fn q : Nat) (f : Queue → Queue) (s : State) : (modQueue fn q f s).cyu = s.cyu := rfl
@[simp] theorem modQueue_hfe (fn q : Nat) (f : Queue → Queue) (s : State) : (modQueue fn q f s).hfe = { s.hfe with queues := tmod s.hfe.queues (qkey fn q) f } := rfl
@[simp] theorem modQueue_dsp (fn q : Nat) (f : Queue → Queue) (s : State) : (modQueue fn q f s).dsp = s.dsp := rfl
@[simp] theorem modQueue_eng (fn q : Nat) (f : Queue → Queue) (s : State) : (modQueue fn q f s).eng = s.eng := rfl
@[simp] theorem modQueue_bne (fn q : Nat) (f : Queue → Queue) (s : State) : (modQueue fn q f s).bne = s.bne := rfl
@[simp] theorem modQueue_vks (fn q : Nat) (f : Queue → Queue) (s : State) : (modQueue fn q f s).vks = s.vks := rfl
@[simp] theorem modQueue_ent (fn q : Nat) (f : Queue → Queue) (s : State) : (modQueue fn q f s).ent = s.ent := rfl
@[simp] theorem modQueue_clc (fn q : Nat) (f : Queue → Queue) (s : State) : (modQueue fn q f s).clc = s.clc := rfl
@[simp] theorem modQueue_hier (fn q : Nat) (f : Queue → Queue) (s : State) : (modQueue fn q f s).hier = s.hier := rfl
@[simp] theorem modQueue_fcr (fn q : Nat) (f : Queue → Queue) (s : State) : (modQueue fn q f s).fcr = s.fcr := rfl
@[simp] theorem modQueue_pmu (fn q : Nat) (f : Queue → Queue) (s : State) : (modQueue fn q f s).pmu = s.pmu := rfl
@[simp] theorem modQueue_host (fn q : Nat) (f : Queue → Queue) (s : State) : (modQueue fn q f s).host = s.host := rfl
@[simp] theorem modQueue_cp0 (fn q : Nat) (f : Queue → Queue) (s : State) : (modQueue fn q f s).cp0 = s.cp0 := rfl
@[simp] theorem modQueue_cp1 (fn q : Nat) (f : Queue → Queue) (s : State) : (modQueue fn q f s).cp1 = s.cp1 := rfl
@[simp] theorem modQueue_dbg (fn q : Nat) (f : Queue → Queue) (s : State) : (modQueue fn q f s).dbg = s.dbg := rfl

/-! ## modCtx -/

@[simp] theorem modCtx_pending (t : Nat) (f : Ctx → Ctx) (s : State) : (modCtx t f s).pending = s.pending := rfl
@[simp] theorem modCtx_now (t : Nat) (f : Ctx → Ctx) (s : State) : (modCtx t f s).now = s.now := rfl
@[simp] theorem modCtx_out (t : Nat) (f : Ctx → Ctx) (s : State) : (modCtx t f s).out = s.out := rfl
@[simp] theorem modCtx_free (t : Nat) (f : Ctx → Ctx) (s : State) : (modCtx t f s).free = s.free := rfl
@[simp] theorem modCtx_fab (t : Nat) (f : Ctx → Ctx) (s : State) : (modCtx t f s).fab = s.fab := rfl
@[simp] theorem modCtx_otp (t : Nat) (f : Ctx → Ctx) (s : State) : (modCtx t f s).otp = s.otp := rfl
@[simp] theorem modCtx_bk (t : Nat) (f : Ctx → Ctx) (s : State) : (modCtx t f s).bk = s.bk := rfl
@[simp] theorem modCtx_grd (t : Nat) (f : Ctx → Ctx) (s : State) : (modCtx t f s).grd = s.grd := rfl
@[simp] theorem modCtx_boot (t : Nat) (f : Ctx → Ctx) (s : State) : (modCtx t f s).boot = s.boot := rfl
@[simp] theorem modCtx_flash (t : Nat) (f : Ctx → Ctx) (s : State) : (modCtx t f s).flash = s.flash := rfl
@[simp] theorem modCtx_cyu (t : Nat) (f : Ctx → Ctx) (s : State) : (modCtx t f s).cyu = s.cyu := rfl
@[simp] theorem modCtx_hfe (t : Nat) (f : Ctx → Ctx) (s : State) : (modCtx t f s).hfe = { s.hfe with ctxs := tmod s.hfe.ctxs t f } := rfl
@[simp] theorem modCtx_dsp (t : Nat) (f : Ctx → Ctx) (s : State) : (modCtx t f s).dsp = s.dsp := rfl
@[simp] theorem modCtx_eng (t : Nat) (f : Ctx → Ctx) (s : State) : (modCtx t f s).eng = s.eng := rfl
@[simp] theorem modCtx_bne (t : Nat) (f : Ctx → Ctx) (s : State) : (modCtx t f s).bne = s.bne := rfl
@[simp] theorem modCtx_vks (t : Nat) (f : Ctx → Ctx) (s : State) : (modCtx t f s).vks = s.vks := rfl
@[simp] theorem modCtx_ent (t : Nat) (f : Ctx → Ctx) (s : State) : (modCtx t f s).ent = s.ent := rfl
@[simp] theorem modCtx_clc (t : Nat) (f : Ctx → Ctx) (s : State) : (modCtx t f s).clc = s.clc := rfl
@[simp] theorem modCtx_hier (t : Nat) (f : Ctx → Ctx) (s : State) : (modCtx t f s).hier = s.hier := rfl
@[simp] theorem modCtx_fcr (t : Nat) (f : Ctx → Ctx) (s : State) : (modCtx t f s).fcr = s.fcr := rfl
@[simp] theorem modCtx_pmu (t : Nat) (f : Ctx → Ctx) (s : State) : (modCtx t f s).pmu = s.pmu := rfl
@[simp] theorem modCtx_host (t : Nat) (f : Ctx → Ctx) (s : State) : (modCtx t f s).host = s.host := rfl
@[simp] theorem modCtx_cp0 (t : Nat) (f : Ctx → Ctx) (s : State) : (modCtx t f s).cp0 = s.cp0 := rfl
@[simp] theorem modCtx_cp1 (t : Nat) (f : Ctx → Ctx) (s : State) : (modCtx t f s).cp1 = s.cp1 := rfl
@[simp] theorem modCtx_dbg (t : Nat) (f : Ctx → Ctx) (s : State) : (modCtx t f s).dbg = s.dbg := rfl

/-! ## modUnit -/

@[simp] theorem modUnit_pending (n : Nat) (f : EngineUnit → EngineUnit) (s : State) : (modUnit n f s).pending = s.pending := rfl
@[simp] theorem modUnit_now (n : Nat) (f : EngineUnit → EngineUnit) (s : State) : (modUnit n f s).now = s.now := rfl
@[simp] theorem modUnit_out (n : Nat) (f : EngineUnit → EngineUnit) (s : State) : (modUnit n f s).out = s.out := rfl
@[simp] theorem modUnit_free (n : Nat) (f : EngineUnit → EngineUnit) (s : State) : (modUnit n f s).free = s.free := rfl
@[simp] theorem modUnit_fab (n : Nat) (f : EngineUnit → EngineUnit) (s : State) : (modUnit n f s).fab = s.fab := rfl
@[simp] theorem modUnit_otp (n : Nat) (f : EngineUnit → EngineUnit) (s : State) : (modUnit n f s).otp = s.otp := rfl
@[simp] theorem modUnit_bk (n : Nat) (f : EngineUnit → EngineUnit) (s : State) : (modUnit n f s).bk = s.bk := rfl
@[simp] theorem modUnit_grd (n : Nat) (f : EngineUnit → EngineUnit) (s : State) : (modUnit n f s).grd = s.grd := rfl
@[simp] theorem modUnit_boot (n : Nat) (f : EngineUnit → EngineUnit) (s : State) : (modUnit n f s).boot = s.boot := rfl
@[simp] theorem modUnit_flash (n : Nat) (f : EngineUnit → EngineUnit) (s : State) : (modUnit n f s).flash = s.flash := rfl
@[simp] theorem modUnit_cyu (n : Nat) (f : EngineUnit → EngineUnit) (s : State) : (modUnit n f s).cyu = s.cyu := rfl
@[simp] theorem modUnit_hfe (n : Nat) (f : EngineUnit → EngineUnit) (s : State) : (modUnit n f s).hfe = s.hfe := rfl
@[simp] theorem modUnit_dsp (n : Nat) (f : EngineUnit → EngineUnit) (s : State) : (modUnit n f s).dsp = s.dsp := rfl
@[simp] theorem modUnit_eng (n : Nat) (f : EngineUnit → EngineUnit) (s : State) : (modUnit n f s).eng = { s.eng with units := tmod s.eng.units n f } := rfl
@[simp] theorem modUnit_bne (n : Nat) (f : EngineUnit → EngineUnit) (s : State) : (modUnit n f s).bne = s.bne := rfl
@[simp] theorem modUnit_vks (n : Nat) (f : EngineUnit → EngineUnit) (s : State) : (modUnit n f s).vks = s.vks := rfl
@[simp] theorem modUnit_ent (n : Nat) (f : EngineUnit → EngineUnit) (s : State) : (modUnit n f s).ent = s.ent := rfl
@[simp] theorem modUnit_clc (n : Nat) (f : EngineUnit → EngineUnit) (s : State) : (modUnit n f s).clc = s.clc := rfl
@[simp] theorem modUnit_hier (n : Nat) (f : EngineUnit → EngineUnit) (s : State) : (modUnit n f s).hier = s.hier := rfl
@[simp] theorem modUnit_fcr (n : Nat) (f : EngineUnit → EngineUnit) (s : State) : (modUnit n f s).fcr = s.fcr := rfl
@[simp] theorem modUnit_pmu (n : Nat) (f : EngineUnit → EngineUnit) (s : State) : (modUnit n f s).pmu = s.pmu := rfl
@[simp] theorem modUnit_host (n : Nat) (f : EngineUnit → EngineUnit) (s : State) : (modUnit n f s).host = s.host := rfl
@[simp] theorem modUnit_cp0 (n : Nat) (f : EngineUnit → EngineUnit) (s : State) : (modUnit n f s).cp0 = s.cp0 := rfl
@[simp] theorem modUnit_cp1 (n : Nat) (f : EngineUnit → EngineUnit) (s : State) : (modUnit n f s).cp1 = s.cp1 := rfl
@[simp] theorem modUnit_dbg (n : Nat) (f : EngineUnit → EngineUnit) (s : State) : (modUnit n f s).dbg = s.dbg := rfl

/-! ## modLane -/

@[simp] theorem modLane_pending (n : Nat) (f : Lane → Lane) (s : State) : (modLane n f s).pending = s.pending := rfl
@[simp] theorem modLane_now (n : Nat) (f : Lane → Lane) (s : State) : (modLane n f s).now = s.now := rfl
@[simp] theorem modLane_out (n : Nat) (f : Lane → Lane) (s : State) : (modLane n f s).out = s.out := rfl
@[simp] theorem modLane_free (n : Nat) (f : Lane → Lane) (s : State) : (modLane n f s).free = s.free := rfl
@[simp] theorem modLane_fab (n : Nat) (f : Lane → Lane) (s : State) : (modLane n f s).fab = s.fab := rfl
@[simp] theorem modLane_otp (n : Nat) (f : Lane → Lane) (s : State) : (modLane n f s).otp = s.otp := rfl
@[simp] theorem modLane_bk (n : Nat) (f : Lane → Lane) (s : State) : (modLane n f s).bk = s.bk := rfl
@[simp] theorem modLane_grd (n : Nat) (f : Lane → Lane) (s : State) : (modLane n f s).grd = s.grd := rfl
@[simp] theorem modLane_boot (n : Nat) (f : Lane → Lane) (s : State) : (modLane n f s).boot = s.boot := rfl
@[simp] theorem modLane_flash (n : Nat) (f : Lane → Lane) (s : State) : (modLane n f s).flash = s.flash := rfl
@[simp] theorem modLane_cyu (n : Nat) (f : Lane → Lane) (s : State) : (modLane n f s).cyu = s.cyu := rfl
@[simp] theorem modLane_hfe (n : Nat) (f : Lane → Lane) (s : State) : (modLane n f s).hfe = s.hfe := rfl
@[simp] theorem modLane_dsp (n : Nat) (f : Lane → Lane) (s : State) : (modLane n f s).dsp = s.dsp := rfl
@[simp] theorem modLane_eng (n : Nat) (f : Lane → Lane) (s : State) : (modLane n f s).eng = s.eng := rfl
@[simp] theorem modLane_bne (n : Nat) (f : Lane → Lane) (s : State) : (modLane n f s).bne = { s.bne with lanes := tmod s.bne.lanes n f } := rfl
@[simp] theorem modLane_vks (n : Nat) (f : Lane → Lane) (s : State) : (modLane n f s).vks = s.vks := rfl
@[simp] theorem modLane_ent (n : Nat) (f : Lane → Lane) (s : State) : (modLane n f s).ent = s.ent := rfl
@[simp] theorem modLane_clc (n : Nat) (f : Lane → Lane) (s : State) : (modLane n f s).clc = s.clc := rfl
@[simp] theorem modLane_hier (n : Nat) (f : Lane → Lane) (s : State) : (modLane n f s).hier = s.hier := rfl
@[simp] theorem modLane_fcr (n : Nat) (f : Lane → Lane) (s : State) : (modLane n f s).fcr = s.fcr := rfl
@[simp] theorem modLane_pmu (n : Nat) (f : Lane → Lane) (s : State) : (modLane n f s).pmu = s.pmu := rfl
@[simp] theorem modLane_host (n : Nat) (f : Lane → Lane) (s : State) : (modLane n f s).host = s.host := rfl
@[simp] theorem modLane_cp0 (n : Nat) (f : Lane → Lane) (s : State) : (modLane n f s).cp0 = s.cp0 := rfl
@[simp] theorem modLane_cp1 (n : Nat) (f : Lane → Lane) (s : State) : (modLane n f s).cp1 = s.cp1 := rfl
@[simp] theorem modLane_dbg (n : Nat) (f : Lane → Lane) (s : State) : (modLane n f s).dbg = s.dbg := rfl

/-! ## modTenant -/

@[simp] theorem modTenant_pending (t : Nat) (f : Tenant → Tenant) (s : State) : (modTenant t f s).pending = s.pending := rfl
@[simp] theorem modTenant_now (t : Nat) (f : Tenant → Tenant) (s : State) : (modTenant t f s).now = s.now := rfl
@[simp] theorem modTenant_out (t : Nat) (f : Tenant → Tenant) (s : State) : (modTenant t f s).out = s.out := rfl
@[simp] theorem modTenant_free (t : Nat) (f : Tenant → Tenant) (s : State) : (modTenant t f s).free = s.free := rfl
@[simp] theorem modTenant_fab (t : Nat) (f : Tenant → Tenant) (s : State) : (modTenant t f s).fab = s.fab := rfl
@[simp] theorem modTenant_otp (t : Nat) (f : Tenant → Tenant) (s : State) : (modTenant t f s).otp = s.otp := rfl
@[simp] theorem modTenant_bk (t : Nat) (f : Tenant → Tenant) (s : State) : (modTenant t f s).bk = s.bk := rfl
@[simp] theorem modTenant_grd (t : Nat) (f : Tenant → Tenant) (s : State) : (modTenant t f s).grd = s.grd := rfl
@[simp] theorem modTenant_boot (t : Nat) (f : Tenant → Tenant) (s : State) : (modTenant t f s).boot = s.boot := rfl
@[simp] theorem modTenant_flash (t : Nat) (f : Tenant → Tenant) (s : State) : (modTenant t f s).flash = s.flash := rfl
@[simp] theorem modTenant_cyu (t : Nat) (f : Tenant → Tenant) (s : State) : (modTenant t f s).cyu = s.cyu := rfl
@[simp] theorem modTenant_hfe (t : Nat) (f : Tenant → Tenant) (s : State) : (modTenant t f s).hfe = s.hfe := rfl
@[simp] theorem modTenant_dsp (t : Nat) (f : Tenant → Tenant) (s : State) : (modTenant t f s).dsp = s.dsp := rfl
@[simp] theorem modTenant_eng (t : Nat) (f : Tenant → Tenant) (s : State) : (modTenant t f s).eng = s.eng := rfl
@[simp] theorem modTenant_bne (t : Nat) (f : Tenant → Tenant) (s : State) : (modTenant t f s).bne = s.bne := rfl
@[simp] theorem modTenant_vks (t : Nat) (f : Tenant → Tenant) (s : State) : (modTenant t f s).vks = s.vks := rfl
@[simp] theorem modTenant_ent (t : Nat) (f : Tenant → Tenant) (s : State) : (modTenant t f s).ent = s.ent := rfl
@[simp] theorem modTenant_clc (t : Nat) (f : Tenant → Tenant) (s : State) : (modTenant t f s).clc = s.clc := rfl
@[simp] theorem modTenant_hier (t : Nat) (f : Tenant → Tenant) (s : State) : (modTenant t f s).hier = { s.hier with dir := tmod s.hier.dir t f } := rfl
@[simp] theorem modTenant_fcr (t : Nat) (f : Tenant → Tenant) (s : State) : (modTenant t f s).fcr = s.fcr := rfl
@[simp] theorem modTenant_pmu (t : Nat) (f : Tenant → Tenant) (s : State) : (modTenant t f s).pmu = s.pmu := rfl
@[simp] theorem modTenant_host (t : Nat) (f : Tenant → Tenant) (s : State) : (modTenant t f s).host = s.host := rfl
@[simp] theorem modTenant_cp0 (t : Nat) (f : Tenant → Tenant) (s : State) : (modTenant t f s).cp0 = s.cp0 := rfl
@[simp] theorem modTenant_cp1 (t : Nat) (f : Tenant → Tenant) (s : State) : (modTenant t f s).cp1 = s.cp1 := rfl
@[simp] theorem modTenant_dbg (t : Nat) (f : Tenant → Tenant) (s : State) : (modTenant t f s).dbg = s.dbg := rfl

/-! ## modCyu -/

@[simp] theorem modCyu_pending (f : Cyu → Cyu) (s : State) : (modCyu f s).pending = s.pending := rfl
@[simp] theorem modCyu_now (f : Cyu → Cyu) (s : State) : (modCyu f s).now = s.now := rfl
@[simp] theorem modCyu_out (f : Cyu → Cyu) (s : State) : (modCyu f s).out = s.out := rfl
@[simp] theorem modCyu_free (f : Cyu → Cyu) (s : State) : (modCyu f s).free = s.free := rfl
@[simp] theorem modCyu_fab (f : Cyu → Cyu) (s : State) : (modCyu f s).fab = s.fab := rfl
@[simp] theorem modCyu_otp (f : Cyu → Cyu) (s : State) : (modCyu f s).otp = s.otp := rfl
@[simp] theorem modCyu_bk (f : Cyu → Cyu) (s : State) : (modCyu f s).bk = s.bk := rfl
@[simp] theorem modCyu_grd (f : Cyu → Cyu) (s : State) : (modCyu f s).grd = s.grd := rfl
@[simp] theorem modCyu_boot (f : Cyu → Cyu) (s : State) : (modCyu f s).boot = s.boot := rfl
@[simp] theorem modCyu_flash (f : Cyu → Cyu) (s : State) : (modCyu f s).flash = s.flash := rfl
@[simp] theorem modCyu_cyu (f : Cyu → Cyu) (s : State) : (modCyu f s).cyu = f s.cyu := rfl
@[simp] theorem modCyu_hfe (f : Cyu → Cyu) (s : State) : (modCyu f s).hfe = s.hfe := rfl
@[simp] theorem modCyu_dsp (f : Cyu → Cyu) (s : State) : (modCyu f s).dsp = s.dsp := rfl
@[simp] theorem modCyu_eng (f : Cyu → Cyu) (s : State) : (modCyu f s).eng = s.eng := rfl
@[simp] theorem modCyu_bne (f : Cyu → Cyu) (s : State) : (modCyu f s).bne = s.bne := rfl
@[simp] theorem modCyu_vks (f : Cyu → Cyu) (s : State) : (modCyu f s).vks = s.vks := rfl
@[simp] theorem modCyu_ent (f : Cyu → Cyu) (s : State) : (modCyu f s).ent = s.ent := rfl
@[simp] theorem modCyu_clc (f : Cyu → Cyu) (s : State) : (modCyu f s).clc = s.clc := rfl
@[simp] theorem modCyu_hier (f : Cyu → Cyu) (s : State) : (modCyu f s).hier = s.hier := rfl
@[simp] theorem modCyu_fcr (f : Cyu → Cyu) (s : State) : (modCyu f s).fcr = s.fcr := rfl
@[simp] theorem modCyu_pmu (f : Cyu → Cyu) (s : State) : (modCyu f s).pmu = s.pmu := rfl
@[simp] theorem modCyu_host (f : Cyu → Cyu) (s : State) : (modCyu f s).host = s.host := rfl
@[simp] theorem modCyu_cp0 (f : Cyu → Cyu) (s : State) : (modCyu f s).cp0 = s.cp0 := rfl
@[simp] theorem modCyu_cp1 (f : Cyu → Cyu) (s : State) : (modCyu f s).cp1 = s.cp1 := rfl
@[simp] theorem modCyu_dbg (f : Cyu → Cyu) (s : State) : (modCyu f s).dbg = s.dbg := rfl

/-! ## Counting an event touches the performance counters alone -/

theorem pmuWrapped_frame (n : Nat) (s : State) : ∃ p, pmuWrapped n s = { s with pmu := p } := by
  unfold pmuWrapped
  split <;> exact ⟨_, rfl⟩

theorem pmuAdd_frame (n k : Nat) (s : State) : ∃ p, pmuAdd n k s = { s with pmu := p } := by
  unfold pmuAdd
  dsimp only
  split
  · exact ⟨_, rfl⟩
  · obtain ⟨p, h⟩ := pmuWrapped_frame n
      { s with pmu := tput s.pmu n { tget s.pmu n .zero with cnt := (tget s.pmu n .zero).cnt + k - 2 ^ 48 } }
    exact ⟨p, h⟩

/-- Counting changes no field but `pmu`. -/
theorem countN_frame (ev k : Nat) (ten : Option Nat) (s : State) : ∃ p, countN ev k ten s = { s with pmu := p } := by
  unfold countN
  suffices h : ∀ (l : Table Counter) (t : State), (∃ p, t = { s with pmu := p }) →
      ∃ p, l.foldl (fun s' e => if counts s e.1 e.2 ev ten then pmuAdd e.1 k s' else s') t = { s with pmu := p } from
    h s.pmu s ⟨s.pmu, rfl⟩
  intro l
  induction l with
  | nil => exact fun t ht => ht
  | cons e r ih =>
    intro t ht
    refine ih _ ?_
    obtain ⟨p, rfl⟩ := ht
    dsimp only
    split
    · obtain ⟨q, hq⟩ := pmuAdd_frame e.1 k { s with pmu := p }
      exact ⟨q, hq⟩
    · exact ⟨p, rfl⟩

theorem count_frame (ev : Nat) (ten : Option Nat) (s : State) : ∃ p, count ev ten s = { s with pmu := p } :=
  countN_frame ev 1 ten s

@[simp] theorem countN_pending (ev k : Nat) (ten : Option Nat) (s : State) : (countN ev k ten s).pending = s.pending := by
  obtain ⟨p, h⟩ := countN_frame ev k ten s
  rw [h]
@[simp] theorem countN_now (ev k : Nat) (ten : Option Nat) (s : State) : (countN ev k ten s).now = s.now := by
  obtain ⟨p, h⟩ := countN_frame ev k ten s
  rw [h]
@[simp] theorem countN_out (ev k : Nat) (ten : Option Nat) (s : State) : (countN ev k ten s).out = s.out := by
  obtain ⟨p, h⟩ := countN_frame ev k ten s
  rw [h]
@[simp] theorem countN_free (ev k : Nat) (ten : Option Nat) (s : State) : (countN ev k ten s).free = s.free := by
  obtain ⟨p, h⟩ := countN_frame ev k ten s
  rw [h]
@[simp] theorem countN_fab (ev k : Nat) (ten : Option Nat) (s : State) : (countN ev k ten s).fab = s.fab := by
  obtain ⟨p, h⟩ := countN_frame ev k ten s
  rw [h]
@[simp] theorem countN_otp (ev k : Nat) (ten : Option Nat) (s : State) : (countN ev k ten s).otp = s.otp := by
  obtain ⟨p, h⟩ := countN_frame ev k ten s
  rw [h]
@[simp] theorem countN_bk (ev k : Nat) (ten : Option Nat) (s : State) : (countN ev k ten s).bk = s.bk := by
  obtain ⟨p, h⟩ := countN_frame ev k ten s
  rw [h]
@[simp] theorem countN_grd (ev k : Nat) (ten : Option Nat) (s : State) : (countN ev k ten s).grd = s.grd := by
  obtain ⟨p, h⟩ := countN_frame ev k ten s
  rw [h]
@[simp] theorem countN_boot (ev k : Nat) (ten : Option Nat) (s : State) : (countN ev k ten s).boot = s.boot := by
  obtain ⟨p, h⟩ := countN_frame ev k ten s
  rw [h]
@[simp] theorem countN_flash (ev k : Nat) (ten : Option Nat) (s : State) : (countN ev k ten s).flash = s.flash := by
  obtain ⟨p, h⟩ := countN_frame ev k ten s
  rw [h]
@[simp] theorem countN_cyu (ev k : Nat) (ten : Option Nat) (s : State) : (countN ev k ten s).cyu = s.cyu := by
  obtain ⟨p, h⟩ := countN_frame ev k ten s
  rw [h]
@[simp] theorem countN_hfe (ev k : Nat) (ten : Option Nat) (s : State) : (countN ev k ten s).hfe = s.hfe := by
  obtain ⟨p, h⟩ := countN_frame ev k ten s
  rw [h]
@[simp] theorem countN_dsp (ev k : Nat) (ten : Option Nat) (s : State) : (countN ev k ten s).dsp = s.dsp := by
  obtain ⟨p, h⟩ := countN_frame ev k ten s
  rw [h]
@[simp] theorem countN_eng (ev k : Nat) (ten : Option Nat) (s : State) : (countN ev k ten s).eng = s.eng := by
  obtain ⟨p, h⟩ := countN_frame ev k ten s
  rw [h]
@[simp] theorem countN_bne (ev k : Nat) (ten : Option Nat) (s : State) : (countN ev k ten s).bne = s.bne := by
  obtain ⟨p, h⟩ := countN_frame ev k ten s
  rw [h]
@[simp] theorem countN_vks (ev k : Nat) (ten : Option Nat) (s : State) : (countN ev k ten s).vks = s.vks := by
  obtain ⟨p, h⟩ := countN_frame ev k ten s
  rw [h]
@[simp] theorem countN_ent (ev k : Nat) (ten : Option Nat) (s : State) : (countN ev k ten s).ent = s.ent := by
  obtain ⟨p, h⟩ := countN_frame ev k ten s
  rw [h]
@[simp] theorem countN_clc (ev k : Nat) (ten : Option Nat) (s : State) : (countN ev k ten s).clc = s.clc := by
  obtain ⟨p, h⟩ := countN_frame ev k ten s
  rw [h]
@[simp] theorem countN_hier (ev k : Nat) (ten : Option Nat) (s : State) : (countN ev k ten s).hier = s.hier := by
  obtain ⟨p, h⟩ := countN_frame ev k ten s
  rw [h]
@[simp] theorem countN_fcr (ev k : Nat) (ten : Option Nat) (s : State) : (countN ev k ten s).fcr = s.fcr := by
  obtain ⟨p, h⟩ := countN_frame ev k ten s
  rw [h]
@[simp] theorem countN_host (ev k : Nat) (ten : Option Nat) (s : State) : (countN ev k ten s).host = s.host := by
  obtain ⟨p, h⟩ := countN_frame ev k ten s
  rw [h]
@[simp] theorem countN_cp0 (ev k : Nat) (ten : Option Nat) (s : State) : (countN ev k ten s).cp0 = s.cp0 := by
  obtain ⟨p, h⟩ := countN_frame ev k ten s
  rw [h]
@[simp] theorem countN_cp1 (ev k : Nat) (ten : Option Nat) (s : State) : (countN ev k ten s).cp1 = s.cp1 := by
  obtain ⟨p, h⟩ := countN_frame ev k ten s
  rw [h]
@[simp] theorem countN_dbg (ev k : Nat) (ten : Option Nat) (s : State) : (countN ev k ten s).dbg = s.dbg := by
  obtain ⟨p, h⟩ := countN_frame ev k ten s
  rw [h]

@[simp] theorem count_pending (ev : Nat) (ten : Option Nat) (s : State) : (count ev ten s).pending = s.pending := by
  obtain ⟨p, h⟩ := count_frame ev ten s
  rw [h]
@[simp] theorem count_now (ev : Nat) (ten : Option Nat) (s : State) : (count ev ten s).now = s.now := by
  obtain ⟨p, h⟩ := count_frame ev ten s
  rw [h]
@[simp] theorem count_out (ev : Nat) (ten : Option Nat) (s : State) : (count ev ten s).out = s.out := by
  obtain ⟨p, h⟩ := count_frame ev ten s
  rw [h]
@[simp] theorem count_free (ev : Nat) (ten : Option Nat) (s : State) : (count ev ten s).free = s.free := by
  obtain ⟨p, h⟩ := count_frame ev ten s
  rw [h]
@[simp] theorem count_fab (ev : Nat) (ten : Option Nat) (s : State) : (count ev ten s).fab = s.fab := by
  obtain ⟨p, h⟩ := count_frame ev ten s
  rw [h]
@[simp] theorem count_otp (ev : Nat) (ten : Option Nat) (s : State) : (count ev ten s).otp = s.otp := by
  obtain ⟨p, h⟩ := count_frame ev ten s
  rw [h]
@[simp] theorem count_bk (ev : Nat) (ten : Option Nat) (s : State) : (count ev ten s).bk = s.bk := by
  obtain ⟨p, h⟩ := count_frame ev ten s
  rw [h]
@[simp] theorem count_grd (ev : Nat) (ten : Option Nat) (s : State) : (count ev ten s).grd = s.grd := by
  obtain ⟨p, h⟩ := count_frame ev ten s
  rw [h]
@[simp] theorem count_boot (ev : Nat) (ten : Option Nat) (s : State) : (count ev ten s).boot = s.boot := by
  obtain ⟨p, h⟩ := count_frame ev ten s
  rw [h]
@[simp] theorem count_flash (ev : Nat) (ten : Option Nat) (s : State) : (count ev ten s).flash = s.flash := by
  obtain ⟨p, h⟩ := count_frame ev ten s
  rw [h]
@[simp] theorem count_cyu (ev : Nat) (ten : Option Nat) (s : State) : (count ev ten s).cyu = s.cyu := by
  obtain ⟨p, h⟩ := count_frame ev ten s
  rw [h]
@[simp] theorem count_hfe (ev : Nat) (ten : Option Nat) (s : State) : (count ev ten s).hfe = s.hfe := by
  obtain ⟨p, h⟩ := count_frame ev ten s
  rw [h]
@[simp] theorem count_dsp (ev : Nat) (ten : Option Nat) (s : State) : (count ev ten s).dsp = s.dsp := by
  obtain ⟨p, h⟩ := count_frame ev ten s
  rw [h]
@[simp] theorem count_eng (ev : Nat) (ten : Option Nat) (s : State) : (count ev ten s).eng = s.eng := by
  obtain ⟨p, h⟩ := count_frame ev ten s
  rw [h]
@[simp] theorem count_bne (ev : Nat) (ten : Option Nat) (s : State) : (count ev ten s).bne = s.bne := by
  obtain ⟨p, h⟩ := count_frame ev ten s
  rw [h]
@[simp] theorem count_vks (ev : Nat) (ten : Option Nat) (s : State) : (count ev ten s).vks = s.vks := by
  obtain ⟨p, h⟩ := count_frame ev ten s
  rw [h]
@[simp] theorem count_ent (ev : Nat) (ten : Option Nat) (s : State) : (count ev ten s).ent = s.ent := by
  obtain ⟨p, h⟩ := count_frame ev ten s
  rw [h]
@[simp] theorem count_clc (ev : Nat) (ten : Option Nat) (s : State) : (count ev ten s).clc = s.clc := by
  obtain ⟨p, h⟩ := count_frame ev ten s
  rw [h]
@[simp] theorem count_hier (ev : Nat) (ten : Option Nat) (s : State) : (count ev ten s).hier = s.hier := by
  obtain ⟨p, h⟩ := count_frame ev ten s
  rw [h]
@[simp] theorem count_fcr (ev : Nat) (ten : Option Nat) (s : State) : (count ev ten s).fcr = s.fcr := by
  obtain ⟨p, h⟩ := count_frame ev ten s
  rw [h]
@[simp] theorem count_host (ev : Nat) (ten : Option Nat) (s : State) : (count ev ten s).host = s.host := by
  obtain ⟨p, h⟩ := count_frame ev ten s
  rw [h]
@[simp] theorem count_cp0 (ev : Nat) (ten : Option Nat) (s : State) : (count ev ten s).cp0 = s.cp0 := by
  obtain ⟨p, h⟩ := count_frame ev ten s
  rw [h]
@[simp] theorem count_cp1 (ev : Nat) (ten : Option Nat) (s : State) : (count ev ten s).cp1 = s.cp1 := by
  obtain ⟨p, h⟩ := count_frame ev ten s
  rw [h]
@[simp] theorem count_dbg (ev : Nat) (ten : Option Nat) (s : State) : (count ev ten s).dbg = s.dbg := by
  obtain ⟨p, h⟩ := count_frame ev ten s
  rw [h]

end Sys2Proof.Machine
end

