-- ==== Sys2Proof/Laws/Items.lean ====
section
/-! SUPPORT. Work items: what the end of one item does to the others (05 R103, R112), and the laws of the monad in which the
services are written. -/

set_option Elab.async false

namespace Sys2Proof.Machine

/-! ## What may happen to an item that another one's end concerns -/

/-- Every item of `s` is in `t`, and `t` has no other. A ready item may have entered its service list, and one that waited at
the gate of its counter may have been let through; else it is as it was. -/
def ItemsTouched (s t : State) : Prop :=
  ∀ j, match getItem s j with
    | none => getItem t j = none
    | some x => ∃ y, getItem t j = some y ∧ (y = x ∨ (x.phase = .ready ∧ y.phase = .ready ∧ ∃ n, y = { x with arr := n }) ∨
        ∃ c k w l, x.phase = .waiting c k w ∧ y = { x with phase := .resumable c k t.now, answers := l })

theorem ItemsTouched.refl (s : State) : ItemsTouched s s := by
  intro j
  cases h : getItem s j with
  | none => rfl
  | some x => exact ⟨x, rfl, .inl rfl⟩

theorem ItemsTouched.of_items {s t : State} (h : t.dsp.items = s.dsp.items) : ItemsTouched s t := by
  intro j
  have e : getItem t j = getItem s j := by simp only [getItem, h]
  cases hj : getItem s j with
  | none => exact e.trans hj
  | some x => exact ⟨x, e.trans hj, .inl rfl⟩

theorem ItemsTouched.trans {s t u : State} (h1 : ItemsTouched s t) (h2 : ItemsTouched t u) (hn : u.now = t.now) :
    ItemsTouched s u := by
  intro j
  have a := h1 j
  have b := h2 j
  cases hs : getItem s j with
  | none =>
    rw [hs] at a
    dsimp only at a
    rw [a] at b
    exact b
  | some x =>
    rw [hs] at a
    obtain ⟨y, hy, ha⟩ := a
    rw [hy] at b
    obtain ⟨z, hz, hb⟩ := b
    refine ⟨z, hz, ?_⟩
    rcases ha with rfl | ⟨hr, hr', n, rfl⟩ | ⟨c, k, w, l, hw, rfl⟩
    · exact hb
    · rcases hb with rfl | ⟨h3, h4, m, rfl⟩ | ⟨c, k, w, l, hw, rfl⟩
      · exact .inr (.inl ⟨hr, hr', n, rfl⟩)
      · exact .inr (.inl ⟨hr, h4, m, rfl⟩)
      · rw [hr'] at hw
        cases hw
    · rcases hb with rfl | ⟨h3, h4, m, rfl⟩ | ⟨c', k', w', l', hw', rfl⟩
      · exact .inr (.inr ⟨c, k, w, l, hw, by rw [hn]⟩)
      · cases h3
      · cases hw'

theorem enterList_touches (id : Nat) (s : State) : ItemsTouched s (enterList id s) := by
  unfold enterList
  split
  · exact .refl s
  · rename_i it hit
    split
    · rename_i hc
      simp only [Bool.and_eq_true, beq_iff_eq] at hc
      intro j
      by_cases hj : j = id
      · subst hj
        rw [hit]
        refine ⟨{ it with arr := s.dsp.arr + 1 }, ?_, .inr (.inl ⟨hc.1.1, hc.1.1, _, rfl⟩)⟩
        simp only [getItem, count_dsp, modItem_dsp, tfind_tmod_self]
        rw [show tfind s.dsp.items j = some it from hit]
        rfl
      · have e : getItem (count (0x30 + it.level) it.owner (modItem id (fun i => { i with arr := s.dsp.arr + 1 })
            { s with dsp := { s.dsp with arr := s.dsp.arr + 1 } })) j = getItem s j := by
          simp only [getItem, count_dsp, modItem_dsp, tfind_tmod_ne _ _ hj]
        cases hx : getItem s j with
        | none => exact e.trans hx
        | some x => exact ⟨x, e.trans hx, .inl rfl⟩
    · exact .refl s

@[simp] theorem enterList_now (id : Nat) (s : State) : (enterList id s).now = s.now := by
  unfold enterList
  split
  · rfl
  · split <;> simp

theorem enterLists_touches (flow : Nat) (s : State) : ItemsTouched s (enterLists flow s) ∧ (enterLists flow s).now = s.now := by
  unfold enterLists
  generalize s.dsp.items = l
  suffices h : ∀ t : State, ItemsTouched s t → t.now = s.now →
      ItemsTouched s (l.foldl (fun s' e => if e.2.flow == flow then enterList e.1 s' else s') t) ∧
        (l.foldl (fun s' e => if e.2.flow == flow then enterList e.1 s' else s') t).now = s.now from
    h s (.refl s) rfl
  induction l with
  | nil => exact fun t h hn => ⟨h, hn⟩
  | cons e r ih =>
    intro t h hn
    refine ih _ ?_ ?_
    · dsimp only
      split
      · exact h.trans (enterList_touches e.1 t) (by simp)
      · exact h
    · dsimp only
      split <;> simp [hn]

theorem wakeGate_touches (g : Option Nat) (s : State) : ItemsTouched s (wakeGate g s) ∧ (wakeGate g s).now = s.now := by
  unfold wakeGate
  split
  · exact ⟨.refl s, rfl⟩
  · split
    · split
      · exact ⟨.refl s, rfl⟩
      · rename_i id _
        refine ⟨?_, rfl⟩
        intro j
        cases hx : getItem s j with
        | none =>
          by_cases hj : j = id
          · subst hj
            simp only [getItem, modItem_dsp, tfind_tmod_self]
            rw [show tfind s.dsp.items j = none from hx]
            rfl
          · simp only [getItem, modItem_dsp, tfind_tmod_ne _ _ hj]
            exact hx
        | some x =>
          by_cases hj : j = id
          · subst hj
            simp only [getItem, modItem_dsp, tfind_tmod_self]
            rw [show tfind s.dsp.items j = some x from hx]
            refine ⟨_, rfl, ?_⟩
            dsimp only
            split
            · rename_i c k w hp
              exact .inr (.inr ⟨c, k, w, _, hp, rfl⟩)
            · exact .inl rfl
          · simp only [getItem, modItem_dsp, tfind_tmod_ne _ _ hj]
            exact ⟨x, hx, .inl rfl⟩
    · exact ⟨.refl s, rfl⟩

theorem freeReserved_items (it : Item) (s : State) : (freeReserved it s).dsp = s.dsp ∧ (freeReserved it s).now = s.now := by
  unfold freeReserved
  split
  · exact ⟨rfl, rfl⟩
  · split <;> exact ⟨rfl, rfl⟩

theorem dropDraws_items (id : Nat) (s : State) : (dropDraws id s).dsp = s.dsp ∧ (dropDraws id s).now = s.now := by
  unfold dropDraws
  dsimp only
  split <;> exact ⟨rfl, rfl⟩

/-- The completed item itself. -/
def Item.completed (it : Item) (r : Reply) : Item :=
  { outerItem it with
    phase := .complete, reply := some (outerReply it r), slot := none, holding := [], windows := [], answers := [] }

/-- What `itemDone` does to items: the one named completes, the others are at most touched. -/
theorem itemDone_items {s : State} {id : Nat} {it : Item} (r : Reply) (h : getItem s id = some it) (hc : it.phase ≠ .complete) :
    getItem (itemDone id r s) id = some (it.completed r) ∧
      ∀ j, j ≠ id → match getItem s j with
        | none => getItem (itemDone id r s) j = none
        | some x => ∃ y, getItem (itemDone id r s) j = some y ∧
            (y = x ∨ (x.phase = .ready ∧ y.phase = .ready ∧ ∃ n, y = { x with arr := n }) ∨
              ∃ c k w l, x.phase = .waiting c k w ∧ y = { x with phase := .resumable c k s.now, answers := l }) := by
  have hc' : it.isComplete = false := by simpa [Item.isComplete] using hc
  let s1 := modItem id (fun i => { outerItem i with phase := .complete, reply := some (outerReply it r), slot := none, holding := [], windows := [], answers := [] }) s
  let s2 := endUpdate id (dropDraws id (freeReserved it s1))
  let s3 := if (it.opcode == 0x0703 || it.opcode == 0x0704) && r.status != 0 then closeStream it.flow s2 else s2
  have e : itemDone id r s = wakeGate it.gate (enterLists it.flow (count 0x50 it.owner s3)) := by
    unfold itemDone
    rw [h]
    dsimp only
    rw [hc']
    rfl
  have d3 : s3.dsp = s1.dsp ∧ s3.now = s.now := by
    have d2 : s2.dsp = s1.dsp ∧ s2.now = s.now := by
      refine ⟨?_, ?_⟩
      · show (dropDraws id (freeReserved it s1)).dsp = _
        rw [(dropDraws_items _ _).1, (freeReserved_items _ _).1]
      · show (dropDraws id (freeReserved it s1)).now = _
        rw [(dropDraws_items _ _).2, (freeReserved_items _ _).2]
        rfl
    show (if _ then closeStream it.flow s2 else s2).dsp = _ ∧ (if _ then closeStream it.flow s2 else s2).now = _
    split
    · exact d2
    · exact d2
  have g4 : ItemsTouched s3 (wakeGate it.gate (enterLists it.flow (count 0x50 it.owner s3))) := by
    have a : ItemsTouched s3 (count 0x50 it.owner s3) := .of_items (by simp)
    have b := enterLists_touches it.flow (count 0x50 it.owner s3)
    have c := wakeGate_touches it.gate (enterLists it.flow (count 0x50 it.owner s3))
    exact (a.trans b.1 b.2).trans c.1 c.2
  have hn : (wakeGate it.gate (enterLists it.flow (count 0x50 it.owner s3))).now = s.now := by
    rw [(wakeGate_touches _ _).2, (enterLists_touches _ _).2, count_now, d3.2]
  have i3 : ∀ j, getItem s3 j = getItem s1 j := fun j => by simp only [getItem, d3.1]
  rw [e]
  constructor
  · have a := g4 id
    have b : getItem s3 id = some (it.completed r) := by
      rw [i3]
      simp only [s1, getItem, modItem_dsp, tfind_tmod_self]
      rw [show tfind s.dsp.items id = some it from h]
      rfl
    rw [b] at a
    obtain ⟨y, hy, ha⟩ := a
    rw [hy]
    rcases ha with rfl | ⟨hr, _⟩ | ⟨_, _, _, _, hw, _⟩
    · rfl
    · cases hr
    · cases hw
  · intro j hj
    have a := g4 j
    have b : getItem s3 j = getItem s j := by
      rw [i3]
      simp only [s1, getItem, modItem_dsp, tfind_tmod_ne _ _ hj]
    rw [b] at a
    cases hx : getItem s j with
    | none =>
      rw [hx] at a
      exact a
    | some x =>
      rw [hx] at a
      obtain ⟨y, hy, ha⟩ := a
      rw [hn] at ha
      exact ⟨y, hy, ha⟩

/-- An item on a core stays as it is while another one ends. -/
theorem itemDone_running {s : State} {id j : Nat} {it x : Item} (r : Reply) (h : getItem s id = some it)
    (hc : it.phase ≠ .complete) (hj : j ≠ id) (hx : getItem s j = some x) (hp : ∃ c k, x.phase = .running c k) :
    getItem (itemDone id r s) j = some x := by
  have a := (itemDone_items r h hc).2 j hj
  rw [hx] at a
  obtain ⟨y, hy, ha⟩ := a
  obtain ⟨c, k, hp⟩ := hp
  rcases ha with rfl | ⟨h1, _⟩ | ⟨_, _, _, _, h1, _⟩
  · exact hy
  · rw [hp] at h1
    cases h1
  · rw [hp] at h1
    cases h1

/-! ## Services -/

theorem svc_bind {α β : Type} (x : Svc α) (k : α → Svc β) (r : Run) :
    (x >>= k) r = match x r with
      | .ok p => k p.1 p.2
      | .error e => .error e := by
  show StateT.bind x k r = _
  unfold StateT.bind
  show (x r).bind _ = _
  cases x r <;> rfl

theorem svc_pure {α : Type} (a : α) (r : Run) : (pure a : Svc α) r = .ok (a, r) := rfl

theorem svc_run {α : Type} (x : Svc α) (r : Run) : StateT.run x r = x r := rfl

theorem svc_check_true (st d : Nat) : Svc.check true st d = pure () := rfl

theorem svc_check_false (st d : Nat) : Svc.check false st d = Svc.finish st d := rfl

theorem svc_finish {α : Type} (st d : Nat) (b : Bytes) (r : Run) :
    (Svc.finish st d b : Svc α) r = .error (.reply { status := st, detail := d, payload := b } r.state) := rfl

theorem svc_state (r : Run) : Svc.state r = .ok (r.state, r) := rfl

theorem svc_update (f : State → State) (r : Run) : Svc.update f r = .ok ((), { r with state := f r.state }) := rfl

theorem svc_await_cons (place : State → State) (a : Answer) (l : List Answer) (s : State) :
    Svc.await place ⟨a :: l, s⟩ = .ok (a, ⟨l, s⟩) := rfl

theorem svc_await_nil (place : State → State) (s : State) : Svc.await place ⟨[], s⟩ = .error (.wait (place s)) := rfl

theorem svc_awaitOk_ok (place : State → State) (b : Bytes) (l : List Answer) (s : State) :
    Svc.awaitOk place ⟨.ok b :: l, s⟩ = .ok (.ok b, ⟨l, s⟩) := rfl

theorem svc_awaitOk_nums (place : State → State) (b : List Nat) (l : List Answer) (s : State) :
    Svc.awaitOk place ⟨.nums b :: l, s⟩ = .ok (.nums b, ⟨l, s⟩) := rfl

theorem svc_awaitOk_err (place : State → State) (st d : Nat) (l : List Answer) (s : State) :
    Svc.awaitOk place ⟨.err st d :: l, s⟩ = .error (.reply { status := st, detail := d, payload := [] } s) := rfl

theorem svc_awaitOk_nil (place : State → State) (s : State) : Svc.awaitOk place ⟨[], s⟩ = .error (.wait (place s)) := rfl

theorem svc_decide_cons (id : Nat) (f : State → Answer × State) (a : Answer) (l : List Answer) (s : State) :
    Svc.decide id f ⟨a :: l, s⟩ = .ok (a, ⟨l, s⟩) := rfl

theorem svc_decide_nil (id : Nat) (f : State → Answer × State) (s : State) :
    Svc.decide id f ⟨[], s⟩ =
      .ok ((f s).1, ⟨[], modItem id (fun i => { i with answers := i.answers ++ [(f s).1] }) (f s).2⟩) := rfl

/-- An item at work runs its opcode's service on the answers it has had. -/
theorem runOpcode_running {s : State} {id op : Nat} {it : Item} {l : List Answer} (svc : Item → Svc Reply)
    (h : Running s id op it l) :
    runOpcode op id svc s = match svc it ⟨l, s⟩ with
      | .ok p => itemDone id p.1 p.2.state
      | .error (.reply r t) => itemDone id r t
      | .error (.wait t) => t := by
  obtain ⟨h1, ⟨c, k, h2⟩, h3, h4, h5⟩ := h
  unfold runOpcode runService
  rw [h1]
  simp only [h2, h3, h4, h5, beq_self_eq_true, Option.isNone_none, Bool.and_self, if_true, svc_run]
  split <;> simp_all

end Sys2Proof.Machine
end

