-- ==== Sys2Proof/Laws/Since.lean ====
section
/-! SUPPORT. How Since composes: the lemmas by which each operation of the machine is shown to undo nothing. -/

set_option Elab.async false

set_option linter.all false

namespace Sys2Proof.Machine

theorem RowsGrown.refl (a : List Nat) : RowsGrown a a := ⟨Nat.le_refl _, List.dropLast_prefix a⟩

theorem RowsGrown.trans {a b c : List Nat} (h : RowsGrown a b) (k : RowsGrown b c) : RowsGrown a c := by
  refine ⟨Nat.le_trans h.1 k.1, ?_⟩
  have hb : a.dropLast <+: b.dropLast := List.prefix_of_prefix_length_le h.2 (List.dropLast_prefix b) (by
    rw [List.length_dropLast, List.length_dropLast]
    exact Nat.sub_le_sub_right h.1 1)
  exact hb.trans k.2

theorem OtpGrown.refl (a : Otp) : OtpGrown a a :=
  ⟨⟨.refl _, .refl _, .refl _⟩, ⟨List.prefix_refl _, id⟩, id, fun _ h => .inl h, fun _ => ⟨id, id⟩, ⟨Nat.le_refl _, Nat.le_refl _, Nat.le_refl _⟩⟩

theorem OtpGrown.trans {a b c : Otp} (h : OtpGrown a b) (k : OtpGrown b c) : OtpGrown a c where
  copies := ⟨h.copies.1.trans k.copies.1, h.copies.2.1.trans k.copies.2.1, h.copies.2.2.trans k.copies.2.2⟩
  intent := ⟨h.intent.1.trans k.intent.1, k.intent.2 ∘ h.intent.2⟩
  klock := k.klock ∘ h.klock
  fuse := by
    intro f hf
    rcases h.fuse f hf with e | e
    · exact k.fuse f e
    · rcases k.fuse _ e with e | e
      · exact .inr e
      · exact .inr e
  raises := fun i => ⟨(k.raises i).1 ∘ (h.raises i).1, (k.raises i).2 ∘ (h.raises i).2⟩
  floors := ⟨Nat.le_trans h.floors.1 k.floors.1, Nat.le_trans h.floors.2.1 k.floors.2.1, Nat.le_trans h.floors.2.2 k.floors.2.2⟩

theorem Since.refl (s : State) : Since s s := ⟨rfl, rfl, Nat.le_refl _, .refl _, id, id⟩

theorem Since.trans {r s t : State} (h : Since r s) (k : Since s t) : Since r t :=
  ⟨k.queue.trans h.queue, k.fab.trans h.fab, Nat.le_trans h.clock k.clock, h.otp.trans k.otp, k.raised ∘ h.raised, k.sorted ∘ h.sorted⟩

/-- A change of the fields that Since does not speak of. -/
theorem since_mk {r x : State} {out free bk grd boot flash cyu hfe dsp eng bne vks ent clc hier fcr pmu host cp0 cp1 dbg}
    (hb : Backup.classes bk = x.bk.classes) (hi : Dsp.items dsp = x.dsp.items) :
    Since r (State.mk x.pending x.now out free x.fab x.otp bk grd boot flash cyu hfe dsp eng bne vks ent clc hier fcr pmu host cp0 cp1 dbg) ↔
      Since r x :=
  ⟨fun h => ⟨h.queue, h.fab, h.clock, h.otp, fun hr i => by
      rw [← hb]
      exact h.raised hr i, fun hs => hi ▸ h.sorted hs⟩,
    fun h => ⟨h.queue, h.fab, h.clock, h.otp, fun hr i => by
      show tget bk.classes i 0 ≤ otpClass x.otp i
      rw [hb]
      exact h.raised hr i, fun hs => (congrArg (fun l => tsorted l = true) hi).mpr (h.sorted hs)⟩⟩

/-- The same, where the item table changes and keeps its form. -/
theorem since_table {r x : State} {out free bk grd boot flash cyu hfe dsp eng bne vks ent clc hier fcr pmu host cp0 cp1 dbg} (h : Since r x)
    (hb : Backup.classes bk = x.bk.classes) (hi : tsorted x.dsp.items = true → tsorted (Dsp.items dsp) = true) :
    Since r (State.mk x.pending x.now out free x.fab x.otp bk grd boot flash cyu hfe dsp eng bne vks ent clc hier fcr pmu host cp0 cp1 dbg) :=
  ⟨h.queue, h.fab, h.clock, h.otp, fun hr i => by
    show tget bk.classes i 0 ≤ otpClass x.otp i
    rw [hb]
    exact h.raised hr i, hi ∘ h.sorted⟩

/-- The class that OTP raises a source to never falls. -/
theorem otpClass_mono {a b : Otp} (h : OtpGrown a b) (i : Nat) : otpClass a i ≤ otpClass b i := by
  have hb := (h.raises i).1
  have hc := (h.raises i).2
  unfold otpClass
  split
  · exact Nat.le_of_eq (if_pos (hc (by assumption))).symm
  · split
    · simp only [hb (by assumption), if_true]
      split <;> decide
    · exact Nat.zero_le _

/-- A change of OTP that only gains. -/
theorem since_otp {r x : State} {o : Otp} (h : Since r x) (g : OtpGrown x.otp o) : Since r { x with otp := o } :=
  ⟨h.queue, h.fab, h.clock, h.otp.trans g, fun hr i => Nat.le_trans (h.raised hr i) (otpClass_mono g i), h.sorted⟩

theorem since_at {r s : State} (t : Nat) (h : Since r s) : Since r (s.at_ t) :=
  ⟨h.queue, h.fab, Nat.le_trans h.clock (Nat.le_max_left _ _), h.otp, h.raised, h.sorted⟩

theorem since_foldl {β : Type} {f : State → β → State} (l : List β) {r s : State} (hf : ∀ r s b, Since r s → Since r (f s b))
    (h : Since r s) : Since r (l.foldl f s) := by
  induction l generalizing s with
  | nil => exact h
  | cons b l ih => exact ih (hf r s b h)

theorem since_foldl_snd {β γ : Type} {f : γ × State → β → γ × State} (l : List β) {r : State} {p : γ × State}
    (hf : ∀ r p b, Since r p.2 → Since r (f p b).2) (h : Since r p.2) : Since r (l.foldl f p).2 := by
  induction l generalizing p with
  | nil => exact h
  | cons b l ih => exact ih (hf r p b h)

theorem since_getD {r s : State} {o : Option State} (ho : ∀ t, o = some t → Since r t) (h : Since r s) : Since r (o.getD s) := by
  cases o with
  | none => exact h
  | some t => exact ho t rfl

theorem since_pair {α : Type} {r t : State} {p : α × State} {a : α} (e : p = (a, t)) (h : Since r p.2) : Since r t := by
  subst e
  exact h

theorem since_eq {r s t : State} (e : s = t) (h : Since r s) : Since r t := e ▸ h

/-- The state of what a unit took. -/
def Took.state : Took → State
  | .ready _ s => s
  | .refuse _ _ s => s
  | .wait _ _ s => s
  | .broken s => s

/-- A command's next state comes after the state before it. -/
def SinceOut (r : State) : Host.Outcome State Fault Refusal → Prop
  | .next t => Since r t
  | _ => True

theorem sinceOut_next {r t : State} (h : Since r t) : SinceOut r (.next t) := h

/-- Where a service's run stands or stops comes after where it began. -/
def SinceRun {α : Type} (r : State) : Except Stop (α × Run) → Prop
  | .ok x => Since r x.2.state
  | .error (.wait s) => Since r s
  | .error (.reply _ s) => Since r s

/-- A service undoes nothing. -/
structure Svc.Keeps {α : Type} (m : Svc α) : Prop where
  run : ∀ (r : State) (u : Run), Since r u.state → SinceRun r (m u)

theorem keep_pure {α : Type} (a : α) : Svc.Keeps (pure a : Svc α) := ⟨fun _ _ h => h⟩

theorem keep_bind {α β : Type} {m : Svc α} {f : α → Svc β} (hm : Svc.Keeps m) (hf : ∀ a, Svc.Keeps (f a)) : Svc.Keeps (m >>= f) := by
  refine ⟨fun r u h => ?_⟩
  have k := hm.run r u h
  simp only [bind, StateT.bind, Except.bind]
  revert k
  cases m u with
  | ok x => exact fun k => (hf x.1).run r x.2 k
  | error e =>
    cases e with
    | wait s => exact id
    | reply a s => exact id

theorem keep_map {α β : Type} {m : Svc α} {f : α → β} (hm : Svc.Keeps m) : Svc.Keeps (f <$> m) := by
  refine ⟨fun r u h => ?_⟩
  have k := hm.run r u h
  simp only [Functor.map, StateT.map, bind, Except.bind]
  revert k
  cases m u with
  | ok x => exact id
  | error e =>
    cases e with
    | wait s => exact id
    | reply a s => exact id

theorem keep_state : Svc.Keeps Svc.state := ⟨fun _ _ h => h⟩

theorem keep_update {f : State → State} (hf : ∀ r s, Since r s → Since r (f s)) : Svc.Keeps (Svc.update f) := ⟨fun r u h => hf r u.state h⟩

theorem keep_finish {α : Type} (st d : Nat) (p : Bytes) : Svc.Keeps (Svc.finish (α := α) st d p) := ⟨fun _ _ h => h⟩

theorem keep_check (ok : Bool) (st d : Nat) : Svc.Keeps (Svc.check ok st d) := by
  unfold Svc.check
  split
  · exact keep_pure ()
  · exact keep_finish st d []

theorem keep_await {f : State → State} (hf : ∀ r s, Since r s → Since r (f s)) : Svc.Keeps (Svc.await f) := by
  refine ⟨fun r u h => ?_⟩
  unfold Svc.await
  split
  · exact h
  · exact hf r u.state h

theorem keep_awaitOk {f : State → State} (hf : ∀ r s, Since r s → Since r (f s)) : Svc.Keeps (Svc.awaitOk f) := by
  refine keep_bind (keep_await hf) (fun a => ?_)
  cases a with
  | err st d => exact keep_finish st d []
  | _ => exact keep_pure _

/-- A decision recorded once. -/
theorem keep_decide {f : State → Answer × State} (id : Nat) (hf : ∀ r s, Since r s → Since r (f s).2) : Svc.Keeps (Svc.decide id f) := by
  refine ⟨fun r u h => ?_⟩
  unfold Svc.decide
  split
  · exact h
  · have k := hf r u.state h
    unfold SinceRun modItem
    exact since_table k rfl (fun hs => tsorted_tmod hs _ _)

theorem since_runService {svc : Item → Svc Reply} (id : Nat) (hs : ∀ it, Svc.Keeps (svc it))
    (hd : ∀ i p r s, Since r s → Since r (itemDone i p s)) {r s : State} (h : Since r s) : Since r (runService id svc s) := by
  unfold runService
  split
  · exact h
  · rename_i it _
    have k := (hs it).run r { rest := it.answers, state := s } h
    simp only [StateT.run]
    revert k
    cases svc it { rest := it.answers, state := s } with
    | ok x => exact fun k => hd _ _ _ _ k
    | error e =>
      cases e with
      | wait s => exact fun k => k
      | reply a s => exact fun k => hd _ _ _ _ k

end Sys2Proof.Machine
end

