-- ==== Sys2Proof/Laws/SinceItems.lean ====
section
/-! SUPPORT. Each operation undoes nothing (Since): items, rings, engines, the reset. -/

set_option Elab.async false

set_option linter.all false

namespace Sys2Proof.Machine

theorem since_pmuWrapped (n : Nat) (s : State) {r : State} (h : Since r s) : Since r (pmuWrapped n s) := by
  unfold pmuWrapped
  repeat' (first | assumption | simp only [↓since_mk] | with_reducible rfl | dsimp only | split)

theorem since_pmuAdd (n : Nat) (k : Nat) (s : State) {r : State} (h : Since r s) : Since r (pmuAdd n k s) := by
  unfold pmuAdd
  repeat' (first | assumption | with_reducible apply since_pmuWrapped | simp only [↓since_mk] | with_reducible rfl | dsimp only
                 | split)

theorem since_countN (ev : Nat) (k : Nat) (ten : Option Nat) (s : State) {r : State} (h : Since r s) : Since r (countN ev k ten s) := by
  unfold countN
  repeat' (first | assumption | with_reducible apply since_pmuAdd | intro _ | with_reducible apply since_foldl
                 | with_reducible apply since_foldl_snd | dsimp only | split)

theorem since_count (ev : Nat) (ten : optParam (Option Nat) none) (s : State) {r : State} (h : Since r s) : Since r (count ev ten s) := by
  unfold count
  repeat' (first | assumption | with_reducible apply since_countN | dsimp only)

theorem since_emit (o : Out) (s : State) {r : State} (h : Since r s) : Since r (emit o s) := by
  unfold emit
  repeat' (first | assumption | simp only [↓since_mk] | with_reducible rfl | dsimp only)

theorem since_eachCopy (f : Copies → Copies) (s : State) {r : State} (h : Since r s) : Since r (eachCopy f s) := by
  unfold eachCopy
  repeat' (first | assumption | simp only [↓since_mk] | with_reducible rfl | dsimp only)

theorem since_takeFree (bound : Nat) (s : State) {r : State} (h : Since r s) : Since r (takeFree bound s).2 := by
  unfold takeFree
  repeat' (first | assumption | simp only [↓since_mk] | with_reducible rfl | dsimp only)

theorem since_record (sev : Nat) (source : Nat) (code : Nat) (data : Bytes) (tenant : optParam Nat noTenant) (late : optParam Bool false) (s : State) {r : State} (h : Since r s) : Since r (record sev source code data tenant late s) := by
  unfold record
  repeat' (first | assumption | with_reducible apply since_eachCopy | with_reducible apply since_countN
                 | with_reducible apply since_count | simp only [↓since_mk] | with_reducible rfl | dsimp only | split)

theorem since_setFsrc (n : Nat) (f : FaultSrc → FaultSrc) (s : State) {r : State} (h : Since r s) : Since r (setFsrc n f s) := by
  unfold setFsrc
  repeat' (first | assumption | simp only [↓since_mk] | with_reducible rfl | dsimp only)

theorem since_errPulse (s : State) {r : State} (h : Since r s) : Since r (errPulse s) := by
  unfold errPulse
  repeat' (first | assumption | with_reducible apply since_emit | simp only [↓since_mk] | with_reducible rfl | dsimp only | split)

theorem since_containedReport (src : Nat) (cause : Nat) (addr : Nat) (items : Nat) (wire : Bool) (rep : Bool) (s : State) {r : State} (h : Since r s) : Since r (containedReport src cause addr items wire rep s) := by
  unfold containedReport
  repeat' (first | assumption | with_reducible apply since_errPulse | with_reducible apply since_eachCopy
                 | with_reducible apply since_setFsrc | with_reducible apply since_record | with_reducible apply since_count
                 | simp only [↓since_mk] | with_reducible rfl | dsimp only | split)

theorem since_cellarRecord (sev : Nat) (page : Nat) (s : State) {r : State} (h : Since r s) : Since r (cellarRecord sev page s) := by
  unfold cellarRecord
  repeat' (first | assumption | with_reducible apply since_takeFree | with_reducible apply since_record
                 | (apply since_pair; (· assumption)) | dsimp only)

theorem since_cycleRecord (sev : Nat) (kind : Nat) (added : Nat) (s : State) {r : State} (h : Since r s) : Since r (cycleRecord sev kind added s) := by
  unfold cycleRecord
  repeat' (first | assumption | with_reducible apply since_record | dsimp only)

theorem since_dropTwinHold (s : State) {r : State} (h : Since r s) : Since r (dropTwinHold s) := by
  unfold dropTwinHold
  repeat' (first | assumption | simp only [↓since_mk] | with_reducible rfl | dsimp only)

theorem since_closeGates (s : State) {r : State} (h : Since r s) : Since r (closeGates s) := by
  unfold closeGates
  repeat' (first | assumption | with_reducible apply since_dropTwinHold | simp only [↓since_mk] | with_reducible rfl | dsimp only)

theorem since_fatalFault (src : Nat) (cause : Nat) (addr : Nat) (wire : Bool) (escal : Bool) (s : State) {r : State} (h : Since r s) : Since r (fatalFault src cause addr wire escal s) := by
  unfold fatalFault
  repeat' (first | assumption | with_reducible apply since_closeGates | with_reducible apply since_errPulse
                 | with_reducible apply since_setFsrc | with_reducible apply since_record | with_reducible apply since_count
                 | simp only [↓since_mk] | with_reducible rfl | dsimp only)

theorem since_fatal (src : Nat) (cause : Nat) (addr : Nat) (s : State) {r : State} (h : Since r s) : Since r (fatal src cause addr s) := by
  unfold fatal
  repeat' (first | assumption | with_reducible apply since_fatalFault | dsimp only | split)

theorem since_checkpoint (s : State) {r : State} (h : Since r s) : Since r (checkpoint s) := by
  unfold checkpoint
  repeat' (first | assumption | with_reducible apply since_record | simp only [↓since_mk] | with_reducible rfl | dsimp only)

theorem since_armatureRecord (sev : Nat) (source : Nat) (s : State) {r : State} (h : Since r s) : Since r (armatureRecord sev source s) := by
  unfold armatureRecord
  repeat' (first | assumption | with_reducible apply since_takeFree | with_reducible apply since_record
                 | (apply since_pair; (· assumption)) | dsimp only)

theorem since_corrected (src : Nat) (cause : Nat) (addr : Nat) (s : State) {r : State} (h : Since r s) : Since r (corrected src cause addr s) := by
  unfold corrected
  repeat' (first | assumption | with_reducible apply since_eachCopy | with_reducible apply since_setFsrc
                 | with_reducible apply since_record | with_reducible apply since_count | dsimp only | split)

theorem since_mpuRecord (master : Nat) (addr : Nat) (r : Right) (tenant : Nat) (s : State) {r₀ : State} (h : Since r₀ s) : Since r₀ (mpuRecord master addr r tenant s) := by
  unfold mpuRecord
  repeat' (first | assumption | with_reducible apply since_record | dsimp only | split)

theorem since_journalCommit (s : State) {r : State} (h : Since r s) : Since r (journalCommit s) := by
  unfold journalCommit
  repeat' (first | assumption | simp only [↓since_mk] | with_reducible rfl | dsimp only | split)

theorem since_journalWrite (s : State) {r : State} (h : Since r s) : Since r (journalWrite s) := by
  unfold journalWrite
  repeat' (first | assumption | with_reducible apply since_journalCommit | with_reducible apply since_countN
                 | simp only [↓since_mk] | intro _ | with_reducible rfl | with_reducible apply since_foldl
                 | with_reducible apply since_foldl_snd | dsimp only | split)

theorem since_modItem (id : Nat) (f : Item → Item) (s : State) {r : State} (h : Since r s) : Since r (modItem id f s) :=
  since_table h rfl (fun hs => tsorted_tmod hs id f)

theorem since_endUpdate (id : Nat) (s : State) {r : State} (h : Since r s) : Since r (endUpdate id s) := by
  unfold endUpdate
  repeat' (first | assumption | simp only [↓since_mk] | with_reducible rfl | dsimp only)

theorem since_dropDraws (id : Nat) (s : State) {r : State} (h : Since r s) : Since r (dropDraws id s) := by
  unfold dropDraws
  repeat' (first | assumption | simp only [↓since_mk] | with_reducible rfl | dsimp only | split)

theorem since_freeReserved (it : Item) (s : State) {r : State} (h : Since r s) : Since r (freeReserved it s) := by
  unfold freeReserved
  repeat' (first | assumption | simp only [↓since_mk] | with_reducible rfl | dsimp only | split)

theorem since_closeStream (flow : Nat) (s : State) {r : State} (h : Since r s) : Since r (closeStream flow s) := by
  unfold closeStream
  repeat' (first | assumption | simp only [↓since_mk] | with_reducible rfl | dsimp only)

theorem since_wakeGate (g : Option Nat) (s : State) {r : State} (h : Since r s) : Since r (wakeGate g s) := by
  unfold wakeGate
  repeat' (first | assumption | with_reducible apply since_modItem | dsimp only | split)

theorem since_enterList (id : Nat) (s : State) {r : State} (h : Since r s) : Since r (enterList id s) := by
  unfold enterList
  repeat' (first | assumption | with_reducible apply since_modItem | with_reducible apply since_count | simp only [↓since_mk]
                 | with_reducible rfl | dsimp only | split)

theorem since_enterLists (flow : Nat) (s : State) {r : State} (h : Since r s) : Since r (enterLists flow s) := by
  unfold enterLists
  repeat' (first | assumption | with_reducible apply since_enterList | intro _ | with_reducible apply since_foldl
                 | with_reducible apply since_foldl_snd | dsimp only | split)

theorem since_itemDone (id : Nat) (r : Reply) (s : State) {r₀ : State} (h : Since r₀ s) : Since r₀ (itemDone id r s) := by
  unfold itemDone
  repeat' (first | assumption | with_reducible apply since_wakeGate | with_reducible apply since_modItem
                 | with_reducible apply since_freeReserved | with_reducible apply since_endUpdate
                 | with_reducible apply since_enterLists | with_reducible apply since_closeStream
                 | with_reducible apply since_dropDraws | with_reducible apply since_count | dsimp only | split)

theorem since_itemEnd (id : Nat) (status : Nat) (detail : Nat) (s : State) {r : State} (h : Since r s) : Since r (itemEnd id status detail s) := by
  unfold itemEnd
  repeat' (first | assumption | with_reducible apply since_itemDone | dsimp only)

theorem since_endItems (p : Nat → Item → Bool) (status : Nat) (detail : Nat) (s : State) {r : State} (h : Since r s) : Since r (endItems p status detail s) := by
  unfold endItems
  repeat' (first | assumption | with_reducible apply since_itemEnd | intro _ | with_reducible apply since_foldl
                 | with_reducible apply since_foldl_snd | dsimp only | split)

theorem since_itemAnswer (id : Nat) (a : Answer) (s : State) {r : State} (h : Since r s) : Since r (itemAnswer id a s) := by
  unfold itemAnswer
  repeat' (first | assumption | with_reducible apply since_modItem | dsimp only | split)

theorem since_placeRequest (k : Engine) (r : Request) (s : State) {r₀ : State} (h : Since r₀ s) : Since r₀ (placeRequest k r s) := by
  unfold placeRequest
  repeat' (first | assumption | simp only [↓since_mk] | with_reducible rfl | dsimp only | split)

theorem since_runSvc {svc : Item → Svc Reply} (id : Nat) (hs : ∀ it, Svc.Keeps (svc it)) {r s : State} (h : Since r s) :
    Since r (runService id svc s) :=
  since_runService id hs (fun _ _ _ _ => since_itemDone _ _ _) h

theorem since_runOpcode {svc : Item → Svc Reply} (op id : Nat) (hs : ∀ it, Svc.Keeps (svc it)) {r s : State} (h : Since r s) :
    Since r (runOpcode op id svc s) := by
  unfold runOpcode
  repeat' split
  all_goals (first | exact h | exact since_runSvc id hs h)

theorem since_itemWait (id : Nat) (w : Wait) (s : State) {r : State} (h : Since r s) : Since r (itemWait id w s) := by
  unfold itemWait
  repeat' (first | assumption | with_reducible apply since_modItem | dsimp only | split)

theorem since_done (payload : optParam Bytes []) : Svc.Keeps (done payload) := by
  unfold done
  repeat' (first | assumption | with_reducible apply keep_pure | with_reducible apply keep_bind | with_reducible apply keep_map
                 | intro _ | dsimp only)

theorem since_askEngine (k : Engine) (id : Nat) (r : State → Request) (s : State) {r₀ : State} (h : Since r₀ s) : Since r₀ (askEngine k id r s) := by
  unfold askEngine
  repeat' (first | assumption | with_reducible apply since_modItem | with_reducible apply since_itemWait
                 | with_reducible apply since_placeRequest | simp only [↓since_mk] | with_reducible rfl | dsimp only)

theorem since_askDraw (id : Nat) (it : Item) (inst : State → Nat) (n : Nat) (pr : Bool) (adata : Bytes) (secret : Bool) (s : State) {r : State} (h : Since r s) : Since r (askDraw id it inst n pr adata secret s) := by
  unfold askDraw
  repeat' (first | assumption | with_reducible apply since_itemWait | simp only [↓since_mk] | with_reducible rfl | dsimp only)

theorem since_Svc_drawArmature (id : Nat) (it : Item) (n : Nat) : Svc.Keeps (Svc.drawArmature id it n) := by
  unfold Svc.drawArmature
  repeat' (first | assumption | with_reducible apply since_askDraw | with_reducible apply keep_awaitOk
                 | with_reducible apply keep_pure | with_reducible apply keep_bind | with_reducible apply keep_map | intro _
                 | dsimp only)

theorem since_Svc_engine (k : Engine) (id : Nat) (it : Item) (keys : List KeyReq) (chain : List KeyStep) (op : EngineOp) (dest : optParam (Option NewSlot) none) : Svc.Keeps (Svc.engine k id it keys chain op dest) := by
  unfold Svc.engine
  repeat' (first | assumption | with_reducible apply keep_awaitOk | with_reducible apply since_askEngine
                 | with_reducible apply keep_pure | with_reducible apply keep_bind | with_reducible apply keep_map | intro _
                 | dsimp only)

theorem since_Svc_drawSecret (id : Nat) (it : Item) (n : Nat) : Svc.Keeps (Svc.drawSecret id it n) := by
  unfold Svc.drawSecret
  repeat' (first | assumption | with_reducible apply since_askDraw | with_reducible apply keep_awaitOk
                 | with_reducible apply keep_pure | with_reducible apply keep_bind | with_reducible apply keep_map | intro _
                 | dsimp only)

theorem since_Svc_draw (id : Nat) (it : Item) (n : Nat) : Svc.Keeps (Svc.draw id it n) := by
  unfold Svc.draw
  repeat' (first | assumption | with_reducible apply since_askDraw | with_reducible apply keep_awaitOk
                 | with_reducible apply keep_pure | with_reducible apply keep_bind | with_reducible apply keep_map | intro _
                 | dsimp only)

theorem since_itemInternal (id : Nat) (s : State) {r : State} (h : Since r s) : Since r (itemInternal id s) := by
  unfold itemInternal
  repeat' (first | assumption | with_reducible apply since_armatureRecord | with_reducible apply since_itemEnd | dsimp only)

theorem since_modQueue (fn : Nat) (q : Nat) (f : Queue → Queue) (s : State) {r : State} (h : Since r s) : Since r (modQueue fn q f s) := by
  unfold modQueue
  repeat' (first | assumption | simp only [↓since_mk] | with_reducible rfl | dsimp only)

theorem since_sendMsix (fn : Nat) (vec : Nat) (s : State) {r : State} (h : Since r s) : Since r (sendMsix fn vec s) := by
  unfold sendMsix
  repeat' (first | assumption | with_reducible apply since_emit | with_reducible apply since_count | simp only [↓since_mk]
                 | with_reducible rfl | dsimp only | split)

theorem since_setEvent (fn : Nat) (i : Nat) (s : State) {r : State} (h : Since r s) : Since r (setEvent fn i s) := by
  unfold setEvent
  repeat' (first | assumption | with_reducible apply since_sendMsix | simp only [↓since_mk] | with_reducible rfl | dsimp only)

theorem since_queueError (fn : Nat) (q : Nat) (s : State) {r : State} (h : Since r s) : Since r (queueError fn q s) := by
  unfold queueError
  repeat' (first | assumption | with_reducible apply since_modQueue | with_reducible apply since_setEvent | dsimp only | split)

theorem since_writeCompletion (e : Completed) (tenant : Option Nat) (s : State) {r : State} (h : Since r s) : Since r (writeCompletion e tenant s) := by
  unfold writeCompletion
  repeat' (first | assumption | with_reducible apply since_sendMsix | with_reducible apply since_emit
                 | with_reducible apply since_count | simp only [↓since_mk] | with_reducible rfl | dsimp only | split)

theorem since_writeRmarks (s : State) {r : State} (h : Since r s) : Since r (writeRmarks s) := by
  unfold writeRmarks
  repeat' (first | assumption | with_reducible apply since_modQueue | with_reducible apply since_writeCompletion | intro _
                 | with_reducible apply since_foldl | with_reducible apply since_foldl_snd | dsimp only | split)

theorem since_writeReply (d : Dest) (r : Reply) (bytes : Bytes) (direct : Bool) (tenant : Option Nat) (s : State) {r₀ : State} (h : Since r₀ s) : Since r₀ (writeReply d r bytes direct tenant s) := by
  unfold writeReply
  repeat' (first | assumption | with_reducible apply since_writeCompletion | with_reducible apply since_emit
                 | with_reducible apply since_count | dsimp only | split)

theorem since_modCtx (t : Nat) (f : Ctx → Ctx) (s : State) {r : State} (h : Since r s) : Since r (modCtx t f s) := by
  unfold modCtx
  repeat' (first | assumption | simp only [↓since_mk] | with_reducible rfl | dsimp only)

theorem since_ctxEvent (c : Ctx) (s : State) {r : State} (h : Since r s) : Since r (ctxEvent c s) := by
  unfold ctxEvent
  repeat' (first | assumption | with_reducible apply since_setEvent | dsimp only | split)

theorem since_endWaiting (t : Nat) (status : Nat) (detail : Nat) (s : State) {r : State} (h : Since r s) : Since r (endWaiting t status detail s) := by
  unfold endWaiting
  repeat' (first | assumption | with_reducible apply since_endItems | dsimp only)

theorem since_quarantine (t : Nat) (src : Nat) (s : State) {r : State} (h : Since r s) : Since r (quarantine t src s) := by
  unfold quarantine
  repeat' (first | assumption | with_reducible apply since_modCtx | with_reducible apply since_endWaiting
                 | with_reducible apply since_ctxEvent | with_reducible apply since_getD | dsimp only | split)

theorem since_dropItem (id : Nat) (s : State) {r : State} (h : Since r s) : Since r (dropItem id s) :=
  since_table h rfl (fun hs => tsorted_terase hs id)

theorem since_advanceHead (it : Item) (s : State) {r : State} (h : Since r s) : Since r (advanceHead it s) := by
  unfold advanceHead
  repeat' (first | assumption | simp only [↓since_mk] | with_reducible rfl | dsimp only | split)

theorem since_release {f : State → State} (id : Nat) (it : Item) {r s : State} (hf : ∀ r s, Since r s → Since r (f s)) (h : Since r s) :
    Since r (release id it f s) :=
  since_count _ _ _ (since_dropItem _ _ (since_advanceHead _ _ (hf _ _ h)))

theorem since_releaseReply (id : Nat) (it : Item) (s : State) {r : State} (h : Since r s) : Since r (releaseReply id it s) := by
  unfold releaseReply
  repeat' (first | assumption | with_reducible apply since_writeReply | with_reducible apply since_release | intro _
                 | with_reducible apply since_getD | dsimp only)

theorem since_beginReset (t : Nat) (detail : Nat) (waiter : Option Nat) (flr : Bool) (s : State) {r : State} (h : Since r s) : Since r (beginReset t detail waiter flr s) := by
  unfold beginReset
  repeat' (first | assumption | with_reducible apply since_modCtx | with_reducible apply since_endWaiting
                 | with_reducible apply since_ctxEvent | simp only [↓since_mk] | with_reducible rfl | dsimp only | split)

theorem since_modQueuesOf (fn : Nat) (f : Queue → Queue) (s : State) {r : State} (h : Since r s) : Since r (modQueuesOf fn f s) := by
  unfold modQueuesOf
  repeat' (first | assumption | simp only [↓since_mk] | with_reducible rfl | dsimp only | split)

theorem since_rewriteBase (s : State) {r : State} (h : Since r s) : Since r (rewriteBase s) := by
  unfold rewriteBase
  repeat' (first | assumption | simp only [↓since_mk] | with_reducible rfl | dsimp only)

theorem since_imgAppend (f : VineImage → VineImage) (s : State) {r : State} (h : Since r s) : Since r (imgAppend f s) := by
  unfold imgAppend
  repeat' (first | assumption | with_reducible apply since_takeFree | with_reducible apply since_rewriteBase
                 | simp only [↓since_mk] | with_reducible rfl | with_reducible apply since_getD
                 | (apply since_pair; (· assumption)) | dsimp only | split)

theorem since_putSlot (i : Nat) (p : Slot) (s : State) {r : State} (h : Since r s) : Since r (putSlot i p s) := by
  unfold putSlot
  repeat' (first | assumption | simp only [↓since_mk] | with_reducible rfl | dsimp only)

theorem since_freeObject (p : Slot) (s : State) {r : State} (h : Since r s) : Since r (freeObject p s) := by
  unfold freeObject
  repeat' (first | assumption | simp only [↓since_mk] | with_reducible rfl | dsimp only | split)

theorem since_freeEntry (p : Slot) (s : State) {r : State} (h : Since r s) : Since r (freeEntry p s) := by
  unfold freeEntry
  repeat' (first | assumption | simp only [↓since_mk] | with_reducible rfl | dsimp only | split)

theorem since_freeSlot (i : Nat) (p' : Slot) (s : State) {r : State} (h : Since r s) : Since r (freeSlot i p' s) := by
  unfold freeSlot
  repeat' (first | assumption | with_reducible apply since_freeObject | with_reducible apply since_freeEntry
                 | with_reducible apply since_putSlot | simp only [↓since_mk] | with_reducible rfl | dsimp only)

theorem since_pruneSlot (i : Nat) (s : State) {r : State} (h : Since r s) : Since r (pruneSlot i s) := by
  unfold pruneSlot
  repeat' (first | assumption | with_reducible apply since_freeSlot | with_reducible apply since_count | dsimp only)

theorem since_charge (k : KeyReq) (s : State) {r : State} (h : Since r s) : Since r (charge k s) := by
  unfold charge
  repeat' (first | assumption | with_reducible apply since_putSlot | with_reducible apply since_count | dsimp only | split)

theorem since_lookupFailed (tenant : Nat) (status : Nat) (s : State) {r : State} (h : Since r s) : Since r (lookupFailed tenant status s) := by
  unfold lookupFailed
  repeat' (first | assumption | with_reducible apply since_eachCopy | with_reducible apply since_count | dsimp only | split)

theorem since_slotFatal (i : Nat) (s : State) {r : State} (h : Since r s) : Since r (slotFatal i s) := by
  unfold slotFatal
  repeat' (first | assumption | with_reducible apply since_fatal | dsimp only)

theorem since_imgPutSlot (i : Nat) (s : State) {r : State} (h : Since r s) : Since r (imgPutSlot i s) := by
  unfold imgPutSlot
  repeat' (first | assumption | with_reducible apply since_imgAppend | dsimp only | split)

theorem since_topUp (i : Nat) (s : State) {r : State} (h : Since r s) : Since r (topUp i s) := by
  unfold topUp
  repeat' (first | assumption | with_reducible apply since_imgPutSlot | with_reducible apply since_putSlot | dsimp only | split)

theorem since_queueFill (i : Nat) (s : State) {r : State} (h : Since r s) : Since r (queueFill i s) := by
  unfold queueFill
  repeat' (first | assumption | with_reducible apply since_placeRequest | with_reducible apply since_count
                 | simp only [↓since_mk] | with_reducible rfl | dsimp only)

theorem since_giveEntry (i : Nat) (s : State) {r : State} (h : Since r s) : Since r (giveEntry i s) := by
  unfold giveEntry
  repeat' (first | assumption | with_reducible apply since_queueFill | with_reducible apply since_putSlot
                 | simp only [↓since_mk] | with_reducible rfl | dsimp only | split)

theorem since_wipeSlot (i : Nat) (s : State) {r : State} (h : Since r s) : Since r (wipeSlot i s) := by
  unfold wipeSlot
  repeat' (first | assumption | with_reducible apply since_freeSlot | dsimp only)

theorem since_scrubSlot (i : Nat) (s : State) {r : State} (h : Since r s) : Since r (scrubSlot i s) := by
  unfold scrubSlot
  repeat' (first | assumption | with_reducible apply since_freeObject | with_reducible apply since_freeEntry
                 | with_reducible apply since_putSlot | with_reducible apply since_count | dsimp only)

theorem since_unfree (i : Nat) (s : State) {r : State} (h : Since r s) : Since r (unfree i s) := by
  unfold unfree
  repeat' (first | assumption | simp only [↓since_mk] | with_reducible rfl | dsimp only)

theorem since_nextFree (s : State) {r : State} (h : Since r s) : Since r (nextFree s).2 := by
  unfold nextFree
  repeat' (first | assumption | with_reducible apply since_takeFree | (apply since_pair; (· assumption)) | dsimp only | split)

theorem since_reserveSlot (tenant : Nat) (s : State) {r : State} (h : Since r s) : Since r (reserveSlot tenant s).2 := by
  unfold reserveSlot
  repeat' (first | assumption | with_reducible apply since_nextFree | simp only [↓since_mk] | with_reducible rfl
                 | (apply since_pair; (· assumption)) | dsimp only | split)

theorem since_reclaimSlot (i : Nat) (s : State) {r : State} (h : Since r s) : Since r (reclaimSlot i s) := by
  unfold reclaimSlot
  repeat' (first | assumption | with_reducible apply since_freeSlot | with_reducible apply since_count | dsimp only)

theorem since_uninstantiate (i : Nat) (s : State) {r : State} (h : Since r s) : Since r (uninstantiate i s) := by
  unfold uninstantiate
  repeat' (first | assumption | simp only [↓since_mk] | with_reducible rfl | dsimp only)

theorem since_takeReserve (s : State) {r : State} (h : Since r s) : Since r (takeReserve s).2 := by
  unfold takeReserve
  repeat' (first | assumption | simp only [↓since_mk] | with_reducible rfl | dsimp only | split)

theorem since_setInst (i : Nat) (d : Drbg) (s : State) {r : State} (h : Since r s) : Since r (setInst i d s) := by
  unfold setInst
  repeat' (first | assumption | simp only [↓since_mk] | with_reducible rfl | dsimp only)

theorem since_seedInst (i : Nat) (seed : Bytes) (s : State) {r : State} (h : Since r s) : Since r (seedInst i seed s) := by
  unfold seedInst
  repeat' (first | assumption | with_reducible apply since_setInst | dsimp only | split)

theorem since_askUrgent (i : Nat) (u : SeedUse) (s : State) {r : State} (h : Since r s) : Since r (askUrgent i u s) := by
  unfold askUrgent
  repeat' (first | assumption | with_reducible apply since_seedInst | with_reducible apply since_takeReserve
                 | simp only [↓since_mk] | with_reducible rfl | (apply since_pair; (· assumption)) | dsimp only | split)

theorem since_instantiate (i : Nat) (tenant : Nat) (s : State) {r : State} (h : Since r s) : Since r (instantiate i tenant s) := by
  unfold instantiate
  repeat' (first | assumption | with_reducible apply since_setInst | with_reducible apply since_askUrgent | dsimp only)

theorem since_genPart (i : Nat) (n : Nat) (adata : Bytes) (s : State) {r : State} (h : Since r s) : Since r (genPart i n adata s).2 := by
  unfold genPart
  repeat' (first | assumption | with_reducible apply since_setInst | with_reducible apply since_askUrgent
                 | simp only [↓since_mk] | with_reducible rfl | dsimp only | split)

theorem since_refuseDraw (d : Draw) (status : Nat) (detail : Nat) (s : State) {r : State} (h : Since r s) : Since r (refuseDraw d status detail s) := by
  unfold refuseDraw
  repeat' (first | assumption | with_reducible apply since_itemAnswer | with_reducible apply since_count | dsimp only | split)

theorem since_condStop (s : State) {r : State} (h : Since r s) : Since r (condStop s) := by
  unfold condStop
  repeat' (first | assumption | with_reducible apply since_refuseDraw | simp only [↓since_mk] | intro _ | with_reducible rfl
                 | with_reducible apply since_foldl | with_reducible apply since_foldl_snd | dsimp only | split)

theorem since_condCheck (s : State) {r : State} (h : Since r s) : Since r (condCheck s) := by
  unfold condCheck
  repeat' (first | assumption | with_reducible apply since_condStop | simp only [↓since_mk] | with_reducible rfl | dsimp only
                 | split)

theorem since_modSource (n : Nat) (f : Noise → Noise) (s : State) {r : State} (h : Since r s) : Since r (modSource n f s) := by
  unfold modSource
  repeat' (first | assumption | simp only [↓since_mk] | with_reducible rfl | dsimp only)

theorem since_sourceFail (n : Nat) (apt : Bool) (s : State) {r : State} (h : Since r s) : Since r (sourceFail n apt s) := by
  unfold sourceFail
  repeat' (first | assumption | with_reducible apply since_eachCopy | with_reducible apply since_setFsrc
                 | with_reducible apply since_modSource | with_reducible apply since_armatureRecord
                 | with_reducible apply since_containedReport | with_reducible apply since_condCheck
                 | with_reducible apply since_count | dsimp only | split)

theorem since_execStartupTestComplete (src : Nat) (pass : Bool) (apt : Bool) (s : State) {r : State} (h : Since r s) : SinceOut r (execStartupTestComplete src pass apt s) := by
  unfold execStartupTestComplete
  repeat' (first | assumption | with_reducible apply since_sourceFail | with_reducible apply since_modSource
                 | with_reducible apply since_condCheck | with_reducible apply sinceOut_next | dsimp only | split)

theorem since_execHealthTestFail (src : Nat) (apt : Bool) (s : State) {r : State} (h : Since r s) : SinceOut r (execHealthTestFail src apt s) := by
  unfold execHealthTestFail
  repeat' (first | assumption | with_reducible apply since_sourceFail | with_reducible apply sinceOut_next | dsimp only | split)

theorem since_execHealthyRunCount (src : Nat) (s : State) {r : State} (h : Since r s) : SinceOut r (execHealthyRunCount src s) := by
  unfold execHealthyRunCount
  repeat' (first | assumption | with_reducible apply since_modSource | with_reducible apply sinceOut_next | dsimp only | split)

theorem since_answerDraw (d : Draw) (s : State) {r : State} (h : Since r s) : Since r (answerDraw d s) := by
  unfold answerDraw
  repeat' (first | assumption | with_reducible apply since_modItem | with_reducible apply since_itemAnswer | dsimp only | split)

theorem since_holdDraw (d : Draw) (detail : Nat) (s : State) {r : State} (h : Since r s) : Since r (holdDraw d detail s).2 := by
  unfold holdDraw
  repeat' (first | assumption | with_reducible apply since_refuseDraw | dsimp only | split)

theorem since_drawGo (k : Nat) (d : Draw) (s : State) {r : State} (h : Since r s) : Since r (drawGo k d s).2 := by
  induction k generalizing d s with
  | zero => exact since_answerDraw _ _ h
  | succ f ih =>
    unfold drawGo
    dsimp only
    repeat' split
    · exact since_answerDraw _ _ h
    · exact since_holdDraw _ _ _ h
    · exact since_refuseDraw _ _ _ _ h
    · rename_i e
      exact ih _ _ (since_genPart _ _ _ _ (since_seedInst _ _ _ (since_pair e (since_takeReserve _ h))))
    · rename_i e _
      exact since_refuseDraw _ _ _ _ (since_pair e (since_takeReserve _ h))
    · rename_i e _
      exact (since_mk rfl rfl).mpr (since_pair e (since_takeReserve _ h))
    · exact ih _ _ (since_genPart _ _ _ _ h)
    · exact since_refuseDraw _ _ _ _ h
    · exact since_holdDraw _ _ _ h

theorem since_tryDraw (d : Draw) (s : State) {r : State} (h : Since r s) : Since r (tryDraw d s).2 := by
  unfold tryDraw
  repeat' (first | assumption | with_reducible apply since_drawGo | (apply since_pair; (· assumption)) | dsimp only)

theorem since_retryDraws (s : State) {r : State} (h : Since r s) : Since r (retryDraws s) := by
  unfold retryDraws
  repeat' (first | assumption | with_reducible apply since_tryDraw | simp only [↓since_mk] | intro _ | with_reducible rfl
                 | with_reducible apply since_foldl | with_reducible apply since_foldl_snd | (apply since_pair; (· assumption))
                 | dsimp only | split)

theorem since_freshDraw (id : Nat) (seed : Bytes) (s : State) {r : State} (h : Since r s) : Since r (freshDraw id seed s) := by
  unfold freshDraw
  repeat' (first | assumption | with_reducible apply since_seedInst | with_reducible apply since_genPart
                 | with_reducible apply since_answerDraw | simp only [↓since_mk] | with_reducible rfl
                 | (apply since_pair; (· assumption)) | dsimp only | split)

theorem since_useSeed (u : SeedUse) (seed : Bytes) (s : State) {r : State} (h : Since r s) : Since r (useSeed u seed s) := by
  unfold useSeed
  repeat' (first | assumption | with_reducible apply since_seedInst | with_reducible apply since_retryDraws
                 | with_reducible apply since_freshDraw | simp only [↓since_mk] | with_reducible rfl | dsimp only | split)

theorem since_deliverSeed (seed : Bytes) (s : State) {r : State} (h : Since r s) : Since r (deliverSeed seed s) := by
  unfold deliverSeed
  repeat' (first | assumption | with_reducible apply since_useSeed | with_reducible apply since_seedInst
                 | with_reducible apply since_eachCopy | with_reducible apply since_retryDraws
                 | with_reducible apply since_count | simp only [↓since_mk] | with_reducible rfl | dsimp only | split)

theorem since_condOutput (b : Bytes) (s : State) {r : State} (h : Since r s) : Since r (condOutput b s) := by
  unfold condOutput
  repeat' (first | assumption | with_reducible apply since_deliverSeed | simp only [↓since_mk] | with_reducible rfl | dsimp only
                 | split)

theorem since_execConditionerBlockClose (samples : Bytes) (s : State) {r : State} (h : Since r s) : SinceOut r (execConditionerBlockClose samples s) := by
  unfold execConditionerBlockClose
  repeat' (first | assumption | with_reducible apply since_condOutput | with_reducible apply sinceOut_next | dsimp only | split)

theorem since_execDrbgDraw (s : State) {r : State} (h : Since r s) : SinceOut r (execDrbgDraw s) := by
  unfold execDrbgDraw
  repeat' (first | assumption | with_reducible apply since_tryDraw | with_reducible apply since_count | simp only [↓since_mk]
                 | with_reducible apply sinceOut_next | with_reducible rfl | (apply since_pair; (· assumption)) | dsimp only
                 | split)

theorem since_execDrawTimeout (s : State) {r : State} (h : Since r s) : SinceOut r (execDrawTimeout s) := by
  unfold execDrawTimeout
  repeat' (first | assumption | with_reducible apply since_at | with_reducible apply since_refuseDraw | simp only [↓since_mk]
                 | with_reducible apply sinceOut_next | with_reducible rfl | dsimp only | split)

theorem since_sendOn (k : Nat) (m : LinkMsg) (s : State) {r : State} (h : Since r s) : Since r (sendOn k m s) := by
  unfold sendOn
  repeat' (first | assumption | with_reducible apply since_emit | with_reducible apply since_count | dsimp only | split)

theorem since_sendTo (id : Nat) (m : LinkMsg) (s : State) {r : State} (h : Since r s) : Since r (sendTo id m s) := by
  unfold sendTo
  repeat' (first | assumption | with_reducible apply since_sendOn | dsimp only | split)

theorem since_modTenant (t : Nat) (f : Tenant → Tenant) (s : State) {r : State} (h : Since r s) : Since r (modTenant t f s) := by
  unfold modTenant
  repeat' (first | assumption | simp only [↓since_mk] | with_reducible rfl | dsimp only)

theorem since_sendManager (m : LinkMsg) (s : State) {r : State} (h : Since r s) : Since r (sendManager m s) := by
  unfold sendManager
  repeat' (first | assumption | with_reducible apply since_sendOn | dsimp only | split)

theorem since_setPort (k : Nat) (f : Port → Port) (s : State) {r : State} (h : Since r s) : Since r (setPort k f s) := by
  unfold setPort
  repeat' (first | assumption | simp only [↓since_mk] | with_reducible rfl | dsimp only)

theorem since_trainPort (k : Nat) (s : State) {r : State} (h : Since r s) : Since r (trainPort k s) := by
  unfold trainPort
  repeat' (first | assumption | with_reducible apply since_sendOn | with_reducible apply since_setPort | dsimp only)

theorem since_linksUp (s : State) {r : State} (h : Since r s) : Since r (linksUp s) := by
  unfold linksUp
  repeat' (first | assumption | with_reducible apply since_trainPort | intro _ | with_reducible apply since_foldl
                 | with_reducible apply since_foldl_snd | dsimp only | split)

theorem since_received (k : Nat) (s : State) {r : State} (h : Since r s) : Since r (received k s) := by
  unfold received
  repeat' (first | assumption | with_reducible apply since_count | dsimp only)

theorem since_receivedManager (s : State) {r : State} (h : Since r s) : Since r (receivedManager s) := by
  unfold receivedManager
  repeat' (first | assumption | with_reducible apply since_received | dsimp only | split)

theorem since_receivedFrom (id : Nat) (s : State) {r : State} (h : Since r s) : Since r (receivedFrom id s) := by
  unfold receivedFrom
  repeat' (first | assumption | with_reducible apply since_received | dsimp only | split)

theorem since_countHmac (r : Request) (s : State) {r₀ : State} (h : Since r₀ s) : Since r₀ (countHmac r s) := by
  unfold countHmac
  repeat' (first | assumption | with_reducible apply since_eachCopy | with_reducible apply since_count
                 | with_reducible apply since_getD | dsimp only | split)

theorem since_modUnit (n : Nat) (f : EngineUnit → EngineUnit) (s : State) {r : State} (h : Since r s) : Since r (modUnit n f s) := by
  unfold modUnit
  repeat' (first | assumption | simp only [↓since_mk] | with_reducible rfl | dsimp only)

theorem since_answerRequest (r : Request) (a : Answer) (s : State) {r₀ : State} (h : Since r₀ s) : Since r₀ (answerRequest r a s) := by
  unfold answerRequest
  repeat' (first | assumption | with_reducible apply since_itemAnswer | dsimp only | split)

theorem since_unitTook (n : Nat) (t : Took) {r : State} (h : Since r t.state) : Since r (unitTook n t) := by
  unfold unitTook
  repeat' (first | assumption | with_reducible apply since_modUnit | with_reducible apply since_answerRequest
                 | with_reducible apply since_countHmac | simp only [↓since_mk] | with_reducible rfl | dsimp only | split)

theorem since_takeFill (slot : Nat) (r : Request) (s : State) {r₀ : State} (h : Since r₀ s) : Since r₀ (takeFill slot r s).state := by
  unfold takeFill
  repeat' (first | assumption | dsimp only)

theorem since_deliver (k : KeyReq) (p : Slot) (q : Request) (s : State) {r t : State} {a : Request} (e₀ : deliver k p q s = some (a, t)) (h : Since r s) :
    Since r t := by
  unfold deliver at e₀
  dsimp only at e₀
  obtain ⟨m, _, e⟩ := Option.map_eq_some_iff.mp e₀
  cases e
  exact since_charge _ _ h

theorem since_tookFail (k : KeyReq) (st d : Nat) (s : State) {r : State} (h : Since r s) : Since r (tookFail k st d s).state :=
  since_lookupFailed _ _ _ h

theorem since_askLease (k : KeyReq) (p : Slot) (s : State) {r : State} {t : State} (e₀ : askLease k p s = some t) (h : Since r s) : Since r t := by
  unfold askLease at e₀
  dsimp only at e₀
  repeat' split at e₀
  all_goals (first | (cases e₀; done) | skip)
  all_goals cases e₀
  all_goals
    repeat' (first | assumption | with_reducible apply since_sendManager | with_reducible apply since_imgPutSlot
                   | with_reducible apply since_putSlot | with_reducible apply since_sendOn | with_reducible apply since_count
                   | simp only [↓since_mk] | with_reducible rfl | with_reducible apply since_getD | dsimp only | split)

theorem since_refuse {r s : State} {a b : Nat} (h : Since r s) : Since r (Took.state (.refuse a b s)) := h

theorem since_takeGo (l : List KeyReq) (q : Request) (s : State) {r : State} (h : Since r s) : Since r (takeGo l q s).state := by
  induction l generalizing q s with
  | nil => exact h
  | cons k l ih =>
    have hp : ∀ p s, Since r s → Since r (match deliver k p q s with
        | some u => takeGo l u.1 u.2
        | none => .refuse 0x0802 2 (charge k s) : Took).state := by
      intro p s hs
      split
      · rename_i u e
        exact ih u.1 u.2 (since_deliver k p q s (a := u.1) (t := u.2) e hs)
      · exact since_refuse (since_charge _ _ hs)
    unfold takeGo
    dsimp only
    split
    · exact hp _ _ h
    · exact since_tookFail _ _ _ _ h
    · exact since_slotFatal _ _ h
    · split
      · exact hp _ _ (since_topUp _ _ (since_count _ _ _ h))
      · split
        · rename_i t e
          exact since_askLease _ _ _ e h
        · exact since_tookFail _ _ _ _ h

theorem since_takeDest (r : Request) (s : State) {r₀ : State} (h : Since r₀ s) : Since r₀ (takeDest r s).state := by
  unfold takeDest
  repeat' (first | assumption | with_reducible apply since_getD | dsimp only | split)

theorem since_takeKeys (q : Request) (s : State) {r : State} (h : Since r s) : Since r (takeKeys q s).state := by
  unfold takeKeys
  split
  · exact since_takeFill _ _ _ h
  · have k := since_takeGo (q.keys.drop q.got.length) q s h
    revert k
    cases takeGo (q.keys.drop q.got.length) q s with
    | ready a t => exact fun k => since_takeDest _ _ k
    | refuse a b t => exact id
    | wait a b t => exact id
    | broken t => exact id

theorem since_laneTime (r : Request) (s : State) {r₀ : State} (h : Since r₀ s) : Since r₀ (laneTime r s).2 := by
  unfold laneTime
  repeat' (first | assumption | with_reducible apply since_takeFree | (apply since_pair; (· assumption)) | dsimp only | split)

theorem since_modLane (n : Nat) (f : Lane → Lane) (s : State) {r : State} (h : Since r s) : Since r (modLane n f s) := by
  unfold modLane
  repeat' (first | assumption | simp only [↓since_mk] | with_reducible rfl | dsimp only)

theorem since_setOp (l : Nat) (i : Nat) (f : LaneOp → LaneOp) (s : State) {r : State} (h : Since r s) : Since r (setOp l i f s) := by
  unfold setOp
  repeat' (first | assumption | with_reducible apply since_modLane | dsimp only | split)

theorem since_dropOp (l : Nat) (i : Nat) (s : State) {r : State} (h : Since r s) : Since r (dropOp l i s) := by
  unfold dropOp
  repeat' (first | assumption | with_reducible apply since_modLane | dsimp only | split)

theorem since_laneTook (l : Nat) (i : Nat) (t : Took) {r : State} (h : Since r t.state) : Since r (laneTook l i t) := by
  unfold laneTook
  repeat' (first | assumption | with_reducible apply since_laneTime | with_reducible apply since_setOp
                 | with_reducible apply since_answerRequest | with_reducible apply since_dropOp | simp only [↓since_mk]
                 | with_reducible rfl | (apply since_pair; (· assumption)) | dsimp only | split)

theorem since_resumeLease (slot : Nat) (s : State) {r : State} (h : Since r s) : Since r (resumeLease slot s) := by
  unfold resumeLease
  repeat' (first | assumption | with_reducible apply since_laneTook | with_reducible apply since_unitTook
                 | with_reducible apply since_takeKeys | simp only [↓since_mk] | intro _ | with_reducible rfl
                 | with_reducible apply since_foldl | with_reducible apply since_foldl_snd | dsimp only | split)

theorem since_abortRequest (status : Nat) (detail : Nat) (r : Request) (s : State) {r₀ : State} (h : Since r₀ s) : Since r₀ (abortRequest status detail r s) := by
  unfold abortRequest
  repeat' (first | assumption | with_reducible apply since_itemEnd | dsimp only | split)

theorem since_dropRequest (r : Request) (s : State) {r₀ : State} (h : Since r₀ s) : Since r₀ (dropRequest r s) := by
  unfold dropRequest
  repeat' (first | assumption | simp only [↓since_mk] | with_reducible rfl | dsimp only)

theorem since_abortAll (detail : Nat) (l : List Request) (s : State) {r : State} (h : Since r s) : Since r (abortAll detail l s) := by
  unfold abortAll
  repeat' (first | assumption | with_reducible apply since_abortRequest | with_reducible apply since_dropRequest | intro _
                 | with_reducible apply since_foldl | with_reducible apply since_foldl_snd | dsimp only)

theorem since_setQueue (k : EngineKind) (q : List Request) (s : State) {r : State} (h : Since r s) : Since r (setQueue k q s) := by
  unfold setQueue
  repeat' (first | assumption | simp only [↓since_mk] | with_reducible rfl | dsimp only | split)

theorem since_noneReport (k : EngineKind) (s : State) {r : State} (h : Since r s) : Since r (noneReport k s) := by
  unfold noneReport
  repeat' (first | assumption | with_reducible apply since_containedReport | simp only [↓since_mk] | with_reducible rfl
                 | dsimp only | split)

theorem since_drainKind (k : EngineKind) (s : State) {r : State} (h : Since r s) : Since r (drainKind k s) := by
  unfold drainKind
  repeat' (first | assumption | with_reducible apply since_setQueue | with_reducible apply since_noneReport
                 | with_reducible apply since_abortAll | dsimp only | split)

theorem since_restoreOn (n : Nat) (r : Request) (s : State) {r₀ : State} (h : Since r₀ s) : Since r₀ (restoreOn n r s) := by
  unfold restoreOn
  repeat' (first | assumption | with_reducible apply since_eachCopy | with_reducible apply since_abortRequest
                 | with_reducible apply since_modUnit | with_reducible apply since_count | simp only [↓since_mk]
                 | with_reducible rfl | dsimp only | split)

theorem since_countStart (k : EngineKind) (r : Request) (s : State) {r₀ : State} (h : Since r₀ s) : Since r₀ (countStart k r s) := by
  unfold countStart
  repeat' (first | assumption | with_reducible apply since_count | dsimp only | split)

theorem since_startOn (n : Nat) (k : EngineKind) (r : Request) (s : State) {r₀ : State} (h : Since r₀ s) : Since r₀ (startOn n k r s) := by
  unfold startOn
  repeat' (first | assumption | with_reducible apply since_countStart | with_reducible apply since_unitTook
                 | with_reducible apply since_modUnit | with_reducible apply since_takeKeys
                 | with_reducible apply since_restoreOn | dsimp only | split)

theorem since_execEngineRequestStart (k : EngineKind) (s : State) {r : State} (h : Since r s) : SinceOut r (execEngineRequestStart k s) := by
  unfold execEngineRequestStart
  repeat' (first | assumption | with_reducible apply since_setQueue | with_reducible apply since_drainKind
                 | with_reducible apply since_startOn | with_reducible apply sinceOut_next | dsimp only | split)

theorem since_suspend (n : Nat) (k : EngineKind) (r : Request) (e : Nat) (s : State) {r₀ : State} (h : Since r₀ s) : Since r₀ (suspend n k r e s) := by
  unfold suspend
  repeat' (first | assumption | with_reducible apply since_setQueue | with_reducible apply since_eachCopy
                 | with_reducible apply since_modUnit | with_reducible apply since_count | simp only [↓since_mk]
                 | with_reducible rfl | dsimp only | split)

theorem since_execSegmentEnd (unit : Nat) (s : State) {r : State} (h : Since r s) : SinceOut r (execSegmentEnd unit s) := by
  unfold execSegmentEnd
  split
  · exact h
  dsimp only
  generalize (if isPipe unit = true then EngineKind.sye else EngineKind.dge) = k
  split
  · exact h
  split
  · split
    · exact since_suspend _ _ _ _ _ h
    · exact since_modUnit _ _ _ h
  · exact since_modUnit _ _ _ h

theorem since_countBlocks (k : EngineKind) (r : Request) (s : State) {r₀ : State} (h : Since r₀ s) : Since r₀ (countBlocks k r s) := by
  unfold countBlocks
  repeat' (first | assumption | with_reducible apply since_takeFree | with_reducible apply since_countN
                 | (apply since_pair; (· assumption)) | dsimp only | split)

theorem since_writeNew (r : Request) (d : NewSlot) (type : Nat) (usage : BitVec 16) (expo : Bool) (key : Bytes) (s : State) {r₀ : State} (h : Since r₀ s) : Since r₀ (writeNew r d type usage expo key s) := by
  unfold writeNew
  repeat' (first | assumption | with_reducible apply since_modItem | with_reducible apply since_unfree
                 | with_reducible apply since_putSlot | with_reducible apply since_getD | dsimp only | split)

theorem since_finish (r : Request) (x : Result) (s : State) {r₀ : State} (h : Since r₀ s) : Since r₀ (finish r x s) := by
  unfold finish
  repeat' (first | assumption | with_reducible apply since_itemInternal | with_reducible apply since_modItem
                 | with_reducible apply since_writeNew | with_reducible apply since_answerRequest | dsimp only | split)

theorem since_unitDone (n : Nat) (s : State) {r : State} (h : Since r s) : Since r (unitDone n s) := by
  unfold unitDone
  repeat' (first | assumption | with_reducible apply since_finish | with_reducible apply since_modUnit
                 | with_reducible apply since_countBlocks | dsimp only | split)

theorem since_drainBne (s : State) {r : State} (h : Since r s) : Since r (drainBne s) := by
  unfold drainBne
  repeat' (first | assumption | with_reducible apply since_abortAll | with_reducible apply since_containedReport
                 | simp only [↓since_mk] | with_reducible rfl | dsimp only | split)

theorem since_laneOffline (n : Nat) (s : State) {r : State} (h : Since r s) : Since r (laneOffline n s) := by
  unfold laneOffline
  repeat' (first | assumption | with_reducible apply since_abortAll | with_reducible apply since_drainBne
                 | with_reducible apply since_modLane | simp only [↓since_mk] | with_reducible rfl | dsimp only | split)

theorem since_laneFault (n : Nat) (cause : Nat) (addr : Nat) (wire : Bool) (s : State) {r : State} (h : Since r s) : Since r (laneFault n cause addr wire s) := by
  unfold laneFault
  repeat' (first | assumption | with_reducible apply since_setFsrc | with_reducible apply since_abortAll
                 | with_reducible apply since_laneOffline | with_reducible apply since_modLane
                 | with_reducible apply since_containedReport | dsimp only | split)

theorem since_laneDone (l : Nat) (i : Nat) (s : State) {r : State} (h : Since r s) : Since r (laneDone l i s) := by
  unfold laneDone
  repeat' (first | assumption | with_reducible apply since_at | with_reducible apply since_eachCopy
                 | with_reducible apply since_finish | with_reducible apply since_genPart | with_reducible apply since_laneFault
                 | with_reducible apply since_setOp | with_reducible apply since_dropOp | with_reducible apply since_count
                 | (apply since_pair; (· assumption)) | dsimp only | split)

theorem since_reserve (s : State) {r : State} (h : Since r s) : Since r (reserve s) := by
  unfold reserve
  repeat' (first | assumption | with_reducible apply since_count | simp only [↓since_mk] | with_reducible rfl | dsimp only
                 | split)

theorem since_startLane (l : Nat) (i : Nat) (r : Request) (s : State) {r₀ : State} (h : Since r₀ s) : Since r₀ (startLane l i r s) := by
  unfold startLane
  repeat' (first | assumption | with_reducible apply since_laneTook | with_reducible apply since_takeKeys
                 | with_reducible apply since_modLane | with_reducible apply since_count | simp only [↓since_mk]
                 | with_reducible rfl | dsimp only | split)

theorem since_execBneRequestStart (s : State) {r : State} (h : Since r s) : SinceOut r (execBneRequestStart s) := by
  unfold execBneRequestStart
  repeat' (first | assumption | with_reducible apply since_startLane | with_reducible apply since_reserve
                 | with_reducible apply since_drainBne | with_reducible apply sinceOut_next | dsimp only | split)

theorem since_execHcacheFillWriteback (s : State) {r : State} (h : Since r s) : SinceOut r (execHcacheFillWriteback s) := by
  unfold execHcacheFillWriteback
  repeat' (first | assumption | with_reducible apply since_modUnit | simp only [↓since_mk] | with_reducible apply sinceOut_next
                 | with_reducible rfl | with_reducible apply since_getD | dsimp only | split)

theorem since_unitOffline (n : Nat) (s : State) {r : State} (h : Since r s) : Since r (unitOffline n s) := by
  unfold unitOffline
  repeat' (first | assumption | with_reducible apply since_modUnit | with_reducible apply since_drainKind
                 | simp only [↓since_mk] | with_reducible rfl | dsimp only | split)

theorem since_unitFault (n : Nat) (cause : Nat) (addr : Nat) (wire : Bool) (s : State) {r : State} (h : Since r s) : Since r (unitFault n cause addr wire s) := by
  unfold unitFault
  repeat' (first | assumption | with_reducible apply since_unitOffline | with_reducible apply since_modUnit
                 | with_reducible apply since_setFsrc | with_reducible apply since_abortAll
                 | with_reducible apply since_containedReport | simp only [↓since_mk] | with_reducible rfl | dsimp only | split)

theorem since_exhaustLease (p : Nat → Bool) (s : State) {r : State} (h : Since r s) : Since r (exhaustLease p s) := by
  unfold exhaustLease
  refine since_foldl _ (fun r s b h => ?_) ((since_mk rfl rfl).mpr h)
  dsimp only
  split
  · exact since_unitTook _ _ (since_refuse (since_lookupFailed _ _ _ h))
  · exact since_laneTook _ _ _ (since_refuse (since_lookupFailed _ _ _ h))

theorem since_setMpu (m : Nat) (f : Mpu → Mpu) (s : State) {r : State} (h : Since r s) : Since r (setMpu m f s) := by
  unfold setMpu
  repeat' (first | assumption | simp only [↓since_mk] | with_reducible rfl | dsimp only)

theorem since_swapIn (m : Nat) (set : Table (BitVec 64)) (s : State) {r : State} (h : Since r s) : Since r (swapIn m set s) := by
  unfold swapIn
  repeat' (first | assumption | with_reducible apply since_setMpu | dsimp only | split)

theorem rows_completeCopy (l : LifeCycle) (a : List Nat) : RowsGrown a (completeCopy l a) := by
  unfold completeCopy
  split
  · refine ⟨?_, List.prefix_append _ _⟩
    rw [List.length_append, List.length_dropLast]
    show a.length ≤ a.length - 1 + 1
    omega
  · split
    · exact .refl a
    · refine ⟨?_, (List.dropLast_prefix a).trans (List.prefix_append _ _)⟩
      rw [List.length_append]
      exact Nat.le_add_right _ _

theorem since_completeCopies (l : LifeCycle) (s : State) {r : State} (h : Since r s) : Since r (completeCopies l s) :=
  since_otp h { OtpGrown.refl s.otp with copies := ⟨rows_completeCopy l _, rows_completeCopy l _, rows_completeCopy l _⟩ }

theorem since_freshSap (s : State) {r : State} (h : Since r s) : Since r (freshSap s) := by
  unfold freshSap
  repeat' (first | assumption | with_reducible apply since_takeFree | simp only [↓since_mk] | with_reducible rfl
                 | (apply since_pair; (· assumption)) | dsimp only)

theorem since_burnFuse (s : State) {r : State} (h : Since r s) : Since r (burnFuse s) := by
  unfold burnFuse
  split
  · exact h
  · rename_i hn
    refine since_otp (since_takeFree _ _ h) { OtpGrown.refl (takeFree (2 ^ 256) s).2.otp with fuse := ?_ }
    intro f hf
    have : s.otp.fuse = some f := hf
    rw [hn] at this
    cases this

theorem since_eraseFlash (s : State) {r : State} (h : Since r s) : Since r (eraseFlash s) := by
  unfold eraseFlash
  repeat' (first | assumption | simp only [↓since_mk] | with_reducible rfl | dsimp only | split)

theorem since_eraseRecords (s : State) {r : State} (h : Since r s) : Since r (eraseRecords s) := by
  unfold eraseRecords
  repeat' (first | assumption | simp only [↓since_mk] | with_reducible rfl | dsimp only)

theorem since_clearSap (s : State) {r : State} (h : Since r s) : Since r (clearSap s) := by
  unfold clearSap
  repeat' (first | assumption | simp only [↓since_mk] | with_reducible rfl | dsimp only)

theorem since_transitionEffects (a b : LifeCycle) (s : State) {r : State} (h : Since r s) : Since r (transitionEffects a b s) := by
  unfold transitionEffects
  split
  · exact h
  · exact h
  · exact since_freshSap _ (since_burnFuse _ (since_eraseFlash _ h))
  · exact since_otp h { OtpGrown.refl s.otp with klock := fun _ => rfl }
  · exact since_eraseRecords _ (since_clearSap _ (since_eraseFlash _ h))
  · dsimp only
    have k : Since r (if a == .analysis then eraseFlash s else eraseRecords (clearSap (eraseFlash s))) := by
      split
      · exact since_eraseFlash _ h
      · exact since_eraseRecords _ (since_clearSap _ (since_eraseFlash _ h))
    exact since_otp k { OtpGrown.refl _ with fuse := fun _ _ => .inr rfl }

theorem since_lifeCycleVote (s : State) {r : State} (h : Since r s) : Since r (lifeCycleVote s) := by
  unfold lifeCycleVote
  split
  · exact (since_mk rfl rfl).mpr (since_completeCopies _ _ (since_transitionEffects _ _ _ h))
  · exact (since_mk (x := { s with otp := { s.otp with force := voted s.otp } }) rfl rfl).mpr (since_otp h { OtpGrown.refl s.otp with })

theorem since_startSources (s : State) {r : State} (h : Since r s) : Since r (startSources s) := by
  unfold startSources
  repeat' (first | assumption | simp only [↓since_mk] | with_reducible rfl | dsimp only)

theorem since_setRoot (u : RootUse) (root : Bytes) (s : State) {r : State} (h : Since r s) : Since r (setRoot u root s) := by
  unfold setRoot
  repeat' (first | assumption | simp only [↓since_mk] | with_reducible rfl | dsimp only)

theorem since_buildRoot (s : State) {r : State} (h : Since r s) : Since r (buildRoot s) := by
  unfold buildRoot
  repeat' (first | assumption | with_reducible apply since_setRoot | with_reducible apply since_freshSap | simp only [↓since_mk]
                 | with_reducible rfl | dsimp only | split)

theorem since_checkKept (s : State) {r : State} (h : Since r s) : Since r (checkKept s) := by
  unfold checkKept
  repeat' (first | assumption | simp only [↓since_mk] | dsimp only | split | refine since_table h rfl (fun _ => rfl))

theorem getLsbD_mask (l : Table Nat) (p : Nat → Bool) (a : BitVec 20) (i : Nat) (h : a.getLsbD i = true ∨ ∃ e ∈ l, p e.2 = true ∧ e.1 = i ∧ i < 20) :
    (l.foldl (fun (a : BitVec 20) (e : Nat × Nat) => if p e.2 then a ||| BitVec.ofNat 20 (2 ^ e.1) else a) a).getLsbD i = true := by
  induction l generalizing a with
  | nil =>
    rcases h with h | ⟨e, he, _⟩
    · exact h
    · cases he
  | cons x l ih =>
    rw [List.foldl_cons]
    apply ih
    rcases h with h | ⟨e, he, hp, hi, hlt⟩
    · left
      split
      · rw [BitVec.getLsbD_or, h, Bool.true_or]
      · exact h
    · rcases List.mem_cons.mp he with rfl | he
      · left
        rw [if_pos hp, BitVec.getLsbD_or, BitVec.getLsbD_ofNat, hi]
        simp [hlt]
      · exact .inr ⟨e, he, hp, hi, hlt⟩

theorem since_burnRaises (s : State) {r : State} (h : Since r s) : Since r (burnRaises s) := by
  refine since_otp h { OtpGrown.refl s.otp with raises := fun i => ⟨fun hb => ?_, fun hc => ?_⟩ }
  · rw [BitVec.getLsbD_or, hb, Bool.true_or]
  · rw [BitVec.getLsbD_or, hc, Bool.true_or]

theorem since_openDebug (rights : BitVec 16) (s : State) {r : State} (h : Since r s) : Since r (openDebug rights s) := by
  unfold openDebug
  repeat' (first | assumption | with_reducible apply since_swapIn | simp only [↓since_mk] | with_reducible rfl | dsimp only)

theorem since_chooseImage (s : State) {r : State} (h : Since r s) : Since r (chooseImage s) := by
  unfold chooseImage
  repeat' (first | assumption | simp only [↓since_mk] | with_reducible rfl | dsimp only | split)

theorem since_plinthOnly (s : State) {r : State} (h : Since r s) : Since r (plinthOnly s) := since_table h rfl (fun _ => rfl)

theorem since_driveRecord (n : Nat) (d : Drive) (s : State) {r : State} (h : Since r s) : Since r (driveRecord n d s) := by
  unfold driveRecord
  repeat' (first | assumption | with_reducible apply since_cellarRecord | dsimp only | split)

theorem since_closedAtStart (s : State) {r : State} (h : Since r s) : Since r (closedAtStart s) := by
  unfold closedAtStart
  repeat' (first | assumption | with_reducible apply since_cellarRecord | simp only [↓since_mk] | with_reducible rfl | dsimp only)

theorem since_formatCellar (serial : Nat) (s : State) {r : State} (h : Since r s) : Since r (formatCellar serial s) := by
  unfold formatCellar
  repeat' (first | assumption | simp only [↓since_mk] | with_reducible rfl | dsimp only)

theorem since_replayLog (r : RootRec) (s : State) {r₀ : State} (h : Since r₀ s) : Since r₀ (replayLog r s) := by
  unfold replayLog
  repeat' (first | assumption | simp only [↓since_mk] | with_reducible rfl | dsimp only)

theorem since_cellarStart (s : State) {r : State} (h : Since r s) : Since r (cellarStart s) := by
  unfold cellarStart
  repeat' (first | assumption | with_reducible apply since_driveRecord | with_reducible apply since_formatCellar
                 | with_reducible apply since_takeFree | with_reducible apply since_closedAtStart
                 | with_reducible apply since_replayLog | simp only [↓since_mk] | with_reducible rfl
                 | (apply since_pair; (· assumption)) | dsimp only | split)

theorem since_roleRecord (s : State) {r : State} (h : Since r s) : Since r (roleRecord s) := by
  unfold roleRecord
  repeat' (first | assumption | with_reducible apply since_armatureRecord | dsimp only | split)

theorem since_loadUnits (s : State) {r : State} (h : Since r s) : Since r (loadUnits s) := by
  unfold loadUnits
  repeat' (first | assumption | simp only [↓since_mk] | with_reducible rfl | dsimp only)

theorem since_loadUpdateState (s : State) {r : State} (h : Since r s) : Since r (loadUpdateState s) := by
  unfold loadUpdateState
  repeat' (first | assumption | simp only [↓since_mk] | with_reducible rfl | dsimp only | split)

theorem since_batCheck (s : State) {r : State} (h : Since r s) : Since r (batCheck s) := by
  unfold batCheck
  repeat' (first | assumption | with_reducible apply since_armatureRecord | simp only [↓since_mk] | with_reducible rfl
                 | dsimp only | split)

theorem since_renewInsts (s : State) {r : State} (h : Since r s) : Since r (renewInsts s) := by
  unfold renewInsts
  repeat' (first | assumption | with_reducible apply since_instantiate | intro _ | with_reducible apply since_foldl
                 | with_reducible apply since_foldl_snd | dsimp only | split)

theorem since_refillCache (s : State) {r : State} (h : Since r s) : Since r (refillCache s) := by
  unfold refillCache
  repeat' (first | assumption | with_reducible apply since_giveEntry | intro _ | with_reducible apply since_foldl
                 | with_reducible apply since_foldl_snd | dsimp only)

theorem since_imageFails (s : State) {r : State} (h : Since r s) : Since r (imageFails s) := by
  unfold imageFails
  repeat' (first | assumption | with_reducible apply since_wipeSlot | simp only [↓since_mk] | intro _ | with_reducible rfl
                 | with_reducible apply since_foldl | with_reducible apply since_foldl_snd | dsimp only)

theorem since_restoreSlots (m : VineImage) (s : State) {r : State} (h : Since r s) : Since r (restoreSlots m s) := by
  unfold restoreSlots
  repeat' (first | assumption | with_reducible apply since_giveEntry | with_reducible apply since_putSlot | intro _
                 | with_reducible apply since_foldl | with_reducible apply since_foldl_snd | dsimp only)

theorem since_vineStart (s : State) {r : State} (h : Since r s) : Since r (vineStart s) := by
  unfold vineStart
  repeat' (first | assumption | with_reducible apply since_refillCache | with_reducible apply since_imageFails
                 | with_reducible apply since_restoreSlots | simp only [↓since_mk] | with_reducible rfl | dsimp only | split)

theorem since_startArmature (s : State) {r : State} (h : Since r s) : Since r (startArmature s) := by
  unfold startArmature
  repeat' (first | assumption | with_reducible apply since_vineStart | with_reducible apply since_cellarStart
                 | with_reducible apply since_linksUp | with_reducible apply since_loadUpdateState
                 | with_reducible apply since_batCheck | with_reducible apply since_loadUnits
                 | with_reducible apply since_renewInsts | with_reducible apply since_roleRecord | simp only [↓since_mk]
                 | with_reducible rfl | dsimp only)

theorem since_startUp (s : State) {r : State} (h : Since r s) : Since r (startUp s) := by
  unfold startUp
  repeat' (first | assumption | with_reducible apply since_openDebug | with_reducible apply since_checkKept
                 | with_reducible apply since_startArmature | with_reducible apply since_plinthOnly
                 | with_reducible apply since_burnRaises | with_reducible apply since_buildRoot
                 | with_reducible apply since_startSources | with_reducible apply since_lifeCycleVote
                 | with_reducible apply since_chooseImage | simp only [↓since_mk] | with_reducible rfl | dsimp only | split)

theorem since_freeXrst (s : State) {r : State} (h : Since r s) : Since r (freeXrst s) := by
  unfold freeXrst
  repeat' (first | assumption | with_reducible apply since_wipeSlot | intro _ | with_reducible apply since_foldl
                 | with_reducible apply since_foldl_snd | dsimp only)

theorem since_partReset (cause : ResetCause) (k : Kept) (status detail : Nat) (s : State) {r : State} (h : Since r s) :
    Since r (partReset cause k status detail s) := by
  have hk : Since r (if k.slots then freeXrst s else s) := by
    split
    · exact since_freeXrst _ h
    · exact h
  refine since_table hk rfl (fun hs => ?_)
  revert hs
  generalize (if k.slots = true then freeXrst s else s).dsp = d
  intro hs
  show tsorted (resetDsp k status detail d).items = true
  unfold resetDsp
  split
  · dsimp only
    exact tsorted_tmap (tsorted_filter hs _) _
  · rfl

theorem since_restart (cause : ResetCause) (k : Kept) (status : Nat) (detail : Nat) (s : State) {r : State} (h : Since r s) : Since r (restart cause k status detail s) := by
  unfold restart
  repeat' (first | assumption | with_reducible apply since_partReset | with_reducible apply since_startUp | dsimp only)

theorem since_giveUp (s : State) {r : State} (h : Since r s) : Since r (giveUp s) := by
  unfold giveUp
  repeat' (first | assumption | with_reducible apply since_restart | with_reducible apply since_closeGates | dsimp only)

theorem since_selfCheck (before : State) (after : State) {r : State} (h : Since r after) : Since r (selfCheck before after) := by
  unfold selfCheck
  repeat' (first | assumption | with_reducible apply since_giveUp | dsimp only | split)

theorem since_Svc_len (ok : Bool) : Svc.Keeps (Svc.len ok) := by
  unfold Svc.len
  repeat' (first | assumption | with_reducible apply keep_check | with_reducible apply keep_pure
                 | with_reducible apply keep_bind | with_reducible apply keep_map | intro _ | dsimp only)

theorem since_Svc_zero (it : Item) (l : List (Nat × Nat)) : Svc.Keeps (Svc.zero it l) := by
  unfold Svc.zero
  repeat' (first | assumption | with_reducible apply keep_check | with_reducible apply keep_pure
                 | with_reducible apply keep_bind | with_reducible apply keep_map | intro _ | dsimp only)

theorem since_Svc_range (ok : Bool) : Svc.Keeps (Svc.range ok) := by
  unfold Svc.range
  repeat' (first | assumption | with_reducible apply keep_check | with_reducible apply keep_pure
                 | with_reducible apply keep_bind | with_reducible apply keep_map | intro _ | dsimp only)

theorem since_Svc_bad (ok : Bool) (detail : Nat) : Svc.Keeps (Svc.bad ok detail) := by
  unfold Svc.bad
  repeat' (first | assumption | with_reducible apply keep_check | with_reducible apply keep_pure
                 | with_reducible apply keep_bind | with_reducible apply keep_map | intro _ | dsimp only)

theorem since_Svc_decideOk {f : State → Answer × State} (id : Nat) (hf : ∀ r s, Since r s → Since r (f s).2) : Svc.Keeps (Svc.decideOk id f) := by
  refine keep_bind (keep_decide id hf) (fun a => ?_)
  cases a with
  | err st d => exact keep_finish st d []
  | _ => exact keep_pure _

theorem since_slotDecision (id : Nat) (tenant : Nat) (life : Nat) (s : State) {r : State} (h : Since r s) : Since r (slotDecision id tenant life s).2 := by
  unfold slotDecision
  repeat' (first | assumption | with_reducible apply since_modItem | with_reducible apply since_reserveSlot
                 | (apply since_pair; (· assumption)) | dsimp only | split)

theorem since_Svc_newSlot (id : Nat) (it : Item) (b : SlotBlock) (expo : Bool) (fromKey : Bool) : Svc.Keeps (Svc.newSlot id it b expo fromKey) := by
  unfold Svc.newSlot
  repeat' (first | assumption | with_reducible apply since_Svc_decideOk | with_reducible apply since_Svc_bad
                 | with_reducible apply since_slotDecision | with_reducible apply keep_pure | with_reducible apply keep_bind
                 | with_reducible apply keep_map | intro _ | (apply since_pair; (· assumption)) | dsimp only)

theorem since_Svc_handle (h : Nat) : Svc.Keeps (Svc.handle h) := by
  unfold Svc.handle
  repeat' (first | assumption | with_reducible apply keep_check | with_reducible apply keep_pure
                 | with_reducible apply keep_bind | with_reducible apply keep_map | intro _ | dsimp only)

theorem since_Svc_pan (b : Bytes) (lo : Nat) (hi : Nat) : Svc.Keeps (Svc.pan b lo hi) := by
  unfold Svc.pan
  repeat' (first | assumption | with_reducible apply keep_finish | with_reducible apply keep_pure
                 | with_reducible apply keep_bind | with_reducible apply keep_map | intro _ | dsimp only | split)

theorem since_drawBelow (id : Nat) (it : Item) (limit n k : Nat) (acc : Bytes) : Svc.Keeps (drawBelow id it limit n k acc) := by
  induction k generalizing acc with
  | zero => exact keep_pure _
  | succ f ih =>
    unfold drawBelow
    split
    · exact keep_pure _
    · exact keep_bind (since_Svc_draw _ _ _) (fun b => ih _)

theorem since_verified (ok : Bool) : Svc.Keeps (verified ok) := by
  unfold verified
  repeat' (first | assumption | with_reducible apply since_done | with_reducible apply keep_check
                 | with_reducible apply keep_pure | with_reducible apply keep_bind | with_reducible apply keep_map | intro _
                 | dsimp only)

end Sys2Proof.Machine
end

