-- ==== Sys2Proof/Laws/SinceServices.lean ====
section
/-! SUPPORT. Each operation undoes nothing (Since): the services of classes 01h to 0Bh, grafts, the vault, the vine, the guard. -/

set_option Elab.async false

set_option linter.all false

namespace Sys2Proof.Machine

theorem since_fillDraw (id : Nat) (it : Item) (fmt : Nat) (n : Nat) : Svc.Keeps (fillDraw id it fmt n) := by
  unfold fillDraw
  repeat' (first | assumption | with_reducible apply since_Svc_draw | with_reducible apply since_drawBelow
                 | with_reducible apply keep_pure | with_reducible apply keep_bind | with_reducible apply keep_map | intro _
                 | dsimp only | split)

theorem since_translateOut (id : Nat) (it : Item) (a : Answer) (ifmt : Nat) (ofmt : Nat) (okey : Nat) (pan : List Nat) (fill : Bytes) : Svc.Keeps (translateOut id it a ifmt ofmt okey pan fill) := by
  unfold translateOut
  repeat' (first | assumption | with_reducible apply since_done | with_reducible apply keep_finish
                 | with_reducible apply since_Svc_engine | with_reducible apply keep_pure | with_reducible apply keep_bind
                 | with_reducible apply keep_map | intro _ | dsimp only | split)

theorem since_svcPinTranslate (id : Nat) (it : Item) : Svc.Keeps (svcPinTranslate id it) := by
  unfold svcPinTranslate
  repeat' (first | assumption | with_reducible apply since_Svc_zero | with_reducible apply since_fillDraw
                 | with_reducible apply since_Svc_range | with_reducible apply since_translateOut
                 | with_reducible apply since_Svc_handle | with_reducible apply since_Svc_bad
                 | with_reducible apply since_Svc_len | with_reducible apply since_Svc_pan
                 | with_reducible apply since_Svc_engine | with_reducible apply keep_pure | with_reducible apply keep_bind
                 | with_reducible apply keep_map | intro _ | dsimp only | split)

theorem since_execPinTranslate (item : Nat) (s : State) {r : State} (h : Since r s) : SinceOut r (execPinTranslate item s) := by
  unfold execPinTranslate
  repeat' (first | assumption | with_reducible apply since_svcPinTranslate | with_reducible apply since_runOpcode
                 | with_reducible apply sinceOut_next | intro _ | dsimp only)

theorem since_Svc_refRange (r : RefBlock) : Svc.Keeps (Svc.refRange r) := by
  unfold Svc.refRange
  repeat' (first | assumption | with_reducible apply since_Svc_range | with_reducible apply since_Svc_handle
                 | with_reducible apply keep_pure | with_reducible apply keep_bind | with_reducible apply keep_map | intro _
                 | dsimp only)

theorem since_Svc_refAgree (r : RefBlock) (read : Bool) : Svc.Keeps (Svc.refAgree r read) := by
  unfold Svc.refAgree
  repeat' (first | assumption | with_reducible apply since_Svc_bad | with_reducible apply keep_pure
                 | with_reducible apply keep_bind | with_reducible apply keep_map | intro _ | dsimp only | split)

theorem since_svcPinVerify (id : Nat) (it : Item) : Svc.Keeps (svcPinVerify id it) := by
  unfold svcPinVerify
  repeat' (first | assumption | with_reducible apply since_Svc_refRange | with_reducible apply since_Svc_zero
                 | with_reducible apply since_Svc_range | with_reducible apply since_Svc_refAgree
                 | with_reducible apply since_Svc_len | with_reducible apply since_Svc_pan | with_reducible apply since_verified
                 | with_reducible apply since_Svc_engine | with_reducible apply keep_pure | with_reducible apply keep_bind
                 | with_reducible apply keep_map | intro _ | dsimp only)

theorem since_execPinVerify (item : Nat) (s : State) {r : State} (h : Since r s) : SinceOut r (execPinVerify item s) := by
  unfold execPinVerify
  repeat' (first | assumption | with_reducible apply since_svcPinVerify | with_reducible apply since_runOpcode
                 | with_reducible apply sinceOut_next | intro _ | dsimp only)

theorem since_svcPinChange (id : Nat) (it : Item) : Svc.Keeps (svcPinChange id it) := by
  unfold svcPinChange
  repeat' (first | assumption | with_reducible apply since_Svc_refRange | with_reducible apply since_done
                 | with_reducible apply since_Svc_zero | with_reducible apply since_Svc_range
                 | with_reducible apply since_Svc_refAgree | with_reducible apply since_Svc_bad
                 | with_reducible apply keep_check | with_reducible apply since_Svc_len | with_reducible apply since_Svc_pan
                 | with_reducible apply keep_finish | with_reducible apply since_Svc_engine | with_reducible apply keep_pure
                 | with_reducible apply keep_bind | with_reducible apply keep_map | intro _ | dsimp only | split)

theorem since_execPinChange (item : Nat) (s : State) {r : State} (h : Since r s) : SinceOut r (execPinChange item s) := by
  unfold execPinChange
  repeat' (first | assumption | with_reducible apply since_runOpcode | with_reducible apply since_svcPinChange
                 | with_reducible apply sinceOut_next | intro _ | dsimp only)

theorem since_svcPinGenerate (id : Nat) (it : Item) : Svc.Keeps (svcPinGenerate id it) := by
  unfold svcPinGenerate
  repeat' (first | assumption | with_reducible apply since_Svc_refRange | with_reducible apply since_done
                 | with_reducible apply since_Svc_zero | with_reducible apply since_fillDraw
                 | with_reducible apply since_Svc_range | with_reducible apply since_Svc_refAgree
                 | with_reducible apply since_Svc_bad | with_reducible apply since_Svc_len
                 | with_reducible apply since_drawBelow | with_reducible apply since_Svc_pan
                 | with_reducible apply since_Svc_engine | with_reducible apply keep_pure | with_reducible apply keep_bind
                 | with_reducible apply keep_map | intro _ | with_reducible apply since_getD | dsimp only | split)

theorem since_execPinGenerate (item : Nat) (s : State) {r : State} (h : Since r s) : SinceOut r (execPinGenerate item s) := by
  unfold execPinGenerate
  repeat' (first | assumption | with_reducible apply since_runOpcode | with_reducible apply since_svcPinGenerate
                 | with_reducible apply sinceOut_next | intro _ | dsimp only)

theorem since_cvvChecks (it : Item) (len : Nat) : Svc.Keeps (cvvChecks it len) := by
  unfold cvvChecks
  repeat' (first | assumption | with_reducible apply since_Svc_zero | with_reducible apply since_Svc_range
                 | with_reducible apply since_Svc_len | with_reducible apply since_Svc_pan | with_reducible apply keep_pure
                 | with_reducible apply keep_bind | with_reducible apply keep_map | intro _ | dsimp only)

theorem since_cvvValue (id : Nat) (it : Item) (pan : List Nat) : Svc.Keeps (cvvValue id it pan) := by
  unfold cvvValue
  repeat' (first | assumption | with_reducible apply since_Svc_engine | with_reducible apply keep_pure
                 | with_reducible apply keep_bind | with_reducible apply keep_map | intro _ | dsimp only)

theorem since_svcCvvGenerate (id : Nat) (it : Item) : Svc.Keeps (svcCvvGenerate id it) := by
  unfold svcCvvGenerate
  repeat' (first | assumption | with_reducible apply since_done | with_reducible apply since_cvvChecks
                 | with_reducible apply since_cvvValue | with_reducible apply keep_pure | with_reducible apply keep_bind
                 | with_reducible apply keep_map | intro _ | dsimp only)

theorem since_execCvvGenerate (item : Nat) (s : State) {r : State} (h : Since r s) : SinceOut r (execCvvGenerate item s) := by
  unfold execCvvGenerate
  repeat' (first | assumption | with_reducible apply since_runOpcode | with_reducible apply since_svcCvvGenerate
                 | with_reducible apply sinceOut_next | intro _ | dsimp only)

theorem since_svcCvvVerify (id : Nat) (it : Item) : Svc.Keeps (svcCvvVerify id it) := by
  unfold svcCvvVerify
  repeat' (first | assumption | with_reducible apply since_Svc_range | with_reducible apply since_cvvChecks
                 | with_reducible apply since_verified | with_reducible apply since_cvvValue | with_reducible apply keep_pure
                 | with_reducible apply keep_bind | with_reducible apply keep_map | intro _ | dsimp only)

theorem since_execCvvVerify (item : Nat) (s : State) {r : State} (h : Since r s) : SinceOut r (execCvvVerify item s) := by
  unfold execCvvVerify
  repeat' (first | assumption | with_reducible apply since_runOpcode | with_reducible apply since_svcCvvVerify
                 | with_reducible apply sinceOut_next | intro _ | dsimp only)

theorem since_svcArqcVerify (id : Nat) (it : Item) : Svc.Keeps (svcArqcVerify id it) := by
  unfold svcArqcVerify
  repeat' (first | assumption | with_reducible apply since_done | with_reducible apply since_Svc_zero
                 | with_reducible apply since_Svc_range | with_reducible apply since_Svc_bad
                 | with_reducible apply since_Svc_len | with_reducible apply since_Svc_pan
                 | with_reducible apply since_Svc_engine | with_reducible apply keep_pure | with_reducible apply keep_bind
                 | with_reducible apply keep_map | intro _ | dsimp only | split)

theorem since_execArqcVerify (item : Nat) (s : State) {r : State} (h : Since r s) : SinceOut r (execArqcVerify item s) := by
  unfold execArqcVerify
  repeat' (first | assumption | with_reducible apply since_svcArqcVerify | with_reducible apply since_runOpcode
                 | with_reducible apply sinceOut_next | intro _ | dsimp only)

theorem since_svcScriptMac (id : Nat) (it : Item) : Svc.Keeps (svcScriptMac id it) := by
  unfold svcScriptMac
  repeat' (first | assumption | with_reducible apply since_done | with_reducible apply since_Svc_zero
                 | with_reducible apply since_Svc_range | with_reducible apply since_Svc_len
                 | with_reducible apply since_Svc_pan | with_reducible apply since_Svc_engine | with_reducible apply keep_pure
                 | with_reducible apply keep_bind | with_reducible apply keep_map | intro _ | dsimp only)

theorem since_execScriptMac (item : Nat) (s : State) {r : State} (h : Since r s) : SinceOut r (execScriptMac item s) := by
  unfold execScriptMac
  repeat' (first | assumption | with_reducible apply since_runOpcode | with_reducible apply since_svcScriptMac
                 | with_reducible apply sinceOut_next | intro _ | dsimp only)

theorem since_svcScriptEncrypt (id : Nat) (it : Item) : Svc.Keeps (svcScriptEncrypt id it) := by
  unfold svcScriptEncrypt
  repeat' (first | assumption | with_reducible apply since_done | with_reducible apply since_Svc_zero
                 | with_reducible apply since_Svc_range | with_reducible apply since_Svc_handle
                 | with_reducible apply since_Svc_bad | with_reducible apply since_Svc_len | with_reducible apply since_Svc_pan
                 | with_reducible apply since_Svc_engine | with_reducible apply keep_pure | with_reducible apply keep_bind
                 | with_reducible apply keep_map | intro _ | dsimp only | split)

theorem since_execScriptEncrypt (item : Nat) (s : State) {r : State} (h : Since r s) : SinceOut r (execScriptEncrypt item s) := by
  unfold execScriptEncrypt
  repeat' (first | assumption | with_reducible apply since_svcScriptEncrypt | with_reducible apply since_runOpcode
                 | with_reducible apply sinceOut_next | intro _ | dsimp only)

theorem since_Svc_dukptRange (it : Item) : Svc.Keeps (Svc.dukptRange it) := by
  unfold Svc.dukptRange
  repeat' (first | assumption | with_reducible apply since_Svc_range | with_reducible apply keep_pure
                 | with_reducible apply keep_bind | with_reducible apply keep_map | intro _ | dsimp only)

theorem since_Svc_dukptAgree (it : Item) (wkts : List Nat) : Svc.Keeps (Svc.dukptAgree it wkts) := by
  unfold Svc.dukptAgree
  repeat' (first | assumption | with_reducible apply since_Svc_bad | with_reducible apply keep_pure
                 | with_reducible apply keep_bind | with_reducible apply keep_map | intro _ | dsimp only | split)

theorem since_svcDukptDerive (id : Nat) (it : Item) : Svc.Keeps (svcDukptDerive id it) := by
  unfold svcDukptDerive
  repeat' (first | assumption | with_reducible apply since_done | with_reducible apply since_Svc_zero
                 | with_reducible apply since_Svc_newSlot | with_reducible apply since_Svc_range
                 | with_reducible apply since_Svc_dukptRange | with_reducible apply since_Svc_dukptAgree
                 | with_reducible apply since_Svc_len | with_reducible apply since_Svc_engine | with_reducible apply keep_pure
                 | with_reducible apply keep_bind | with_reducible apply keep_map | intro _ | dsimp only | split)

theorem since_execDukptDerive (item : Nat) (s : State) {r : State} (h : Since r s) : SinceOut r (execDukptDerive item s) := by
  unfold execDukptDerive
  repeat' (first | assumption | with_reducible apply since_runOpcode | with_reducible apply since_svcDukptDerive
                 | with_reducible apply sinceOut_next | intro _ | dsimp only)

theorem since_svcDukptPinTranslate (id : Nat) (it : Item) : Svc.Keeps (svcDukptPinTranslate id it) := by
  unfold svcDukptPinTranslate
  repeat' (first | assumption | with_reducible apply since_Svc_zero | with_reducible apply since_fillDraw
                 | with_reducible apply since_Svc_range | with_reducible apply since_translateOut
                 | with_reducible apply since_Svc_dukptRange | with_reducible apply since_Svc_dukptAgree
                 | with_reducible apply since_Svc_handle | with_reducible apply since_Svc_bad
                 | with_reducible apply since_Svc_len | with_reducible apply since_Svc_pan
                 | with_reducible apply since_Svc_engine | with_reducible apply keep_pure | with_reducible apply keep_bind
                 | with_reducible apply keep_map | intro _ | dsimp only | split)

theorem since_execDukptPinTranslate (item : Nat) (s : State) {r : State} (h : Since r s) : SinceOut r (execDukptPinTranslate item s) := by
  unfold execDukptPinTranslate
  repeat' (first | assumption | with_reducible apply since_runOpcode | with_reducible apply since_svcDukptPinTranslate
                 | with_reducible apply sinceOut_next | intro _ | dsimp only)

theorem since_svcDukptCipher (id : Nat) (it : Item) : Svc.Keeps (svcDukptCipher id it) := by
  unfold svcDukptCipher
  repeat' (first | assumption | with_reducible apply since_done | with_reducible apply since_Svc_zero
                 | with_reducible apply since_Svc_range | with_reducible apply since_Svc_dukptRange
                 | with_reducible apply since_Svc_dukptAgree | with_reducible apply since_Svc_bad
                 | with_reducible apply since_Svc_len | with_reducible apply since_Svc_engine | with_reducible apply keep_pure
                 | with_reducible apply keep_bind | with_reducible apply keep_map | intro _ | dsimp only | split)

theorem since_execDukptCipher (item : Nat) (s : State) {r : State} (h : Since r s) : SinceOut r (execDukptCipher item s) := by
  unfold execDukptCipher
  repeat' (first | assumption | with_reducible apply since_runOpcode | with_reducible apply since_svcDukptCipher
                 | with_reducible apply sinceOut_next | intro _ | dsimp only)

theorem since_svcDukptMac (id : Nat) (it : Item) : Svc.Keeps (svcDukptMac id it) := by
  unfold svcDukptMac
  repeat' (first | assumption | with_reducible apply since_done | with_reducible apply since_Svc_zero
                 | with_reducible apply since_Svc_range | with_reducible apply since_Svc_dukptRange
                 | with_reducible apply since_Svc_dukptAgree | with_reducible apply since_Svc_bad
                 | with_reducible apply since_Svc_len | with_reducible apply since_verified
                 | with_reducible apply since_Svc_engine | with_reducible apply keep_pure | with_reducible apply keep_bind
                 | with_reducible apply keep_map | intro _ | dsimp only | split)

theorem since_execDukptMac (item : Nat) (s : State) {r : State} (h : Since r s) : SinceOut r (execDukptMac item s) := by
  unfold execDukptMac
  repeat' (first | assumption | with_reducible apply since_svcDukptMac | with_reducible apply since_runOpcode
                 | with_reducible apply sinceOut_next | intro _ | dsimp only)

theorem since_macWork (id : Nat) (it : Item) (verify : Bool) : Svc.Keeps (macWork id it verify) := by
  unfold macWork
  repeat' (first | assumption | with_reducible apply since_Svc_zero | with_reducible apply since_Svc_range
                 | with_reducible apply since_Svc_bad | with_reducible apply since_Svc_len | with_reducible apply keep_finish
                 | with_reducible apply since_Svc_engine | with_reducible apply keep_pure | with_reducible apply keep_bind
                 | with_reducible apply keep_map | intro _ | dsimp only | split)

theorem since_svcMacGenerate (id : Nat) (it : Item) : Svc.Keeps (svcMacGenerate id it) := by
  unfold svcMacGenerate
  repeat' (first | assumption | with_reducible apply since_done | with_reducible apply since_macWork
                 | with_reducible apply keep_pure | with_reducible apply keep_bind | with_reducible apply keep_map | intro _
                 | dsimp only)

theorem since_execMacGenerate (item : Nat) (s : State) {r : State} (h : Since r s) : SinceOut r (execMacGenerate item s) := by
  unfold execMacGenerate
  repeat' (first | assumption | with_reducible apply since_runOpcode | with_reducible apply since_svcMacGenerate
                 | with_reducible apply sinceOut_next | intro _ | dsimp only)

theorem since_svcMacVerify (id : Nat) (it : Item) : Svc.Keeps (svcMacVerify id it) := by
  unfold svcMacVerify
  repeat' (first | assumption | with_reducible apply since_macWork | with_reducible apply since_verified
                 | with_reducible apply keep_pure | with_reducible apply keep_bind | with_reducible apply keep_map | intro _
                 | dsimp only)

theorem since_execMacVerify (item : Nat) (s : State) {r : State} (h : Since r s) : SinceOut r (execMacVerify item s) := by
  unfold execMacVerify
  repeat' (first | assumption | with_reducible apply since_runOpcode | with_reducible apply since_svcMacVerify
                 | with_reducible apply sinceOut_next | intro _ | dsimp only)

theorem since_cipherWork (id : Nat) (it : Item) (enc : Bool) : Svc.Keeps (cipherWork id it enc) := by
  unfold cipherWork
  repeat' (first | assumption | with_reducible apply since_Svc_zero | with_reducible apply since_Svc_range
                 | with_reducible apply since_Svc_bad | with_reducible apply since_Svc_draw | with_reducible apply since_Svc_len
                 | with_reducible apply since_Svc_engine | with_reducible apply keep_pure | with_reducible apply keep_bind
                 | with_reducible apply keep_map | intro _ | dsimp only | split)

theorem since_svcEncrypt (id : Nat) (it : Item) : Svc.Keeps (svcEncrypt id it) := by
  unfold svcEncrypt
  repeat' (first | assumption | with_reducible apply since_done | with_reducible apply since_cipherWork
                 | with_reducible apply keep_pure | with_reducible apply keep_bind | with_reducible apply keep_map | intro _
                 | dsimp only)

theorem since_execEncrypt (item : Nat) (s : State) {r : State} (h : Since r s) : SinceOut r (execEncrypt item s) := by
  unfold execEncrypt
  repeat' (first | assumption | with_reducible apply since_runOpcode | with_reducible apply since_svcEncrypt
                 | with_reducible apply sinceOut_next | intro _ | dsimp only)

theorem since_svcDecrypt (id : Nat) (it : Item) : Svc.Keeps (svcDecrypt id it) := by
  unfold svcDecrypt
  repeat' (first | assumption | with_reducible apply since_done | with_reducible apply since_cipherWork
                 | with_reducible apply keep_pure | with_reducible apply keep_bind | with_reducible apply keep_map | intro _
                 | dsimp only)

theorem since_execDecrypt (item : Nat) (s : State) {r : State} (h : Since r s) : SinceOut r (execDecrypt item s) := by
  unfold execDecrypt
  repeat' (first | assumption | with_reducible apply since_svcDecrypt | with_reducible apply since_runOpcode
                 | with_reducible apply sinceOut_next | intro _ | dsimp only)

theorem since_svcKeyWrap (id : Nat) (it : Item) : Svc.Keeps (svcKeyWrap id it) := by
  unfold svcKeyWrap
  repeat' (first | assumption | with_reducible apply since_done | with_reducible apply since_Svc_zero
                 | with_reducible apply since_Svc_range | with_reducible apply since_Svc_handle
                 | with_reducible apply since_Svc_len | with_reducible apply since_Svc_engine | with_reducible apply keep_pure
                 | with_reducible apply keep_bind | with_reducible apply keep_map | intro _ | dsimp only)

theorem since_execKeyWrap (item : Nat) (s : State) {r : State} (h : Since r s) : SinceOut r (execKeyWrap item s) := by
  unfold execKeyWrap
  repeat' (first | assumption | with_reducible apply since_runOpcode | with_reducible apply since_svcKeyWrap
                 | with_reducible apply sinceOut_next | intro _ | dsimp only)

theorem since_svcKeyUnwrap (id : Nat) (it : Item) : Svc.Keeps (svcKeyUnwrap id it) := by
  unfold svcKeyUnwrap
  repeat' (first | assumption | with_reducible apply since_done | with_reducible apply since_Svc_zero
                 | with_reducible apply since_Svc_newSlot | with_reducible apply since_Svc_range
                 | with_reducible apply since_Svc_bad | with_reducible apply since_Svc_len
                 | with_reducible apply since_Svc_engine | with_reducible apply keep_pure | with_reducible apply keep_bind
                 | with_reducible apply keep_map | intro _ | dsimp only | split)

theorem since_execKeyUnwrap (item : Nat) (s : State) {r : State} (h : Since r s) : SinceOut r (execKeyUnwrap item s) := by
  unfold execKeyUnwrap
  repeat' (first | assumption | with_reducible apply since_runOpcode | with_reducible apply since_svcKeyUnwrap
                 | with_reducible apply sinceOut_next | intro _ | dsimp only)

theorem since_svcDigest (id : Nat) (it : Item) : Svc.Keeps (svcDigest id it) := by
  unfold svcDigest
  repeat' (first | assumption | with_reducible apply since_done | with_reducible apply since_Svc_zero
                 | with_reducible apply since_Svc_range | with_reducible apply since_Svc_bad
                 | with_reducible apply since_Svc_len | with_reducible apply since_Svc_engine | with_reducible apply keep_pure
                 | with_reducible apply keep_bind | with_reducible apply keep_map | intro _ | dsimp only)

theorem since_execDigest (item : Nat) (s : State) {r : State} (h : Since r s) : SinceOut r (execDigest item s) := by
  unfold execDigest
  repeat' (first | assumption | with_reducible apply since_svcDigest | with_reducible apply since_runOpcode
                 | with_reducible apply sinceOut_next | intro _ | dsimp only)

theorem since_streamChecks (it : Item) (start : Bool) : Svc.Keeps (streamChecks it start) := by
  unfold streamChecks
  repeat' (first | assumption | with_reducible apply since_Svc_zero | with_reducible apply since_Svc_len
                 | with_reducible apply keep_pure | with_reducible apply keep_bind | with_reducible apply keep_map | intro _
                 | dsimp only | split)

theorem since_svcStreamStart (id : Nat) (it : Item) : Svc.Keeps (svcStreamStart id it) := by
  unfold svcStreamStart
  repeat' (first | assumption | with_reducible apply since_done | with_reducible apply since_Svc_decideOk
                 | with_reducible apply since_Svc_range | with_reducible apply since_Svc_bad
                 | with_reducible apply since_streamChecks | with_reducible apply keep_update
                 | with_reducible apply since_Svc_engine | with_reducible apply keep_pure | with_reducible apply keep_bind
                 | with_reducible apply keep_map | simp only [↓since_mk] | intro _ | with_reducible rfl | dsimp only | split)

theorem since_execStreamStart (item : Nat) (s : State) {r : State} (h : Since r s) : SinceOut r (execStreamStart item s) := by
  unfold execStreamStart
  repeat' (first | assumption | with_reducible apply since_svcStreamStart | with_reducible apply since_runOpcode
                 | with_reducible apply sinceOut_next | intro _ | dsimp only)

theorem since_streamJoin (id : Nat) (it : Item) : Svc.Keeps (streamJoin id it) := by
  unfold streamJoin
  repeat' (first | assumption | with_reducible apply since_Svc_decideOk | with_reducible apply since_Svc_bad
                 | with_reducible apply keep_pure | with_reducible apply keep_bind | with_reducible apply keep_map | intro _
                 | dsimp only | split)

theorem since_svcStreamUpdate (id : Nat) (it : Item) : Svc.Keeps (svcStreamUpdate id it) := by
  unfold svcStreamUpdate
  repeat' (first | assumption | with_reducible apply since_done | with_reducible apply since_streamChecks
                 | with_reducible apply keep_update | with_reducible apply since_streamJoin
                 | with_reducible apply since_Svc_engine | with_reducible apply keep_pure | with_reducible apply keep_bind
                 | with_reducible apply keep_map | simp only [↓since_mk] | intro _ | with_reducible rfl | dsimp only)

theorem since_execStreamUpdate (item : Nat) (s : State) {r : State} (h : Since r s) : SinceOut r (execStreamUpdate item s) := by
  unfold execStreamUpdate
  repeat' (first | assumption | with_reducible apply since_svcStreamUpdate | with_reducible apply since_runOpcode
                 | with_reducible apply sinceOut_next | intro _ | dsimp only)

theorem since_svcStreamFinish (id : Nat) (it : Item) : Svc.Keeps (svcStreamFinish id it) := by
  unfold svcStreamFinish
  repeat' (first | assumption | with_reducible apply since_done | with_reducible apply keep_awaitOk
                 | with_reducible apply since_askEngine | with_reducible apply since_streamChecks
                 | with_reducible apply keep_update | with_reducible apply since_streamJoin
                 | with_reducible apply since_closeStream | with_reducible apply keep_pure | with_reducible apply keep_bind
                 | with_reducible apply keep_map | intro _ | dsimp only)

theorem since_execStreamFinish (item : Nat) (s : State) {r : State} (h : Since r s) : SinceOut r (execStreamFinish item s) := by
  unfold execStreamFinish
  repeat' (first | assumption | with_reducible apply since_svcStreamFinish | with_reducible apply since_runOpcode
                 | with_reducible apply sinceOut_next | intro _ | dsimp only)

theorem since_svcKbImport (id : Nat) (it : Item) : Svc.Keeps (svcKbImport id it) := by
  unfold svcKbImport
  repeat' (first | assumption | with_reducible apply since_done | with_reducible apply since_Svc_zero
                 | with_reducible apply since_Svc_newSlot | with_reducible apply since_Svc_range
                 | with_reducible apply since_Svc_bad | with_reducible apply since_Svc_len | with_reducible apply keep_finish
                 | with_reducible apply since_Svc_engine | with_reducible apply keep_pure | with_reducible apply keep_bind
                 | with_reducible apply keep_map | intro _ | dsimp only | split)

theorem since_execKbImport (item : Nat) (s : State) {r : State} (h : Since r s) : SinceOut r (execKbImport item s) := by
  unfold execKbImport
  repeat' (first | assumption | with_reducible apply since_svcKbImport | with_reducible apply since_runOpcode
                 | with_reducible apply sinceOut_next | intro _ | dsimp only)

theorem since_svcKbExport (id : Nat) (it : Item) : Svc.Keeps (svcKbExport id it) := by
  unfold svcKbExport
  repeat' (first | assumption | with_reducible apply since_done | with_reducible apply since_Svc_zero
                 | with_reducible apply since_Svc_range | with_reducible apply since_Svc_handle
                 | with_reducible apply since_Svc_draw | with_reducible apply since_Svc_len
                 | with_reducible apply since_Svc_engine | with_reducible apply keep_pure | with_reducible apply keep_bind
                 | with_reducible apply keep_map | intro _ | dsimp only)

theorem since_execKbExport (item : Nat) (s : State) {r : State} (h : Since r s) : SinceOut r (execKbExport item s) := by
  unfold execKbExport
  repeat' (first | assumption | with_reducible apply since_runOpcode | with_reducible apply since_svcKbExport
                 | with_reducible apply sinceOut_next | intro _ | dsimp only)

theorem since_rsaChecks4 (it : Item) : Svc.Keeps (rsaChecks4 it) := by
  unfold rsaChecks4
  repeat' (first | assumption | with_reducible apply since_Svc_range | with_reducible apply since_Svc_bad
                 | with_reducible apply keep_pure | with_reducible apply keep_bind | with_reducible apply keep_map | intro _
                 | dsimp only)

theorem since_digestIn (id : Nat) (it : Item) (inmode : Nat) (hash : Nat) (msg : Bytes) : Svc.Keeps (digestIn id it inmode hash msg) := by
  unfold digestIn
  repeat' (first | assumption | with_reducible apply since_Svc_engine | with_reducible apply keep_pure
                 | with_reducible apply keep_bind | with_reducible apply keep_map | intro _ | dsimp only | split)

theorem since_svcRsaSign (id : Nat) (it : Item) : Svc.Keeps (svcRsaSign id it) := by
  unfold svcRsaSign
  repeat' (first | assumption | with_reducible apply since_done | with_reducible apply since_Svc_zero
                 | with_reducible apply since_rsaChecks4 | with_reducible apply since_digestIn
                 | with_reducible apply since_Svc_draw | with_reducible apply since_Svc_len
                 | with_reducible apply since_Svc_engine | with_reducible apply keep_pure | with_reducible apply keep_bind
                 | with_reducible apply keep_map | intro _ | dsimp only | split)

theorem since_execRsaSign (item : Nat) (s : State) {r : State} (h : Since r s) : SinceOut r (execRsaSign item s) := by
  unfold execRsaSign
  repeat' (first | assumption | with_reducible apply since_runOpcode | with_reducible apply since_svcRsaSign
                 | with_reducible apply sinceOut_next | intro _ | dsimp only)

theorem since_svcRsaVerify (id : Nat) (it : Item) : Svc.Keeps (svcRsaVerify id it) := by
  unfold svcRsaVerify
  repeat' (first | assumption | with_reducible apply since_done | with_reducible apply since_Svc_zero
                 | with_reducible apply since_Svc_range | with_reducible apply since_rsaChecks4
                 | with_reducible apply since_digestIn | with_reducible apply since_Svc_len
                 | with_reducible apply since_Svc_engine | with_reducible apply keep_pure | with_reducible apply keep_bind
                 | with_reducible apply keep_map | intro _ | dsimp only)

theorem since_execRsaVerify (item : Nat) (s : State) {r : State} (h : Since r s) : SinceOut r (execRsaVerify item s) := by
  unfold execRsaVerify
  repeat' (first | assumption | with_reducible apply since_runOpcode | with_reducible apply since_svcRsaVerify
                 | with_reducible apply sinceOut_next | intro _ | dsimp only)

theorem since_svcRsaDecrypt (id : Nat) (it : Item) : Svc.Keeps (svcRsaDecrypt id it) := by
  unfold svcRsaDecrypt
  repeat' (first | assumption | with_reducible apply since_done | with_reducible apply since_Svc_zero
                 | with_reducible apply since_Svc_range | with_reducible apply since_Svc_len
                 | with_reducible apply since_Svc_engine | with_reducible apply keep_pure | with_reducible apply keep_bind
                 | with_reducible apply keep_map | intro _ | dsimp only)

theorem since_execRsaDecrypt (item : Nat) (s : State) {r : State} (h : Since r s) : SinceOut r (execRsaDecrypt item s) := by
  unfold execRsaDecrypt
  repeat' (first | assumption | with_reducible apply since_svcRsaDecrypt | with_reducible apply since_runOpcode
                 | with_reducible apply sinceOut_next | intro _ | dsimp only)

theorem since_ecdsaChecks (it : Item) : Svc.Keeps (ecdsaChecks it) := by
  unfold ecdsaChecks
  repeat' (first | assumption | with_reducible apply since_Svc_range | with_reducible apply since_Svc_bad
                 | with_reducible apply keep_pure | with_reducible apply keep_bind | with_reducible apply keep_map | intro _
                 | dsimp only)

theorem since_curveSizes (id : Nat) (code : Nat) (x : Bool) : Svc.Keeps (curveSizes id code x) := by
  unfold curveSizes
  repeat' (first | assumption | with_reducible apply since_Svc_decideOk | with_reducible apply keep_pure
                 | with_reducible apply keep_bind | with_reducible apply keep_map | intro _ | dsimp only | split)

theorem since_svcEcdsaSign (id : Nat) (it : Item) : Svc.Keeps (svcEcdsaSign id it) := by
  unfold svcEcdsaSign
  repeat' (first | assumption | with_reducible apply since_done | with_reducible apply since_Svc_zero
                 | with_reducible apply since_digestIn | with_reducible apply since_Svc_drawSecret
                 | with_reducible apply since_Svc_len | with_reducible apply since_curveSizes
                 | with_reducible apply since_Svc_engine | with_reducible apply since_ecdsaChecks
                 | with_reducible apply keep_pure | with_reducible apply keep_bind | with_reducible apply keep_map | intro _
                 | dsimp only)

theorem since_execEcdsaSign (item : Nat) (s : State) {r : State} (h : Since r s) : SinceOut r (execEcdsaSign item s) := by
  unfold execEcdsaSign
  repeat' (first | assumption | with_reducible apply since_svcEcdsaSign | with_reducible apply since_runOpcode
                 | with_reducible apply sinceOut_next | intro _ | dsimp only)

theorem since_svcEcdsaVerify (id : Nat) (it : Item) : Svc.Keeps (svcEcdsaVerify id it) := by
  unfold svcEcdsaVerify
  repeat' (first | assumption | with_reducible apply since_done | with_reducible apply since_Svc_zero
                 | with_reducible apply since_Svc_range | with_reducible apply since_digestIn
                 | with_reducible apply since_Svc_len | with_reducible apply since_curveSizes
                 | with_reducible apply since_Svc_engine | with_reducible apply since_ecdsaChecks
                 | with_reducible apply keep_pure | with_reducible apply keep_bind | with_reducible apply keep_map | intro _
                 | dsimp only)

theorem since_execEcdsaVerify (item : Nat) (s : State) {r : State} (h : Since r s) : SinceOut r (execEcdsaVerify item s) := by
  unfold execEcdsaVerify
  repeat' (first | assumption | with_reducible apply since_runOpcode | with_reducible apply since_svcEcdsaVerify
                 | with_reducible apply sinceOut_next | intro _ | dsimp only)

theorem since_svcEcdh (id : Nat) (it : Item) : Svc.Keeps (svcEcdh id it) := by
  unfold svcEcdh
  repeat' (first | assumption | with_reducible apply since_done | with_reducible apply since_Svc_zero
                 | with_reducible apply since_Svc_newSlot | with_reducible apply since_Svc_range
                 | with_reducible apply since_Svc_bad | with_reducible apply since_Svc_len
                 | with_reducible apply since_curveSizes | with_reducible apply since_Svc_engine
                 | with_reducible apply keep_pure | with_reducible apply keep_bind | with_reducible apply keep_map | intro _
                 | dsimp only | split)

theorem since_execEcdh (item : Nat) (s : State) {r : State} (h : Since r s) : SinceOut r (execEcdh item s) := by
  unfold execEcdh
  repeat' (first | assumption | with_reducible apply since_runOpcode | with_reducible apply since_svcEcdh
                 | with_reducible apply sinceOut_next | intro _ | dsimp only)

theorem since_svcEddsaSign (id : Nat) (it : Item) : Svc.Keeps (svcEddsaSign id it) := by
  unfold svcEddsaSign
  repeat' (first | assumption | with_reducible apply since_done | with_reducible apply since_Svc_zero
                 | with_reducible apply since_Svc_len | with_reducible apply since_Svc_engine | with_reducible apply keep_pure
                 | with_reducible apply keep_bind | with_reducible apply keep_map | intro _ | dsimp only)

theorem since_execEddsaSign (item : Nat) (s : State) {r : State} (h : Since r s) : SinceOut r (execEddsaSign item s) := by
  unfold execEddsaSign
  repeat' (first | assumption | with_reducible apply since_runOpcode | with_reducible apply since_svcEddsaSign
                 | with_reducible apply sinceOut_next | intro _ | dsimp only)

theorem since_svcEddsaVerify (id : Nat) (it : Item) : Svc.Keeps (svcEddsaVerify id it) := by
  unfold svcEddsaVerify
  repeat' (first | assumption | with_reducible apply since_done | with_reducible apply since_Svc_zero
                 | with_reducible apply since_Svc_len | with_reducible apply since_Svc_engine | with_reducible apply keep_pure
                 | with_reducible apply keep_bind | with_reducible apply keep_map | intro _ | dsimp only)

theorem since_execEddsaVerify (item : Nat) (s : State) {r : State} (h : Since r s) : SinceOut r (execEddsaVerify item s) := by
  unfold execEddsaVerify
  repeat' (first | assumption | with_reducible apply since_svcEddsaVerify | with_reducible apply since_runOpcode
                 | with_reducible apply sinceOut_next | intro _ | dsimp only)

theorem since_Svc_pset (it : Item) : Svc.Keeps (Svc.pset it) := by
  unfold Svc.pset
  repeat' (first | assumption | with_reducible apply since_Svc_range | with_reducible apply keep_pure
                 | with_reducible apply keep_bind | with_reducible apply keep_map | intro _ | dsimp only)

theorem since_kemChecks (id : Nat) (it : Item) (n : Nat) (fromKey : Bool) : Svc.Keeps (kemChecks id it n fromKey) := by
  unfold kemChecks
  repeat' (first | assumption | with_reducible apply since_Svc_zero | with_reducible apply since_Svc_newSlot
                 | with_reducible apply since_Svc_range | with_reducible apply since_Svc_bad
                 | with_reducible apply since_Svc_len | with_reducible apply keep_pure | with_reducible apply keep_bind
                 | with_reducible apply keep_map | intro _ | dsimp only)

theorem since_svcMlkemEncaps (id : Nat) (it : Item) : Svc.Keeps (svcMlkemEncaps id it) := by
  unfold svcMlkemEncaps
  repeat' (first | assumption | with_reducible apply since_done | with_reducible apply since_kemChecks
                 | with_reducible apply since_Svc_pset | with_reducible apply since_Svc_drawSecret
                 | with_reducible apply since_Svc_engine | with_reducible apply keep_pure | with_reducible apply keep_bind
                 | with_reducible apply keep_map | intro _ | dsimp only)

theorem since_execMlkemEncaps (item : Nat) (s : State) {r : State} (h : Since r s) : SinceOut r (execMlkemEncaps item s) := by
  unfold execMlkemEncaps
  repeat' (first | assumption | with_reducible apply since_svcMlkemEncaps | with_reducible apply since_runOpcode
                 | with_reducible apply sinceOut_next | intro _ | dsimp only)

theorem since_svcMlkemDecaps (id : Nat) (it : Item) : Svc.Keeps (svcMlkemDecaps id it) := by
  unfold svcMlkemDecaps
  repeat' (first | assumption | with_reducible apply since_done | with_reducible apply since_kemChecks
                 | with_reducible apply since_Svc_pset | with_reducible apply since_Svc_engine | with_reducible apply keep_pure
                 | with_reducible apply keep_bind | with_reducible apply keep_map | intro _ | dsimp only)

theorem since_execMlkemDecaps (item : Nat) (s : State) {r : State} (h : Since r s) : SinceOut r (execMlkemDecaps item s) := by
  unfold execMlkemDecaps
  repeat' (first | assumption | with_reducible apply since_runOpcode | with_reducible apply since_svcMlkemDecaps
                 | with_reducible apply sinceOut_next | intro _ | dsimp only)

theorem since_svcMldsaSign (id : Nat) (it : Item) : Svc.Keeps (svcMldsaSign id it) := by
  unfold svcMldsaSign
  repeat' (first | assumption | with_reducible apply since_done | with_reducible apply since_Svc_zero
                 | with_reducible apply since_Svc_range | with_reducible apply since_Svc_pset
                 | with_reducible apply since_Svc_drawSecret | with_reducible apply since_Svc_len
                 | with_reducible apply since_Svc_engine | with_reducible apply keep_pure | with_reducible apply keep_bind
                 | with_reducible apply keep_map | intro _ | dsimp only | split)

theorem since_execMldsaSign (item : Nat) (s : State) {r : State} (h : Since r s) : SinceOut r (execMldsaSign item s) := by
  unfold execMldsaSign
  repeat' (first | assumption | with_reducible apply since_runOpcode | with_reducible apply since_svcMldsaSign
                 | with_reducible apply sinceOut_next | intro _ | dsimp only)

theorem since_svcMldsaVerify (id : Nat) (it : Item) : Svc.Keeps (svcMldsaVerify id it) := by
  unfold svcMldsaVerify
  repeat' (first | assumption | with_reducible apply since_done | with_reducible apply since_Svc_zero
                 | with_reducible apply since_Svc_pset | with_reducible apply since_Svc_len
                 | with_reducible apply since_Svc_engine | with_reducible apply keep_pure | with_reducible apply keep_bind
                 | with_reducible apply keep_map | intro _ | dsimp only)

theorem since_execMldsaVerify (item : Nat) (s : State) {r : State} (h : Since r s) : SinceOut r (execMldsaVerify item s) := by
  unfold execMldsaVerify
  repeat' (first | assumption | with_reducible apply since_svcMldsaVerify | with_reducible apply since_runOpcode
                 | with_reducible apply sinceOut_next | intro _ | dsimp only)

theorem since_kindDraw (id : Nat) (kt : Nat) (param : Nat) : Svc.Keeps (kindDraw id kt param) := by
  unfold kindDraw
  repeat' (first | assumption | with_reducible apply since_Svc_decideOk | with_reducible apply keep_pure
                 | with_reducible apply keep_bind | with_reducible apply keep_map | intro _ | dsimp only | split)

theorem since_svcKeygen (id : Nat) (it : Item) : Svc.Keeps (svcKeygen id it) := by
  unfold svcKeygen
  repeat' (first | assumption | with_reducible apply since_done | with_reducible apply since_Svc_zero
                 | with_reducible apply since_Svc_newSlot | with_reducible apply since_Svc_range
                 | with_reducible apply since_kindDraw | with_reducible apply since_Svc_bad
                 | with_reducible apply since_Svc_drawSecret | with_reducible apply since_Svc_len
                 | with_reducible apply since_Svc_engine | with_reducible apply keep_pure | with_reducible apply keep_bind
                 | with_reducible apply keep_map | intro _ | dsimp only)

theorem since_execKeygen (item : Nat) (s : State) {r : State} (h : Since r s) : SinceOut r (execKeygen item s) := by
  unfold execKeygen
  repeat' (first | assumption | with_reducible apply since_runOpcode | with_reducible apply since_svcKeygen
                 | with_reducible apply sinceOut_next | intro _ | dsimp only)

theorem since_svcPubkeyRead (id : Nat) (it : Item) : Svc.Keeps (svcPubkeyRead id it) := by
  unfold svcPubkeyRead
  repeat' (first | assumption | with_reducible apply since_done | with_reducible apply since_Svc_len
                 | with_reducible apply since_Svc_engine | with_reducible apply keep_pure | with_reducible apply keep_bind
                 | with_reducible apply keep_map | intro _ | dsimp only)

theorem since_execPubkeyRead (item : Nat) (s : State) {r : State} (h : Since r s) : SinceOut r (execPubkeyRead item s) := by
  unfold execPubkeyRead
  repeat' (first | assumption | with_reducible apply since_runOpcode | with_reducible apply since_svcPubkeyRead
                 | with_reducible apply sinceOut_next | intro _ | dsimp only)

theorem since_noteDelta (f : DeltaContent → DeltaContent) (s : State) {r : State} (h : Since r s) : Since r (noteDelta f s) := by
  unfold noteDelta
  repeat' (first | assumption | simp only [↓since_mk] | with_reducible rfl | dsimp only | split)

theorem since_noteSlots (l : List Nat) (s : State) {r : State} (h : Since r s) : Since r (noteSlots l s) := by
  unfold noteSlots
  repeat' (first | assumption | with_reducible apply since_noteDelta | intro _ | with_reducible apply since_foldl
                 | with_reducible apply since_foldl_snd | dsimp only)

theorem since_imgSync (t : Nat) (l : List Nat) (s : State) {r : State} (h : Since r s) : Since r (imgSync t l s) := by
  unfold imgSync
  repeat' (first | assumption | with_reducible apply since_imgAppend | intro _ | with_reducible apply since_foldl
                 | with_reducible apply since_foldl_snd | dsimp only | split)

theorem since_tenantLeaves (t : Nat) (s : State) {r : State} (h : Since r s) : Since r (tenantLeaves t s) := by
  unfold tenantLeaves
  repeat' (first | assumption | with_reducible apply since_imgSync | with_reducible apply since_modTenant
                 | with_reducible apply since_noteSlots | with_reducible apply since_pruneSlot | simp only [↓since_mk]
                 | with_reducible rfl | with_reducible apply since_getD | dsimp only | split)

theorem since_emptyShare (t : Nat) (c : Ctx) (s : State) {r : State} (h : Since r s) : Since r (emptyShare t c s) := by
  unfold emptyShare
  repeat' (first | assumption | simp only [↓since_mk] | with_reducible rfl | dsimp only)

theorem since_destroyEphemeral (t : Nat) (s : State) {r : State} (h : Since r s) : Since r (destroyEphemeral t s) := by
  unfold destroyEphemeral
  repeat' (first | assumption | with_reducible apply since_pruneSlot | intro _ | with_reducible apply since_foldl
                 | with_reducible apply since_foldl_snd | dsimp only)

theorem since_removeQueues (fn : Nat) (s : State) {r : State} (h : Since r s) : Since r (removeQueues fn s) := by
  unfold removeQueues
  repeat' (first | assumption | with_reducible apply since_itemEnd | simp only [↓since_mk] | intro _ | with_reducible rfl
                 | with_reducible apply since_foldl | with_reducible apply since_foldl_snd | dsimp only)

theorem since_removeCtx (t : Nat) (s : State) {r : State} (h : Since r s) : Since r (removeCtx t s) := by
  unfold removeCtx
  repeat' (first | assumption | with_reducible apply since_destroyEphemeral | with_reducible apply since_uninstantiate
                 | with_reducible apply since_tenantLeaves | with_reducible apply since_ctxEvent
                 | with_reducible apply since_emptyShare | with_reducible apply since_removeQueues
                 | with_reducible apply since_itemEnd | simp only [↓since_mk] | intro _ | with_reducible rfl
                 | with_reducible apply since_foldl | with_reducible apply since_foldl_snd | dsimp only | split)

theorem since_tenantIdle (t : Nat) (s : State) {r : State} (h : Since r s) : Since r (tenantIdle t s) := by
  unfold tenantIdle
  repeat' (first | assumption | with_reducible apply since_removeCtx | with_reducible apply since_tenantLeaves | dsimp only
                 | split)

theorem since_sendPlacement (ref : Nat) (ids : List Nat) (b : PlacementBody) (s : State) {r : State} (h : Since r s) : Since r (sendPlacement ref ids b s) := by
  unfold sendPlacement
  repeat' (first | assumption | with_reducible apply since_sendTo | intro _ | with_reducible apply since_foldl
                 | with_reducible apply since_foldl_snd | dsimp only)

theorem since_adoptEntry (t : Nat) (e : Tenant) (s : State) {r : State} (h : Since r s) : Since r (adoptEntry t e s) := by
  unfold adoptEntry
  repeat' (first | assumption | with_reducible apply since_modCtx | with_reducible apply since_tenantIdle
                 | simp only [↓since_mk] | with_reducible rfl | dsimp only | split)

theorem since_applyNext (a : Apply) (s : State) {r : State} (h : Since r s) : Since r (applyNext a s).2 := by
  unfold applyNext
  repeat' (first | assumption | with_reducible apply since_sendPlacement | with_reducible apply since_adoptEntry | dsimp only
                 | split)

theorem since_finishApplies (s : State) {r : State} (h : Since r s) : Since r (finishApplies s) := by
  unfold finishApplies
  repeat' (first | assumption | with_reducible apply since_itemDone | with_reducible apply since_applyNext
                 | with_reducible apply since_itemEnd | simp only [↓since_mk] | intro _ | with_reducible rfl
                 | with_reducible apply since_foldl | with_reducible apply since_foldl_snd | (apply since_pair; (· assumption))
                 | dsimp only)

theorem since_modApplies (f : Apply → Apply) (s : State) {r : State} (h : Since r s) : Since r (modApplies f s) := by
  unfold modApplies
  repeat' (first | assumption | with_reducible apply since_finishApplies | simp only [↓since_mk] | with_reducible rfl
                 | dsimp only)

theorem since_lookupSource (h : Nat) (tenant : Nat) (s : State) {r : State} (h₀ : Since r s) : Since r (lookupSource h tenant s).2 := by
  unfold lookupSource
  repeat' (first | assumption | with_reducible apply since_lookupFailed | with_reducible apply since_slotFatal
                 | with_reducible apply since_count | dsimp only | split)

theorem since_sourceOf (it : Item) (s : State) {r : State} (h : Since r s) : Since r (sourceOf it s).2 := by
  unfold sourceOf
  repeat' (first | assumption | with_reducible apply since_lookupSource | (apply since_pair; (· assumption)) | dsimp only | split)

theorem since_sendForward (id : Nat) (s : State) {r : State} (h : Since r s) : Since r (sendForward id s) := by
  unfold sendForward
  repeat' (first | assumption | with_reducible apply since_sendManager | with_reducible apply since_sourceOf
                 | (apply since_pair; (· assumption)) | dsimp only | split)

theorem since_runSigned {svc : Item → Svc Reply} (op id : Nat) (hs : ∀ it, Svc.Keeps (svc it)) {r s : State} (h : Since r s) :
    Since r (runSigned op id svc s) :=
  since_wakeGate _ _ (since_runOpcode op id hs h)

theorem since_Svc_here (id : Nat) (it : Item) (all : Bool) : Svc.Keeps (Svc.here id it all) := by
  unfold Svc.here
  repeat' (first | assumption | with_reducible apply keep_decide | with_reducible apply keep_pure
                 | with_reducible apply keep_bind | with_reducible apply keep_map | intro _ | dsimp only)

theorem since_Svc_gate (id : Nat) (it : Item) : Svc.Keeps (Svc.gate id it) := by
  refine ⟨fun r u h => ?_⟩
  unfold Svc.gate
  repeat' split
  · exact h
  · exact h
  · exact since_modItem _ _ _ h
  · exact since_itemWait _ _ _ h

theorem since_forwardItem (id : Nat) (s : State) {r : State} (h : Since r s) : Since r (forwardItem id s) := by
  unfold forwardItem
  repeat' (first | assumption | with_reducible apply since_itemWait | with_reducible apply since_sendForward
                 | simp only [↓since_mk] | with_reducible rfl | dsimp only | split)

theorem since_retireSource (h : Nat) (tenant : Nat) (s : State) {r : State} (h₀ : Since r s) : Since r (retireSource h tenant s) := by
  unfold retireSource
  repeat' (first | assumption | with_reducible apply since_freeSlot | with_reducible apply since_count | dsimp only | split)

theorem since_Svc_forwarded (id : Nat) (it : Item) : Svc.Keeps (Svc.forwarded id it) := by
  unfold Svc.forwarded
  repeat' (first | assumption | with_reducible apply since_done | with_reducible apply since_retireSource
                 | with_reducible apply keep_awaitOk | with_reducible apply keep_update | with_reducible apply since_forwardItem
                 | with_reducible apply keep_pure | with_reducible apply keep_bind | with_reducible apply keep_map | intro _
                 | dsimp only | split)

theorem since_Svc_signed (id : Nat) (it : Item) (all : Bool) {svc : Svc Reply} (hs : Svc.Keeps svc) : Svc.Keeps (Svc.signed id it all svc) := by
  unfold Svc.signed
  refine keep_bind (since_Svc_here _ _ _) (fun a => ?_)
  split
  · exact keep_bind (since_Svc_gate _ _) (fun _ => hs)
  · exact since_Svc_forwarded _ _

theorem since_Svc_envStart (id : Nat) (it : Item) (e : Envelope) (rule : State → EnvRule) : Svc.Keeps (Svc.envStart id it e rule) := by
  refine ⟨fun r u h => ?_⟩
  unfold Svc.envStart
  dsimp only
  repeat' split
  all_goals (first | exact h | exact since_modItem _ _ _ h | exact since_itemWait _ _ _ ((since_mk rfl rfl).mpr h))

theorem since_Svc_sigOk (id : Nat) (it : Item) (ctx : Bytes) (alg : Nat) (key : Bytes) (sig : Bytes) (m : Bytes) : Svc.Keeps (Svc.sigOk id it ctx alg key sig m) := by
  unfold Svc.sigOk
  repeat' (first | assumption | with_reducible apply keep_await | with_reducible apply since_askEngine
                 | with_reducible apply keep_state | with_reducible apply keep_pure | with_reducible apply keep_bind
                 | with_reducible apply keep_map | intro _ | dsimp only | split)

theorem since_sigGo (id : Nat) (it : Item) (ctx m : Bytes) (officer : Nat → Option (Nat × Bytes)) (n : Nat) (l : List SigEntry) (acc : List Nat) :
    Svc.Keeps (sigGo id it ctx m officer n l acc) := by
  induction l generalizing n acc with
  | nil => exact keep_pure _
  | cons x l ih =>
    unfold sigGo
    split
    · exact keep_finish _ _ _
    split
    · exact keep_finish _ _ _
    · refine keep_bind (since_Svc_sigOk _ _ _ _ _ _ _) (fun ok => ?_)
      split
      · exact ih _ _
      · exact keep_finish _ _ _

theorem since_Svc_envelope (id : Nat) (it : Item) (rule : State → EnvRule) : Svc.Keeps (Svc.envelope id it rule) := by
  unfold Svc.envelope
  repeat' (first | assumption | with_reducible apply since_sigGo | with_reducible apply keep_check
                 | with_reducible apply since_Svc_envStart | with_reducible apply keep_state | with_reducible apply keep_finish
                 | with_reducible apply keep_pure | with_reducible apply keep_bind | with_reducible apply keep_map | intro _
                 | dsimp only | split)

theorem since_Svc_apply (id : Nat) {f : State → Except (Nat × Nat) (Apply × State)}
    (hf : ∀ r s a t, f s = .ok (a, t) → Since r s → Since r t) : Svc.Keeps (Svc.apply id f) := by
  refine ⟨fun r u h => ?_⟩
  unfold Svc.apply
  split
  · exact h
  · rename_i v e
    have k : Since r v.2 := hf r u.state v.1 v.2 e h
    dsimp only
    split
    · exact (since_mk rfl rfl).mpr k
    · exact since_itemWait _ _ _ ((since_mk rfl rfl).mpr k)

theorem since_noteHier (s : State) {r : State} (h : Since r s) : Since r (noteHier s) := by
  unfold noteHier
  repeat' (first | assumption | with_reducible apply since_noteDelta | dsimp only)

theorem since_noteTenant (t : Nat) (s : State) {r : State} (h : Since r s) : Since r (noteTenant t s) := by
  unfold noteTenant
  repeat' (first | assumption | with_reducible apply since_noteDelta | dsimp only | split)

theorem since_applyTenant (t : Nat) (e : Envelope) (l : List Nat) (s : State) {r : State} (h : Since r s) : Since r (applyTenant t e l s) := by
  unfold applyTenant
  repeat' (first | assumption | with_reducible apply since_imgSync | with_reducible apply since_modTenant
                 | with_reducible apply since_noteSlots | with_reducible apply since_noteTenant | dsimp only)

theorem since_sendSlots (t : Nat) (ref : Nat) (ids : List Nat) (l : List Nat) (complete : Bool) (s : State) {r : State} (h : Since r s) : Since r (sendSlots t ref ids l complete s) := by
  unfold sendSlots
  repeat' (first | assumption | with_reducible apply since_sendTo | intro _ | with_reducible apply since_foldl
                 | with_reducible apply since_foldl_snd | with_reducible apply since_getD | dsimp only)

theorem since_remoteOk (s : State) (t : Nat) {r : State} (h : Since r s) : Since r (remoteOk s t).2 := by
  unfold remoteOk
  repeat' (first | assumption | with_reducible apply since_takeFree | (apply since_pair; (· assumption)) | dsimp only | split)

theorem since_closeBatch (cseq : Option Nat) (s : State) {r : State} (h : Since r s) : Since r (closeBatch cseq s) := by
  unfold closeBatch
  repeat' (first | assumption | with_reducible apply since_noteDelta | with_reducible apply since_cellarRecord
                 | with_reducible apply since_count | simp only [↓since_mk] | with_reducible rfl | dsimp only | split)

theorem since_finishCopies (s : State) {r : State} (h : Since r s) : Since r (finishCopies s) := by
  unfold finishCopies
  repeat' (first | assumption | with_reducible apply since_itemAnswer | simp only [↓since_mk] | intro _ | with_reducible rfl
                 | with_reducible apply since_foldl | with_reducible apply since_foldl_snd | dsimp only | split)

theorem since_tokenChecks (it : Item) : Svc.Keeps (tokenChecks it) := by
  unfold tokenChecks
  repeat' (first | assumption | with_reducible apply since_Svc_range | with_reducible apply since_Svc_handle
                 | with_reducible apply since_Svc_bad | with_reducible apply since_Svc_pan | with_reducible apply keep_pure
                 | with_reducible apply keep_bind | with_reducible apply keep_map | intro _ | dsimp only | split)

theorem since_ff1Work (id : Nat) (it : Item) (enc : Bool) (pan : List Nat) : Svc.Keeps (ff1Work id it enc pan) := by
  unfold ff1Work
  repeat' (first | assumption | with_reducible apply since_Svc_engine | with_reducible apply keep_pure
                 | with_reducible apply keep_bind | with_reducible apply keep_map | intro _ | dsimp only)

theorem since_vaultOpen (t : Nat) (s : State) {r : State} (h : Since r s) : Since r (vaultOpen t s).2 := by
  unfold vaultOpen
  repeat' (first | assumption | with_reducible apply since_getD | dsimp only | split)

theorem since_Svc_vaultKey (id : Nat) (it : Item) (kind : Nat) (d : List Nat) : Svc.Keeps (Svc.vaultKey id it kind d) := by
  unfold Svc.vaultKey
  repeat' (first | assumption | with_reducible apply since_Svc_decideOk | with_reducible apply since_vaultOpen
                 | with_reducible apply since_Svc_gate | with_reducible apply keep_state | with_reducible apply since_Svc_engine
                 | with_reducible apply keep_pure | with_reducible apply keep_bind | with_reducible apply keep_map | intro _
                 | with_reducible apply since_getD | (apply since_pair; (· assumption)) | dsimp only)

theorem since_Svc_pages (id t : Nat) (dig : Bytes) : Svc.Keeps (Svc.pages id t dig) := by
  refine ⟨fun r u h => ?_⟩
  unfold Svc.pages
  dsimp only
  repeat' split
  all_goals (first | exact h | exact since_modItem _ _ _ h | exact since_itemWait _ _ _ ((since_mk rfl rfl).mpr h))

theorem since_lookupAnswer (t : Nat) (kind : Nat) (dig : Bytes) (d : List Nat) (s : State) {r : State} (h : Since r s) : Since r (lookupAnswer t kind dig d s).2 := by
  unfold lookupAnswer
  repeat' (first | assumption | dsimp only | split)

theorem since_Svc_vaultLookup (id : Nat) (it : Item) (kind : Nat) (dig : Bytes) (d : List Nat) : Svc.Keeps (Svc.vaultLookup id it kind dig d) := by
  unfold Svc.vaultLookup
  repeat' (first | assumption | with_reducible apply since_Svc_decideOk | with_reducible apply since_lookupAnswer
                 | with_reducible apply since_itemWait | with_reducible apply keep_awaitOk
                 | with_reducible apply since_Svc_pages | with_reducible apply keep_pure | with_reducible apply keep_bind
                 | with_reducible apply keep_map | intro _ | (apply since_pair; (· assumption)) | dsimp only | split)

theorem since_candidate (id : Nat) (it : Item) (pan : List Nat) (lead trail k : Nat) : Svc.Keeps (candidate id it pan lead trail k) := by
  induction k with
  | zero => exact keep_finish _ _ _
  | succ f ih =>
    unfold candidate
    refine keep_bind (since_drawBelow _ _ _ _ _ _) (fun b => ?_)
    dsimp only
    split
    · exact ih
    · refine keep_bind keep_state (fun s => keep_bind (since_Svc_vaultLookup _ _ _ _ _) (fun x => keep_bind (since_Svc_vaultLookup _ _ _ _ _) (fun y => ?_)))
      split
      · exact ih
      · exact keep_pure _

theorem since_allocate (t : Nat) (s : State) {r u : State} (e₀ : allocate t s = some u) (h : Since r s) : Since r u := by
  unfold allocate at e₀
  dsimp only at e₀
  split at e₀
  · cases e₀
    exact h
  · obtain ⟨l, _, e⟩ := Option.map_eq_some_iff.mp e₀
    cases e
    exact (since_mk rfl rfl).mpr h

theorem since_logPages (b : Batch) (l : List VaultWrite) (s : State) {r : State} (h : Since r s) : Since r (logPages b l s).2 := by
  unfold logPages
  repeat' (first | assumption | with_reducible apply since_takeFree | (apply since_pair; (· assumption)) | dsimp only)

theorem since_joinBatch (l : List VaultWrite) (s : State) {r : State} (h : Since r s) : Since r (joinBatch l s).2 := by
  unfold joinBatch
  repeat' (first | assumption | with_reducible apply since_logPages | simp only [↓since_mk] | with_reducible rfl
                 | (apply since_pair; (· assumption)) | dsimp only | split)

theorem since_placeToken (id : Nat) (t : Nat) (pan : List Nat) (token : List Nat) (attr : Bytes) (s : State) {r : State} (h : Since r s) : Since r (placeToken id t pan token attr s).2 := by
  unfold placeToken
  repeat' (first | assumption | with_reducible apply since_modItem | with_reducible apply since_joinBatch
                 | (with_reducible apply since_allocate; (· assumption)) | simp only [↓since_mk] | with_reducible rfl
                 | with_reducible apply since_getD | (apply since_pair; (· assumption)) | dsimp only | split)

theorem since_tokeniseRandom (id : Nat) (it : Item) (pan : List Nat) : Svc.Keeps (tokeniseRandom id it pan) := by
  unfold tokeniseRandom
  repeat' (first | assumption | with_reducible apply since_done | with_reducible apply since_Svc_decideOk
                 | with_reducible apply since_itemWait | with_reducible apply keep_awaitOk
                 | with_reducible apply since_Svc_vaultKey | with_reducible apply since_candidate
                 | with_reducible apply since_Svc_vaultLookup | with_reducible apply since_placeToken
                 | with_reducible apply keep_pure | with_reducible apply keep_bind | with_reducible apply keep_map | intro _
                 | (apply since_pair; (· assumption)) | dsimp only | split)

theorem since_svcTokenise (id : Nat) (it : Item) : Svc.Keeps (svcTokenise id it) := by
  unfold svcTokenise
  repeat' (first | assumption | with_reducible apply since_done | with_reducible apply since_Svc_zero
                 | with_reducible apply since_Svc_forwarded | with_reducible apply since_Svc_here
                 | with_reducible apply since_Svc_bad | with_reducible apply since_Svc_len | with_reducible apply since_ff1Work
                 | with_reducible apply since_tokeniseRandom | with_reducible apply since_tokenChecks
                 | with_reducible apply keep_pure | with_reducible apply keep_bind | with_reducible apply keep_map | intro _
                 | dsimp only | split)

theorem since_execTokenise (item : Nat) (s : State) {r : State} (h : Since r s) : SinceOut r (execTokenise item s) := by
  unfold execTokenise
  repeat' (first | assumption | with_reducible apply since_svcTokenise | with_reducible apply since_runSigned
                 | with_reducible apply sinceOut_next | intro _ | dsimp only)

theorem since_detokeniseRandom (id : Nat) (it : Item) (token : List Nat) : Svc.Keeps (detokeniseRandom id it token) := by
  unfold detokeniseRandom
  repeat' (first | assumption | with_reducible apply since_done | with_reducible apply since_Svc_vaultKey
                 | with_reducible apply since_Svc_vaultLookup | with_reducible apply keep_finish
                 | with_reducible apply keep_pure | with_reducible apply keep_bind | with_reducible apply keep_map | intro _
                 | dsimp only | split)

theorem since_svcDetokenise (id : Nat) (it : Item) : Svc.Keeps (svcDetokenise id it) := by
  unfold svcDetokenise
  repeat' (first | assumption | with_reducible apply since_done | with_reducible apply since_Svc_zero
                 | with_reducible apply since_Svc_forwarded | with_reducible apply since_Svc_here
                 | with_reducible apply since_Svc_bad | with_reducible apply since_Svc_len
                 | with_reducible apply since_detokeniseRandom | with_reducible apply since_ff1Work
                 | with_reducible apply since_tokenChecks | with_reducible apply keep_pure | with_reducible apply keep_bind
                 | with_reducible apply keep_map | intro _ | dsimp only | split)

theorem since_execDetokenise (item : Nat) (s : State) {r : State} (h : Since r s) : SinceOut r (execDetokenise item s) := by
  unfold execDetokenise
  repeat' (first | assumption | with_reducible apply since_runSigned | with_reducible apply since_svcDetokenise
                 | with_reducible apply sinceOut_next | intro _ | dsimp only)

theorem since_tombstones (id : Nat) (t : Nat) (a : Nat × VaultRec) (b : Nat × VaultRec) (s : State) {r : State} (h : Since r s) : Since r (tombstones id t a b s).2 := by
  unfold tombstones
  repeat' (first | assumption | with_reducible apply since_modItem | with_reducible apply since_joinBatch
                 | (apply since_pair; (· assumption)) | dsimp only)

theorem since_deleteRandom (id : Nat) (it : Item) (token : List Nat) : Svc.Keeps (deleteRandom id it token) := by
  unfold deleteRandom
  repeat' (first | assumption | with_reducible apply since_tombstones | with_reducible apply since_done
                 | with_reducible apply since_Svc_decideOk | with_reducible apply since_itemWait
                 | with_reducible apply keep_awaitOk | with_reducible apply since_Svc_vaultKey
                 | with_reducible apply since_Svc_vaultLookup | with_reducible apply keep_state
                 | with_reducible apply keep_finish | with_reducible apply keep_pure | with_reducible apply keep_bind
                 | with_reducible apply keep_map | intro _ | (apply since_pair; (· assumption)) | dsimp only | split)

theorem since_svcDelete (id : Nat) (it : Item) : Svc.Keeps (svcDelete id it) := by
  unfold svcDelete
  repeat' (first | assumption | with_reducible apply since_Svc_zero | with_reducible apply since_Svc_forwarded
                 | with_reducible apply since_Svc_here | with_reducible apply since_Svc_bad | with_reducible apply since_Svc_len
                 | with_reducible apply since_Svc_pan | with_reducible apply since_deleteRandom | with_reducible apply keep_pure
                 | with_reducible apply keep_bind | with_reducible apply keep_map | intro _ | dsimp only | split)

theorem since_execDelete (item : Nat) (s : State) {r : State} (h : Since r s) : SinceOut r (execDelete item s) := by
  unfold execDelete
  repeat' (first | assumption | with_reducible apply since_svcDelete | with_reducible apply since_runSigned
                 | with_reducible apply sinceOut_next | intro _ | dsimp only)

theorem since_exportChecks (t : Nat) (b : Bytes) (s : State) {r : State} (h : Since r s) : Since r (exportChecks t b s).2 := by
  unfold exportChecks
  repeat' (first | assumption | dsimp only | split)

theorem since_setSession (t : Nat) (x : Option Session) (s : State) {r : State} (h : Since r s) : Since r (setSession t x s) := by
  unfold setSession
  repeat' (first | assumption | simp only [↓since_mk] | with_reducible rfl | dsimp only | split)

theorem since_exportApply (id : Nat) (it : Item) (e : Envelope) (s : State) {r : State} {a} {t : State} (e₀ : exportApply id it e s = .ok (a, t)) (h : Since r s) : Since r t := by
  unfold exportApply at e₀
  dsimp only at e₀
  repeat' split at e₀
  all_goals (first | (cases e₀; done) | skip)
  all_goals cases e₀
  all_goals
    repeat' (first | assumption | with_reducible apply since_applyTenant | with_reducible apply since_setSession | dsimp only)

theorem since_svcExportOpen (id : Nat) (it : Item) : Svc.Keeps (svcExportOpen id it) := by
  unfold svcExportOpen
  repeat' (first | assumption | with_reducible apply since_Svc_decideOk
                 | (with_reducible apply since_exportApply; (· assumption)) | with_reducible apply since_Svc_envelope
                 | with_reducible apply since_Svc_signed | with_reducible apply since_Svc_apply
                 | with_reducible apply since_exportChecks | with_reducible apply since_Svc_engine
                 | with_reducible apply keep_pure | with_reducible apply keep_bind | with_reducible apply keep_map | intro _
                 | (apply since_pair; (· assumption)) | dsimp only)

theorem since_execExportOpen (item : Nat) (s : State) {r : State} (h : Since r s) : SinceOut r (execExportOpen item s) := by
  unfold execExportOpen
  repeat' (first | assumption | with_reducible apply since_runSigned | with_reducible apply since_svcExportOpen
                 | with_reducible apply sinceOut_next | intro _ | dsimp only)

theorem since_exportCursor (t : Nat) (cursor : Nat) (s : State) {r : State} (h : Since r s) : Since r (exportCursor t cursor s).2 := by
  unfold exportCursor
  repeat' (first | assumption | dsimp only | split)

theorem since_exportChunk (t : Nat) (cursor : Nat) (s : State) {r : State} (h : Since r s) : Since r (exportChunk t cursor s).2 := by
  unfold exportChunk
  repeat' (first | assumption | dsimp only | split)

theorem since_exportMove (t : Nat) (cursor : Nat) (next : Nat) (s : State) {r : State} (h : Since r s) : Since r (exportMove t cursor next s) := by
  unfold exportMove
  repeat' (first | assumption | with_reducible apply since_setSession | dsimp only | split)

theorem since_exportHere (id : Nat) (it : Item) : Svc.Keeps (exportHere id it) := by
  unfold exportHere
  repeat' (first | assumption | with_reducible apply since_done | with_reducible apply since_Svc_decideOk
                 | with_reducible apply since_itemWait | with_reducible apply keep_awaitOk | with_reducible apply keep_decide
                 | with_reducible apply since_exportChunk | with_reducible apply since_Svc_pages
                 | with_reducible apply since_Svc_draw | with_reducible apply keep_update
                 | with_reducible apply since_exportMove | with_reducible apply since_exportCursor
                 | with_reducible apply since_Svc_engine | with_reducible apply keep_pure | with_reducible apply keep_bind
                 | with_reducible apply keep_map | intro _ | (apply since_pair; (· assumption)) | dsimp only | split)

theorem since_svcExportNext (id : Nat) (it : Item) : Svc.Keeps (svcExportNext id it) := by
  unfold svcExportNext
  repeat' (first | assumption | with_reducible apply since_Svc_forwarded | with_reducible apply since_Svc_here
                 | with_reducible apply since_Svc_len | with_reducible apply since_exportHere | with_reducible apply keep_pure
                 | with_reducible apply keep_bind | with_reducible apply keep_map | intro _ | dsimp only | split)

theorem since_execExportNext (item : Nat) (s : State) {r : State} (h : Since r s) : SinceOut r (execExportNext item s) := by
  unfold execExportNext
  repeat' (first | assumption | with_reducible apply since_svcExportNext | with_reducible apply since_runOpcode
                 | with_reducible apply sinceOut_next | intro _ | dsimp only)

theorem since_svcVaultQuery (id : Nat) (it : Item) : Svc.Keeps (svcVaultQuery id it) := by
  unfold svcVaultQuery
  repeat' (first | assumption | with_reducible apply since_done | with_reducible apply since_Svc_forwarded
                 | with_reducible apply since_Svc_here | with_reducible apply since_Svc_len | with_reducible apply keep_state
                 | with_reducible apply keep_pure | with_reducible apply keep_bind | with_reducible apply keep_map | intro _
                 | with_reducible apply since_getD | dsimp only | split)

theorem since_execVaultQuery (item : Nat) (s : State) {r : State} (h : Since r s) : SinceOut r (execVaultQuery item s) := by
  unfold execVaultQuery
  repeat' (first | assumption | with_reducible apply since_runOpcode | with_reducible apply since_svcVaultQuery
                 | with_reducible apply sinceOut_next | intro _ | dsimp only)

theorem since_cellarClose (page : Nat) (s : State) {r : State} (h : Since r s) : Since r (cellarClose page s) := by
  unfold cellarClose
  repeat' (first | assumption | with_reducible apply since_cellarRecord | with_reducible apply since_itemEnd
                 | with_reducible apply since_rewriteBase | simp only [↓since_mk] | intro _ | with_reducible rfl
                 | with_reducible apply since_foldl | with_reducible apply since_foldl_snd | dsimp only | split)

theorem since_pageBad (item : Nat) (page : Nat) (s : State) {r : State} (h : Since r s) : Since r (pageBad item page s) := by
  unfold pageBad
  repeat' (first | assumption | with_reducible apply since_cellarClose | with_reducible apply since_eachCopy
                 | with_reducible apply since_sendOn | with_reducible apply since_cellarRecord
                 | with_reducible apply since_itemEnd | with_reducible apply since_count | simp only [↓since_mk]
                 | with_reducible rfl | dsimp only | split)

theorem since_cellarRead (item : Nat) (good : Bool) (s : State) {r : State} (h : Since r s) : Since r (cellarRead item good s) := by
  unfold cellarRead
  repeat' (first | assumption | with_reducible apply since_itemAnswer | with_reducible apply since_pageBad
                 | with_reducible apply since_count | simp only [↓since_mk] | with_reducible rfl | dsimp only | split)

theorem since_execCellarReadComplete (item : Nat) (good : Bool) (s : State) {r : State} (h : Since r s) : SinceOut r (execCellarReadComplete item good s) := by
  unfold execCellarReadComplete
  repeat' (first | assumption | with_reducible apply since_cellarRead | with_reducible apply since_selfCheck
                 | with_reducible apply sinceOut_next | dsimp only)

theorem since_execCommitLogWritten (s : State) {r : State} (h : Since r s) : SinceOut r (execCommitLogWritten s) := by
  unfold execCommitLogWritten
  repeat' (first | assumption | with_reducible apply since_countN | with_reducible apply since_finishCopies
                 | simp only [↓since_mk] | with_reducible apply sinceOut_next | intro _ | with_reducible rfl
                 | with_reducible apply since_foldl | with_reducible apply since_foldl_snd | dsimp only | split)

theorem since_execCommitFlushDone (s : State) {r : State} (h : Since r s) : SinceOut r (execCommitFlushDone s) := by
  unfold execCommitFlushDone
  repeat' (first | assumption | with_reducible apply since_countN | with_reducible apply since_count | simp only [↓since_mk]
                 | with_reducible apply sinceOut_next | with_reducible rfl | dsimp only | split)

theorem since_execSmartWarning (drive : Nat) (s : State) {r : State} (h : Since r s) : SinceOut r (execSmartWarning drive s) := by
  unfold execSmartWarning
  repeat' (first | assumption | with_reducible apply since_cellarRecord | with_reducible apply sinceOut_next | dsimp only | split)

theorem since_execVaultSweeperStep (tenant : Nat) (page : Nat) (s : State) {r : State} (h : Since r s) : SinceOut r (execVaultSweeperStep tenant page s) := by
  unfold execVaultSweeperStep
  repeat' (first | assumption | with_reducible apply since_joinBatch | with_reducible apply sinceOut_next
                 | (apply since_pair; (· assumption)) | dsimp only | split)

theorem since_execPageMessage (page : Nat) (digestMatches : Bool) (s : State) {r : State} (h : Since r s) : SinceOut r (execPageMessage page digestMatches s) := by
  unfold execPageMessage
  repeat' (first | assumption | with_reducible apply since_received | simp only [↓since_mk] | with_reducible apply sinceOut_next
                 | with_reducible rfl | dsimp only | split)

theorem since_grantTo (m : LeaseRequest) (uses : Nat) (s : State) {r : State} (h : Since r s) : Since r (grantTo m uses s) := by
  unfold grantTo
  repeat' (first | assumption | with_reducible apply since_sendTo | dsimp only)

theorem since_leaseAcked (slot : Nat) (s : State) {r : State} (h : Since r s) : Since r (leaseAcked slot s) := by
  unfold leaseAcked
  repeat' (first | assumption | with_reducible apply since_resumeLease | with_reducible apply since_putSlot
                 | with_reducible apply since_grantTo | simp only [↓since_mk] | with_reducible rfl | dsimp only | split)

theorem since_graftHandle (tenant : Nat) (g : GraftBody) (s : State) {r : State} (h : Since r s) : Since r (graftHandle tenant g s).2 := by
  unfold graftHandle
  repeat' (first | assumption | with_reducible apply since_lookupFailed | with_reducible apply since_slotFatal
                 | with_reducible apply since_count | dsimp only | split)

theorem since_graftSource (it : Item) (g : GraftBody) (s : State) {r : State} (h : Since r s) : Since r (graftSource it g s).2 := by
  unfold graftSource
  repeat' (first | assumption | with_reducible apply since_lookupSource | (apply since_pair; (· assumption)) | dsimp only | split)

theorem since_graftFirst (it : Item) (g : GraftBody) (s : State) {r : State} (h : Since r s) : Since r (graftFirst it g s).2 := by
  unfold graftFirst
  repeat' (first | assumption | with_reducible apply since_graftSource | with_reducible apply since_graftHandle
                 | (apply since_pair; (· assumption)) | dsimp only | split)

theorem since_graftMaterial (id : Nat) (it : Item) (g : GraftBody) : Svc.Keeps (graftMaterial id it g) := by
  unfold graftMaterial
  repeat' (first | assumption | with_reducible apply keep_awaitOk | with_reducible apply since_askEngine
                 | with_reducible apply since_Svc_engine | with_reducible apply keep_pure | with_reducible apply keep_bind
                 | with_reducible apply keep_map | intro _ | dsimp only | split)

theorem since_graftCommit (id : Nat) (it : Item) (e : Envelope) (i : Nat) (handle : State → Bytes) {f : State → State} {r s t : State} {a : Apply}
    (hf : ∀ r s, Since r s → Since r (f s)) (e₀ : graftCommit id it e i handle f s = .ok (a, t)) (h : Since r s) : Since r t := by
  unfold graftCommit at e₀
  dsimp only at e₀
  split at e₀
  · cases e₀
  · cases e₀
    exact since_sendSlots _ _ _ _ _ _ (since_applyTenant _ _ _ _ (hf _ _ h))

theorem since_cellarFor (tenant : Nat) (t : Nat) (key : Bytes) (s : State) {r : State} (h : Since r s) : Since r (cellarFor tenant t key s).2 := by
  unfold cellarFor
  repeat' (first | assumption | with_reducible apply since_remoteOk | (apply since_pair; (· assumption)) | dsimp only | split)

theorem since_graftIndex (tenant : Nat) (g : GraftBody) (s : State) {r : State} (h : Since r s) : Since r (graftIndex tenant g s).2 := by
  unfold graftIndex
  repeat' (first | assumption | with_reducible apply since_remoteOk | with_reducible apply since_takeFree
                 | (apply since_pair; (· assumption)) | dsimp only | split)

theorem since_graftApply_id (s : State) {r : State} (h : Since r s) : Since r (graftApply.id_ s) := h

theorem since_newGen (tenant : Nat) (i : Nat) (s : State) {r : State} (h : Since r s) : Since r (newGen tenant i s).2 := by
  unfold newGen
  repeat' (first | assumption | with_reducible apply since_takeFree | (apply since_pair; (· assumption)) | dsimp only | split)

theorem since_storeKey (owner : Nat) (t : Nat) (key : Bytes) (s : State) {r : State} (h : Since r s) : Since r (storeKey owner t key s).2.2 := by
  unfold storeKey
  repeat' (first | assumption | with_reducible apply since_takeFree | simp only [↓since_mk] | with_reducible rfl
                 | with_reducible apply since_getD | (apply since_pair; (· assumption)) | dsimp only | split)

theorem since_putPersistent (i : Nat) (w : PersistentSlot) (key : Bytes) (s : State) {r : State} (h : Since r s) : Since r (putPersistent i w key s) := by
  unfold putPersistent
  repeat' (first | assumption | with_reducible apply since_freeObject | with_reducible apply since_storeKey
                 | with_reducible apply since_freeEntry | with_reducible apply since_giveEntry
                 | with_reducible apply since_unfree | with_reducible apply since_putSlot | (apply since_pair; (· assumption))
                 | dsimp only | split)

theorem since_graftWrite (tenant : Nat) (i : Nat) (par : Nat) (g : GraftBody) (counter : Nat) (key : Bytes) (s : State) {r : State} (h : Since r s) : Since r (graftWrite tenant i par g counter key s) := by
  unfold graftWrite
  repeat' (first | assumption | with_reducible apply since_newGen | with_reducible apply since_putPersistent
                 | (apply since_pair; (· assumption)) | dsimp only | split)

theorem since_graftApply (id : Nat) (it : Item) (e : Envelope) (g : GraftBody) (s : State) {r t : State} {a : Apply}
    (e₀ : graftApply id it e g s = .ok (a, t)) (h : Since r s) : Since r t := by
  unfold graftApply at e₀
  dsimp only at e₀
  split at e₀
  · exact since_graftCommit _ _ _ _ _ (fun _ _ => since_pruneSlot _ _) e₀ h
  · split at e₀
    · exact since_graftCommit _ _ _ _ _ (fun _ _ => since_scrubSlot _ _) e₀ h
    · have hc := since_cellarFor it.tenant g.type (graftKey id it g s) s h
      split at e₀
      · cases e₀
      · split at e₀
        · cases e₀
        · have hx : Since r (if g.new then graftIndex it.tenant g (cellarFor it.tenant g.type (graftKey id it g s) s).2 else (.ok g.idx, (cellarFor it.tenant g.type (graftKey id it g s) s).2)).2 := by
            split
            · exact since_graftIndex _ _ _ hc
            · exact hc
          revert e₀ hx
          generalize (if g.new then graftIndex it.tenant g (cellarFor it.tenant g.type (graftKey id it g s) s).2 else (.ok g.idx, (cellarFor it.tenant g.type (graftKey id it g s) s).2)) = x
          intro e₀ hx
          split at e₀
          · cases e₀
          · split at e₀
            · cases e₀
            · refine since_graftCommit _ _ _ _ _ (fun r' s' h' => ?_) e₀ hx
              split
              · exact since_retireSource _ _ _ (since_graftWrite _ _ _ _ _ _ _ h')
              · exact since_graftWrite _ _ _ _ _ _ _ h'

theorem since_svcGraft (id : Nat) (it : Item) : Svc.Keeps (svcGraft id it) := by
  unfold svcGraft
  repeat' (first | assumption | with_reducible apply since_Svc_decideOk | with_reducible apply since_graftFirst
                 | with_reducible apply since_Svc_envelope | with_reducible apply since_Svc_signed
                 | (with_reducible apply since_graftApply; (· assumption)) | with_reducible apply since_Svc_apply
                 | with_reducible apply since_graftMaterial | with_reducible apply keep_pure | with_reducible apply keep_bind
                 | with_reducible apply keep_map | intro _ | (apply since_pair; (· assumption)) | dsimp only)

theorem since_execGraft (item : Nat) (s : State) {r : State} (h : Since r s) : SinceOut r (execGraft item s) := by
  unfold execGraft
  repeat' (first | assumption | with_reducible apply since_runSigned | with_reducible apply since_svcGraft
                 | with_reducible apply sinceOut_next | intro _ | dsimp only)

theorem since_Svc_shut : Svc.Keeps (Svc.shut) := by
  unfold Svc.shut
  repeat' (first | assumption | with_reducible apply keep_check | with_reducible apply keep_state
                 | with_reducible apply keep_pure | with_reducible apply keep_bind | with_reducible apply keep_map | intro _
                 | dsimp only)

theorem since_Svc_bareKey (it : Item) : Svc.Keeps (Svc.bareKey it) := by
  unfold Svc.bareKey
  repeat' (first | assumption | with_reducible apply keep_update | with_reducible apply since_lookupFailed
                 | with_reducible apply keep_state | with_reducible apply since_slotFatal | with_reducible apply keep_finish
                 | with_reducible apply since_count | with_reducible apply keep_pure | with_reducible apply keep_bind
                 | with_reducible apply keep_map | intro _ | dsimp only | split)

theorem since_pruneService {f : Nat → State → State} (it : Item) (hf : ∀ n r s, Since r s → Since r (f n s)) : Svc.Keeps (pruneService f it) := by
  unfold pruneService
  exact keep_bind since_Svc_shut (fun _ => keep_bind (since_Svc_len _) (fun _ => keep_bind (since_Svc_bareKey _) (fun p =>
    keep_bind (since_Svc_bad _ _) (fun _ => keep_bind (keep_update (hf _)) (fun _ => keep_pure _)))))

theorem since_execPrune (item : Nat) (s : State) {r : State} (h : Since r s) : SinceOut r (execPrune item s) := by
  unfold execPrune
  repeat' (first | assumption | with_reducible apply since_runOpcode | with_reducible apply since_pruneService
                 | with_reducible apply since_pruneSlot | with_reducible apply sinceOut_next | intro _ | dsimp only)

theorem since_execScrub (item : Nat) (s : State) {r : State} (h : Since r s) : SinceOut r (execScrub item s) := by
  unfold execScrub
  repeat' (first | assumption | with_reducible apply since_scrubSlot | with_reducible apply since_runOpcode
                 | with_reducible apply since_pruneService | with_reducible apply sinceOut_next | intro _ | dsimp only)

theorem since_svcQuery (it : Item) : Svc.Keeps (svcQuery it) := by
  unfold svcQuery
  repeat' (first | assumption | with_reducible apply since_done | with_reducible apply since_Svc_len
                 | with_reducible apply since_Svc_bareKey | with_reducible apply keep_state | with_reducible apply keep_pure
                 | with_reducible apply keep_bind | with_reducible apply keep_map | intro _ | dsimp only | split)

theorem since_execQuery (item : Nat) (s : State) {r : State} (h : Since r s) : SinceOut r (execQuery item s) := by
  unfold execQuery
  repeat' (first | assumption | with_reducible apply since_runOpcode | with_reducible apply since_svcQuery
                 | with_reducible apply sinceOut_next | intro _ | dsimp only)

theorem since_svcDerive (id : Nat) (it : Item) : Svc.Keeps (svcDerive id it) := by
  unfold svcDerive
  repeat' (first | assumption | with_reducible apply since_done | with_reducible apply since_Svc_zero
                 | with_reducible apply since_Svc_newSlot | with_reducible apply since_Svc_range
                 | with_reducible apply since_Svc_shut | with_reducible apply since_Svc_bad | with_reducible apply since_Svc_len
                 | with_reducible apply keep_state | with_reducible apply since_Svc_engine | with_reducible apply keep_pure
                 | with_reducible apply keep_bind | with_reducible apply keep_map | intro _ | dsimp only)

theorem since_execDerive (item : Nat) (s : State) {r : State} (h : Since r s) : SinceOut r (execDerive item s) := by
  unfold execDerive
  repeat' (first | assumption | with_reducible apply since_runOpcode | with_reducible apply since_svcDerive
                 | with_reducible apply sinceOut_next | intro _ | dsimp only)

theorem since_generateSlot (id : Nat) (d : NewSlot) (s : State) {r : State} {t : State} (e₀ : generateSlot id d s = some t) (h : Since r s) : Since r t := by
  unfold generateSlot at e₀
  dsimp only at e₀
  repeat' split at e₀
  all_goals (first | (cases e₀; done) | skip)
  all_goals cases e₀
  all_goals
    repeat' (first | assumption | with_reducible apply since_modItem | with_reducible apply since_unfree
                   | with_reducible apply since_putSlot | with_reducible apply since_getD | dsimp only | split)

theorem since_svcGenerate (id : Nat) (it : Item) : Svc.Keeps (svcGenerate id it) := by
  unfold svcGenerate
  dsimp only
  refine keep_bind since_Svc_shut (fun _ => keep_bind (since_Svc_len _) (fun _ => keep_bind (since_Svc_zero _ _) (fun _ => keep_bind (since_Svc_range _) (fun _ =>
    keep_bind (since_Svc_bad _ _) (fun _ => keep_bind (since_Svc_newSlot _ _ _ _ _) (fun d => keep_bind (since_Svc_drawSecret _ _ _) (fun _ => ⟨fun r u h => ?_⟩)))))))
  simp only [bind, StateT.bind, Except.bind, Svc.state]
  cases e : generateSlot id d u.state with
  | none => exact h
  | some t => exact since_generateSlot _ _ _ e h

theorem since_execGenerate (item : Nat) (s : State) {r : State} (h : Since r s) : SinceOut r (execGenerate item s) := by
  unfold execGenerate
  repeat' (first | assumption | with_reducible apply since_runOpcode | with_reducible apply since_svcGenerate
                 | with_reducible apply sinceOut_next | intro _ | dsimp only)

theorem since_officerApply (id : Nat) (it : Item) (e : Envelope) (s : State) {r : State} {a} {t : State} (e₀ : officerApply id it e s = .ok (a, t)) (h : Since r s) : Since r t := by
  unfold officerApply at e₀
  dsimp only at e₀
  repeat' split at e₀
  all_goals (first | (cases e₀; done) | skip)
  all_goals cases e₀
  all_goals
    repeat' (first | assumption | with_reducible apply since_applyTenant | with_reducible apply since_sendPlacement
                   | with_reducible apply since_modTenant | dsimp only | split)

theorem since_svcOfficerSet (id : Nat) (it : Item) : Svc.Keeps (svcOfficerSet id it) := by
  unfold svcOfficerSet
  repeat' (first | assumption | (with_reducible apply since_officerApply; (· assumption))
                 | with_reducible apply since_Svc_envelope | with_reducible apply since_Svc_signed
                 | with_reducible apply since_Svc_apply | with_reducible apply keep_pure | with_reducible apply keep_bind
                 | with_reducible apply keep_map | intro _ | dsimp only)

theorem since_execOfficerSet (item : Nat) (s : State) {r : State} (h : Since r s) : SinceOut r (execOfficerSet item s) := by
  unfold execOfficerSet
  repeat' (first | assumption | with_reducible apply since_svcOfficerSet | with_reducible apply since_runSigned
                 | with_reducible apply sinceOut_next | intro _ | dsimp only)

theorem since_svcVineStatus (it : Item) : Svc.Keeps (svcVineStatus it) := by
  unfold svcVineStatus
  repeat' (first | assumption | with_reducible apply since_done | with_reducible apply since_Svc_len
                 | with_reducible apply keep_state | with_reducible apply keep_pure | with_reducible apply keep_bind
                 | with_reducible apply keep_map | intro _ | with_reducible apply since_getD | dsimp only)

theorem since_execVineStatus (item : Nat) (s : State) {r : State} (h : Since r s) : SinceOut r (execVineStatus item s) := by
  unfold execVineStatus
  repeat' (first | assumption | with_reducible apply since_runOpcode | with_reducible apply since_svcVineStatus
                 | with_reducible apply sinceOut_next | intro _ | dsimp only)

theorem since_execSweeperStep (s : State) {r : State} (h : Since r s) : SinceOut r (execSweeperStep s) := by
  unfold execSweeperStep
  repeat' (first | assumption | with_reducible apply since_reclaimSlot | simp only [↓since_mk]
                 | with_reducible apply sinceOut_next | with_reducible rfl | dsimp only | split)

theorem since_execVineBaseRewrite (s : State) {r : State} (h : Since r s) : SinceOut r (execVineBaseRewrite s) := by
  unfold execVineBaseRewrite
  repeat' (first | assumption | with_reducible apply since_rewriteBase | with_reducible apply sinceOut_next | dsimp only | split)

theorem since_leaseAsked (m : LeaseRequest) (s : State) {r : State} (h : Since r s) : Since r (leaseAsked m s) := by
  unfold leaseAsked
  repeat' (first | assumption | with_reducible apply since_imgPutSlot | with_reducible apply since_putSlot
                 | with_reducible apply since_grantTo | with_reducible apply since_sendOn | with_reducible apply since_noteSlots
                 | simp only [↓since_mk] | with_reducible rfl | dsimp only | split)

theorem since_leaseIn (m : LeaseRequest) (s : State) {r : State} (h : Since r s) : Since r (leaseIn m s) := by
  unfold leaseIn
  repeat' (first | assumption | with_reducible apply since_leaseAsked | with_reducible apply since_sendTo
                 | simp only [↓since_mk] | with_reducible rfl | dsimp only | split)

theorem since_execLeaseBlockRequest (m : LeaseRequest) (s : State) {r : State} (h : Since r s) : SinceOut r (execLeaseBlockRequest m s) := by
  unfold execLeaseBlockRequest
  repeat' (first | assumption | with_reducible apply since_receivedFrom | with_reducible apply since_leaseIn
                 | with_reducible apply sinceOut_next | dsimp only | split)

theorem since_leaseGranted (m : LeaseGrant) (s : State) {r : State} (h : Since r s) : Since r (leaseGranted m s) := by
  unfold leaseGranted
  repeat' (first | assumption | with_reducible apply since_resumeLease | with_reducible apply since_putSlot
                 | with_reducible apply since_exhaustLease | dsimp only | split)

theorem since_leaseRecorded (m : LeaseGrant) (s : State) {r : State} (h : Since r s) : Since r (leaseRecorded m s) := by
  unfold leaseRecorded
  repeat' (first | assumption | with_reducible apply since_imgPutSlot | with_reducible apply since_putSlot
                 | with_reducible apply since_sendOn | dsimp only)

theorem since_execLeaseBlockGrant (m : LeaseGrant) (s : State) {r : State} (h : Since r s) : SinceOut r (execLeaseBlockGrant m s) := by
  unfold execLeaseBlockGrant
  repeat' (first | assumption | with_reducible apply since_receivedManager | with_reducible apply since_leaseRecorded
                 | with_reducible apply since_leaseAcked | with_reducible apply since_leaseGranted
                 | with_reducible apply since_received | with_reducible apply sinceOut_next | dsimp only | split)

theorem since_tamperClear (e : Envelope) (s : State) {r : State} (h : Since r s) : Since r (tamperClear e s) := by
  unfold tamperClear
  repeat' (first | assumption | simp only [↓since_mk] | with_reducible rfl | dsimp only)

theorem since_svcTamperClear (id : Nat) (it : Item) : Svc.Keeps (svcTamperClear id it) := by
  unfold svcTamperClear
  repeat' (first | assumption | with_reducible apply since_done | with_reducible apply since_tamperClear
                 | with_reducible apply since_Svc_bad | with_reducible apply keep_check
                 | with_reducible apply since_Svc_envelope | with_reducible apply keep_update
                 | with_reducible apply since_Svc_signed | with_reducible apply keep_state | with_reducible apply keep_pure
                 | with_reducible apply keep_bind | with_reducible apply keep_map | intro _ | dsimp only)

theorem since_execTamperClear (item : Nat) (s : State) {r : State} (h : Since r s) : SinceOut r (execTamperClear item s) := by
  unfold execTamperClear
  repeat' (first | assumption | with_reducible apply since_svcTamperClear | with_reducible apply since_runSigned
                 | with_reducible apply sinceOut_next | intro _ | dsimp only)

theorem since_mpuDenied (m : Nat) (addr : Nat) (r : Right) (s : State) {r₀ : State} (h : Since r₀ s) : Since r₀ (mpuDenied m addr r s) := by
  unfold mpuDenied
  repeat' (first | assumption | with_reducible apply since_setMpu | with_reducible apply since_eachCopy
                 | with_reducible apply since_count | dsimp only)

theorem since_detect (i : Nat) (batt : Bool) (s : State) {r : State} (h : Since r s) : Since r (detect i batt s) := by
  unfold detect
  repeat' (first | assumption | simp only [↓since_mk] | with_reducible rfl | dsimp only)

theorem since_respond (id : Nat) (cls : Nat) (s : State) {r : State} (h : Since r s) : Since r (respond id cls s) := by
  unfold respond
  repeat' (first | assumption | with_reducible apply since_closeGates | with_reducible apply since_partReset
                 | with_reducible apply since_clearSap | simp only [↓since_mk] | with_reducible rfl | dsimp only | split)

theorem since_tamper (id : Nat) (i : Nat) (s : State) {r : State} (h : Since r s) : Since r (tamper id i s) := by
  unfold tamper
  repeat' (first | assumption | with_reducible apply since_respond | with_reducible apply since_detect | simp only [↓since_mk]
                 | with_reducible rfl | dsimp only | split)

theorem since_execTamperDetect (at_ : Nat) (src : Nat) (s : State) {r : State} (h : Since r s) : SinceOut r (execTamperDetect at_ src s) := by
  unfold execTamperDetect
  repeat' (first | assumption | with_reducible apply since_at | with_reducible apply since_tamper
                 | with_reducible apply sinceOut_next | dsimp only | split)

theorem since_execResponseComplete (stillActive : BitVec 20) (s : State) {r : State} (h : Since r s) : SinceOut r (execResponseComplete stillActive s) := by
  unfold execResponseComplete
  repeat' (first | assumption | simp only [↓since_mk] | with_reducible apply sinceOut_next | with_reducible rfl | dsimp only
                 | split)

theorem since_execHeldTimeout (s : State) {r : State} (h : Since r s) : SinceOut r (execHeldTimeout s) := by
  unfold execHeldTimeout
  repeat' (first | assumption | simp only [↓since_mk] | with_reducible apply sinceOut_next | with_reducible rfl | dsimp only
                 | split)

theorem since_execArmingTimeout (s : State) {r : State} (h : Since r s) : SinceOut r (execArmingTimeout s) := by
  unfold execArmingTimeout
  repeat' (first | assumption | with_reducible apply since_startUp | simp only [↓since_mk] | with_reducible apply sinceOut_next
                 | with_reducible rfl | dsimp only | split)

theorem since_execMainPowerUp (at_ : Nat) (s : State) {r : State} (h : Since r s) : SinceOut r (execMainPowerUp at_ s) := by
  unfold execMainPowerUp
  repeat' (first | assumption | with_reducible apply since_at | simp only [↓since_mk] | with_reducible apply sinceOut_next
                 | with_reducible rfl | dsimp only | split)

theorem since_powerOff (s : State) {r : State} (h : Since r s) : Since r (powerOff s) := by
  unfold powerOff
  repeat' (first | assumption | with_reducible apply since_partReset | simp only [↓since_mk] | with_reducible rfl | dsimp only)

theorem since_execMainPowerLoss (at_ : Nat) (s : State) {r : State} (h : Since r s) : SinceOut r (execMainPowerLoss at_ s) := by
  unfold execMainPowerLoss
  repeat' (first | assumption | with_reducible apply since_at | with_reducible apply since_powerOff
                 | with_reducible apply sinceOut_next | dsimp only | split)

theorem since_execBatteryTamper (at_ : Nat) (src : Nat) (s : State) {r : State} (h : Since r s) : SinceOut r (execBatteryTamper at_ src s) := by
  unfold execBatteryTamper
  repeat' (first | assumption | with_reducible apply since_at | with_reducible apply since_detect
                 | with_reducible apply since_clearSap | with_reducible apply sinceOut_next | dsimp only | split)

theorem since_execVbatColdStart (at_ : Nat) (seeds : List Nat) (s : State) {r : State} (h : Since r s) : SinceOut r (execVbatColdStart at_ seeds s) := by
  have k := since_at at_ h
  exact ⟨k.queue, k.fab, k.clock, k.otp, fun _ i => Nat.zero_le _, k.sorted⟩

theorem since_execVbatWarning (millivolts : Nat) (s : State) {r : State} (h : Since r s) : SinceOut r (execVbatWarning millivolts s) := by
  unfold execVbatWarning
  repeat' (first | assumption | with_reducible apply since_batCheck | simp only [↓since_mk] | with_reducible apply sinceOut_next
                 | with_reducible rfl | dsimp only | split)

theorem since_debugLocked (addr : Nat) (right : Right) (s : State) {r : State} (h : Since r s) : Since r (debugLocked addr right s) := by
  unfold debugLocked
  repeat' (first | assumption | with_reducible apply since_mpuRecord | with_reducible apply since_tamper
                 | with_reducible apply since_emit | with_reducible apply since_mpuDenied | simp only [↓since_mk]
                 | with_reducible rfl | dsimp only | split)

theorem since_execDebugPortLockedAccess (at_ : Nat) (addr : Nat) (right : Right) (s : State) {r : State} (h : Since r s) : SinceOut r (execDebugPortLockedAccess at_ addr right s) := by
  unfold execDebugPortLockedAccess
  repeat' (first | assumption | with_reducible apply since_debugLocked | with_reducible apply since_at
                 | with_reducible apply sinceOut_next | dsimp only | split)

theorem since_svcRandom (id : Nat) (it : Item) : Svc.Keeps (svcRandom id it) := by
  unfold svcRandom
  repeat' (first | assumption | with_reducible apply since_done | with_reducible apply since_askDraw
                 | with_reducible apply since_Svc_range | with_reducible apply keep_awaitOk | with_reducible apply keep_check
                 | with_reducible apply since_Svc_len | with_reducible apply keep_pure | with_reducible apply keep_bind
                 | with_reducible apply keep_map | intro _ | dsimp only | split)

theorem since_execRandom (item : Nat) (s : State) {r : State} (h : Since r s) : SinceOut r (execRandom item s) := by
  unfold execRandom
  repeat' (first | assumption | with_reducible apply since_runOpcode | with_reducible apply since_svcRandom
                 | with_reducible apply sinceOut_next | intro _ | dsimp only)

theorem since_svcDrbgStatus (it : Item) : Svc.Keeps (svcDrbgStatus it) := by
  unfold svcDrbgStatus
  repeat' (first | assumption | with_reducible apply since_done | with_reducible apply since_Svc_len
                 | with_reducible apply keep_state | with_reducible apply keep_pure | with_reducible apply keep_bind
                 | with_reducible apply keep_map | intro _ | dsimp only)

theorem since_execDrbgStatus (item : Nat) (s : State) {r : State} (h : Since r s) : SinceOut r (execDrbgStatus item s) := by
  unfold execDrbgStatus
  repeat' (first | assumption | with_reducible apply since_svcDrbgStatus | with_reducible apply since_runOpcode
                 | with_reducible apply sinceOut_next | intro _ | dsimp only)

end Sys2Proof.Machine
end

