-- ==== Sys2Proof/Laws/SinceHost.lean ====
section
/-! SUPPORT. Each operation undoes nothing (Since): the front end, the dispatcher, tenants and faults. -/

set_option Elab.async false

set_option linter.all false

namespace Sys2Proof.Machine

theorem since_writeDirect (f : Fetched) (d : Direct) (s : State) {r : State} (h : Since r s) : Since r (writeDirect f d s) := by
  unfold writeDirect
  repeat' (first | assumption | with_reducible apply since_writeReply | with_reducible apply since_count | dsimp only)

theorem since_takeNext (h : Header) (s : State) {r : State} (h₀ : Since r s) : Since r (takeNext h s).2 := by
  unfold takeNext
  repeat' (first | assumption | simp only [↓since_mk] | with_reducible rfl | dsimp only | split)

theorem since_failAdmit (id : Nat) (status : Nat) (detail : Nat) (step : Nat) (s : State) {r : State} (h : Since r s) : Since r (failAdmit id status detail step s) := by
  unfold failAdmit
  repeat' (first | assumption | with_reducible apply since_itemEnd | with_reducible apply since_count | dsimp only)

theorem since_chargeQuota (it : Item) (s : State) {r : State} (h : Since r s) : Since r (chargeQuota it s) := by
  unfold chargeQuota
  repeat' (first | assumption | with_reducible apply since_modCtx | dsimp only | split)

theorem since_admitCharged (id : Nat) (it : Item) (s : State) {r : State} (h : Since r s) : Since r (admitCharged id it s) := by
  unfold admitCharged
  repeat' (first | assumption | with_reducible apply since_failAdmit | with_reducible apply since_modItem
                 | with_reducible apply since_enterList | with_reducible apply since_chargeQuota | dsimp only | split)

theorem since_holdItem (id : Nat) (it : Item) (s : State) {r : State} (h : Since r s) : Since r (holdItem id it s) := by
  unfold holdItem
  repeat' (first | assumption | with_reducible apply since_modItem | with_reducible apply since_count | simp only [↓since_mk]
                 | with_reducible rfl | dsimp only)

theorem since_admitItem (id : Nat) (s : State) {r : State} (h : Since r s) : Since r (admitItem id s) := by
  unfold admitItem
  repeat' (first | assumption | with_reducible apply since_failAdmit | with_reducible apply since_admitCharged
                 | with_reducible apply since_holdItem | dsimp only | split)

theorem since_makeItem (id : Nat) (f : Fetched) (pkt : Bytes) (s : State) {r : State} (h : Since r s) : Since r (makeItem id f pkt s) := by
  unfold makeItem
  exact since_admitItem _ _ (since_table (since_takeNext _ _ h) rfl (fun hs => tsorted_tput hs _ _))

theorem since_admitPacket (f : Fetched) (rest : List Fetched) (pkt : Bytes) (s : State) {r : State} (h : Since r s) : Since r (admitPacket f rest pkt s) := by
  unfold admitPacket
  repeat' (first | assumption | with_reducible apply since_makeItem | with_reducible apply since_writeDirect
                 | simp only [↓since_mk] | with_reducible rfl | dsimp only | split)

theorem since_execPacketAdmission (pkt : Bytes) (s : State) {r : State} (h : Since r s) : SinceOut r (execPacketAdmission pkt s) := by
  unfold execPacketAdmission
  repeat' (first | assumption | with_reducible apply since_admitPacket | with_reducible apply sinceOut_next | dsimp only | split)

theorem since_refreshQuota (s : State) {r : State} (h : Since r s) : Since r (refreshQuota s) := by
  unfold refreshQuota
  repeat' (first | assumption | with_reducible apply since_admitItem | simp only [↓since_mk] | intro _ | with_reducible rfl
                 | with_reducible apply since_foldl | with_reducible apply since_foldl_snd | dsimp only)

theorem since_unlockHeld (s : State) {r : State} (h : Since r s) : Since r (unlockHeld s) := by
  unfold unlockHeld
  repeat' (first | assumption | with_reducible apply since_itemEnd | intro _ | with_reducible apply since_foldl
                 | with_reducible apply since_foldl_snd | dsimp only)

theorem since_doorbell (fn : Nat) (q : Nat) (v : Nat) (f : Nat → Queue → Queue) (s : State) {r : State} (h : Since r s) : Since r (doorbell fn q v f s) := by
  unfold doorbell
  repeat' (first | assumption | with_reducible apply since_modQueue | with_reducible apply since_queueError | dsimp only | split)

theorem since_sqTail (fn : Nat) (q : Nat) (v : Nat) (s : State) {r : State} (h : Since r s) : Since r (sqTail fn q v s) := by
  unfold sqTail
  repeat' (first | assumption | with_reducible apply since_doorbell | dsimp only)

theorem since_execSqTailWrite (fn : Nat) (q : Nat) (v : Nat) (s : State) {r : State} (h : Since r s) : SinceOut r (execSqTailWrite fn q v s) := by
  unfold execSqTailWrite
  repeat' (first | assumption | with_reducible apply since_sqTail | with_reducible apply sinceOut_next | dsimp only)

theorem since_cqHead (fn : Nat) (q : Nat) (v : Nat) (s : State) {r : State} (h : Since r s) : Since r (cqHead fn q v s) := by
  unfold cqHead
  repeat' (first | assumption | with_reducible apply since_writeRmarks | with_reducible apply since_doorbell | dsimp only)

theorem since_execCqHeadWrite (fn : Nat) (q : Nat) (v : Nat) (s : State) {r : State} (h : Since r s) : SinceOut r (execCqHeadWrite fn q v s) := by
  unfold execCqHeadWrite
  repeat' (first | assumption | with_reducible apply since_cqHead | with_reducible apply sinceOut_next | dsimp only)

theorem since_passTurn (fn : Nat) (q : Nat) (s : State) {r : State} (h : Since r s) : Since r (passTurn fn q s) := by
  unfold passTurn
  repeat' (first | assumption | simp only [↓since_mk] | with_reducible rfl | dsimp only)

theorem since_fetchEntry (fn : Nat) (q : Nat) (p : Queue) (entry : Bytes) (segs : Bytes) (s : State) {r : State} (h : Since r s) : Since r (fetchEntry fn q p entry segs s) := by
  unfold fetchEntry
  repeat' (first | assumption | with_reducible apply since_passTurn | with_reducible apply since_modQueue
                 | with_reducible apply since_countN | with_reducible apply since_count | simp only [↓since_mk]
                 | with_reducible rfl | dsimp only | split)

theorem since_execSubmissionEntryFetch (entry : Bytes) (segs : Bytes) (s : State) {r : State} (h : Since r s) : SinceOut r (execSubmissionEntryFetch entry segs s) := by
  unfold execSubmissionEntryFetch
  repeat' (first | assumption | with_reducible apply since_fetchEntry | with_reducible apply sinceOut_next | dsimp only | split)

theorem since_countDma (s : State) {r : State} (h : Since r s) : Since r (countDma s) := by
  unfold countDma
  repeat' (first | assumption | with_reducible apply since_eachCopy | dsimp only)

theorem since_fnFault (fn : Nat) (q : Nat) (cause : Nat) (s : State) {r : State} (h : Since r s) : Since r (fnFault fn q cause s) := by
  unfold fnFault
  repeat' (first | assumption | with_reducible apply since_quarantine | with_reducible apply since_queueError
                 | with_reducible apply since_containedReport | dsimp only | split)

theorem since_releaseTrunc (id : Nat) (it : Item) (s : State) {r : State} (h : Since r s) : Since r (releaseTrunc id it s) := by
  unfold releaseTrunc
  repeat' (first | assumption | with_reducible apply since_writeCompletion | with_reducible apply since_release | intro _
                 | with_reducible apply since_getD | dsimp only)

theorem since_execHostDmaError (e : DmaError) (s : State) {r : State} (h : Since r s) : SinceOut r (execHostDmaError e s) := by
  unfold execHostDmaError
  repeat' (first | assumption | with_reducible apply since_releaseTrunc | with_reducible apply since_queueError
                 | with_reducible apply since_countDma | with_reducible apply since_fnFault | with_reducible apply since_release
                 | simp only [↓since_mk] | with_reducible apply sinceOut_next | intro _ | with_reducible rfl | dsimp only
                 | split)

theorem since_execCtimExpiry (fn : Nat) (q : Nat) (s : State) {r : State} (h : Since r s) : SinceOut r (execCtimExpiry fn q s) := by
  unfold execCtimExpiry
  repeat' (first | assumption | with_reducible apply since_sendMsix | with_reducible apply since_at
                 | with_reducible apply since_modQueue | with_reducible apply sinceOut_next | dsimp only | split)

theorem since_resetMsix (fn : Nat) (s : State) {r : State} (h : Since r s) : Since r (resetMsix fn s) := by
  unfold resetMsix
  repeat' (first | assumption | simp only [↓since_mk] | with_reducible rfl | dsimp only)

theorem since_zeroRings (fn : Nat) (s : State) {r : State} (h : Since r s) : Since r (zeroRings fn s) := by
  unfold zeroRings
  repeat' (first | assumption | with_reducible apply since_modQueuesOf | dsimp only)

theorem since_execVfFlr (vf : Nat) (s : State) {r : State} (h : Since r s) : SinceOut r (execVfFlr vf s) := by
  unfold execVfFlr
  repeat' (first | assumption | with_reducible apply since_zeroRings | with_reducible apply since_beginReset
                 | with_reducible apply since_resetMsix | with_reducible apply sinceOut_next | dsimp only | split)

theorem since_execPfFlr (s : State) {r : State} (h : Since r s) : SinceOut r (execPfFlr s) := by
  have k := since_foldl s.hfe.ctxs (f := fun (s : State) (e : Nat × Ctx) => beginReset e.1 2 none true s) (fun _ _ _ h => since_beginReset _ _ _ _ _ h) h
  have k := since_foldl (List.range 65) (f := fun (s : State) (fn : Nat) => removeQueues fn s) (fun _ _ _ h => since_removeQueues _ _ h) k
  exact since_resetMsix _ _ ((since_mk rfl rfl).mpr k)

theorem since_endReset (t : Nat) (c : Ctx) (s : State) {r : State} (h : Since r s) : Since r (endReset t c s) := by
  unfold endReset
  repeat' (first | assumption | with_reducible apply since_modCtx | with_reducible apply since_destroyEphemeral
                 | with_reducible apply since_uninstantiate | with_reducible apply since_ctxEvent
                 | with_reducible apply since_modQueuesOf | with_reducible apply since_emptyShare
                 | with_reducible apply since_instantiate | with_reducible apply since_itemEnd | intro _
                 | with_reducible apply since_foldl | with_reducible apply since_foldl_snd | with_reducible apply since_getD
                 | dsimp only | split)

theorem since_execTenantResetComplete (tenant : Nat) (s : State) {r : State} (h : Since r s) : SinceOut r (execTenantResetComplete tenant s) := by
  unfold execTenantResetComplete
  repeat' (first | assumption | with_reducible apply since_removeCtx | with_reducible apply since_endReset
                 | with_reducible apply sinceOut_next | dsimp only | split)

theorem since_execFreezeComplete (tenant : Nat) (s : State) {r : State} (h : Since r s) : SinceOut r (execFreezeComplete tenant s) := by
  unfold execFreezeComplete
  repeat' (first | assumption | with_reducible apply since_modCtx | with_reducible apply since_itemEnd
                 | with_reducible apply sinceOut_next | intro _ | with_reducible apply since_foldl
                 | with_reducible apply since_foldl_snd | dsimp only | split)

theorem since_execDeleteQueueComplete (fn : Nat) (q : Nat) (s : State) {r : State} (h : Since r s) : SinceOut r (execDeleteQueueComplete fn q s) := by
  unfold execDeleteQueueComplete
  repeat' (first | assumption | with_reducible apply since_itemEnd | simp only [↓since_mk] | with_reducible apply sinceOut_next
                 | intro _ | with_reducible rfl | with_reducible apply since_foldl | with_reducible apply since_foldl_snd
                 | dsimp only | split)

theorem since_sendPending (fn : Nat) (s : State) {r : State} (h : Since r s) : Since r (sendPending fn s) := by
  unfold sendPending
  repeat' (first | assumption | with_reducible apply since_sendMsix | simp only [↓since_mk] | intro _ | with_reducible rfl
                 | with_reducible apply since_foldl | with_reducible apply since_foldl_snd | dsimp only | split)

theorem since_execConfigurationWrite (w : ConfigWrite) (s : State) {r : State} (h : Since r s) : SinceOut r (execConfigurationWrite w s) := by
  unfold execConfigurationWrite
  repeat' (first | assumption | with_reducible apply since_sendPending | simp only [↓since_mk]
                 | with_reducible apply sinceOut_next | with_reducible rfl | dsimp only | split)

theorem since_sendDelta (s : State) {r : State} (h : Since r s) : Since r (sendDelta s) := by
  unfold sendDelta
  repeat' (first | assumption | with_reducible apply since_takeFree | with_reducible apply since_sendOn
                 | with_reducible apply since_countN | with_reducible apply since_count | simp only [↓since_mk]
                 | with_reducible rfl | (apply since_pair; (· assumption)) | dsimp only)

theorem since_handoverStep (s : State) {r : State} (h : Since r s) : Since r (handoverStep s) := by
  unfold handoverStep
  repeat' (first | assumption | with_reducible apply since_closeBatch | with_reducible apply since_sendDelta
                 | simp only [↓since_mk] | with_reducible rfl | dsimp only | split)

theorem since_releaseCopies (s : State) {r : State} (h : Since r s) : Since r (releaseCopies s) := by
  unfold releaseCopies
  repeat' (first | assumption | with_reducible apply since_modApplies | with_reducible apply since_leaseAcked
                 | with_reducible apply since_finishCopies | simp only [↓since_mk] | intro _ | with_reducible rfl
                 | with_reducible apply since_foldl | with_reducible apply since_foldl_snd | dsimp only)

theorem since_standbyLost (s : State) {r : State} (h : Since r s) : Since r (standbyLost s) := by
  unfold standbyLost
  repeat' (first | assumption | with_reducible apply since_releaseCopies | with_reducible apply since_itemEnd
                 | simp only [↓since_mk] | with_reducible rfl | dsimp only | split)

theorem since_sendBulk (s : State) {r : State} (h : Since r s) : Since r (sendBulk s) := by
  unfold sendBulk
  repeat' (first | assumption | with_reducible apply since_sendOn | simp only [↓since_mk] | intro _ | with_reducible rfl
                 | with_reducible apply since_foldl | with_reducible apply since_foldl_snd | dsimp only)

theorem since_twinCopy (s : State) {r : State} (h : Since r s) : Since r (twinCopy s) := by
  unfold twinCopy
  repeat' (first | assumption | with_reducible apply since_closeBatch | with_reducible apply since_sendBulk
                 | with_reducible apply since_standbyLost | with_reducible apply since_sendDelta | dsimp only | split)

theorem since_firstWindows (it : Item) (s : State) {r : State} (h : Since r s) : Since r (firstWindows it s).2 := by
  unfold firstWindows
  repeat' (first | assumption | with_reducible apply since_takeFree | (apply since_pair; (· assumption)) | dsimp only)

theorem since_swapItem (core : Nat) (ctx : Nat) (ws : List (BitVec 64)) (s : State) {r : State} (h : Since r s) : Since r (swapItem core ctx ws s) := by
  unfold swapItem
  repeat' (first | assumption | with_reducible apply since_swapIn | dsimp only)

theorem since_startItem (id : Nat) (core : Nat) (ctx : Nat) (it : Item) (s : State) {r : State} (h : Since r s) : Since r (startItem id core ctx it s) := by
  unfold startItem
  repeat' (first | assumption | with_reducible apply since_swapItem | with_reducible apply since_modItem
                 | with_reducible apply since_count | with_reducible apply since_firstWindows | simp only [↓since_mk]
                 | with_reducible rfl | (apply since_pair; (· assumption)) | dsimp only)

theorem since_handOff (id : Nat) (core : Nat) (ctx : Nat) (it : Item) (s : State) {r : State} (h : Since r s) : Since r (handOff id core ctx it s) := by
  unfold handOff
  repeat' (first | assumption | with_reducible apply since_startItem | with_reducible apply since_itemEnd
                 | with_reducible apply since_count | simp only [↓since_mk] | with_reducible rfl | dsimp only | split)

theorem since_execItemHandoff (s : State) {r : State} (h : Since r s) : SinceOut r (execItemHandoff s) := by
  unfold execItemHandoff
  repeat' (first | assumption | with_reducible apply since_handOff | with_reducible apply sinceOut_next | dsimp only | split)

theorem since_execItemResume (core : Nat) (s : State) {r : State} (h : Since r s) : SinceOut r (execItemResume core s) := by
  unfold execItemResume
  repeat' (first | assumption | with_reducible apply since_swapItem | with_reducible apply since_modItem
                 | with_reducible apply since_count | with_reducible apply sinceOut_next | dsimp only | split)

theorem since_execWindowGrant (item : Nat) (base : Nat) (len : Nat) (s : State) {r : State} (h : Since r s) : SinceOut r (execWindowGrant item base len s) := by
  unfold execWindowGrant
  repeat' (first | assumption | with_reducible apply since_swapItem | with_reducible apply since_modItem
                 | with_reducible apply since_count | with_reducible apply sinceOut_next | dsimp only | split)

theorem since_sendAnswer (it : Item) (s : State) {r : State} (h : Since r s) : Since r (sendAnswer it s) := by
  unfold sendAnswer
  repeat' (first | assumption | with_reducible apply since_sendTo | with_reducible apply since_getD | dsimp only)

theorem since_afterRelease (id : Nat) (it : Item) (s : State) {r : State} (h : Since r s) : Since r (afterRelease id it s) := by
  unfold afterRelease
  repeat' (first | assumption | with_reducible apply since_tenantIdle | simp only [↓since_mk] | with_reducible rfl | dsimp only
                 | split)

theorem since_execDecanterRelease (item : Nat) (s : State) {r : State} (h : Since r s) : SinceOut r (execDecanterRelease item s) := by
  unfold execDecanterRelease
  repeat' (first | assumption | with_reducible apply since_sendAnswer | with_reducible apply since_dropItem
                 | with_reducible apply since_afterRelease | with_reducible apply since_writeRmarks
                 | with_reducible apply since_releaseReply | with_reducible apply since_handoverStep
                 | with_reducible apply since_count | with_reducible apply sinceOut_next | dsimp only | split)

theorem since_execGroupDrainComplete (group : Nat) (s : State) {r : State} (h : Since r s) : SinceOut r (execGroupDrainComplete group s) := by
  unfold execGroupDrainComplete
  repeat' (first | assumption | simp only [↓since_mk] | with_reducible apply sinceOut_next | with_reducible rfl | dsimp only
                 | split)

theorem since_setPair (p : Nat) (t : Option Thread) (s : State) {r : State} (h : Since r s) : Since r (setPair p t s) := by
  unfold setPair
  repeat' (first | assumption | simp only [↓since_mk] | with_reducible rfl | dsimp only | split)

theorem since_threadReady (t : Thread) (s : State) {r : State} (h : Since r s) : Since r (threadReady t s) := by
  unfold threadReady
  repeat' (first | assumption | with_reducible apply since_setPair | with_reducible apply since_count | simp only [↓since_mk]
                 | with_reducible rfl | dsimp only | split)

theorem since_execControlThreadReady (t : Thread) (s : State) {r : State} (h : Since r s) : SinceOut r (execControlThreadReady t s) := by
  unfold execControlThreadReady
  repeat' (first | assumption | with_reducible apply since_threadReady | with_reducible apply sinceOut_next | dsimp only)

theorem since_pulseEdge (low : Nat) (high : Nat) (s : State) {r : State} (h : Since r s) : Since r (pulseEdge low high s).2 := by
  unfold pulseEdge
  repeat' (first | assumption | with_reducible apply since_takeFree | (apply since_pair; (· assumption)) | dsimp only | split)

theorem since_modCyu (f : Cyu → Cyu) (s : State) {r : State} (h : Since r s) : Since r (modCyu f s) := by
  unfold modCyu
  repeat' (first | assumption | simp only [↓since_mk] | with_reducible rfl | dsimp only)

theorem since_holdTick (s : State) {r : State} (h : Since r s) : Since r (holdTick s) := by
  unfold holdTick
  repeat' (first | assumption | simp only [↓since_mk] | with_reducible rfl | dsimp only | split)

theorem since_releaseStaged (s : State) {r : State} (h : Since r s) : Since r (releaseStaged s) := by
  unfold releaseStaged
  repeat' (first | assumption | simp only [↓since_mk] | with_reducible rfl | dsimp only | split)

theorem since_remoteTopUp (i : Nat) (part : Nat) (s : State) {r : State} (h : Since r s) : Since r (remoteTopUp i part s) := by
  unfold remoteTopUp
  repeat' (first | assumption | with_reducible apply since_imgPutSlot | with_reducible apply since_putSlot
                 | with_reducible apply since_sendTo | with_reducible apply since_takeFree | (apply since_pair; (· assumption))
                 | dsimp only | split)

theorem since_topUpSlot (i : Nat) (s : State) {r : State} (h : Since r s) : Since r (topUpSlot i s) := by
  unfold topUpSlot
  repeat' (first | assumption | with_reducible apply since_remoteTopUp | with_reducible apply since_resumeLease
                 | with_reducible apply since_topUp | with_reducible apply since_noteSlots | intro _
                 | with_reducible apply since_foldl | with_reducible apply since_foldl_snd | with_reducible apply since_getD
                 | dsimp only | split)

theorem since_boundaryLeases (s : State) {r : State} (h : Since r s) : Since r (boundaryLeases s) := by
  unfold boundaryLeases
  repeat' (first | assumption | with_reducible apply since_topUpSlot | intro _ | with_reducible apply since_foldl
                 | with_reducible apply since_foldl_snd | dsimp only | split)

theorem since_boundary (edge : Bool) (s : State) {r : State} (h : Since r s) : Since r (boundary edge s) := by
  unfold boundary
  repeat' (first | assumption | with_reducible apply since_checkpoint | with_reducible apply since_refreshQuota
                 | with_reducible apply since_boundaryLeases | with_reducible apply since_emit
                 | with_reducible apply since_twinCopy | with_reducible apply since_holdTick
                 | with_reducible apply since_releaseStaged | with_reducible apply since_count | dsimp only | split)

theorem since_sendEdge (s : State) {r : State} (h : Since r s) : Since r (sendEdge s) := by
  unfold sendEdge
  repeat' (first | assumption | with_reducible apply since_sendOn | intro _ | with_reducible apply since_foldl
                 | with_reducible apply since_foldl_snd | with_reducible apply since_getD | dsimp only | split)

theorem since_lockEdge (t : Nat) (s : State) {r : State} (h : Since r s) : Since r (lockEdge t s) := by
  unfold lockEdge
  repeat' (first | assumption | with_reducible apply since_sendEdge | with_reducible apply since_boundary
                 | with_reducible apply since_modCyu | with_reducible apply since_cycleRecord | with_reducible apply since_count
                 | dsimp only | split)

theorem since_acquireEdge (t : Nat) (s : State) {r : State} (h : Since r s) : Since r (acquireEdge t s) := by
  unfold acquireEdge
  repeat' (first | assumption | with_reducible apply since_modCyu | with_reducible apply since_lockEdge | dsimp only | split)

theorem since_cycUnlock (t : Nat) (s : State) {r : State} (h : Since r s) : Since r (cycUnlock t s) := by
  unfold cycUnlock
  repeat' (first | assumption | with_reducible apply since_sendEdge | with_reducible apply since_modCyu
                 | with_reducible apply since_unlockHeld | with_reducible apply since_cycleRecord | dsimp only)

theorem since_acceptEdge (t : Nat) (s : State) {r : State} (h : Since r s) : Since r (acceptEdge t s) := by
  unfold acceptEdge
  repeat' (first | assumption | with_reducible apply since_cycUnlock | with_reducible apply since_sendEdge
                 | with_reducible apply since_boundary | with_reducible apply since_modCyu
                 | with_reducible apply since_cycleRecord | with_reducible apply since_count | dsimp only | split)

theorem since_countStray (s : State) {r : State} (h : Since r s) : Since r (countStray s) := by
  unfold countStray
  repeat' (first | assumption | with_reducible apply since_eachCopy | with_reducible apply since_count | dsimp only)

theorem since_strayEdge (s : State) {r : State} (h : Since r s) : Since r (strayEdge s) := by
  unfold strayEdge
  repeat' (first | assumption | with_reducible apply since_cycleRecord | with_reducible apply since_countStray | dsimp only)

theorem since_realEdge (t : Nat) (s : State) {r : State} (h : Since r s) : Since r (realEdge t s) := by
  unfold realEdge
  repeat' (first | assumption | with_reducible apply since_strayEdge | with_reducible apply since_modCyu
                 | with_reducible apply since_acceptEdge | with_reducible apply since_acquireEdge | dsimp only | split)

theorem since_execCycinEdge (at_ : Nat) (low : Nat) (high : Nat) (s : State) {r : State} (h : Since r s) : SinceOut r (execCycinEdge at_ low high s) := by
  unfold execCycinEdge
  repeat' (first | assumption | with_reducible apply since_at | with_reducible apply since_realEdge
                 | with_reducible apply since_pulseEdge | with_reducible apply sinceOut_next
                 | (apply since_pair; (· assumption)) | dsimp only | split)

theorem since_cycLose (s : State) {r : State} (h : Since r s) : Since r (cycLose s) := by
  unfold cycLose
  repeat' (first | assumption | with_reducible apply since_at | with_reducible apply since_modCyu
                 | with_reducible apply since_cycleRecord | dsimp only)

theorem since_countHeld (s : State) {r : State} (h : Since r s) : Since r (countHeld s) := by
  unfold countHeld
  repeat' (first | assumption | with_reducible apply since_eachCopy | with_reducible apply since_count | dsimp only)

theorem since_heldEdge (t : Nat) (s : State) {r : State} (h : Since r s) : Since r (heldEdge t s) := by
  unfold heldEdge
  repeat' (first | assumption | with_reducible apply since_countHeld | with_reducible apply since_cycUnlock
                 | with_reducible apply since_sendEdge | with_reducible apply since_boundary | with_reducible apply since_modCyu
                 | dsimp only | split)

theorem since_windowEnd (s : State) {r : State} (h : Since r s) : Since r (windowEnd s) := by
  unfold windowEnd
  repeat' (first | assumption | with_reducible apply since_at | with_reducible apply since_cycUnlock
                 | with_reducible apply since_heldEdge | with_reducible apply since_cycLose | dsimp only | split)

theorem since_execWindowEnd (s : State) {r : State} (h : Since r s) : SinceOut r (execWindowEnd s) := by
  unfold execWindowEnd
  repeat' (first | assumption | with_reducible apply since_windowEnd | with_reducible apply sinceOut_next | dsimp only | split)

theorem since_execCycleLostTimeout (s : State) {r : State} (h : Since r s) : SinceOut r (execCycleLostTimeout s) := by
  unfold execCycleLostTimeout
  repeat' (first | assumption | with_reducible apply since_cycLose | with_reducible apply sinceOut_next | dsimp only | split)

theorem since_execAcquireTimeout (s : State) {r : State} (h : Since r s) : SinceOut r (execAcquireTimeout s) := by
  unfold execAcquireTimeout
  repeat' (first | assumption | with_reducible apply since_at | with_reducible apply since_modCyu
                 | with_reducible apply sinceOut_next | dsimp only | split)

theorem since_execLocalBoundary (s : State) {r : State} (h : Since r s) : SinceOut r (execLocalBoundary s) := by
  unfold execLocalBoundary
  repeat' (first | assumption | with_reducible apply since_at | with_reducible apply since_boundary
                 | with_reducible apply since_modCyu | with_reducible apply sinceOut_next | dsimp only | split)

theorem since_queueEdge (t : Nat) (m : EdgeMsg) (s : State) {r : State} (h : Since r s) : Since r (queueEdge t m s) := by
  unfold queueEdge
  repeat' (first | assumption | with_reducible apply since_modCyu | dsimp only)

theorem since_applyEdge (t : Nat) (m : EdgeMsg) (s : State) {r : State} (h : Since r s) : Since r (applyEdge t m s) := by
  unfold applyEdge
  repeat' (first | assumption | with_reducible apply since_countHeld | with_reducible apply since_cycUnlock
                 | with_reducible apply since_boundary | with_reducible apply since_modCyu | with_reducible apply since_count
                 | dsimp only | split)

theorem since_measureLatency (s : State) {r : State} (h : Since r s) : Since r (measureLatency s) := by
  unfold measureLatency
  repeat' (first | assumption | with_reducible apply since_takeFree | simp only [↓since_mk] | with_reducible rfl
                 | (apply since_pair; (· assumption)) | dsimp only)

theorem since_execEdgeApply (s : State) {r : State} (h : Since r s) : SinceOut r (execEdgeApply s) := by
  unfold execEdgeApply
  repeat' (first | assumption | with_reducible apply since_at | with_reducible apply since_applyEdge
                 | with_reducible apply since_modCyu | with_reducible apply since_measureLatency
                 | with_reducible apply sinceOut_next | dsimp only | split)

theorem since_Svc_lenIs (it : Item) (n : Nat) : Svc.Keeps (Svc.lenIs it n) := by
  unfold Svc.lenIs
  repeat' (first | assumption | with_reducible apply since_Svc_len | with_reducible apply keep_pure
                 | with_reducible apply keep_bind | with_reducible apply keep_map | intro _ | dsimp only)

theorem since_attachCtx (it : Item) (s : State) {r : State} (h : Since r s) : Since r (attachCtx it s) := by
  unfold attachCtx
  repeat' (first | assumption | with_reducible apply since_ctxEvent | with_reducible apply since_instantiate
                 | simp only [↓since_mk] | with_reducible rfl | dsimp only)

theorem since_svcAttach (it : Item) : Svc.Keeps (svcAttach it) := by
  unfold svcAttach
  repeat' (first | assumption | with_reducible apply since_done | with_reducible apply since_Svc_zero
                 | with_reducible apply since_attachCtx | with_reducible apply since_Svc_range
                 | with_reducible apply keep_update | with_reducible apply keep_state | with_reducible apply since_Svc_lenIs
                 | with_reducible apply keep_finish | with_reducible apply keep_pure | with_reducible apply keep_bind
                 | with_reducible apply keep_map | intro _ | dsimp only | split)

theorem since_execAttach (item : Nat) (s : State) {r : State} (h : Since r s) : SinceOut r (execAttach item s) := by
  unfold execAttach
  repeat' (first | assumption | with_reducible apply since_svcAttach | with_reducible apply since_runOpcode
                 | with_reducible apply sinceOut_next | intro _ | dsimp only)

theorem since_Svc_context (it : Item) : Svc.Keeps (Svc.context it) := by
  unfold Svc.context
  repeat' (first | assumption | with_reducible apply keep_state | with_reducible apply keep_finish
                 | with_reducible apply keep_pure | with_reducible apply keep_bind | with_reducible apply keep_map | intro _
                 | dsimp only | split)

theorem since_Svc_pend (id : Nat) {f : State → State} (hf : ∀ r s, Since r s → Since r (f s)) : Svc.Keeps (Svc.pend id f) :=
  ⟨fun r u h => since_itemWait _ _ _ (hf r u.state h)⟩

theorem since_svcDetach (id : Nat) (it : Item) : Svc.Keeps (svcDetach id it) := by
  unfold svcDetach
  repeat' (first | assumption | with_reducible apply since_modCtx | with_reducible apply since_beginReset
                 | with_reducible apply since_Svc_context | with_reducible apply since_Svc_pend | with_reducible apply keep_pure
                 | with_reducible apply keep_bind | with_reducible apply keep_map | intro _ | dsimp only)

theorem since_execDetach (item : Nat) (s : State) {r : State} (h : Since r s) : SinceOut r (execDetach item s) := by
  unfold execDetach
  repeat' (first | assumption | with_reducible apply since_runOpcode | with_reducible apply since_svcDetach
                 | with_reducible apply sinceOut_next | intro _ | dsimp only)

theorem since_addQueue (fn : Nat) (q : Nat) (p : Queue) (s : State) {r : State} (h : Since r s) : Since r (addQueue fn q p s) := by
  unfold addQueue
  repeat' (first | assumption | simp only [↓since_mk] | with_reducible rfl | dsimp only)

theorem since_svcCreateQueue (it : Item) : Svc.Keeps (svcCreateQueue it) := by
  unfold svcCreateQueue
  repeat' (first | assumption | with_reducible apply since_done | with_reducible apply since_Svc_zero
                 | with_reducible apply since_Svc_range | with_reducible apply since_Svc_bad | with_reducible apply keep_update
                 | with_reducible apply keep_state | with_reducible apply since_addQueue | with_reducible apply since_Svc_lenIs
                 | with_reducible apply keep_pure | with_reducible apply keep_bind | with_reducible apply keep_map | intro _
                 | dsimp only | split)

theorem since_execCreateQueue (item : Nat) (s : State) {r : State} (h : Since r s) : SinceOut r (execCreateQueue item s) := by
  unfold execCreateQueue
  repeat' (first | assumption | with_reducible apply since_runOpcode | with_reducible apply since_svcCreateQueue
                 | with_reducible apply sinceOut_next | intro _ | dsimp only)

theorem since_svcTenantReset (id : Nat) (it : Item) : Svc.Keeps (svcTenantReset id it) := by
  unfold svcTenantReset
  repeat' (first | assumption | with_reducible apply since_beginReset | with_reducible apply since_Svc_context
                 | with_reducible apply since_Svc_pend | with_reducible apply keep_pure | with_reducible apply keep_bind
                 | with_reducible apply keep_map | intro _ | dsimp only)

theorem since_execTenantReset (item : Nat) (s : State) {r : State} (h : Since r s) : SinceOut r (execTenantReset item s) := by
  unfold execTenantReset
  repeat' (first | assumption | with_reducible apply since_runOpcode | with_reducible apply since_svcTenantReset
                 | with_reducible apply sinceOut_next | intro _ | dsimp only)

theorem since_svcDeleteQueue (id : Nat) (it : Item) : Svc.Keeps (svcDeleteQueue id it) := by
  unfold svcDeleteQueue
  repeat' (first | assumption | with_reducible apply since_Svc_zero | with_reducible apply since_modQueue
                 | with_reducible apply since_Svc_bad | with_reducible apply keep_state | with_reducible apply since_Svc_lenIs
                 | with_reducible apply since_Svc_pend | with_reducible apply keep_pure | with_reducible apply keep_bind
                 | with_reducible apply keep_map | intro _ | dsimp only)

theorem since_execDeleteQueue (item : Nat) (s : State) {r : State} (h : Since r s) : SinceOut r (execDeleteQueue item s) := by
  unfold execDeleteQueue
  repeat' (first | assumption | with_reducible apply since_svcDeleteQueue | with_reducible apply since_runOpcode
                 | with_reducible apply sinceOut_next | intro _ | dsimp only)

theorem since_svcSetQuota (it : Item) : Svc.Keeps (svcSetQuota it) := by
  unfold svcSetQuota
  repeat' (first | assumption | with_reducible apply since_done | with_reducible apply since_Svc_zero
                 | with_reducible apply since_Svc_range | with_reducible apply since_modCtx | with_reducible apply keep_update
                 | with_reducible apply since_Svc_context | with_reducible apply since_Svc_lenIs
                 | with_reducible apply keep_pure | with_reducible apply keep_bind | with_reducible apply keep_map | intro _
                 | dsimp only)

theorem since_execSetQuota (item : Nat) (s : State) {r : State} (h : Since r s) : SinceOut r (execSetQuota item s) := by
  unfold execSetQuota
  repeat' (first | assumption | with_reducible apply since_runOpcode | with_reducible apply since_svcSetQuota
                 | with_reducible apply sinceOut_next | intro _ | dsimp only)

theorem since_svcQuarantine (it : Item) : Svc.Keeps (svcQuarantine it) := by
  unfold svcQuarantine
  repeat' (first | assumption | with_reducible apply since_done | with_reducible apply since_quarantine
                 | with_reducible apply keep_update | with_reducible apply since_Svc_context | with_reducible apply keep_pure
                 | with_reducible apply keep_bind | with_reducible apply keep_map | intro _ | dsimp only)

theorem since_execQuarantine (item : Nat) (s : State) {r : State} (h : Since r s) : SinceOut r (execQuarantine item s) := by
  unfold execQuarantine
  repeat' (first | assumption | with_reducible apply since_runOpcode | with_reducible apply since_svcQuarantine
                 | with_reducible apply sinceOut_next | intro _ | dsimp only)

theorem since_svcQueryTenant (it : Item) : Svc.Keeps (svcQueryTenant it) := by
  unfold svcQueryTenant
  repeat' (first | assumption | with_reducible apply since_done | with_reducible apply keep_state
                 | with_reducible apply keep_pure | with_reducible apply keep_bind | with_reducible apply keep_map | intro _
                 | dsimp only | split)

theorem since_execQueryTenant (item : Nat) (s : State) {r : State} (h : Since r s) : SinceOut r (execQueryTenant item s) := by
  unfold execQueryTenant
  repeat' (first | assumption | with_reducible apply since_runOpcode | with_reducible apply since_svcQueryTenant
                 | with_reducible apply sinceOut_next | intro _ | dsimp only)

theorem since_freezeCtx (t : Nat) (id : Nat) (c : Ctx) (s : State) {r : State} (h : Since r s) : Since r (freezeCtx t id c s) := by
  unfold freezeCtx
  repeat' (first | assumption | with_reducible apply since_modCtx | with_reducible apply since_ctxEvent
                 | with_reducible apply since_modQueuesOf | dsimp only | split)

theorem since_svcFreeze (id : Nat) (it : Item) : Svc.Keeps (svcFreeze id it) := by
  unfold svcFreeze
  repeat' (first | assumption | with_reducible apply since_freezeCtx | with_reducible apply since_Svc_bad
                 | with_reducible apply since_Svc_context | with_reducible apply since_Svc_pend | with_reducible apply keep_pure
                 | with_reducible apply keep_bind | with_reducible apply keep_map | intro _ | dsimp only)

theorem since_execFreeze (item : Nat) (s : State) {r : State} (h : Since r s) : SinceOut r (execFreeze item s) := by
  unfold execFreeze
  repeat' (first | assumption | with_reducible apply since_runOpcode | with_reducible apply since_svcFreeze
                 | with_reducible apply sinceOut_next | intro _ | dsimp only)

theorem since_nextSave (s : State) {r : State} (h : Since r s) : Since r (nextSave s).2 := by
  unfold nextSave
  repeat' (first | assumption | simp only [↓since_mk] | with_reducible rfl | with_reducible apply since_getD | dsimp only | split)

theorem since_saveBlob (t : Nat) (c : Ctx) (target : Bytes) (key : Bytes) (iv : Bytes) (s : State) {r : State} (h : Since r s) : Since r (saveBlob t c target key iv s).2 := by
  unfold saveBlob
  repeat' (first | assumption | with_reducible apply since_modCtx | with_reducible apply since_destroyEphemeral
                 | with_reducible apply since_uninstantiate | with_reducible apply since_nextSave | simp only [↓since_mk]
                 | with_reducible rfl | (apply since_pair; (· assumption)) | dsimp only | split)

theorem since_svcSave (id : Nat) (it : Item) : Svc.Keeps (svcSave id it) := by
  unfold svcSave
  repeat' (first | assumption | with_reducible apply since_done | with_reducible apply since_Svc_decideOk
                 | with_reducible apply since_saveBlob | with_reducible apply since_Svc_drawArmature
                 | with_reducible apply keep_state | with_reducible apply since_Svc_context
                 | with_reducible apply since_Svc_lenIs | with_reducible apply keep_pure | with_reducible apply keep_bind
                 | with_reducible apply keep_map | intro _ | with_reducible apply since_getD
                 | (apply since_pair; (· assumption)) | dsimp only | split)

theorem since_execSave (item : Nat) (s : State) {r : State} (h : Since r s) : SinceOut r (execSave item s) := by
  unfold execSave
  repeat' (first | assumption | with_reducible apply since_svcSave | with_reducible apply since_runOpcode
                 | with_reducible apply sinceOut_next | intro _ | dsimp only)

theorem since_thawCtx (t : Nat) (c : Ctx) (s : State) {r : State} (h : Since r s) : Since r (thawCtx t c s) := by
  unfold thawCtx
  repeat' (first | assumption | with_reducible apply since_modCtx | with_reducible apply since_ctxEvent
                 | with_reducible apply since_modQueuesOf | dsimp only | split)

theorem since_loadBlob (t : Nat) (c : Ctx) (b : Bytes) (s : State) {r : State} (h : Since r s) : Since r (loadBlob t c b s) := by
  unfold loadBlob
  repeat' (first | assumption | with_reducible apply since_modCtx | with_reducible apply since_setInst
                 | with_reducible apply since_thawCtx | with_reducible apply since_askUrgent | simp only [↓since_mk]
                 | with_reducible rfl | with_reducible apply since_getD | dsimp only | split)

theorem since_svcRestore (it : Item) : Svc.Keeps (svcRestore it) := by
  unfold svcRestore
  repeat' (first | assumption | with_reducible apply since_done | with_reducible apply since_imgSync
                 | with_reducible apply since_Svc_zero | with_reducible apply since_Svc_range
                 | with_reducible apply since_Svc_bad | with_reducible apply keep_check | with_reducible apply since_Svc_len
                 | with_reducible apply since_loadBlob | with_reducible apply keep_update | with_reducible apply keep_state
                 | with_reducible apply since_Svc_context | with_reducible apply since_modTenant
                 | with_reducible apply keep_finish | with_reducible apply keep_pure | with_reducible apply keep_bind
                 | with_reducible apply keep_map | intro _ | dsimp only | split)

theorem since_execRestore (item : Nat) (s : State) {r : State} (h : Since r s) : SinceOut r (execRestore item s) := by
  unfold execRestore
  repeat' (first | assumption | with_reducible apply since_svcRestore | with_reducible apply since_runOpcode
                 | with_reducible apply sinceOut_next | intro _ | dsimp only)

theorem since_svcThaw (it : Item) : Svc.Keeps (svcThaw it) := by
  unfold svcThaw
  repeat' (first | assumption | with_reducible apply since_done | with_reducible apply since_Svc_bad
                 | with_reducible apply keep_update | with_reducible apply since_thawCtx
                 | with_reducible apply since_Svc_context | with_reducible apply keep_pure | with_reducible apply keep_bind
                 | with_reducible apply keep_map | intro _ | dsimp only)

theorem since_execThaw (item : Nat) (s : State) {r : State} (h : Since r s) : SinceOut r (execThaw item s) := by
  unfold execThaw
  repeat' (first | assumption | with_reducible apply since_svcThaw | with_reducible apply since_runOpcode
                 | with_reducible apply sinceOut_next | intro _ | dsimp only)

theorem since_linksGone (s : State) {r : State} (h : Since r s) : Since r (linksGone s) := by
  unfold linksGone
  repeat' (first | assumption | with_reducible apply since_modApplies | dsimp only)

theorem since_portDown (k : Nat) (s : State) {r : State} (h : Since r s) : Since r (portDown k s) := by
  unfold portDown
  repeat' (first | assumption | with_reducible apply since_linksGone | with_reducible apply since_standbyLost
                 | with_reducible apply since_setPort | dsimp only | split)

theorem since_driveOffline (p : Nat) (s : State) {r : State} (h : Since r s) : Since r (driveOffline p s) := by
  unfold driveOffline
  repeat' (first | assumption | with_reducible apply since_cellarClose | simp only [↓since_mk] | with_reducible rfl | dsimp only
                 | split)

theorem since_execNvmePortFailure (port : Nat) (s : State) {r : State} (h : Since r s) : SinceOut r (execNvmePortFailure port s) := by
  unfold execNvmePortFailure
  repeat' (first | assumption | with_reducible apply since_driveOffline | with_reducible apply since_eachCopy
                 | with_reducible apply since_setFsrc | with_reducible apply since_selfCheck
                 | with_reducible apply since_containedReport | with_reducible apply sinceOut_next | dsimp only | split)

theorem since_uncorrectableIn_mpuNote (r : ErrorReport) (s : State) {r₀ : State} (h : Since r₀ s) : Since r₀ (uncorrectableIn.mpuNote r s) := by
  unfold uncorrectableIn.mpuNote
  repeat' (first | assumption | with_reducible apply since_mpuDenied | dsimp only | split)

theorem since_containTenant (t : Option Nat) (q : Nat) (src : Nat) (s : State) {r : State} (h : Since r s) : Since r (containTenant t q src s) := by
  unfold containTenant
  repeat' (first | assumption | with_reducible apply since_quarantine | with_reducible apply since_queueError | dsimp only
                 | split)

theorem since_groupFault (g : Nat) (src : Nat) (s : State) {r : State} (h : Since r s) : Since r (groupFault g src s) := by
  unfold groupFault
  repeat' (first | assumption | with_reducible apply since_endItems | simp only [↓since_mk] | with_reducible rfl | dsimp only)

theorem since_cacheFault (e : Nat) (s : State) {r : State} (h : Since r s) : Since r (cacheFault e s) := by
  unfold cacheFault
  repeat' (first | assumption | with_reducible apply since_giveEntry | simp only [↓since_mk] | with_reducible rfl | dsimp only
                 | split)

theorem since_isolateOf_id (s : State) {r : State} (h : Since r s) : Since r (isolateOf.id_ s) := h

theorem since_noiseFault (n : Nat) (s : State) {r : State} (h : Since r s) : Since r (noiseFault n s) := by
  unfold noiseFault
  repeat' (first | assumption | with_reducible apply since_modSource | with_reducible apply since_condCheck | dsimp only)

theorem since_wholePortDown (n : Nat) (s : State) {r : State} (h : Since r s) : Since r (wholePortDown n s) := by
  unfold wholePortDown
  repeat' (first | assumption | with_reducible apply since_portDown | dsimp only | split)

theorem since_pairOffline (p : Nat) (s : State) {r : State} (h : Since r s) : Since r (pairOffline p s) := by
  unfold pairOffline
  repeat' (first | assumption | with_reducible apply since_threadReady | with_reducible apply since_setPair
                 | simp only [↓since_mk] | with_reducible rfl | dsimp only | split)

theorem since_bufferFault (item : Nat) (src : Nat) (s : State) {r : State} (h : Since r s) : Since r (bufferFault item src s) := by
  unfold bufferFault
  repeat' (first | assumption | with_reducible apply since_quarantine | with_reducible apply since_itemEnd | dsimp only | split)

theorem since_saveFault (e : Nat) (src : Nat) (s : State) {r : State} (h : Since r s) : Since r (saveFault e src s) := by
  unfold saveFault
  repeat' (first | assumption | with_reducible apply since_itemEnd | simp only [↓since_mk] | with_reducible rfl | dsimp only
                 | split)

theorem since_ringFault (index : Nat) (s : State) {r : State} (h : Since r s) : Since r (ringFault index s) := by
  unfold ringFault
  repeat' (first | assumption | with_reducible apply since_eachCopy | with_reducible apply since_count | simp only [↓since_mk]
                 | with_reducible rfl | dsimp only | split)

theorem since_sequencerError (s : State) {r : State} (h : Since r s) : Since r (sequencerError s) := by
  unfold sequencerError
  repeat' (first | assumption | with_reducible apply since_closeGates | with_reducible apply since_record
                 | with_reducible apply since_count | simp only [↓since_mk] | with_reducible rfl | dsimp only)

theorem since_coreDenial (core : Nat) (addr : Nat) (r : Right) (s : State) {r₀ : State} (h : Since r₀ s) : Since r₀ (coreDenial core addr r s) := by
  unfold coreDenial
  repeat' (first | assumption | with_reducible apply since_mpuRecord | with_reducible apply since_itemEnd
                 | with_reducible apply since_mpuDenied | with_reducible apply since_getD | dsimp only | split)

theorem isolate_act {s : State} {q : ErrorReport} {c k : Nat} {b : Bool} {f : State → State} (e : isolateOf s q c = .contain k b f) :
    ∀ r s, Since r s → Since r (f s) := by
  intro r x h
  unfold isolateOf fnIsolate groupIsolate pairIsolate mpuIsolate fnIsolate pairIsolate at e
  dsimp only at e
  repeat' split at e
  all_goals (first | (cases e; done) | (injection e with _ _ e; subst e))
  all_goals (first | exact h | apply since_queueError | apply since_containTenant | apply since_groupFault | apply since_pairOffline | apply since_cacheFault | apply since_driveOffline | apply since_noiseFault | apply since_wholePortDown | apply since_portDown | apply since_bufferFault | apply since_saveFault | apply since_ringFault | split)
  all_goals (first | exact h | apply since_queueError | apply since_containTenant)
  all_goals exact h

theorem since_recordedOnly (q : ErrorReport) (cause : Nat) (wire : Bool) (s : State) {r : State} (h : Since r s) : Since r (recordedOnly q cause wire s) := by
  unfold recordedOnly
  repeat' (first | assumption | with_reducible apply since_setFsrc | with_reducible apply since_record)

theorem since_uncorrectableIn (only : Bool) (q : ErrorReport) (cause : Nat) (wire : Bool) (s : State) {r : State} (h : Since r s) : Since r (uncorrectableIn only q cause wire s) := by
  unfold uncorrectableIn
  have k : Since r (if q.src / 256 == 0x0D then uncorrectableIn.mpuNote q s else s) := by
    split
    · exact since_uncorrectableIn_mpuNote _ _ h
    · exact h
  revert k
  generalize (if q.src / 256 == 0x0D then uncorrectableIn.mpuNote q s else s) = x
  intro k
  dsimp only
  split
  · exact k
  · split
    · exact k
    · exact since_fatalFault _ _ _ _ _ _ k
  · exact since_sequencerError _ k
  · exact since_coreDenial _ _ _ _ k
  · exact k
  · split
    · exact since_recordedOnly _ _ _ _ k
    · exact since_unitFault _ _ _ _ _ k
  · split
    · exact since_recordedOnly _ _ _ _ k
    · exact since_laneFault _ _ _ _ _ k
  · rename_i items unit act e
    split
    · exact since_recordedOnly _ _ _ _ k
    · have k' := since_containedReport q.src cause q.addr (if (unit && (fsrc x q.src).isol) = true then 0 else items) wire (unit && (fsrc x q.src).isol) x k
      revert k'
      generalize containedReport q.src cause q.addr (if (unit && (fsrc x q.src).isol) = true then 0 else items) wire (unit && (fsrc x q.src).isol) x = y
      intro k'
      split
      · exact k'
      · refine isolate_act e _ _ ?_
        split
        · exact since_setFsrc _ _ _ k'
        · exact k'

theorem since_uncorrectable (q : ErrorReport) (cause : Nat) (wire : Bool) (s : State) {r : State} (h : Since r s) : Since r (uncorrectable q cause wire s) :=
  since_uncorrectableIn _ _ _ _ _ h

theorem since_reportIn (only : Bool) (r : ErrorReport) (s : State) {r₀ : State} (h : Since r₀ s) : Since r₀ (reportIn only r s) := by
  unfold reportIn
  repeat' (first | assumption | with_reducible apply since_corrected | with_reducible apply since_setFsrc
                 | with_reducible apply since_uncorrectableIn | dsimp only | split)

theorem since_report (r : ErrorReport) (s : State) {r₀ : State} (h : Since r₀ s) : Since r₀ (report r s) := since_reportIn _ _ _ h

theorem since_reports (l : List ErrorReport) (s : State) {r₀ : State} (h : Since r₀ s) : Since r₀ (reports l s) := by
  unfold reports
  exact since_foldl _ (fun _ s r hs => since_reportIn _ r s hs) h

theorem since_execFaultReport (at_ : Nat) (r : ErrorReport) (more : List ErrorReport) (s : State) {r₀ : State} (h : Since r₀ s) :
    SinceOut r₀ (execFaultReport at_ r more s) := by
  unfold execFaultReport
  repeat' (first | assumption | with_reducible apply since_report | with_reducible apply since_reports | with_reducible apply since_at
                 | with_reducible apply since_selfCheck | with_reducible apply sinceOut_next | dsimp only | split)

theorem since_execIsolationTimeout (src : Nat) (s : State) {r : State} (h : Since r s) : SinceOut r (execIsolationTimeout src s) := by
  unfold execIsolationTimeout
  repeat' (first | assumption | with_reducible apply since_fatalFault | with_reducible apply sinceOut_next | dsimp only | split)

theorem since_execErrPulseEnd (s : State) {r : State} (h : Since r s) : SinceOut r (execErrPulseEnd s) := by
  unfold execErrPulseEnd
  repeat' (first | assumption | simp only [↓since_mk] | with_reducible apply sinceOut_next | with_reducible rfl | dsimp only)

theorem since_heartbeat (pair : Nat) (s : State) {r : State} (h : Since r s) : Since r (heartbeat pair s) := by
  unfold heartbeat
  repeat' (first | assumption | simp only [↓since_mk] | with_reducible rfl | dsimp only | split)

theorem since_execHeartbeatWrite (at_ : Nat) (pair : Nat) (s : State) {r : State} (h : Since r s) : SinceOut r (execHeartbeatWrite at_ pair s) := by
  unfold execHeartbeatWrite
  repeat' (first | assumption | with_reducible apply since_at | with_reducible apply since_heartbeat
                 | with_reducible apply sinceOut_next | dsimp only)

theorem since_execHeartbeatTimeout (s : State) {r : State} (h : Since r s) : SinceOut r (execHeartbeatTimeout s) := by
  unfold execHeartbeatTimeout
  repeat' (first | assumption | with_reducible apply since_at | with_reducible apply since_fatal
                 | with_reducible apply sinceOut_next | dsimp only | split)

theorem since_deferredReset (s : State) {r : State} (h : Since r s) : Since r (deferredReset s) := by
  unfold deferredReset
  repeat' (first | assumption | with_reducible apply since_restart | dsimp only | split)

theorem since_execSequencerFlushDone (s : State) {r : State} (h : Since r s) : SinceOut r (execSequencerFlushDone s) := by
  unfold execSequencerFlushDone
  repeat' (first | assumption | with_reducible apply since_restart | with_reducible apply since_journalWrite
                 | with_reducible apply since_deferredReset | simp only [↓since_mk] | with_reducible apply sinceOut_next
                 | with_reducible rfl | dsimp only | split)

theorem since_execSequencerError (s : State) {r : State} (h : Since r s) : SinceOut r (execSequencerError s) := by
  unfold execSequencerError
  repeat' (first | assumption | with_reducible apply since_sequencerError | with_reducible apply sinceOut_next | dsimp only
                 | split)

theorem since_execJournalFlush (s : State) {r : State} (h : Since r s) : SinceOut r (execJournalFlush s) := by
  unfold execJournalFlush
  repeat' (first | assumption | simp only [↓since_mk] | with_reducible apply sinceOut_next | with_reducible rfl | dsimp only
                 | split)

theorem since_execPwrfailNAssert (at_ : Nat) (s : State) {r : State} (h : Since r s) : SinceOut r (execPwrfailNAssert at_ s) := by
  unfold execPwrfailNAssert
  repeat' (first | assumption | with_reducible apply since_at | with_reducible apply since_record | simp only [↓since_mk]
                 | with_reducible apply sinceOut_next | with_reducible rfl | dsimp only | split)

theorem since_deferReset (cause : ResetCause) (s : State) {r : State} (h : Since r s) : Since r (deferReset cause s) := by
  unfold deferReset
  repeat' (first | assumption | with_reducible apply since_closeGates | simp only [↓since_mk] | with_reducible rfl | dsimp only)

theorem since_execPerstNAssert (at_ : Nat) (s : State) {r : State} (h : Since r s) : SinceOut r (execPerstNAssert at_ s) := by
  unfold execPerstNAssert
  repeat' (first | assumption | with_reducible apply since_at | with_reducible apply since_partReset
                 | with_reducible apply since_deferReset | simp only [↓since_mk] | with_reducible apply sinceOut_next
                 | with_reducible rfl | dsimp only | split)

theorem since_execResetNAssert (at_ : Nat) (s : State) {r : State} (h : Since r s) : SinceOut r (execResetNAssert at_ s) := by
  unfold execResetNAssert
  repeat' (first | assumption | with_reducible apply since_restart | with_reducible apply since_at
                 | with_reducible apply since_deferReset | with_reducible apply sinceOut_next | dsimp only | split)

theorem since_execPerstNRelease (at_ : Nat) (env : BootEnv) (s : State) {r : State} (h : Since r s) : SinceOut r (execPerstNRelease at_ env s) := by
  unfold execPerstNRelease
  repeat' (first | assumption | with_reducible apply since_at | with_reducible apply since_startUp | simp only [↓since_mk]
                 | with_reducible apply sinceOut_next | with_reducible rfl | dsimp only | split)

theorem since_execPwrfailNRelease (at_ : Nat) (s : State) {r : State} (h : Since r s) : SinceOut r (execPwrfailNRelease at_ s) := by
  unfold execPwrfailNRelease
  repeat' (first | assumption | with_reducible apply since_at | simp only [↓since_mk] | with_reducible apply sinceOut_next
                 | with_reducible rfl | dsimp only)

theorem since_execAnnouncedPowerDown (at_ : Nat) (s : State) {r : State} (h : Since r s) : SinceOut r (execAnnouncedPowerDown at_ s) := by
  unfold execAnnouncedPowerDown
  repeat' (first | assumption | with_reducible apply since_at | with_reducible apply since_powerOff
                 | with_reducible apply sinceOut_next | dsimp only | split)

theorem since_execJournalFlushComplete (s : State) {r : State} (h : Since r s) : SinceOut r (execJournalFlushComplete s) := by
  unfold execJournalFlushComplete
  repeat' (first | assumption | with_reducible apply since_journalWrite | with_reducible apply since_deferredReset
                 | with_reducible apply sinceOut_next | dsimp only | split)

theorem since_execFlushResetTimeout (s : State) {r : State} (h : Since r s) : SinceOut r (execFlushResetTimeout s) := by
  unfold execFlushResetTimeout
  repeat' (first | assumption | with_reducible apply since_at | with_reducible apply since_deferredReset
                 | with_reducible apply sinceOut_next | dsimp only | split)

end Sys2Proof.Machine
end

