-- ==== Sys2Proof/Laws/SinceParts.lean ====
section
/-! SUPPORT. Each operation undoes nothing (Since): start-up, the hierarchy, peers, life cycle, units, records and registers. -/

set_option Elab.async false

set_option linter.all false

namespace Sys2Proof.Machine

theorem since_hierReady (s : State) {r : State} (h : Since r s) : Since r (hierReady s) := by
  unfold hierReady
  repeat' (first | assumption | simp only [↓since_mk] | with_reducible rfl | dsimp only | split)

theorem since_replyNow (id : Nat) (r : Reply) (s : State) {r₀ : State} (h : Since r₀ s) : Since r₀ (replyNow id r s) := by
  unfold replyNow
  repeat' (first | assumption | with_reducible apply since_itemDone | with_reducible apply since_releaseReply | dsimp only
                 | split)

theorem since_startUpdate (id : Nat) (e : Envelope) (s : State) {r : State} (h : Since r s) : Since r (startUpdate id e s).2 := by
  unfold startUpdate
  repeat' (first | assumption | simp only [↓since_mk] | with_reducible rfl | dsimp only | split)

theorem since_takeCounter (e : Envelope) (s : State) {r : State} (h : Since r s) : Since r (takeCounter e s) := by
  unfold takeCounter
  repeat' (first | assumption | simp only [↓since_mk] | with_reducible rfl | dsimp only)

theorem since_putCurve (c : Bytes) (s : State) {r : State} (h : Since r s) : Since r (putCurve c s) := by
  unfold putCurve
  repeat' (first | assumption | simp only [↓since_mk] | with_reducible rfl | dsimp only | split)

theorem since_curveUpdate (id : Nat) (it : Item) (e : Envelope) (c : Bytes) : Svc.Keeps (curveUpdate id it e c) := by
  unfold curveUpdate
  repeat' (first | assumption | with_reducible apply since_done | with_reducible apply since_Svc_decideOk
                 | with_reducible apply since_putCurve | with_reducible apply since_Svc_drawArmature
                 | with_reducible apply since_takeCounter | with_reducible apply keep_check | with_reducible apply keep_update
                 | with_reducible apply since_Svc_engine | with_reducible apply keep_pure | with_reducible apply keep_bind
                 | with_reducible apply keep_map | intro _ | dsimp only | split)

theorem since_putCutoffs (n : Nat) (cr : Nat) (ca : Nat) (s : State) {r : State} (h : Since r s) : Since r (putCutoffs n cr ca s) := by
  unfold putCutoffs
  repeat' (first | assumption | simp only [↓since_mk] | with_reducible rfl | dsimp only)

theorem since_cutoffUpdate (n : Nat) (e : Envelope) (c : Bytes) : Svc.Keeps (cutoffUpdate n e c) := by
  unfold cutoffUpdate
  repeat' (first | assumption | with_reducible apply since_done | with_reducible apply since_takeCounter
                 | with_reducible apply since_Svc_bad | with_reducible apply since_putCutoffs | with_reducible apply keep_update
                 | with_reducible apply keep_pure | with_reducible apply keep_bind | with_reducible apply keep_map | intro _
                 | dsimp only)

theorem mem_of_tfind {l : Table Nat} {k c : Nat} (h : tfind l k = some c) : (k, c) ∈ l := by
  induction l with
  | nil => cases h
  | cons x l ih =>
    obtain ⟨i, v⟩ := x
    unfold tfind at h
    split at h
    · cases h
      rename_i hk
      subst hk
      exact List.mem_cons_self
    · exact List.mem_cons_of_mem _ (ih h)

/-- Once the raise bits are burnt from the class copies, OTP holds them. -/
theorem raised_burnRaises {s : State} (h : ∀ i, tget s.bk.classes i 0 ≤ otpClass s.otp i ∨ (i < 20 ∧ 2 ≤ tget s.bk.classes i 0 ∧ tget s.bk.classes i 0 ≤ 3)) :
    RaisesBurnt (burnRaises s) := by
  intro i
  show tget s.bk.classes i 0 ≤ otpClass (burnRaises s).otp i
  rcases h i with k | ⟨hi, h2, h3⟩
  · exact Nat.le_trans k (otpClass_mono (since_burnRaises s (.refl s)).otp i)
  · generalize hc : tget s.bk.classes i 0 = c at h2 h3
    unfold tget at hc
    cases hf : tfind s.bk.classes i with
    | none =>
      rw [hf] at hc
      cases hc
      exact Nat.zero_le _
    | some d =>
      rw [hf] at hc
      have hd : d = c := hc
      subst hd
      have hm := mem_of_tfind hf
      unfold otpClass
      by_cases h3' : 3 ≤ d
      · have : (burnRaises s).otp.raiseC.getLsbD i = true := by
          unfold burnRaises
          dsimp only
          rw [BitVec.getLsbD_or, getLsbD_mask _ (fun c => 3 ≤ c) 0 i (.inr ⟨(i, d), hm, by simpa using h3', rfl, hi⟩), Bool.or_true]
        rw [if_pos this]
        exact h3
      · have : (burnRaises s).otp.raiseB.getLsbD i = true := by
          unfold burnRaises
          dsimp only
          rw [BitVec.getLsbD_or, getLsbD_mask _ (fun c => 2 ≤ c) 0 i (.inr ⟨(i, d), hm, by simpa using h2, rfl, hi⟩), Bool.or_true]
        rw [if_pos this]
        split
        · exact h3
        · omega

theorem since_raiseClass (i cls : Nat) (s : State) {r : State} (h : Since r s) (hi : i < 20) (h2 : 2 ≤ cls) (h3 : cls ≤ 3) : Since r (raiseClass i cls s) := by
  have g : OtpGrown s.otp (raiseClass i cls s).otp :=
    { OtpGrown.refl s.otp with raises := fun i => ⟨fun hb => by
        show (s.otp.raiseB ||| _).getLsbD i = true
        rw [BitVec.getLsbD_or, hb, Bool.true_or], fun hb => by
        show (s.otp.raiseC ||| _).getLsbD i = true
        rw [BitVec.getLsbD_or, hb, Bool.true_or]⟩ }
  refine ⟨h.queue, h.fab, h.clock, h.otp.trans g, fun hr => raised_burnRaises (fun j => ?_), h.sorted⟩
  show tget (tput s.bk.classes i cls) j 0 ≤ otpClass s.otp j ∨ (j < 20 ∧ 2 ≤ tget (tput s.bk.classes i cls) j 0 ∧ tget (tput s.bk.classes i cls) j 0 ≤ 3)
  by_cases hj : j = i
  · subst hj
    simp only [tget, tfind_tput_self, Option.getD_some]
    exact .inr ⟨hi, h2, h3⟩
  · refine .inl ?_
    have e : tget (tput s.bk.classes i cls) j 0 = tget s.bk.classes j 0 := by simp only [tget, tfind_tput_ne _ _ hj]
    rw [e]
    exact h.raised hr j

theorem keep_bad {α : Type} {b : Bool} {d : Nat} {m : Unit → Svc α} (hm : b = true → Svc.Keeps (m ())) : Svc.Keeps (Svc.bad b d >>= m) := by
  cases b with
  | true => exact keep_bind (since_Svc_bad _ _) (fun _ => hm rfl)
  | false => exact ⟨fun _ _ h => h⟩

theorem tamperBit_lt {id i : Nat} (h : tamperBit id = some i) : i < 20 := (List.findIdx?_eq_some_iff_getElem.mp h).1

theorem since_classUpdate (e : Envelope) (c : Bytes) : Svc.Keeps (classUpdate e c) := by
  unfold classUpdate
  dsimp only
  refine keep_bind keep_state (fun s => keep_bind (keep_check _ _ _) (fun _ => ?_))
  split
  · exact keep_finish _ _ _
  · rename_i i hi
    refine keep_bad (fun hc => keep_bind (since_Svc_bad _ _) (fun _ => keep_bind (keep_update (fun r s h => ?_)) (fun _ => keep_pure _)))
    split
    · exact h
    · have : fld c 1 1 = 2 ∨ fld c 1 1 = 3 := by simpa using hc
      exact since_takeCounter _ _ (since_raiseClass _ _ _ h (tamperBit_lt hi) (by omega) (by omega))

theorem since_Svc_imageSigned (id : Nat) (it : Item) (c : Bytes) (l : List SigEntry) : Svc.Keeps (Svc.imageSigned id it c l) := by
  induction l with
  | nil => exact keep_pure _
  | cons x l ih =>
    unfold Svc.imageSigned
    refine keep_bind keep_state (fun s => ?_)
    dsimp only
    exact keep_bind (since_Svc_sigOk _ _ _ _ _ _ _) (fun ok => keep_bind (since_Svc_bad _ _) (fun _ => ih))

theorem since_startWriting (s : State) {r : State} (h : Since r s) : Since r (startWriting s) := by
  unfold startWriting
  repeat' (first | assumption | simp only [↓since_mk] | with_reducible rfl | dsimp only)

theorem since_imageUpdate (id : Nat) (it : Item) (kind : Nat) (c : Bytes) : Svc.Keeps (imageUpdate id it kind c) := by
  unfold imageUpdate
  repeat' (first | assumption | with_reducible apply since_startWriting | with_reducible apply since_Svc_bad
                 | with_reducible apply keep_state | with_reducible apply since_Svc_imageSigned
                 | with_reducible apply since_Svc_pend | with_reducible apply keep_pure | with_reducible apply keep_bind
                 | with_reducible apply keep_map | intro _ | dsimp only)

theorem since_svcUpdate (id : Nat) (it : Item) : Svc.Keeps (svcUpdate id it) := by
  unfold svcUpdate
  repeat' (first | assumption | with_reducible apply since_Svc_decideOk | with_reducible apply since_Svc_bad
                 | with_reducible apply keep_check | with_reducible apply since_classUpdate
                 | with_reducible apply since_Svc_envelope | with_reducible apply since_curveUpdate
                 | with_reducible apply since_Svc_signed | with_reducible apply since_imageUpdate
                 | with_reducible apply since_cutoffUpdate | with_reducible apply since_startUpdate
                 | with_reducible apply keep_pure | with_reducible apply keep_bind | with_reducible apply keep_map | intro _
                 | (apply since_pair; (· assumption)) | dsimp only | split)

theorem since_execUpdate (item : Nat) (s : State) {r : State} (h : Since r s) : SinceOut r (execUpdate item s) := by
  unfold execUpdate
  repeat' (first | assumption | with_reducible apply since_svcUpdate | with_reducible apply since_runSigned
                 | with_reducible apply sinceOut_next | intro _ | dsimp only)

theorem since_updateEnds (status : Nat) (detail : Nat) (s : State) {r : State} (h : Since r s) : Since r (updateEnds status detail s) := by
  unfold updateEnds
  repeat' (first | assumption | with_reducible apply since_itemEnd | dsimp only | split)

theorem since_drainGroup (g : Nat) (s : State) {r : State} (h : Since r s) : Since r (drainGroup g s) := by
  unfold drainGroup
  repeat' (first | assumption | simp only [↓since_mk] | with_reducible rfl | dsimp only | split)

theorem since_reloadLane (l : Nat) (s : State) {r : State} (h : Since r s) : Since r (reloadLane l s) := by
  unfold reloadLane
  repeat' (first | assumption | with_reducible apply since_modLane | simp only [↓since_mk] | with_reducible rfl | dsimp only
                 | split)

theorem since_rollNext (s : State) {r : State} (h : Since r s) : Since r (rollNext s) := by
  unfold rollNext
  repeat' (first | assumption | with_reducible apply since_reloadLane | with_reducible apply since_drainGroup
                 | with_reducible apply since_updateEnds | dsimp only | split)

theorem since_burnFloor (kind svn : Nat) (s : State) {r : State} (h : Since r s) : Since r (burnFloor kind svn s) := by
  unfold burnFloor
  refine since_otp h ?_
  repeat' split
  · exact { OtpGrown.refl s.otp with floors := ⟨Nat.le_max_left _ _, Nat.le_refl _, Nat.le_refl _⟩ }
  · exact { OtpGrown.refl s.otp with floors := ⟨Nat.le_refl _, Nat.le_max_left _ _, Nat.le_refl _⟩ }
  · exact { OtpGrown.refl s.otp with floors := ⟨Nat.le_refl _, Nat.le_refl _, Nat.le_max_left _ _⟩ }

theorem since_beginRoll (u : Updating) (s : State) {r : State} (h : Since r s) : Since r (beginRoll u s) := by
  unfold beginRoll
  repeat' (first | assumption | with_reducible apply since_burnFloor | with_reducible apply since_rollNext
                 | simp only [↓since_mk] | with_reducible rfl | dsimp only | split)

theorem since_plinthImage (u : Updating) (s : State) {r : State} (h : Since r s) : Since r (plinthImage u s) := by
  unfold plinthImage
  repeat' (first | assumption | with_reducible apply since_restart | with_reducible apply since_burnFloor
                 | with_reducible apply since_replyNow | simp only [↓since_mk] | with_reducible rfl | dsimp only)

theorem since_pendArmature (u : Updating) (s : State) {r : State} (h : Since r s) : Since r (pendArmature u s) := by
  unfold pendArmature
  repeat' (first | assumption | with_reducible apply since_updateEnds | simp only [↓since_mk] | with_reducible rfl | dsimp only)

theorem since_imageWritten (u : Updating) (s : State) {r : State} (h : Since r s) : Since r (imageWritten u s) := by
  unfold imageWritten
  repeat' (first | assumption | with_reducible apply since_beginRoll | with_reducible apply since_pendArmature
                 | with_reducible apply since_plinthImage | simp only [↓since_mk] | with_reducible rfl | dsimp only | split)

theorem since_execUpdateImageWritten (good : Bool) (s : State) {r : State} (h : Since r s) : SinceOut r (execUpdateImageWritten good s) := by
  unfold execUpdateImageWritten
  repeat' (first | assumption | with_reducible apply since_imageWritten | with_reducible apply since_updateEnds
                 | with_reducible apply sinceOut_next | dsimp only | split)

theorem since_groupOnlineWith (g : Nat) (ver : Nat) (s : State) {r : State} (h : Since r s) : Since r (groupOnlineWith g ver s) := by
  unfold groupOnlineWith
  repeat' (first | assumption | with_reducible apply since_setFsrc | simp only [↓since_mk] | intro _ | with_reducible rfl
                 | with_reducible apply since_foldl | with_reducible apply since_foldl_snd | dsimp only | split)

theorem since_groupLost (g : Nat) (s : State) {r : State} (h : Since r s) : Since r (groupLost g s) := by
  unfold groupLost
  repeat' (first | assumption | simp only [↓since_mk] | with_reducible rfl | dsimp only)

theorem since_rolledOne (s : State) {r : State} (h : Since r s) : Since r (rolledOne s) := by
  unfold rolledOne
  repeat' (first | assumption | simp only [↓since_mk] | with_reducible rfl | dsimp only)

theorem since_flipImage (stage : Nat) (s : State) {r : State} (h : Since r s) : Since r (flipImage stage s) := by
  unfold flipImage
  repeat' (first | assumption | simp only [↓since_mk] | with_reducible rfl | dsimp only | split)

theorem since_rollFailed (s : State) {r : State} (h : Since r s) : Since r (rollFailed s) := by
  unfold rollFailed
  repeat' (first | assumption | with_reducible apply since_flipImage | with_reducible apply since_updateEnds | dsimp only | split)

theorem since_groupLoaded (g : Nat) (pass : Bool) (s : State) {r : State} (h : Since r s) : Since r (groupLoaded g pass s) := by
  unfold groupLoaded
  split
  · split
    · exact since_groupOnlineWith _ _ _ h
    · exact since_groupLost _ _ h
  · split
    · split
      · exact since_rollNext _ (since_rolledOne _ (since_groupOnlineWith _ _ _ h))
      · exact (since_mk rfl rfl).mpr h
    · split
      · exact since_rollFailed _ (since_groupOnlineWith _ _ _ h)
      · exact since_rollFailed _ (since_groupLost _ _ h)

theorem since_execGroupReloadComplete (pass : Bool) (s : State) {r : State} (h : Since r s) : SinceOut r (execGroupReloadComplete pass s) := by
  unfold execGroupReloadComplete
  repeat' (first | assumption | with_reducible apply since_groupLoaded | with_reducible apply since_selfCheck
                 | with_reducible apply sinceOut_next | dsimp only | split)

theorem since_runWhole {f : Item → State → State} (op id : Nat) {r s : State} (hf : ∀ it r s, Since r s → Since r (f it s)) (h : Since r s) :
    Since r (runWhole op id f s) := by
  unfold runWhole
  repeat' split
  all_goals (first | exact h | exact hf _ _ _ h)

theorem since_restartItem (id : Nat) (it : Item) (s : State) {r : State} (h : Since r s) : Since r (restartItem id it s) := by
  unfold restartItem
  repeat' (first | assumption | with_reducible apply since_restart | with_reducible apply since_itemEnd
                 | with_reducible apply since_replyNow | dsimp only | split)

theorem since_execRestart (item : Nat) (s : State) {r : State} (h : Since r s) : SinceOut r (execRestart item s) := by
  unfold execRestart
  repeat' (first | assumption | with_reducible apply since_restartItem | with_reducible apply since_runWhole
                 | with_reducible apply sinceOut_next | intro _ | dsimp only)

theorem since_svcUpdateStatus (it : Item) : Svc.Keeps (svcUpdateStatus it) := by
  unfold svcUpdateStatus
  repeat' (first | assumption | with_reducible apply since_done | with_reducible apply since_Svc_len
                 | with_reducible apply keep_state | with_reducible apply keep_pure | with_reducible apply keep_bind
                 | with_reducible apply keep_map | intro _ | dsimp only)

theorem since_execUpdateStatus (item : Nat) (s : State) {r : State} (h : Since r s) : SinceOut r (execUpdateStatus item s) := by
  unfold execUpdateStatus
  repeat' (first | assumption | with_reducible apply since_runOpcode | with_reducible apply since_svcUpdateStatus
                 | with_reducible apply sinceOut_next | intro _ | dsimp only)

theorem since_formatChecks (b : Bytes) (s : State) {r : State} (h : Since r s) : Since r (formatChecks b s).2 := by
  unfold formatChecks
  repeat' (first | assumption | simp only [↓since_mk] | with_reducible rfl | dsimp only | split)

theorem since_formatted (serial : Nat) (s : State) {r : State} (h : Since r s) : Since r (formatted serial s) := by
  unfold formatted
  repeat' (first | assumption | with_reducible apply since_formatCellar | with_reducible apply since_rewriteBase
                 | simp only [↓since_mk] | with_reducible rfl | dsimp only | split)

theorem since_svcCellarFormat (id : Nat) (it : Item) : Svc.Keeps (svcCellarFormat id it) := by
  unfold svcCellarFormat
  repeat' (first | assumption | with_reducible apply since_done | with_reducible apply keep_await
                 | with_reducible apply since_askDraw | with_reducible apply since_Svc_decideOk
                 | with_reducible apply since_takeCounter | with_reducible apply since_Svc_envelope
                 | with_reducible apply keep_update | with_reducible apply since_Svc_signed
                 | with_reducible apply since_formatChecks | with_reducible apply since_formatted
                 | with_reducible apply keep_finish | with_reducible apply keep_pure | with_reducible apply keep_bind
                 | with_reducible apply keep_map | simp only [↓since_mk] | intro _ | with_reducible rfl
                 | (apply since_pair; (· assumption)) | dsimp only | split)

theorem since_execCellarFormat (item : Nat) (s : State) {r : State} (h : Since r s) : SinceOut r (execCellarFormat item s) := by
  unfold execCellarFormat
  repeat' (first | assumption | with_reducible apply since_svcCellarFormat | with_reducible apply since_runSigned
                 | with_reducible apply sinceOut_next | intro _ | dsimp only)

theorem since_commitTrial (s : State) {r : State} (h : Since r s) : Since r (commitTrial s) := by
  unfold commitTrial
  repeat' (first | assumption | with_reducible apply since_burnFloor | simp only [↓since_mk] | with_reducible rfl | dsimp only
                 | split)

theorem since_unrepRecord (i : Nat) (s : State) {r : State} (h : Since r s) : Since r (unrepRecord i s) := by
  unfold unrepRecord
  repeat' (first | assumption | with_reducible apply since_record | dsimp only | split)

theorem since_unrepReports (s : State) {r : State} (h : Since r s) : Since r (unrepReports s) := by
  unfold unrepReports
  repeat' (first | assumption | with_reducible apply since_unrepRecord | simp only [↓since_mk] | intro _ | with_reducible rfl
                 | with_reducible apply since_foldl | with_reducible apply since_foldl_snd | dsimp only)

theorem since_startRecord (s : State) {r : State} (h : Since r s) : Since r (startRecord s) := by
  unfold startRecord
  repeat' (first | assumption | with_reducible apply since_record | dsimp only)

theorem since_ready (s : State) {r : State} (h : Since r s) : Since r (ready s) := by
  unfold ready
  repeat' (first | assumption | with_reducible apply since_unrepReports | with_reducible apply since_startRecord
                 | with_reducible apply since_commitTrial | with_reducible apply since_writeRmarks
                 | with_reducible apply since_hierReady | simp only [↓since_mk] | with_reducible rfl | dsimp only)

theorem since_execBootReady (s : State) {r : State} (h : Since r s) : SinceOut r (execBootReady s) := by
  unfold execBootReady
  repeat' (first | assumption | with_reducible apply since_ready | with_reducible apply sinceOut_next | dsimp only | split)

theorem since_flushForwards (s : State) {r : State} (h : Since r s) : Since r (flushForwards s) := by
  unfold flushForwards
  repeat' (first | assumption | with_reducible apply since_sendForward | simp only [↓since_mk] | intro _ | with_reducible rfl
                 | with_reducible apply since_foldl | with_reducible apply since_foldl_snd | dsimp only | split)

theorem since_applyHier (e : Envelope) (s : State) {r : State} (h : Since r s) : Since r (applyHier e s) := by
  unfold applyHier
  repeat' (first | assumption | with_reducible apply since_noteHier | simp only [↓since_mk] | with_reducible rfl | dsimp only)

theorem since_cycleSetApply (id : Nat) (it : Item) (e : Envelope) (s : State) {r : State} {a} {t : State} (e₀ : cycleSetApply id it e s = .ok (a, t)) (h : Since r s) : Since r t := by
  unfold cycleSetApply at e₀
  dsimp only at e₀
  repeat' split at e₀
  all_goals (first | (cases e₀; done) | skip)
  all_goals cases e₀
  all_goals
    repeat' (first | assumption | with_reducible apply since_applyHier | simp only [↓since_mk] | with_reducible rfl | dsimp only
                   | split)

theorem since_svcCycleSet (id : Nat) (it : Item) : Svc.Keeps (svcCycleSet id it) := by
  unfold svcCycleSet
  repeat' (first | assumption | with_reducible apply since_Svc_envelope | with_reducible apply since_Svc_signed
                 | with_reducible apply since_Svc_apply | (with_reducible apply since_cycleSetApply; (· assumption))
                 | with_reducible apply keep_pure | with_reducible apply keep_bind | with_reducible apply keep_map | intro _
                 | dsimp only)

theorem since_execCycleSet (item : Nat) (s : State) {r : State} (h : Since r s) : SinceOut r (execCycleSet item s) := by
  unfold execCycleSet
  repeat' (first | assumption | with_reducible apply since_svcCycleSet | with_reducible apply since_runSigned
                 | with_reducible apply sinceOut_next | intro _ | dsimp only)

theorem since_owe (op : Nat) (env : Bytes) (ids : List Nat) (s : State) {r : State} (h : Since r s) : Since r (owe op env ids s) := by
  unfold owe
  repeat' (first | assumption | simp only [↓since_mk] | intro _ | with_reducible rfl | with_reducible apply since_foldl
                 | with_reducible apply since_foldl_snd | dsimp only)

theorem since_spread (id : Nat) (it : Item) (e : Envelope) (s : State) {r : State} (h : Since r s) : Since r (spread id it e s).2 := by
  unfold spread
  repeat' (first | assumption | with_reducible apply since_owe | with_reducible apply since_sendPlacement | dsimp only | split)

theorem since_svcEveryPart (id : Nat) (rule : State → EnvRule) {f : Envelope → State → Except (Nat × Nat) State} (it : Item)
    (hf : ∀ e r s t, f e s = .ok t → Since r s → Since r t) : Svc.Keeps (svcEveryPart id rule f it) := by
  unfold svcEveryPart
  refine since_Svc_signed _ _ _ (keep_bind (since_Svc_envelope _ _ _) (fun e => since_Svc_apply _ (fun r s a t e₀ h => ?_)))
  cases k : f e s with
  | error u => rw [k] at e₀; cases e₀
  | ok v =>
    rw [k] at e₀
    have : t = (spread id it e v).2 := by injection e₀ with e₀; rw [e₀]
    rw [this]
    exact since_spread _ _ _ _ (hf e r s v k h)

theorem since_relink (twinWas : Bool) (s : State) {r : State} (h : Since r s) : Since r (relink twinWas s) := by
  unfold relink
  repeat' (first | assumption | with_reducible apply since_trainPort | with_reducible apply since_portDown | intro _
                 | with_reducible apply since_foldl | with_reducible apply since_foldl_snd | dsimp only | split)

theorem since_rosterApply (r : Roster) (s : State) {r₀ : State} (h : Since r₀ s) : Since r₀ (rosterApply r s) := by
  unfold rosterApply
  repeat' (first | assumption | with_reducible apply since_hierReady | with_reducible apply since_relink | simp only [↓since_mk]
                 | with_reducible rfl | dsimp only | split)

theorem since_rosterChange (e : Envelope) (s : State) {r : State} {t : State} (e₀ : rosterChange e s = .ok t) (h : Since r s) : Since r t := by
  unfold rosterChange at e₀
  dsimp only at e₀
  repeat' split at e₀
  all_goals (first | (cases e₀; done) | skip)
  all_goals cases e₀
  all_goals
    repeat' (first | assumption | with_reducible apply since_rosterApply | with_reducible apply since_applyHier | dsimp only
                   | split)

theorem since_execHierConfig (item : Nat) (s : State) {r : State} (h : Since r s) : SinceOut r (execHierConfig item s) := by
  unfold execHierConfig
  repeat' (first | assumption | with_reducible apply since_svcEveryPart | with_reducible apply since_runSigned
                 | (with_reducible apply since_rosterChange; (· assumption)) | with_reducible apply sinceOut_next | intro _
                 | dsimp only)

theorem since_officersChange (e : Envelope) (s : State) {r : State} {t : State} (e₀ : officersChange e s = .ok t) (h : Since r s) : Since r t := by
  unfold officersChange at e₀
  dsimp only at e₀
  repeat' split at e₀
  all_goals (first | (cases e₀; done) | skip)
  all_goals cases e₀
  all_goals
    repeat' (first | assumption | with_reducible apply since_applyHier | simp only [↓since_mk] | with_reducible rfl | dsimp only
                   | split)

theorem since_execHierOfficers (item : Nat) (s : State) {r : State} (h : Since r s) : SinceOut r (execHierOfficers item s) := by
  unfold execHierOfficers
  repeat' (first | assumption | with_reducible apply since_svcEveryPart | with_reducible apply since_runSigned
                 | (with_reducible apply since_officersChange; (· assumption)) | with_reducible apply sinceOut_next | intro _
                 | dsimp only)

theorem since_createChecks (t : Nat) (b : Bytes) (s : State) {r : State} (h : Since r s) : Since r (createChecks t b s).2 := by
  unfold createChecks
  repeat' (first | assumption | dsimp only | split)

theorem since_createSlot (t : Nat) (type : Nat) (usage : BitVec 16) (hcache : Bool) (parent : Nat) (key : Bytes) (s : State) {r : State} (h : Since r s) : Since r (createSlot t type usage hcache parent key s).2 := by
  unfold createSlot
  repeat' (first | assumption | with_reducible apply since_takeFree | with_reducible apply since_putPersistent
                 | (apply since_pair; (· assumption)) | dsimp only | split)

theorem since_createApply (id : Nat) (it : Item) (e : Envelope) (s : State) {r : State} {a} {t : State} (e₀ : createApply id it e s = .ok (a, t)) (h : Since r s) : Since r t := by
  unfold createApply at e₀
  dsimp only at e₀
  repeat' split at e₀
  all_goals (first | (cases e₀; done) | skip)
  all_goals cases e₀
  all_goals
    repeat' (first | assumption | with_reducible apply since_imgSync | with_reducible apply since_createSlot
                   | with_reducible apply since_applyHier | with_reducible apply since_noteSlots
                   | with_reducible apply since_adoptEntry | with_reducible apply since_noteTenant
                   | with_reducible apply since_getD | (apply since_pair; (· assumption)) | dsimp only | split)

theorem since_svcTenantCreate (id : Nat) (it : Item) : Svc.Keeps (svcTenantCreate id it) := by
  unfold svcTenantCreate
  repeat' (first | assumption | with_reducible apply since_askDraw | with_reducible apply since_Svc_decideOk
                 | with_reducible apply since_createChecks | with_reducible apply keep_awaitOk
                 | with_reducible apply since_Svc_envelope | with_reducible apply since_Svc_signed
                 | with_reducible apply since_Svc_apply | (with_reducible apply since_createApply; (· assumption))
                 | with_reducible apply keep_pure | with_reducible apply keep_bind | with_reducible apply keep_map | intro _
                 | (apply since_pair; (· assumption)) | dsimp only | split)

theorem since_execTenantCreate (item : Nat) (s : State) {r : State} (h : Since r s) : SinceOut r (execTenantCreate item s) := by
  unfold execTenantCreate
  repeat' (first | assumption | with_reducible apply since_svcTenantCreate | with_reducible apply since_runSigned
                 | with_reducible apply sinceOut_next | intro _ | dsimp only)

theorem since_deleteVault (t : Nat) (s : State) {r : State} (h : Since r s) : Since r (deleteVault t s) := by
  unfold deleteVault
  repeat' (first | assumption | simp only [↓since_mk] | with_reducible rfl | dsimp only)

theorem since_deleteApply (id : Nat) (it : Item) (e : Envelope) (s : State) {r : State} {a} {t : State} (e₀ : deleteApply id it e s = .ok (a, t)) (h : Since r s) : Since r t := by
  unfold deleteApply at e₀
  dsimp only at e₀
  repeat' split at e₀
  all_goals (first | (cases e₀; done) | skip)
  all_goals cases e₀
  all_goals
    repeat' (first | assumption | with_reducible apply since_imgSync | with_reducible apply since_deleteVault
                   | with_reducible apply since_applyHier | with_reducible apply since_sendPlacement
                   | with_reducible apply since_modTenant | with_reducible apply since_adoptEntry
                   | with_reducible apply since_noteTenant | dsimp only | split)

theorem since_svcTenantDelete (id : Nat) (it : Item) : Svc.Keeps (svcTenantDelete id it) := by
  unfold svcTenantDelete
  repeat' (first | assumption | with_reducible apply since_Svc_envelope | with_reducible apply since_Svc_signed
                 | (with_reducible apply since_deleteApply; (· assumption)) | with_reducible apply since_Svc_apply
                 | with_reducible apply keep_pure | with_reducible apply keep_bind | with_reducible apply keep_map | intro _
                 | dsimp only)

theorem since_execTenantDelete (item : Nat) (s : State) {r : State} (h : Since r s) : SinceOut r (execTenantDelete item s) := by
  unfold execTenantDelete
  repeat' (first | assumption | with_reducible apply since_svcTenantDelete | with_reducible apply since_runSigned
                 | with_reducible apply sinceOut_next | intro _ | dsimp only)

theorem since_partsAgree (ask : Bool) (s : State) {r : State} (h : Since r s) : Since r (partsAgree ask s).2 := by
  unfold partsAgree
  repeat' (first | assumption | with_reducible apply since_takeFree | (apply since_pair; (· assumption)) | dsimp only | split)

theorem since_placeRefusal (t : Nat) (ids : List Nat) (s : State) {r : State} (h : Since r s) : Since r (placeRefusal t ids s).2 := by
  unfold placeRefusal
  repeat' (first | assumption | with_reducible apply since_partsAgree | with_reducible apply since_getD
                 | (apply since_pair; (· assumption)) | dsimp only | split)

theorem since_placeApply (id : Nat) (it : Item) (e : Envelope) (s : State) {r t : State} {a : Apply} (e₀ : placeApply id it e s = .ok (a, t)) (h : Since r s) :
    Since r t := by
  unfold placeApply at e₀
  dsimp only at e₀
  repeat' split at e₀
  all_goals (first | (cases e₀; done) | skip)
  rename_i x hx
  have k : Since r x := since_pair hx (since_placeRefusal _ _ _ h)
  injection e₀ with e₀
  have e₁ := congrArg Prod.snd e₀
  rw [← show _ = t from e₁]
  exact since_applyNext _ _ (since_sendSlots _ _ _ _ _ _ (since_noteTenant _ _ (since_imgSync _ _ _ (since_applyHier _ _ (since_modTenant _ _ _ k)))))

theorem since_svcPlace (id : Nat) (it : Item) : Svc.Keeps (svcPlace id it) := by
  unfold svcPlace
  repeat' (first | assumption | with_reducible apply since_Svc_envelope | with_reducible apply since_Svc_signed
                 | with_reducible apply since_Svc_apply | (with_reducible apply since_placeApply; (· assumption))
                 | with_reducible apply keep_pure | with_reducible apply keep_bind | with_reducible apply keep_map | intro _
                 | dsimp only)

theorem since_execPlace (item : Nat) (s : State) {r : State} (h : Since r s) : SinceOut r (execPlace item s) := by
  unfold execPlace
  repeat' (first | assumption | with_reducible apply since_runSigned | with_reducible apply since_svcPlace
                 | with_reducible apply sinceOut_next | intro _ | dsimp only)

theorem since_svcHandover (id : Nat) (it : Item) : Svc.Keeps (svcHandover id it) := by
  unfold svcHandover
  repeat' (first | assumption | with_reducible apply since_Svc_bad | with_reducible apply since_Svc_len
                 | with_reducible apply keep_state | with_reducible apply since_Svc_pend
                 | with_reducible apply since_handoverStep | with_reducible apply keep_pure | with_reducible apply keep_bind
                 | with_reducible apply keep_map | simp only [↓since_mk] | intro _ | with_reducible rfl | dsimp only)

theorem since_execHandover (item : Nat) (s : State) {r : State} (h : Since r s) : SinceOut r (execHandover item s) := by
  unfold execHandover
  repeat' (first | assumption | with_reducible apply since_runOpcode | with_reducible apply since_svcHandover
                 | with_reducible apply sinceOut_next | intro _ | dsimp only)

theorem since_failover (s : State) {r : State} (h : Since r s) : Since r (failover s) := by
  unfold failover
  repeat' (first | assumption | with_reducible apply since_endItems | dsimp only)

theorem since_raiseShadow (x : ShadowCtx) (s : State) {r : State} (h : Since r s) : Since r (raiseShadow x s) := by
  unfold raiseShadow
  repeat' (first | assumption | with_reducible apply since_ctxEvent | with_reducible apply since_instantiate
                 | with_reducible apply since_addQueue | simp only [↓since_mk] | intro _ | with_reducible rfl
                 | with_reducible apply since_foldl | with_reducible apply since_foldl_snd | dsimp only | split)

theorem since_newTransport (serial : Bytes) (s : State) {r : State} (h : Since r s) : Since r (newTransport serial s) := by
  unfold newTransport
  repeat' (first | assumption | with_reducible apply since_takeFree | simp only [↓since_mk] | with_reducible rfl
                 | (apply since_pair; (· assumption)) | dsimp only | split)

theorem since_rerunForwards (s : State) {r : State} (h : Since r s) : Since r (rerunForwards s) := by
  unfold rerunForwards
  repeat' (first | assumption | with_reducible apply since_modItem | simp only [↓since_mk] | intro _ | with_reducible rfl
                 | with_reducible apply since_foldl | with_reducible apply since_foldl_snd | dsimp only | split)

theorem since_firstSeed (s : State) {r : State} (h : Since r s) : Since r (firstSeed s) := by
  unfold firstSeed
  repeat' (first | assumption | with_reducible apply since_imgAppend | with_reducible apply since_takeFree
                 | simp only [↓since_mk] | with_reducible rfl | (apply since_pair; (· assumption)) | dsimp only | split)

theorem since_refillPart (id : Nat) (s : State) {r : State} (h : Since r s) : Since r (refillPart id s) := by
  unfold refillPart
  repeat' (first | assumption | with_reducible apply since_sendSlots | with_reducible apply since_sendPlacement
                 | simp only [↓since_mk] | intro _ | with_reducible rfl | with_reducible apply since_foldl
                 | with_reducible apply since_foldl_snd | dsimp only | split)

theorem since_sendTransport (s : State) {r : State} (h : Since r s) : Since r (sendTransport s) := by
  unfold sendTransport
  repeat' (first | assumption | with_reducible apply since_noteHier | with_reducible apply since_sendPlacement
                 | simp only [↓since_mk] | with_reducible rfl | dsimp only)

theorem since_partsLinked (ids : List Nat) (s : State) {r : State} (h : Since r s) : Since r (partsLinked ids s) := by
  unfold partsLinked
  repeat' (first | assumption | with_reducible apply since_sendTransport | with_reducible apply since_newTransport
                 | with_reducible apply since_refillPart | intro _ | with_reducible apply since_foldl
                 | with_reducible apply since_foldl_snd | dsimp only | split)

theorem since_becomeActive (sync : Bool) (s : State) {r : State} (h : Since r s) : Since r (becomeActive sync s) := by
  unfold becomeActive
  repeat' (first | assumption | with_reducible apply since_partsLinked | with_reducible apply since_failover
                 | with_reducible apply since_newTransport | with_reducible apply since_firstSeed
                 | with_reducible apply since_sendOn | with_reducible apply since_rerunForwards
                 | with_reducible apply since_raiseShadow | with_reducible apply since_adoptEntry | simp only [↓since_mk]
                 | intro _ | with_reducible rfl | with_reducible apply since_foldl | with_reducible apply since_foldl_snd
                 | dsimp only | split)

theorem since_forceApply (id : Nat) (it : Item) (e : Envelope) (s : State) {r t : State} {a : Apply} (e₀ : forceApply id it e s = .ok (a, t)) (h : Since r s) :
    Since r t := by
  unfold forceApply at e₀
  have k : Since r (applyHier e (armatureRecord 3 srcLnk (becomeActive false s))) := since_applyHier _ _ (since_armatureRecord _ _ _ (since_becomeActive _ _ h))
  revert e₀ k
  generalize applyHier e (armatureRecord 3 srcLnk (becomeActive false s)) = x
  intro e₀ k
  split at e₀
  · cases e₀
  · injection e₀ with e₀
    have e₁ : x = t := congrArg Prod.snd e₀
    exact e₁ ▸ k

theorem since_svcForceActive (id : Nat) (it : Item) : Svc.Keeps (svcForceActive id it) := by
  unfold svcForceActive
  repeat' (first | assumption | with_reducible apply since_Svc_envelope | with_reducible apply since_Svc_signed
                 | (with_reducible apply since_forceApply; (· assumption)) | with_reducible apply since_Svc_apply
                 | with_reducible apply keep_pure | with_reducible apply keep_bind | with_reducible apply keep_map | intro _
                 | dsimp only)

theorem since_execForceActive (item : Nat) (s : State) {r : State} (h : Since r s) : SinceOut r (execForceActive item s) := by
  unfold execForceActive
  repeat' (first | assumption | with_reducible apply since_svcForceActive | with_reducible apply since_runSigned
                 | with_reducible apply sinceOut_next | intro _ | dsimp only)

theorem since_svcHierQuery (it : Item) : Svc.Keeps (svcHierQuery it) := by
  unfold svcHierQuery
  repeat' (first | assumption | with_reducible apply since_done | with_reducible apply since_Svc_len
                 | with_reducible apply keep_state | with_reducible apply keep_pure | with_reducible apply keep_bind
                 | with_reducible apply keep_map | intro _ | dsimp only)

theorem since_execHierQuery (item : Nat) (s : State) {r : State} (h : Since r s) : SinceOut r (execHierQuery item s) := by
  unfold execHierQuery
  repeat' (first | assumption | with_reducible apply since_runOpcode | with_reducible apply since_svcHierQuery
                 | with_reducible apply sinceOut_next | intro _ | dsimp only)

theorem since_svcDirQuery (it : Item) : Svc.Keeps (svcDirQuery it) := by
  unfold svcDirQuery
  repeat' (first | assumption | with_reducible apply since_done | with_reducible apply since_Svc_len
                 | with_reducible apply keep_state | with_reducible apply keep_pure | with_reducible apply keep_bind
                 | with_reducible apply keep_map | intro _ | dsimp only)

theorem since_execDirQuery (item : Nat) (s : State) {r : State} (h : Since r s) : SinceOut r (execDirQuery item s) := by
  unfold execDirQuery
  repeat' (first | assumption | with_reducible apply since_svcDirQuery | with_reducible apply since_runOpcode
                 | with_reducible apply sinceOut_next | intro _ | dsimp only)

theorem since_svcTkeyRead (it : Item) : Svc.Keeps (svcTkeyRead it) := by
  unfold svcTkeyRead
  repeat' (first | assumption | with_reducible apply since_done | with_reducible apply since_Svc_bad
                 | with_reducible apply since_Svc_len | with_reducible apply keep_state | with_reducible apply keep_pure
                 | with_reducible apply keep_bind | with_reducible apply keep_map | intro _ | with_reducible apply since_getD
                 | dsimp only)

theorem since_execTkeyRead (item : Nat) (s : State) {r : State} (h : Since r s) : SinceOut r (execTkeyRead item s) := by
  unfold execTkeyRead
  repeat' (first | assumption | with_reducible apply since_svcTkeyRead | with_reducible apply since_runOpcode
                 | with_reducible apply sinceOut_next | intro _ | dsimp only)

theorem since_hierHere (op : Nat) (env : Bytes) (s : State) {r : State} (h : Since r s) : Since r (hierHere op env s) := by
  unfold hierHere
  dsimp only
  by_cases ho : (op == 0x0C01) = true
  · simp only [ho, if_true]
    repeat' split
    all_goals (first | exact h | (apply since_rosterChange <;> assumption))
  · rw [Bool.not_eq_true] at ho
    simp only [ho, Bool.false_eq_true, if_false]
    repeat' split
    all_goals (first | exact h | (apply since_officersChange <;> assumption))

theorem since_reaskLeases (s : State) {r : State} (h : Since r s) : Since r (reaskLeases s) := by
  unfold reaskLeases
  repeat' (first | assumption | with_reducible apply since_sendManager | intro _ | with_reducible apply since_foldl
                 | with_reducible apply since_foldl_snd | dsimp only)

theorem since_stepDown (m : MState) (s : State) {r : State} (h : Since r s) : Since r (stepDown m s) := by
  unfold stepDown
  repeat' (first | assumption | with_reducible apply since_endItems | with_reducible apply since_dropTwinHold
                 | with_reducible apply since_adoptEntry | simp only [↓since_mk] | intro _ | with_reducible rfl
                 | with_reducible apply since_foldl | with_reducible apply since_foldl_snd | dsimp only | split)

theorem since_leaveHold (s : State) {r : State} (h : Since r s) : Since r (leaveHold s) := by
  unfold leaveHold
  repeat' (first | assumption | with_reducible apply since_flushForwards | simp only [↓since_mk] | with_reducible rfl
                 | dsimp only | split)

theorem since_fromManager {f : State → State} (m : Nat) {r s : State} (hf : ∀ r s, Since r s → Since r (f s)) (h : Since r s) :
    Since r (fromManager m f s) := by
  unfold fromManager
  repeat' split
  · exact h
  · exact since_giveUp _ h
  · exact h
  · exact hf _ _ (since_leaveHold _ ((since_mk rfl rfl).mpr h))

theorem since_passDown (m : LinkMsg) (s : State) {r : State} (h : Since r s) : Since r (passDown m s) := by
  unfold passDown
  repeat' (first | assumption | with_reducible apply since_sendOn | intro _ | with_reducible apply since_foldl
                 | with_reducible apply since_foldl_snd | dsimp only)

theorem since_execEdgeMessage (at_ : Nat) (m : EdgeMsg) (s : State) {r : State} (h : Since r s) : SinceOut r (execEdgeMessage at_ m s) := by
  unfold execEdgeMessage
  repeat' (first | assumption | with_reducible apply since_receivedManager | with_reducible apply since_queueEdge
                 | with_reducible apply since_at | with_reducible apply since_fromManager | with_reducible apply since_passDown
                 | with_reducible apply sinceOut_next | intro _ | dsimp only | split)

theorem since_rejectPort (k : Nat) (step : Nat) (s : State) {r : State} (h : Since r s) : Since r (rejectPort k step s) := by
  unfold rejectPort
  repeat' (first | assumption | with_reducible apply since_armatureRecord | with_reducible apply since_setPort | dsimp only)

theorem since_helloTaken (k : Nat) (m : HelloMsg) (s : State) {r : State} (h : Since r s) : Since r (helloTaken k m s) := by
  unfold helloTaken
  repeat' (first | assumption | with_reducible apply since_rejectPort | with_reducible apply since_sendOn
                 | with_reducible apply since_setPort | dsimp only | split)

theorem since_execHelloMessage (port : Nat) (m : HelloMsg) (s : State) {r : State} (h : Since r s) : SinceOut r (execHelloMessage port m s) := by
  unfold execHelloMessage
  repeat' (first | assumption | with_reducible apply since_helloTaken | with_reducible apply since_trainPort
                 | with_reducible apply since_portDown | with_reducible apply since_received
                 | with_reducible apply sinceOut_next | dsimp only | split)

theorem since_twinUp (serial : Bytes) (s : State) {r : State} (h : Since r s) : Since r (twinUp serial s) := by
  unfold twinUp
  repeat' (first | assumption | with_reducible apply since_noteHier | with_reducible apply since_newTransport
                 | simp only [↓since_mk] | with_reducible rfl | dsimp only | split)

theorem since_trellisLinked (k : Nat) (s : State) {r : State} (h : Since r s) : Since r (trellisLinked k s) := by
  unfold trellisLinked
  repeat' (first | assumption | with_reducible apply since_partsLinked | with_reducible apply since_flushForwards
                 | with_reducible apply since_measureLatency | simp only [↓since_mk] | with_reducible rfl | dsimp only | split)

theorem since_linkUp (k : Nat) (h : HelloMsg) (m : FinishMsg) (s : State) {r : State} (h₀ : Since r s) : Since r (linkUp k h m s) := by
  unfold linkUp
  repeat' (first | assumption | with_reducible apply since_trellisLinked | with_reducible apply since_giveUp
                 | with_reducible apply since_twinUp | with_reducible apply since_setPort | simp only [↓since_mk]
                 | with_reducible rfl | dsimp only | split)

theorem since_execFinishMessage (port : Nat) (m : FinishMsg) (s : State) {r : State} (h : Since r s) : SinceOut r (execFinishMessage port m s) := by
  unfold execFinishMessage
  repeat' (first | assumption | with_reducible apply since_rejectPort | with_reducible apply since_received
                 | with_reducible apply since_linkUp | with_reducible apply sinceOut_next | dsimp only | split)

theorem since_execLinkRetry (port : Nat) (s : State) {r : State} (h : Since r s) : SinceOut r (execLinkRetry port s) := by
  unfold execLinkRetry
  repeat' (first | assumption | with_reducible apply since_trainPort | with_reducible apply sinceOut_next | dsimp only | split)

theorem since_execFrameTagFailure (port : Nat) (at_ : Nat) (s : State) {r : State} (h : Since r s) : SinceOut r (execFrameTagFailure port at_ s) := by
  unfold execFrameTagFailure
  repeat' (first | assumption | with_reducible apply since_at | with_reducible apply since_eachCopy
                 | with_reducible apply since_corrected | with_reducible apply since_uncorrectable
                 | with_reducible apply since_setPort | with_reducible apply since_count | with_reducible apply sinceOut_next
                 | dsimp only | split)

theorem since_execFrameCounterLimit (port : Nat) (s : State) {r : State} (h : Since r s) : SinceOut r (execFrameCounterLimit port s) := by
  unfold execFrameCounterLimit
  repeat' (first | assumption | with_reducible apply since_sendOn | with_reducible apply since_setPort
                 | with_reducible apply sinceOut_next | dsimp only | split)

theorem since_execPollTimer (at_ : Nat) (m : Option PollMsg) (s : State) {r : State} (h : Since r s) : SinceOut r (execPollTimer at_ m s) := by
  unfold execPollTimer
  repeat' (first | assumption | with_reducible apply since_receivedManager | with_reducible apply since_at
                 | with_reducible apply since_sendManager | with_reducible apply since_fromManager
                 | with_reducible apply since_passDown | with_reducible apply since_sendOn | with_reducible apply sinceOut_next
                 | intro _ | with_reducible apply since_foldl | with_reducible apply since_foldl_snd | dsimp only | split)

theorem since_execManagerLost (s : State) {r : State} (h : Since r s) : SinceOut r (execManagerLost s) := by
  unfold execManagerLost
  repeat' (first | assumption | with_reducible apply since_at | with_reducible apply since_armatureRecord
                 | with_reducible apply since_exhaustLease | simp only [↓since_mk] | with_reducible apply sinceOut_next
                 | with_reducible rfl | dsimp only | split)

theorem since_scrubEphemeral (s : State) {r : State} (h : Since r s) : Since r (scrubEphemeral s) := by
  unfold scrubEphemeral
  repeat' (first | assumption | with_reducible apply since_scrubSlot | intro _ | with_reducible apply since_foldl
                 | with_reducible apply since_foldl_snd | dsimp only)

theorem since_execHoldLimit (s : State) {r : State} (h : Since r s) : SinceOut r (execHoldLimit s) := by
  unfold execHoldLimit
  repeat' (first | assumption | with_reducible apply since_endItems | with_reducible apply since_scrubEphemeral
                 | simp only [↓since_mk] | with_reducible apply sinceOut_next | with_reducible rfl | dsimp only | split)

theorem since_execResyncComplete (s : State) {r : State} (h : Since r s) : SinceOut r (execResyncComplete s) := by
  unfold execResyncComplete
  repeat' (first | assumption | with_reducible apply since_flushForwards | simp only [↓since_mk]
                 | with_reducible apply sinceOut_next | with_reducible rfl | dsimp only | split)

theorem since_managerMessage {f : State → State} (m : Nat) {r s : State} (hf : ∀ r s, Since r s → Since r (f s)) (h : Since r s) :
    SinceOut r (managerMessage m f s) := by
  unfold managerMessage
  split
  · exact since_fromManager _ hf (since_receivedManager _ h)
  · exact h

theorem since_rejectToManager (ref : Nat) (t : Nat) (s : State) {r : State} (h : Since r s) : Since r (rejectToManager ref t s) := by
  unfold rejectToManager
  repeat' (first | assumption | with_reducible apply since_sendManager | dsimp only)

theorem since_takeSlot (keep : Bool) (i : Nat) (p : Slot) (s : State) {r : State} (h : Since r s) : Since r (takeSlot keep i p s) := by
  unfold takeSlot
  repeat' (first | assumption | with_reducible apply since_freeObject | with_reducible apply since_storeKey
                 | with_reducible apply since_freeEntry | with_reducible apply since_giveEntry
                 | with_reducible apply since_unfree | with_reducible apply since_putSlot | simp only [↓since_mk]
                 | with_reducible rfl | (apply since_pair; (· assumption)) | dsimp only | split)

theorem since_takeSlots (keep : Bool) (l : List (Nat × Slot)) (s : State) {r : State} (h : Since r s) : Since r (takeSlots keep l s) := by
  unfold takeSlots
  repeat' (first | assumption | with_reducible apply since_imgAppend | with_reducible apply since_takeSlot | intro _
                 | with_reducible apply since_foldl | with_reducible apply since_foldl_snd | dsimp only | split)

theorem since_dropOthers (t : Nat) (l : List (Nat × Slot)) (s : State) {r : State} (h : Since r s) : Since r (dropOthers t l s) := by
  unfold dropOthers
  repeat' (first | assumption | with_reducible apply since_imgAppend | with_reducible apply since_wipeSlot | intro _
                 | with_reducible apply since_foldl | with_reducible apply since_foldl_snd | dsimp only | split)

theorem since_setFull (t : Nat) (s : State) {r : State} (h : Since r s) : Since r (setFull t s) := by
  unfold setFull
  repeat' (first | assumption | simp only [↓since_mk] | with_reducible rfl | dsimp only)

theorem since_keydistTake (m : KeydistMsg) (s : State) {r : State} (h : Since r s) : Since r (keydistTake m s) := by
  unfold keydistTake
  repeat' (first | assumption | with_reducible apply since_sendManager | with_reducible apply since_setFull
                 | with_reducible apply since_takeSlots | with_reducible apply since_dropOthers | dsimp only | split)

theorem since_holdMessage (m : HeldMsg) (s : State) {r : State} (h : Since r s) : Since r (holdMessage m s) := by
  unfold holdMessage
  repeat' (first | assumption | simp only [↓since_mk] | with_reducible rfl | dsimp only)

theorem since_byEpoch {f g : State → State} (t e : Nat) (m : HeldMsg) {r s : State} (hf : ∀ r s, Since r s → Since r (f s))
    (hg : ∀ r s, Since r s → Since r (g s)) (h : Since r s) : Since r (byEpoch t e m f g s) := by
  unfold byEpoch
  dsimp only
  repeat' split
  · exact hf _ _ h
  · exact since_holdMessage _ _ h
  · exact hg _ _ h

theorem since_keydistIn (m : KeydistMsg) (s : State) {r : State} (h : Since r s) : Since r (keydistIn m s) := by
  unfold keydistIn
  repeat' (first | assumption | with_reducible apply since_keydistTake | with_reducible apply since_rejectToManager
                 | with_reducible apply since_byEpoch | intro _ | dsimp only | split)

theorem since_forwardTake (m : ForwardMsg) (s : State) {r : State} (h : Since r s) : Since r (forwardTake m s) :=
  since_enterList _ _ (since_table h rfl (fun hs => tsorted_tput hs _ _))

theorem since_rejectForward (m : ForwardMsg) (s : State) {r : State} (h : Since r s) : Since r (rejectForward m s) := by
  unfold rejectForward
  repeat' (first | assumption | with_reducible apply since_sendTo | dsimp only)

theorem since_forwardIn (m : ForwardMsg) (s : State) {r : State} (h : Since r s) : Since r (forwardIn m s) := by
  unfold forwardIn
  repeat' (first | assumption | with_reducible apply since_rejectForward | with_reducible apply since_forwardTake
                 | with_reducible apply since_byEpoch | intro _ | dsimp only | split)

theorem since_answerTake (m : AnswerMsg) (s : State) {r : State} (h : Since r s) : Since r (answerTake m s) := by
  unfold answerTake
  repeat' (first | assumption | with_reducible apply since_itemAnswer | dsimp only | split)

theorem since_answerIn (m : AnswerMsg) (s : State) {r : State} (h : Since r s) : Since r (answerIn m s) := by
  unfold answerIn
  repeat' (first | assumption | with_reducible apply since_rejectToManager | with_reducible apply since_byEpoch
                 | with_reducible apply since_answerTake | intro _ | dsimp only | split)

theorem since_heldIn (m : HeldMsg) (s : State) {r : State} (h : Since r s) : Since r (heldIn m s) := by
  unfold heldIn
  repeat' (first | assumption | with_reducible apply since_forwardIn | with_reducible apply since_leaseIn
                 | with_reducible apply since_keydistIn | with_reducible apply since_answerIn | dsimp only | split)

theorem since_releaseHeld (t : Nat) (s : State) {r : State} (h : Since r s) : Since r (releaseHeld t s) := by
  unfold releaseHeld
  repeat' (first | assumption | with_reducible apply since_heldIn | simp only [↓since_mk] | intro _ | with_reducible rfl
                 | with_reducible apply since_foldl | with_reducible apply since_foldl_snd | dsimp only)

theorem since_entryIn (ref : Nat) (t : Nat) (e : Tenant) (s : State) {r : State} (h : Since r s) : Since r (entryIn ref t e s) := by
  unfold entryIn
  repeat' (first | assumption | with_reducible apply since_imgSync | with_reducible apply since_sendManager
                 | with_reducible apply since_rejectToManager | with_reducible apply since_releaseHeld
                 | with_reducible apply since_adoptEntry | dsimp only | split)

theorem since_transportIn (keys : List (Bytes × Bytes)) (s : State) {r : State} (h : Since r s) : Since r (transportIn keys s) := by
  unfold transportIn
  repeat' (first | assumption | simp only [↓since_mk] | with_reducible rfl | with_reducible apply since_getD | dsimp only)

theorem since_placementIn (m : PlacementMsg) (s : State) {r : State} (h : Since r s) : Since r (placementIn m s) := by
  unfold placementIn
  repeat' (first | assumption | with_reducible apply since_sendManager | with_reducible apply since_transportIn
                 | with_reducible apply since_hierHere | with_reducible apply since_entryIn | dsimp only | split)

theorem since_execPlacementMessage (at_ : Nat) (m : PlacementMsg) (s : State) {r : State} (h : Since r s) : SinceOut r (execPlacementMessage at_ m s) := by
  unfold execPlacementMessage
  repeat' (first | assumption | with_reducible apply since_at | with_reducible apply since_managerMessage
                 | with_reducible apply since_placementIn | with_reducible apply sinceOut_next | intro _ | dsimp only)

theorem since_execKeydistMessage (at_ : Nat) (m : KeydistMsg) (s : State) {r : State} (h : Since r s) : SinceOut r (execKeydistMessage at_ m s) := by
  unfold execKeydistMessage
  repeat' (first | assumption | with_reducible apply since_at | with_reducible apply since_managerMessage
                 | with_reducible apply since_keydistIn | with_reducible apply sinceOut_next | intro _ | dsimp only)

theorem since_execKeydistAck (fromId : Nat) (ref : Nat) (s : State) {r : State} (h : Since r s) : SinceOut r (execKeydistAck fromId ref s) := by
  unfold execKeydistAck
  repeat' (first | assumption | with_reducible apply since_modApplies | with_reducible apply since_receivedFrom
                 | with_reducible apply sinceOut_next | dsimp only | split)

theorem since_rejectHeld (m : HeldMsg) (s : State) {r : State} (h : Since r s) : Since r (rejectHeld m s) := by
  unfold rejectHeld
  repeat' (first | assumption | with_reducible apply since_rejectToManager | with_reducible apply since_sendTo
                 | with_reducible apply since_rejectForward | dsimp only | split)

theorem since_execEpochHoldTimeout (s : State) {r : State} (h : Since r s) : SinceOut r (execEpochHoldTimeout s) := by
  unfold execEpochHoldTimeout
  repeat' (first | assumption | with_reducible apply since_rejectHeld | with_reducible apply since_at | simp only [↓since_mk]
                 | with_reducible apply sinceOut_next | with_reducible rfl | dsimp only | split)

theorem since_execForwardMessage (at_ : Nat) (m : ForwardMsg) (s : State) {r : State} (h : Since r s) : SinceOut r (execForwardMessage at_ m s) := by
  unfold execForwardMessage
  repeat' (first | assumption | with_reducible apply since_receivedFrom | with_reducible apply since_forwardIn
                 | with_reducible apply since_at | with_reducible apply sinceOut_next | dsimp only | split)

theorem since_execAnswerMessage (at_ : Nat) (m : AnswerMsg) (s : State) {r : State} (h : Since r s) : SinceOut r (execAnswerMessage at_ m s) := by
  unfold execAnswerMessage
  repeat' (first | assumption | with_reducible apply since_at | with_reducible apply since_managerMessage
                 | with_reducible apply since_answerIn | with_reducible apply sinceOut_next | intro _ | dsimp only)

theorem since_takeoverIn (mterm : Nat) (serial : Bytes) (s : State) {r : State} (h : Since r s) : Since r (takeoverIn mterm serial s) := by
  unfold takeoverIn
  repeat' (first | assumption | with_reducible apply since_flushForwards | with_reducible apply since_failover
                 | with_reducible apply since_reaskLeases | with_reducible apply since_passDown | simp only [↓since_mk]
                 | with_reducible rfl | dsimp only)

theorem since_execTakeoverMessage (at_ : Nat) (mterm : Nat) (serial : Bytes) (s : State) {r : State} (h : Since r s) : SinceOut r (execTakeoverMessage at_ mterm serial s) := by
  unfold execTakeoverMessage
  repeat' (first | assumption | with_reducible apply since_takeoverIn | with_reducible apply since_at
                 | with_reducible apply since_managerMessage | with_reducible apply sinceOut_next | intro _ | dsimp only)

theorem since_dirIn (t : Nat) (e : Tenant) (s : State) {r : State} (h : Since r s) : Since r (dirIn t e s) := by
  unfold dirIn
  repeat' (first | assumption | with_reducible apply since_imgSync | with_reducible apply since_deleteVault
                 | with_reducible apply since_adoptEntry | with_reducible apply since_getD | dsimp only | split)

theorem since_hierIn (c : DeltaContent) (s : State) {r : State} (h : Since r s) : Since r (hierIn c s) := by
  unfold hierIn
  repeat' (first | assumption | with_reducible apply since_rosterApply | with_reducible apply since_transportIn
                 | simp only [↓since_mk] | with_reducible rfl | dsimp only | split)

theorem since_vaultIn (l : List VaultWrite) (s : State) {r : State} (h : Since r s) : Since r (vaultIn l s) := by
  unfold vaultIn
  dsimp only
  split
  · exact h
  · refine since_journalCommit _ ((since_mk rfl rfl).mpr (since_foldl _ (fun r s b h => ?_) h))
    exact since_getD (fun t e => since_allocate _ _ e h) h

theorem since_cycleIn (n : Nat) (s : State) {r : State} (h : Since r s) : Since r (cycleIn n s) := by
  unfold cycleIn
  repeat' (first | assumption | with_reducible apply since_takeFree | simp only [↓since_mk] | with_reducible rfl
                 | (apply since_pair; (· assumption)) | dsimp only | split)

theorem since_deltaIn (c : DeltaContent) (s : State) {r : State} (h : Since r s) : Since r (deltaIn c s) := by
  unfold deltaIn
  repeat' (first | assumption | with_reducible apply since_cycleIn | with_reducible apply since_dirIn
                 | with_reducible apply since_takeSlots | with_reducible apply since_hierIn | with_reducible apply since_vaultIn
                 | simp only [↓since_mk] | intro _ | with_reducible rfl | with_reducible apply since_foldl
                 | with_reducible apply since_foldl_snd | dsimp only)

theorem since_deltaTake (m : DeltaMsg) (s : State) {r : State} (h : Since r s) : Since r (deltaTake m s) := by
  unfold deltaTake
  repeat' (first | assumption | with_reducible apply since_deltaIn | with_reducible apply since_sendOn | simp only [↓since_mk]
                 | with_reducible rfl | dsimp only | split)

theorem since_execDeltaMessage (at_ : Nat) (m : DeltaMsg) (s : State) {r : State} (h : Since r s) : SinceOut r (execDeltaMessage at_ m s) := by
  unfold execDeltaMessage
  repeat' (first | assumption | with_reducible apply since_deltaTake | with_reducible apply since_at
                 | with_reducible apply since_fromManager | with_reducible apply since_received
                 | with_reducible apply sinceOut_next | intro _ | dsimp only | split)

theorem since_handoverEnd (s : State) {r : State} (h : Since r s) : Since r (handoverEnd s) := by
  unfold handoverEnd
  repeat' (first | assumption | with_reducible apply since_stepDown | with_reducible apply since_replyNow | dsimp only | split)

theorem since_dackIn (cseq : Nat) (s : State) {r : State} (h : Since r s) : Since r (dackIn cseq s) := by
  unfold dackIn
  repeat' (first | assumption | with_reducible apply since_modApplies | with_reducible apply since_handoverEnd
                 | with_reducible apply since_finishCopies | simp only [↓since_mk] | with_reducible rfl | dsimp only | split)

theorem since_execDackMessage (cseq : Nat) (mterm : Nat) (s : State) {r : State} (h : Since r s) : SinceOut r (execDackMessage cseq mterm s) := by
  unfold execDackMessage
  repeat' (first | assumption | with_reducible apply since_dackIn | with_reducible apply since_giveUp
                 | with_reducible apply since_received | with_reducible apply sinceOut_next | dsimp only | split)

theorem since_cellarForCopy (s : State) {r : State} (h : Since r s) : Since r (cellarForCopy s) := by
  unfold cellarForCopy
  repeat' (first | assumption | with_reducible apply since_formatCellar | with_reducible apply since_takeFree
                 | (apply since_pair; (· assumption)) | dsimp only | split)

theorem since_snapshotIn (cseq : Nat) (c : DeltaContent) (s : State) {r : State} (h : Since r s) : Since r (snapshotIn cseq c s) := by
  unfold snapshotIn
  repeat' (first | assumption | with_reducible apply since_deltaIn | with_reducible apply since_deleteVault
                 | with_reducible apply since_wipeSlot | with_reducible apply since_rewriteBase
                 | with_reducible apply since_cellarForCopy | simp only [↓since_mk] | intro _ | with_reducible rfl
                 | with_reducible apply since_foldl | with_reducible apply since_foldl_snd | with_reducible apply since_getD
                 | dsimp only)

theorem since_extentIn (w : List VaultWrite) (s : State) {r : State} (h : Since r s) : Since r (extentIn w s) := by
  unfold extentIn
  repeat' (first | assumption | with_reducible apply since_vaultIn | simp only [↓since_mk] | with_reducible rfl | dsimp only
                 | split)

theorem since_bulkIn (m : BulkMsg) (s : State) {r : State} (h : Since r s) : Since r (bulkIn m s) := by
  unfold bulkIn
  repeat' (first | assumption | with_reducible apply since_snapshotIn | with_reducible apply since_extentIn
                 | with_reducible apply since_sendOn | simp only [↓since_mk] | with_reducible rfl | dsimp only | split)

theorem since_execBulkMessage (m : BulkMsg) (s : State) {r : State} (h : Since r s) : SinceOut r (execBulkMessage m s) := by
  unfold execBulkMessage
  repeat' (first | assumption | with_reducible apply since_fromManager | with_reducible apply since_bulkIn
                 | with_reducible apply since_received | with_reducible apply sinceOut_next | intro _ | dsimp only | split)

theorem since_execTwinHoldToggle (at_ : Nat) (p : Bool) (n : Bool) (s : State) {r : State} (h : Since r s) : SinceOut r (execTwinHoldToggle at_ p n s) := by
  unfold execTwinHoldToggle
  repeat' (first | assumption | with_reducible apply since_at | with_reducible apply since_armatureRecord
                 | with_reducible apply since_stepDown | simp only [↓since_mk] | with_reducible apply sinceOut_next
                 | with_reducible rfl | dsimp only | split)

theorem since_undrivenNow (s : State) {r : State} (h : Since r s) : Since r (undrivenNow s) := by
  unfold undrivenNow
  repeat' (first | assumption | simp only [↓since_mk] | with_reducible rfl | dsimp only)

theorem since_execMissedToggles (at_ : Nat) (s : State) {r : State} (h : Since r s) : SinceOut r (execMissedToggles at_ s) := by
  unfold execMissedToggles
  repeat' (first | assumption | with_reducible apply since_at | with_reducible apply since_undrivenNow
                 | with_reducible apply since_armatureRecord | with_reducible apply since_becomeActive | simp only [↓since_mk]
                 | with_reducible apply sinceOut_next | with_reducible rfl | dsimp only | split)

theorem since_execArbitrationTimeout (s : State) {r : State} (h : Since r s) : SinceOut r (execArbitrationTimeout s) := by
  unfold execArbitrationTimeout
  repeat' (first | assumption | with_reducible apply since_at | with_reducible apply since_becomeActive
                 | with_reducible apply sinceOut_next | dsimp only | split)

theorem since_togglesSeen (cseq : Option Nat) (s : State) {r : State} (h : Since r s) : Since r (togglesSeen cseq s) := by
  unfold togglesSeen
  repeat' (first | assumption | with_reducible apply since_sendOn | simp only [↓since_mk] | with_reducible rfl | dsimp only
                 | split)

theorem since_execValidToggles (at_ : Nat) (partnerCseq : Option Nat) (s : State) {r : State} (h : Since r s) : SinceOut r (execValidToggles at_ partnerCseq s) := by
  unfold execValidToggles
  repeat' (first | assumption | with_reducible apply since_at | with_reducible apply since_togglesSeen | simp only [↓since_mk]
                 | with_reducible apply sinceOut_next | with_reducible rfl | dsimp only | split)

theorem since_svcLcStatus (it : Item) : Svc.Keeps (svcLcStatus it) := by
  unfold svcLcStatus
  repeat' (first | assumption | with_reducible apply since_done | with_reducible apply since_Svc_len
                 | with_reducible apply keep_state | with_reducible apply keep_pure | with_reducible apply keep_bind
                 | with_reducible apply keep_map | intro _ | dsimp only)

theorem since_execLcStatus (item : Nat) (s : State) {r : State} (h : Since r s) : SinceOut r (execLcStatus item s) := by
  unfold execLcStatus
  repeat' (first | assumption | with_reducible apply since_svcLcStatus | with_reducible apply since_runOpcode
                 | with_reducible apply sinceOut_next | intro _ | dsimp only)

theorem since_lcBegin (t : LifeCycle) (s : State) {r : State} (hi : s.otp.intent.length < 8) (h : Since r s) : Since r (lcBegin t s) := by
  have k : Since r { s with otp := { s.otp with intent := s.otp.intent ++ [lcRow t] } } :=
    since_otp h { OtpGrown.refl s.otp with
      intent := ⟨List.prefix_append _ _, fun _ => by
        rw [List.length_append]
        exact hi⟩ }
  unfold lcBegin
  dsimp only
  repeat' split
  · exact since_eraseRecords _ (since_clearSap _ k)
  · exact since_clearSap _ k
  · exact k

theorem since_svcLcTransition (id : Nat) (it : Item) : Svc.Keeps (svcLcTransition id it) := by
  unfold svcLcTransition
  refine since_Svc_signed _ _ _ (keep_bind (since_Svc_envelope _ _ _) (fun e => ⟨fun r u h => ?_⟩))
  show SinceRun r ((match lcPrerequisites u.state e with
    | some d => Svc.finish 0x0105 d
    | none => Svc.pend id (lcBegin ((envTarget e).getD .void)) : Svc Reply) u)
  cases hn : lcPrerequisites u.state e with
  | some d => exact h
  | none =>
    refine since_itemWait _ _ _ (since_lcBegin _ _ ?_ h)
    unfold lcPrerequisites at hn
    repeat' split at hn
    all_goals (first | cases hn; done | omega)

theorem since_execLcTransition (item : Nat) (s : State) {r : State} (h : Since r s) : SinceOut r (execLcTransition item s) := by
  unfold execLcTransition
  repeat' (first | assumption | with_reducible apply since_runSigned | with_reducible apply since_svcLcTransition
                 | with_reducible apply sinceOut_next | intro _ | dsimp only)

theorem since_execLcEraseComplete (s : State) {r : State} (h : Since r s) : SinceOut r (execLcEraseComplete s) := by
  unfold execLcEraseComplete
  repeat' (first | assumption | with_reducible apply since_restart | with_reducible apply since_transitionEffects
                 | with_reducible apply since_replyNow | with_reducible apply since_completeCopies
                 | with_reducible apply sinceOut_next | dsimp only | split)

theorem since_Svc_lifeCycle (ok : LifeCycle → Bool) : Svc.Keeps (Svc.lifeCycle ok) := by
  unfold Svc.lifeCycle
  repeat' (first | assumption | with_reducible apply keep_check | with_reducible apply keep_state
                 | with_reducible apply keep_pure | with_reducible apply keep_bind | with_reducible apply keep_map | intro _
                 | dsimp only)

theorem since_krootApply (e : Envelope) (s : State) {r : State} (h : Since r s) : Since r (krootApply e s) :=
  since_applyHier _ _ (since_otp h { OtpGrown.refl s.otp with })

theorem since_svcKrootSet (id : Nat) (it : Item) : Svc.Keeps (svcKrootSet id it) := by
  unfold svcKrootSet
  repeat' (first | assumption | with_reducible apply since_done | with_reducible apply since_Svc_range
                 | with_reducible apply since_Svc_lifeCycle | with_reducible apply keep_check
                 | with_reducible apply since_Svc_envelope | with_reducible apply keep_update
                 | with_reducible apply since_Svc_signed | with_reducible apply since_krootApply
                 | with_reducible apply keep_pure | with_reducible apply keep_bind | with_reducible apply keep_map | intro _
                 | dsimp only)

theorem since_execKrootSet (item : Nat) (s : State) {r : State} (h : Since r s) : SinceOut r (execKrootSet item s) := by
  unfold execKrootSet
  repeat' (first | assumption | with_reducible apply since_svcKrootSet | with_reducible apply since_runSigned
                 | with_reducible apply sinceOut_next | intro _ | dsimp only)

theorem since_hoffApply (e : Envelope) (s : State) {r : State} (h : Since r s) : Since r (hoffApply e s) := by
  unfold hoffApply
  repeat' (first | assumption | simp only [↓since_mk] | with_reducible rfl | dsimp only)

theorem since_svcHoffInstall (id : Nat) (it : Item) : Svc.Keeps (svcHoffInstall id it) := by
  unfold svcHoffInstall
  repeat' (first | assumption | with_reducible apply since_done | with_reducible apply since_hoffApply
                 | with_reducible apply since_Svc_lifeCycle | with_reducible apply since_Svc_envelope
                 | with_reducible apply keep_update | with_reducible apply since_Svc_signed | with_reducible apply keep_pure
                 | with_reducible apply keep_bind | with_reducible apply keep_map | intro _ | dsimp only)

theorem since_execHoffInstall (item : Nat) (s : State) {r : State} (h : Since r s) : SinceOut r (execHoffInstall item s) := by
  unfold execHoffInstall
  repeat' (first | assumption | with_reducible apply since_svcHoffInstall | with_reducible apply since_runSigned
                 | with_reducible apply sinceOut_next | intro _ | dsimp only)

theorem since_debugQuorum (id : Nat) (it : Item) (l : List SigEntry) : Svc.Keeps (debugQuorum id it l) := by
  unfold debugQuorum
  repeat' (first | assumption | with_reducible apply since_sigGo | with_reducible apply since_Svc_bad
                 | with_reducible apply keep_state | with_reducible apply keep_finish | with_reducible apply keep_pure
                 | with_reducible apply keep_bind | with_reducible apply keep_map | intro _ | dsimp only | split)

theorem since_debugRoot (s : State) {r : State} (h : Since r s) : Since r (debugRoot s) := by
  unfold debugRoot
  repeat' (first | assumption | with_reducible apply since_setRoot | with_reducible apply since_cellarClose | dsimp only | split)

theorem since_holdPorts (s : State) {r : State} (h : Since r s) : Since r (holdPorts s) := by
  unfold holdPorts
  repeat' (first | assumption | with_reducible apply since_portDown | simp only [↓since_mk] | intro _ | with_reducible rfl
                 | with_reducible apply since_foldl | with_reducible apply since_foldl_snd | dsimp only)

theorem since_debugPurge (s : State) {r : State} (h : Since r s) : Since r (debugPurge s) := by
  unfold debugPurge
  repeat' (first | assumption | with_reducible apply since_instantiate | simp only [↓since_mk] | with_reducible rfl | dsimp only)

theorem since_debugOpens (rights : Nat) (s : State) {r : State} (h : Since r s) : Since r (debugOpens rights s) := by
  unfold debugOpens
  repeat' (first | assumption | with_reducible apply since_debugRoot | with_reducible apply since_openDebug
                 | with_reducible apply since_holdPorts | with_reducible apply since_debugPurge
                 | with_reducible apply since_clearSap | simp only [↓since_mk] | with_reducible rfl | dsimp only | split)

theorem since_svcDebugOpen (id : Nat) (it : Item) : Svc.Keeps (svcDebugOpen id it) := by
  unfold svcDebugOpen
  repeat' (first | assumption | with_reducible apply since_done | with_reducible apply since_debugQuorum
                 | with_reducible apply since_Svc_decideOk | with_reducible apply since_Svc_lifeCycle
                 | with_reducible apply since_Svc_sigOk | with_reducible apply since_Svc_bad
                 | with_reducible apply since_debugOpens | with_reducible apply keep_check | with_reducible apply since_Svc_len
                 | with_reducible apply keep_update | with_reducible apply keep_state | with_reducible apply keep_pure
                 | with_reducible apply keep_bind | with_reducible apply keep_map | intro _ | with_reducible apply since_getD
                 | dsimp only | split)

theorem since_execDebugOpen (item : Nat) (s : State) {r : State} (h : Since r s) : SinceOut r (execDebugOpen item s) := by
  unfold execDebugOpen
  repeat' (first | assumption | with_reducible apply since_runOpcode | with_reducible apply since_svcDebugOpen
                 | with_reducible apply sinceOut_next | intro _ | dsimp only)

theorem since_svcPowerCtl (id : Nat) (it : Item) : Svc.Keeps (svcPowerCtl id it) := by
  unfold svcPowerCtl
  repeat' (first | assumption | with_reducible apply since_done | with_reducible apply since_Svc_zero
                 | with_reducible apply since_Svc_range | with_reducible apply since_Svc_lifeCycle
                 | with_reducible apply since_Svc_bad | with_reducible apply since_Svc_len | with_reducible apply keep_update
                 | with_reducible apply keep_state | with_reducible apply keep_pure | with_reducible apply keep_bind
                 | with_reducible apply keep_map | simp only [↓since_mk] | intro _ | with_reducible rfl | dsimp only | split)

theorem since_execPowerCtl (item : Nat) (s : State) {r : State} (h : Since r s) : SinceOut r (execPowerCtl item s) := by
  unfold execPowerCtl
  repeat' (first | assumption | with_reducible apply since_runOpcode | with_reducible apply since_svcPowerCtl
                 | with_reducible apply sinceOut_next | intro _ | dsimp only)

theorem keep_low {op id : Nat} {it : Item} {m : Svc Reply} (e : innerLow op id it = some m) : Svc.Keeps m := by
  unfold innerLow at e
  split at e
  all_goals cases e
  all_goals (first | with_reducible apply since_svcArqcVerify | with_reducible apply since_svcCvvGenerate | with_reducible apply since_svcCvvVerify | with_reducible apply since_svcDecrypt | with_reducible apply since_svcDukptCipher | with_reducible apply since_svcDukptDerive | with_reducible apply since_svcDukptMac | with_reducible apply since_svcDukptPinTranslate | with_reducible apply since_svcEncrypt | with_reducible apply since_svcKeyUnwrap | with_reducible apply since_svcKeyWrap | with_reducible apply since_svcMacGenerate | with_reducible apply since_svcMacVerify | with_reducible apply since_svcPinChange | with_reducible apply since_svcPinGenerate | with_reducible apply since_svcPinTranslate | with_reducible apply since_svcPinVerify | with_reducible apply since_svcScriptEncrypt | with_reducible apply since_svcScriptMac)

theorem keep_mid {op id : Nat} {it : Item} {m : Svc Reply} (e : innerMid op id it = some m) : Svc.Keeps m := by
  unfold innerMid at e
  split at e
  all_goals cases e
  all_goals (first | with_reducible apply since_svcDelete | with_reducible apply since_svcDetokenise | with_reducible apply since_svcDigest | with_reducible apply since_svcDrbgStatus | with_reducible apply since_svcExportNext | with_reducible apply since_svcExportOpen | with_reducible apply since_svcKbExport | with_reducible apply since_svcKbImport | with_reducible apply since_svcRandom | with_reducible apply since_svcStreamFinish | with_reducible apply since_svcStreamStart | with_reducible apply since_svcStreamUpdate | with_reducible apply since_svcTokenise | with_reducible apply since_svcVaultQuery)

theorem keep_public {op id : Nat} {it : Item} {m : Svc Reply} (e : innerPublic op id it = some m) : Svc.Keeps m := by
  unfold innerPublic at e
  split at e
  all_goals cases e
  all_goals (first | with_reducible apply since_svcEcdh | with_reducible apply since_svcEcdsaSign | with_reducible apply since_svcEcdsaVerify | with_reducible apply since_svcEddsaSign | with_reducible apply since_svcEddsaVerify | with_reducible apply since_svcKeygen | with_reducible apply since_svcMldsaSign | with_reducible apply since_svcMldsaVerify | with_reducible apply since_svcMlkemDecaps | with_reducible apply since_svcMlkemEncaps | with_reducible apply since_svcPubkeyRead | with_reducible apply since_svcRsaDecrypt | with_reducible apply since_svcRsaSign | with_reducible apply since_svcRsaVerify)

theorem since_innerService (id : Nat) (it : Item) : Svc.Keeps (innerService id it) := by
  unfold innerService
  cases h : innerLow it.opcode id it with
  | some m => exact keep_low h
  | none =>
    cases h : innerMid it.opcode id it with
    | some m => exact keep_mid h
    | none =>
      cases h : innerPublic it.opcode id it with
      | some m => exact keep_public h
      | none => exact keep_finish _ _ _

theorem since_adapterInner (id : Nat) (it : Item) (s : State) {r : State} (h : Since r s) : Since r (adapterInner id it s) :=
  since_wakeGate _ _ (since_runSvc _ (fun _ => since_innerService _ _) h)

theorem since_adapterBegin (id : Nat) (it : Item) (s : State) {r : State} (h : Since r s) : Since r (adapterBegin id it s) := by
  unfold adapterBegin
  repeat' (first | assumption | with_reducible apply since_modItem | with_reducible apply since_itemDone
                 | with_reducible apply since_adapterInner | with_reducible apply since_itemEnd | dsimp only | split)

theorem since_execAdapterRecord (item : Nat) (s : State) {r : State} (h : Since r s) : SinceOut r (execAdapterRecord item s) := by
  unfold execAdapterRecord
  repeat' (first | assumption | with_reducible apply since_adapterInner | with_reducible apply since_adapterBegin
                 | with_reducible apply sinceOut_next | dsimp only | split)

theorem since_mapApply (id : Nat) (it : Item) (e : Envelope) (s : State) {r : State} {a} {t : State} (e₀ : mapApply id it e s = .ok (a, t)) (h : Since r s) : Since r t := by
  unfold mapApply at e₀
  dsimp only at e₀
  repeat' split at e₀
  all_goals (first | (cases e₀; done) | skip)
  all_goals cases e₀
  all_goals
    repeat' (first | assumption | with_reducible apply since_applyTenant | with_reducible apply since_sendPlacement
                   | with_reducible apply since_modTenant | dsimp only | split)

theorem since_svcMapLoad (id : Nat) (it : Item) : Svc.Keeps (svcMapLoad id it) := by
  unfold svcMapLoad
  repeat' (first | assumption | (with_reducible apply since_mapApply; (· assumption)) | with_reducible apply since_Svc_envelope
                 | with_reducible apply since_Svc_signed | with_reducible apply since_Svc_apply | with_reducible apply keep_pure
                 | with_reducible apply keep_bind | with_reducible apply keep_map | intro _ | dsimp only)

theorem since_execMapLoad (item : Nat) (s : State) {r : State} (h : Since r s) : SinceOut r (execMapLoad item s) := by
  unfold execMapLoad
  repeat' (first | assumption | with_reducible apply since_svcMapLoad | with_reducible apply since_runSigned
                 | with_reducible apply sinceOut_next | intro _ | dsimp only)

theorem since_svcMapQuery (it : Item) : Svc.Keeps (svcMapQuery it) := by
  unfold svcMapQuery
  repeat' (first | assumption | with_reducible apply since_done | with_reducible apply since_Svc_len
                 | with_reducible apply keep_state | with_reducible apply keep_pure | with_reducible apply keep_bind
                 | with_reducible apply keep_map | intro _ | dsimp only)

theorem since_execMapQuery (item : Nat) (s : State) {r : State} (h : Since r s) : SinceOut r (execMapQuery item s) := by
  unfold execMapQuery
  repeat' (first | assumption | with_reducible apply since_runOpcode | with_reducible apply since_svcMapQuery
                 | with_reducible apply sinceOut_next | intro _ | dsimp only)

theorem since_laneCurve (it : Item) (s : State) {r : State} (h : Since r s) : Since r (laneCurve it s).2 := by
  unfold laneCurve
  repeat' (first | assumption | dsimp only | split)

theorem since_svcLaneTest (id : Nat) (it : Item) : Svc.Keeps (svcLaneTest id it) := by
  unfold svcLaneTest
  repeat' (first | assumption | with_reducible apply since_done | with_reducible apply since_Svc_zero
                 | with_reducible apply since_laneCurve | with_reducible apply since_Svc_decideOk
                 | with_reducible apply since_Svc_range | with_reducible apply keep_awaitOk
                 | with_reducible apply since_askEngine | with_reducible apply since_Svc_len | with_reducible apply keep_pure
                 | with_reducible apply keep_bind | with_reducible apply keep_map | intro _ | (apply since_pair; (· assumption))
                 | dsimp only | split)

theorem since_execLaneTest (item : Nat) (s : State) {r : State} (h : Since r s) : SinceOut r (execLaneTest item s) := by
  unfold execLaneTest
  repeat' (first | assumption | with_reducible apply since_svcLaneTest | with_reducible apply since_runOpcode
                 | with_reducible apply sinceOut_next | intro _ | dsimp only)

theorem since_svcCurveQuery (it : Item) : Svc.Keeps (svcCurveQuery it) := by
  unfold svcCurveQuery
  repeat' (first | assumption | with_reducible apply since_done | with_reducible apply since_Svc_zero
                 | with_reducible apply since_Svc_range | with_reducible apply keep_state | with_reducible apply since_Svc_lenIs
                 | with_reducible apply keep_pure | with_reducible apply keep_bind | with_reducible apply keep_map | intro _
                 | dsimp only | split)

theorem since_execCurveQuery (item : Nat) (s : State) {r : State} (h : Since r s) : SinceOut r (execCurveQuery item s) := by
  unfold execCurveQuery
  repeat' (first | assumption | with_reducible apply since_runOpcode | with_reducible apply since_svcCurveQuery
                 | with_reducible apply sinceOut_next | intro _ | dsimp only)

theorem since_startTest (n : Nat) (id : Nat) (s : State) {r : State} (h : Since r s) : Since r (startTest n id s) := by
  unfold startTest
  repeat' (first | assumption | with_reducible apply since_modUnit | dsimp only | split)

theorem since_svcUnitTest (id : Nat) (it : Item) : Svc.Keeps (svcUnitTest id it) := by
  unfold svcUnitTest
  repeat' (first | assumption | with_reducible apply since_Svc_zero | with_reducible apply since_startTest
                 | with_reducible apply since_Svc_bad | with_reducible apply keep_state | with_reducible apply since_Svc_lenIs
                 | with_reducible apply since_Svc_pend | with_reducible apply keep_pure | with_reducible apply keep_bind
                 | with_reducible apply keep_map | intro _ | with_reducible apply since_getD | dsimp only)

theorem since_execUnitTest (item : Nat) (s : State) {r : State} (h : Since r s) : SinceOut r (execUnitTest item s) := by
  unfold execUnitTest
  repeat' (first | assumption | with_reducible apply since_runOpcode | with_reducible apply since_svcUnitTest
                 | with_reducible apply sinceOut_next | intro _ | dsimp only)

theorem since_execEngineRequestComplete (src : Completion) (s : State) {r : State} (h : Since r s) : SinceOut r (execEngineRequestComplete src s) := by
  unfold execEngineRequestComplete
  repeat' (first | assumption | with_reducible apply since_laneDone | with_reducible apply since_cellarRead
                 | with_reducible apply since_selfCheck | with_reducible apply since_unitDone
                 | with_reducible apply sinceOut_next | dsimp only | split)

theorem since_execLaneDrainComplete (lane : Nat) (s : State) {r : State} (h : Since r s) : SinceOut r (execLaneDrainComplete lane s) := by
  unfold execLaneDrainComplete
  repeat' (first | assumption | with_reducible apply since_modLane | with_reducible apply sinceOut_next | dsimp only | split)

theorem since_suiteDone (l : Nat) (failed : Nat) (s : State) {r : State} (h : Since r s) : Since r (suiteDone l failed s) := by
  unfold suiteDone
  repeat' (first | assumption | with_reducible apply since_eachCopy | with_reducible apply since_takeFree
                 | with_reducible apply since_answerRequest | with_reducible apply since_dropOp
                 | with_reducible apply since_count | (apply since_pair; (· assumption)) | dsimp only | split)

theorem since_lanePassed (l : Nat) (s : State) {r : State} (h : Since r s) : Since r (lanePassed l s) := by
  unfold lanePassed
  repeat' (first | assumption | with_reducible apply since_modLane | with_reducible apply since_rolledOne
                 | with_reducible apply since_rollNext | dsimp only | split)

theorem since_laneFailed (l : Nat) (s : State) {r : State} (h : Since r s) : Since r (laneFailed l s) := by
  unfold laneFailed
  repeat' (first | assumption | with_reducible apply since_rollFailed | with_reducible apply since_armatureRecord
                 | with_reducible apply since_laneOffline | with_reducible apply since_modLane | dsimp only | split)

theorem since_execLaneKatComplete (lane : Nat) (failed : Nat) (s : State) {r : State} (h : Since r s) : SinceOut r (execLaneKatComplete lane failed s) := by
  unfold execLaneKatComplete
  repeat' (first | assumption | with_reducible apply since_laneFault | with_reducible apply since_suiteDone
                 | with_reducible apply since_selfCheck | with_reducible apply since_laneFailed
                 | with_reducible apply since_lanePassed | with_reducible apply sinceOut_next | dsimp only | split)

theorem since_answerTesters (n : Nat) (failed : Nat) (s : State) {r : State} (h : Since r s) : Since r (answerTesters n failed s) := by
  unfold answerTesters
  repeat' (first | assumption | with_reducible apply since_itemDone | with_reducible apply since_modUnit | intro _
                 | with_reducible apply since_foldl | with_reducible apply since_foldl_snd | with_reducible apply since_getD
                 | dsimp only)

theorem since_unitTested (n : Nat) (failed : Nat) (s : State) {r : State} (h : Since r s) : Since r (unitTested n failed s) := by
  unfold unitTested
  repeat' (first | assumption | with_reducible apply since_unitOffline | with_reducible apply since_modUnit
                 | with_reducible apply since_armatureRecord | with_reducible apply since_answerTesters | dsimp only | split)

theorem since_execUnitKatComplete (unit : Nat) (failed : Nat) (s : State) {r : State} (h : Since r s) : SinceOut r (execUnitKatComplete unit failed s) := by
  unfold execUnitKatComplete
  repeat' (first | assumption | with_reducible apply since_selfCheck | with_reducible apply since_unitFault
                 | with_reducible apply since_answerTesters | with_reducible apply since_unitTested
                 | with_reducible apply sinceOut_next | dsimp only | split)

theorem since_execP1Entry (s : State) {r : State} (h : Since r s) : SinceOut r (execP1Entry s) := by
  unfold execP1Entry
  repeat' (first | assumption | with_reducible apply since_count | simp only [↓since_mk] | with_reducible apply sinceOut_next
                 | with_reducible rfl | dsimp only | split)

theorem since_wake (c : WakeCause) (s : State) {r : State} (h : Since r s) : Since r (wake c s) := by
  unfold wake
  repeat' (first | assumption | simp only [↓since_mk] | with_reducible rfl | dsimp only)

theorem since_execP1Wake (cause : WakeCause) (s : State) {r : State} (h : Since r s) : SinceOut r (execP1Wake cause s) := by
  unfold execP1Wake
  repeat' (first | assumption | with_reducible apply since_wake | with_reducible apply sinceOut_next | dsimp only | split)

theorem since_execP2Entry (s : State) {r : State} (h : Since r s) : SinceOut r (execP2Entry s) := by
  unfold execP2Entry
  repeat' (first | assumption | simp only [↓since_mk] | with_reducible apply sinceOut_next | with_reducible rfl | dsimp only
                 | split)

theorem since_wakeSources (enough : Bool) (s : State) {r : State} (h : Since r s) : Since r (wakeSources enough s) := by
  unfold wakeSources
  repeat' (first | assumption | with_reducible apply since_takeFree | with_reducible apply since_modSource
                 | with_reducible apply since_startSources | with_reducible apply since_condCheck | simp only [↓since_mk]
                 | with_reducible rfl | (apply since_pair; (· assumption)) | dsimp only | split)

theorem since_execP2Wake (cause : WakeCause) (enough : Bool) (s : State) {r : State} (h : Since r s) : SinceOut r (execP2Wake cause enough s) := by
  unfold execP2Wake
  repeat' (first | assumption | with_reducible apply since_refillCache | with_reducible apply since_checkpoint
                 | with_reducible apply since_wakeSources | with_reducible apply since_wake | simp only [↓since_mk]
                 | with_reducible apply sinceOut_next | with_reducible rfl | dsimp only | split)

theorem since_Svc_recorder (it : Item) (len : Nat) (zero : List (Nat × Nat)) (range : Bool) : Svc.Keeps (Svc.recorder it len zero range) := by
  unfold Svc.recorder
  repeat' (first | assumption | with_reducible apply since_Svc_zero | with_reducible apply since_Svc_range
                 | with_reducible apply since_Svc_len | with_reducible apply keep_pure | with_reducible apply keep_bind
                 | with_reducible apply keep_map | intro _ | dsimp only)

theorem since_recordsReply (next : Nat) (recs : List Bytes) : Svc.Keeps (recordsReply next recs) := by
  unfold recordsReply
  repeat' (first | assumption | with_reducible apply since_done | with_reducible apply keep_pure
                 | with_reducible apply keep_bind | with_reducible apply keep_map | intro _ | dsimp only)

theorem since_svcRecRead (it : Item) : Svc.Keeps (svcRecRead it) := by
  unfold svcRecRead
  repeat' (first | assumption | with_reducible apply since_recordsReply | with_reducible apply keep_state
                 | with_reducible apply since_Svc_recorder | with_reducible apply keep_pure | with_reducible apply keep_bind
                 | with_reducible apply keep_map | intro _ | dsimp only)

theorem since_execRecRead (item : Nat) (s : State) {r : State} (h : Since r s) : SinceOut r (execRecRead item s) := by
  unfold execRecRead
  repeat' (first | assumption | with_reducible apply since_runOpcode | with_reducible apply since_svcRecRead
                 | with_reducible apply sinceOut_next | intro _ | dsimp only)

theorem since_ringAck (upto : Nat) (s : State) {r : State} (h : Since r s) : Since r (ringAck upto s) := by
  unfold ringAck
  repeat' (first | assumption | simp only [↓since_mk] | with_reducible rfl | dsimp only)

theorem since_svcRecAck (it : Item) : Svc.Keeps (svcRecAck it) := by
  unfold svcRecAck
  repeat' (first | assumption | with_reducible apply since_done | with_reducible apply since_ringAck
                 | with_reducible apply keep_update | with_reducible apply keep_state | with_reducible apply since_Svc_recorder
                 | with_reducible apply keep_pure | with_reducible apply keep_bind | with_reducible apply keep_map | intro _
                 | dsimp only)

theorem since_execRecAck (item : Nat) (s : State) {r : State} (h : Since r s) : SinceOut r (execRecAck item s) := by
  unfold execRecAck
  repeat' (first | assumption | with_reducible apply since_runOpcode | with_reducible apply since_svcRecAck
                 | with_reducible apply sinceOut_next | intro _ | dsimp only)

theorem since_Svc_cellarPage (id page : Nat) : Svc.Keeps (Svc.cellarPage id page) := by
  refine ⟨fun r u h => ?_⟩
  unfold Svc.cellarPage
  split
  all_goals (first | exact h | exact since_itemWait _ _ _ ((since_mk rfl rfl).mpr h))

theorem since_Svc_cellarPages (id : Nat) (l : List Nat) : Svc.Keeps (Svc.cellarPages id l) := by
  induction l with
  | nil => exact keep_pure _
  | cons p l ih => exact keep_bind (since_Svc_cellarPage _ _) (fun _ => ih)

theorem since_svcJrnlRead (id : Nat) (it : Item) : Svc.Keeps (svcJrnlRead id it) := by
  unfold svcJrnlRead
  repeat' (first | assumption | with_reducible apply since_Svc_cellarPages | with_reducible apply since_recordsReply
                 | with_reducible apply keep_state | with_reducible apply since_Svc_recorder | with_reducible apply keep_pure
                 | with_reducible apply keep_bind | with_reducible apply keep_map | intro _ | dsimp only | split)

theorem since_execJrnlRead (item : Nat) (s : State) {r : State} (h : Since r s) : SinceOut r (execJrnlRead item s) := by
  unfold execJrnlRead
  repeat' (first | assumption | with_reducible apply since_runOpcode | with_reducible apply since_svcJrnlRead
                 | with_reducible apply sinceOut_next | intro _ | dsimp only)

theorem since_svcFaultStatus (it : Item) : Svc.Keeps (svcFaultStatus it) := by
  unfold svcFaultStatus
  repeat' (first | assumption | with_reducible apply since_done | with_reducible apply since_Svc_len
                 | with_reducible apply keep_state | with_reducible apply keep_pure | with_reducible apply keep_bind
                 | with_reducible apply keep_map | intro _ | dsimp only)

theorem since_execFaultStatus (item : Nat) (s : State) {r : State} (h : Since r s) : SinceOut r (execFaultStatus item s) := by
  unfold execFaultStatus
  repeat' (first | assumption | with_reducible apply since_svcFaultStatus | with_reducible apply since_runOpcode
                 | with_reducible apply sinceOut_next | intro _ | dsimp only)

theorem since_modCopies (a : Accessor) (f : Copies → Copies) (s : State) {r : State} (h : Since r s) : Since r (modCopies a f s) := by
  unfold modCopies
  repeat' (first | assumption | simp only [↓since_mk] | with_reducible rfl | dsimp only | split)

theorem since_accErr (a : Accessor) (s : State) {r : State} (h : Since r s) : Since r (accErr a s) := by
  unfold accErr
  repeat' (first | assumption | with_reducible apply since_modCopies | dsimp only)

theorem since_readEffect (a : Accessor) (off : Nat) (s : State) {r : State} (h : Since r s) : Since r (readEffect a off s) := by
  unfold readEffect
  repeat' (first | assumption | with_reducible apply since_modCopies | simp only [↓since_mk] | with_reducible rfl | dsimp only
                 | split)

theorem since_readDword (a : Accessor) (off : Nat) (be : BitVec 4) (s : State) {r : State} (h : Since r s) : Since r (readDword a off be s).2 := by
  unfold readDword
  repeat' (first | assumption | with_reducible apply since_readEffect | dsimp only | split)

theorem since_regRead (a : Accessor) (r : RegAccess) (s : State) {r₀ : State} (h : Since r₀ s) : Since r₀ (regRead a r s) := by
  unfold regRead
  repeat' (first | assumption | with_reducible apply since_debugLocked | with_reducible apply since_accErr
                 | with_reducible apply since_emit | with_reducible apply since_readDword | (apply since_pair; (· assumption))
                 | dsimp only | split)

theorem since_execRcRegisterRead (a : Accessor) (r : RegAccess) (s : State) {r₀ : State} (h : Since r₀ s) : SinceOut r₀ (execRcRegisterRead a r s) := by
  unfold execRcRegisterRead
  repeat' (first | assumption | with_reducible apply since_regRead | with_reducible apply sinceOut_next | dsimp only)

theorem since_execLatchLowRead (a : Accessor) (r : RegAccess) (s : State) {r₀ : State} (h : Since r₀ s) : SinceOut r₀ (execLatchLowRead a r s) := by
  unfold execLatchLowRead
  repeat' (first | assumption | with_reducible apply since_regRead | with_reducible apply sinceOut_next | dsimp only)

theorem since_windowWrite (fn : Nat) (o : Nat) (v : Word) (s : State) {r : State} (h : Since r s) : Since r (windowWrite fn o v s) := by
  unfold windowWrite
  repeat' (first | assumption | with_reducible apply since_cqHead | with_reducible apply since_sqTail | dsimp only | split)

theorem since_msixWrite (fn : Nat) (o : Nat) (v : Word) (s : State) {r : State} (h : Since r s) : Since r (msixWrite fn o v s) := by
  unfold msixWrite
  repeat' (first | assumption | with_reducible apply since_sendPending | simp only [↓since_mk] | with_reducible rfl | dsimp only
                 | split)

theorem since_vfWrite (fn : Nat) (off : Nat) (v : Word) (s : State) {r : State} (h : Since r s) : Since r (vfWrite fn off v s) := by
  unfold vfWrite
  repeat' (first | assumption | with_reducible apply since_msixWrite | with_reducible apply since_windowWrite | dsimp only
                 | split)

theorem since_writePmuEvt (n : Nat) (v : Word) (s : State) {r : State} (h : Since r s) : Since r (writePmuEvt n v s) := by
  unfold writePmuEvt
  repeat' (first | assumption | simp only [↓since_mk] | with_reducible rfl | dsimp only)

theorem since_clearOvf (lo : Nat) (v : Word) (s : State) {r : State} (h : Since r s) : Since r (clearOvf lo v s) := by
  unfold clearOvf
  repeat' (first | assumption | simp only [↓since_mk] | with_reducible rfl | dsimp only | split)

theorem since_writeScfg (src : Nat) (v : Word) (s : State) {r : State} (h : Since r s) : Since r (writeScfg src v s) := by
  unfold writeScfg
  repeat' (first | assumption | with_reducible apply since_setFsrc | dsimp only | split)

theorem since_writeAq (off : Nat) (v : Word) (s : State) {r : State} (h : Since r s) : Since r (writeAq off v s) := by
  unfold writeAq
  repeat' (first | assumption | simp only [↓since_mk] | with_reducible rfl | dsimp only | split)

theorem since_setAqcfg (v : Word) (s : State) {r : State} (h : Since r s) : Since r (setAqcfg v s) := by
  unfold setAqcfg
  repeat' (first | assumption | simp only [↓since_mk] | with_reducible rfl | dsimp only)

theorem since_writeAqcfg (v : Word) (s : State) {r : State} (h : Since r s) : Since r (writeAqcfg v s) := by
  unfold writeAqcfg
  repeat' (first | assumption | with_reducible apply since_modQueue | with_reducible apply since_setAqcfg
                 | with_reducible apply since_addQueue | dsimp only | split)

theorem since_writeTemplateRule (a : Accessor) (k : Nat) (hi : Bool) (v : Word) (s : State) {r : State} (h : Since r s) : Since r (writeTemplateRule a k hi v s) := by
  unfold writeTemplateRule
  repeat' (first | assumption | with_reducible apply since_accErr | simp only [↓since_mk] | with_reducible rfl | dsimp only
                 | split)

theorem since_writeMasterRule (a : Accessor) (m : Nat) (k : Nat) (hi : Bool) (v : Word) (s : State) {r : State} (h : Since r s) : Since r (writeMasterRule a m k hi v s) := by
  unfold writeMasterRule
  repeat' (first | assumption | with_reducible apply since_setMpu | with_reducible apply since_accErr | dsimp only | split)

theorem since_writeRule (a : Accessor) (hi : Bool) (v : Word) (s : State) {r : State} (h : Since r s) : Since r (writeRule a hi v s) := by
  unfold writeRule
  repeat' (first | assumption | with_reducible apply since_accErr | with_reducible apply since_writeMasterRule
                 | with_reducible apply since_writeTemplateRule | dsimp only | split)

theorem since_templateCmd (a : Accessor) (op : Nat) (s : State) {r : State} (h : Since r s) : Since r (templateCmd a op s) := by
  unfold templateCmd
  repeat' (first | assumption | with_reducible apply since_accErr | simp only [↓since_mk] | with_reducible rfl | dsimp only
                 | split)

theorem since_masterCmd (a : Accessor) (m : Nat) (op : Nat) (s : State) {r : State} (h : Since r s) : Since r (masterCmd a m op s) := by
  unfold masterCmd
  repeat' (first | assumption | with_reducible apply since_setMpu | with_reducible apply since_accErr | dsimp only | split)

theorem since_writeMpuCmd (a : Accessor) (v : Word) (s : State) {r : State} (h : Since r s) : Since r (writeMpuCmd a v s) := by
  unfold writeMpuCmd
  repeat' (first | assumption | with_reducible apply since_accErr | with_reducible apply since_masterCmd
                 | with_reducible apply since_templateCmd | dsimp only | split)

theorem since_blockStore (a : Accessor) (off : Nat) (v : Word) (s : State) {r : State} (h : Since r s) : Since r (blockStore a off v s) := by
  unfold blockStore
  repeat' (first | assumption | with_reducible apply since_writeScfg | with_reducible apply since_writeRule
                 | with_reducible apply since_writePmuEvt | with_reducible apply since_writeMpuCmd
                 | with_reducible apply since_modCopies | with_reducible apply since_writeAq
                 | with_reducible apply since_writeAqcfg | with_reducible apply since_heartbeat
                 | with_reducible apply since_clearOvf | simp only [↓since_mk] | with_reducible rfl
                 | with_reducible apply since_getD | dsimp only | split)

theorem since_blockWrite (a : Accessor) (off : Nat) (v : Word) (s : State) {r : State} (h : Since r s) : Since r (blockWrite a off v s) := by
  unfold blockWrite
  repeat' (first | assumption | with_reducible apply since_accErr | with_reducible apply since_blockStore | dsimp only | split)

theorem since_pfWrite (off : Nat) (v : Word) (s : State) {r : State} (h : Since r s) : Since r (pfWrite off v s) :=
  if h1 : (decide (0x80000 ≤ off) && decide (off < 0x84000)) = true then since_eq (if_pos h1).symm (since_windowWrite 0 (off - 0x80000) v s h)
  else if h2 : (decide (0x90000 ≤ off) && decide (off < 0x90800)) = true then
    since_eq ((if_neg h1).trans (if_pos h2)).symm (since_msixWrite 0 (off - 0x90000) v s h)
  else since_eq ((if_neg h1).trans (if_neg h2)).symm h

theorem since_writeDword (a : Accessor) (off : Nat) (be : BitVec 4) (v : Word) (s : State) {r : State} (h : Since r s) : Since r (writeDword a off be v s) := by
  unfold writeDword
  repeat' (first | assumption | with_reducible apply since_blockWrite | with_reducible apply since_accErr
                 | with_reducible apply since_pfWrite | with_reducible apply since_vfWrite | dsimp only | split)

theorem since_regWrite (a : Accessor) (r : RegAccess) (v : Word) (w : Word) (s : State) {r₀ : State} (h : Since r₀ s) : Since r₀ (regWrite a r v w s) := by
  unfold regWrite
  repeat' (first | assumption | with_reducible apply since_debugLocked | with_reducible apply since_accErr
                 | with_reducible apply since_writeDword | dsimp only | split)

theorem since_writeReg (a : Accessor) (off : Nat) (be : BitVec 4) (v : Word) (s : State) {r : State} (h : Since r s) : Since r (writeReg a off be v s) := by
  unfold writeReg
  repeat' (first | assumption | with_reducible apply since_regWrite | dsimp only)

theorem since_execPmuEvtWrite (a : Accessor) (be : BitVec 4) (v : Word) (s : State) {r : State} (h : Since r s) : SinceOut r (execPmuEvtWrite a be v s) := by
  unfold execPmuEvtWrite
  repeat' (first | assumption | with_reducible apply since_writeReg | with_reducible apply sinceOut_next | dsimp only)

theorem since_execPmuOvfClear (a : Accessor) (hi : Bool) (be : BitVec 4) (v : Word) (s : State) {r : State} (h : Since r s) : SinceOut r (execPmuOvfClear a hi be v s) := by
  unfold execPmuOvfClear
  repeat' (first | assumption | with_reducible apply since_writeReg | with_reducible apply sinceOut_next | dsimp only | split)

theorem since_execPmuCounterWrap (n : Nat) (s : State) {r : State} (h : Since r s) : SinceOut r (execPmuCounterWrap n s) := by
  unfold execPmuCounterWrap
  repeat' (first | assumption | with_reducible apply since_pmuWrapped | simp only [↓since_mk]
                 | with_reducible apply sinceOut_next | with_reducible rfl | dsimp only | split)

theorem since_execErrpinHoldWrite (a : Accessor) (be : BitVec 4) (v : Word) (s : State) {r : State} (h : Since r s) : SinceOut r (execErrpinHoldWrite a be v s) := by
  unfold execErrpinHoldWrite
  repeat' (first | assumption | with_reducible apply since_writeReg | with_reducible apply sinceOut_next | dsimp only)

theorem since_execMpuRuleWrite (a : Accessor) (hi : Bool) (be : BitVec 4) (v : Word) (s : State) {r : State} (h : Since r s) : SinceOut r (execMpuRuleWrite a hi be v s) := by
  unfold execMpuRuleWrite
  repeat' (first | assumption | with_reducible apply since_writeReg | with_reducible apply sinceOut_next | dsimp only | split)

theorem since_execMpuSwapNow (a : Accessor) (s : State) {r : State} (h : Since r s) : SinceOut r (execMpuSwapNow a s) := by
  unfold execMpuSwapNow
  repeat' (first | assumption | with_reducible apply since_writeReg | with_reducible apply sinceOut_next | dsimp only)

theorem since_execMpuSwapStaged (a : Accessor) (s : State) {r : State} (h : Since r s) : SinceOut r (execMpuSwapStaged a s) := by
  unfold execMpuSwapStaged
  repeat' (first | assumption | with_reducible apply since_writeReg | with_reducible apply sinceOut_next | dsimp only)

theorem since_execMpuCancel (a : Accessor) (s : State) {r : State} (h : Since r s) : SinceOut r (execMpuCancel a s) := by
  unfold execMpuCancel
  repeat' (first | assumption | with_reducible apply since_writeReg | with_reducible apply sinceOut_next | dsimp only)

theorem since_execMpuCopyActive (a : Accessor) (s : State) {r : State} (h : Since r s) : SinceOut r (execMpuCopyActive a s) := by
  unfold execMpuCopyActive
  repeat' (first | assumption | with_reducible apply since_writeReg | with_reducible apply sinceOut_next | dsimp only)

theorem since_execAqEnable (a : Accessor) (v : Word) (s : State) {r : State} (h : Since r s) : SinceOut r (execAqEnable a v s) := by
  unfold execAqEnable
  repeat' (first | assumption | with_reducible apply since_writeReg | with_reducible apply sinceOut_next | dsimp only)

theorem since_execAqDisable (a : Accessor) (v : Word) (s : State) {r : State} (h : Since r s) : SinceOut r (execAqDisable a v s) := by
  unfold execAqDisable
  repeat' (first | assumption | with_reducible apply since_writeReg | with_reducible apply sinceOut_next | dsimp only)

theorem since_execRegisterWrite (a : Accessor) (r : RegAccess) (v : Word) (w : Word) (s : State) {r₀ : State} (h : Since r₀ s) : SinceOut r₀ (execRegisterWrite a r v w s) := by
  unfold execRegisterWrite
  repeat' (first | assumption | with_reducible apply since_regWrite | with_reducible apply sinceOut_next | dsimp only)

theorem since_execHealthGet (s : State) {r : State} (h : Since r s) : SinceOut r (execHealthGet s) := by
  unfold execHealthGet
  repeat' (first | assumption | with_reducible apply since_emit | simp only [↓since_mk] | with_reducible apply sinceOut_next
                 | with_reducible rfl | dsimp only | split)

theorem since_execMctpControl (msg : Bytes) (s : State) {r : State} (h : Since r s) : SinceOut r (execMctpControl msg s) := by
  unfold execMctpControl
  repeat' (first | assumption | with_reducible apply since_emit | with_reducible apply sinceOut_next | dsimp only | split)

theorem since_execTapBypass (bits : List Bool) (s : State) {r : State} (h : Since r s) : SinceOut r (execTapBypass bits s) := by
  unfold execTapBypass
  repeat' (first | assumption | with_reducible apply since_emit | with_reducible apply sinceOut_next | dsimp only | split)

theorem since_execTapIdcode (s : State) {r : State} (h : Since r s) : SinceOut r (execTapIdcode s) := by
  unfold execTapIdcode
  repeat' (first | assumption | with_reducible apply since_emit | with_reducible apply sinceOut_next | dsimp only | split)

theorem since_boundaryBits (n : Nat) (s : State) {r : State} (h : Since r s) : Since r (boundaryBits n s).2 := by
  unfold boundaryBits
  repeat' (first | assumption | with_reducible apply since_takeFree | (apply since_pair; (· assumption)) | dsimp only)

theorem since_boundaryScan (bits : List Bool) (s : State) {r : State} (h : Since r s) : Since r (boundaryScan bits s) := by
  unfold boundaryScan
  repeat' (first | assumption | with_reducible apply since_boundaryBits | with_reducible apply since_emit
                 | (apply since_pair; (· assumption)) | dsimp only | split)

theorem since_execTapSamplePreload (bits : List Bool) (s : State) {r : State} (h : Since r s) : SinceOut r (execTapSamplePreload bits s) := by
  unfold execTapSamplePreload
  repeat' (first | assumption | with_reducible apply since_boundaryScan | with_reducible apply sinceOut_next | dsimp only)

theorem since_execTapExtest (bits : List Bool) (s : State) {r : State} (h : Since r s) : SinceOut r (execTapExtest bits s) := by
  unfold execTapExtest
  repeat' (first | assumption | with_reducible apply since_boundaryScan | with_reducible apply sinceOut_next | dsimp only)

end Sys2Proof.Machine
end

