-- ==== Sys2Proof/WellFormed.lean ====
section
/-! DEFINITION. The range checks on a command's operands: what the spec's numbering admits. A command that fails them
names nothing the part has; its meaning then changes nothing (log 2). -/

set_option Elab.async false

namespace Sys2Proof

/-- The PF is 0, the VFs 1-64 (04 R69, Table 4.11). -/
def fnOk (fn : Nat) : Bool := fn ≤ 64
/-- 04 R75. -/
def queueOk (q : Nat) : Bool := q < 16
/-- 04 Table 4.2. -/
def entryOk (entry : Bytes) : Bool := entry.length == 32
/-- 04 Table 4.2 NSEG, Table 4.3. -/
def segsOk (segs : Bytes) : Bool := segs.length % 16 == 0 && segs.length ≤ 4096
/-- Decanter entries are 0-8,191 (05 R112, 11 Table 11.6 BIND); work that another part forwarded has a number of its own
above them (09 R254; log 30). -/
def itemOk (item : Nat) : Bool := item < 16384
/-- 05 R121. -/
def coreOk (core : Nat) : Bool := core < 48
/-- 05 Table 5.4. -/
def windowOk (base len : Nat) : Bool := base < 2 ^ 19 && len < 2 ^ 19
/-- 04 R72. -/
def vfOk (vf : Nat) : Bool := 1 ≤ vf && vf ≤ 64
/-- 03 Table 3.1. -/
def tenantOk (tenant : Nat) : Bool := tenant < 1024
/-- Pipes 0-31, digest units 32-47 (11 R315). -/
def unitOk (unit : Nat) : Bool := unit < 48
/-- 10 R275. -/
def laneOk (lane : Nat) : Bool := lane < 24
/-- 00 Table 0.2. -/
def groupOk (group : Nat) : Bool := group < 8
/-- 09 R234. -/
def slotOk (slot : Nat) : Bool := slot < 65536
/-- 12 R317. -/
def sourceOk (src : Nat) : Bool := src < 4
/-- A block is 1,024 samples of one bit (12 R323). -/
def samplesOk (samples : Bytes) : Bool := samples.length == 128
/-- 08 R202. -/
def driveOk (drive : Nat) : Bool := drive < 2
/-- 19 Table 19.5, LNK_PSEL: port in bits 2:0 (0-3 trellis, 4 twin), sub-link in bit 3. -/
def portOk (port : Nat) : Bool := port < 16 && port % 8 < 5
/-- The ids of 14 Table 14.1. -/
def tamperOk (id : Nat) : Bool :=
  [0x01, 0x02, 0x03, 0x04, 0x05, 0x06, 0x07, 0x10, 0x11, 0x12, 0x18, 0x19, 0x20, 0x21, 0x22, 0x23, 0x28, 0x29, 0x30,
    0x32].contains id
/-- 14 Table 14.5 MSEED. -/
def seedsOk (seeds : List Nat) : Bool := seeds.length == 4 && seeds.all (· < 2 ^ 32)
/-- 14 Table 14.9 GRD_VBAT. -/
def millivoltsOk (mv : Nat) : Bool := mv < 4096
/-- 05 R121. -/
def pairOk (pair : Nat) : Bool := pair < 2
/-- 13 R333. -/
def strapsOk (env : BootEnv) : Bool := env.role < 4 && env.id < 32
/-- 16 R428. -/
def counterOk (n : Nat) : Bool := n < 64
/-- 05 R101, R109. -/
def threadOk (t : Thread) : Bool := t.level < 32 && (match t.bound with | some p => p < 2 | none => true)
/-- 04 R69, R84; 19 Table 19.10. -/
def configOk : ConfigWrite → Bool
  | .vfEnable _ n => n ≤ 64
  | .msixControl fn _ _ => fnOk fn
  | .msixEntry fn vec _ _ _ => fnOk fn && vec < (if fn == 0 then 128 else 30)
  | .link w sp => [0, 1, 2, 4, 8].contains w && sp < 6
/-- 19 R478, R474. -/
def accessorOk : Accessor → Bool
  | .vf n => vfOk n
  | _ => true
/-- A request's first DWORD lies on a DWORD (19 R475). -/
def alignedOk (r : RegAccess) : Bool := r.off % 4 == 0
/-- 04 R78, R80, R88. -/
def dmaErrorOk : DmaError → Bool
  | .entryRead fn q => fnOk fn && queueOk q
  | .packetRead => true
  | .replyWrite item => itemOk item
  | .completionWrite item => itemOk item
/-- 05 R104. -/
def completionOk : Completion → Bool
  | .unit n => unitOk n
  | .lane l sub => laneOk l && sub < 4
  | .vault item => itemOk item

/-- A command's operands lie in the ranges of the spec. -/
def Instr.wf : Instr → Bool
  | .sqTailWrite fn q _ => fnOk fn && queueOk q
  | .cqHeadWrite fn q _ => fnOk fn && queueOk q
  | .submissionEntryFetch entry segs => entryOk entry && segsOk segs
  | .packetAdmission _ => true
  | .hostDmaError e => dmaErrorOk e
  | .itemHandoff => true
  | .itemResume core => coreOk core
  | .windowGrant item base len => itemOk item && windowOk base len
  | .decanterRelease item => itemOk item
  | .ctimExpiry fn q => fnOk fn && queueOk q
  | .vfFlr vf => vfOk vf
  | .pfFlr => true
  | .tenantResetComplete tenant => tenantOk tenant
  | .freezeComplete tenant => tenantOk tenant
  | .deleteQueueComplete fn q => fnOk fn && queueOk q
  | .cycinEdge _ _ _ => true
  | .windowEnd => true
  | .cycleLostTimeout => true
  | .acquireTimeout => true
  | .localBoundary => true
  | .edgeMessage _ _ => true
  | .edgeApply => true
  | .cycleSet item => itemOk item
  | .attach item => itemOk item
  | .detach item => itemOk item
  | .createQueue item => itemOk item
  | .tenantReset item => itemOk item
  | .deleteQueue item => itemOk item
  | .setQuota item => itemOk item
  | .quarantine item => itemOk item
  | .queryTenant item => itemOk item
  | .freeze item => itemOk item
  | .save item => itemOk item
  | .restore item => itemOk item
  | .thaw item => itemOk item
  | .graft item => itemOk item
  | .prune item => itemOk item
  | .scrub item => itemOk item
  | .query item => itemOk item
  | .derive item => itemOk item
  | .generate item => itemOk item
  | .officerSet item => itemOk item
  | .vineStatus item => itemOk item
  | .pinTranslate item => itemOk item
  | .pinVerify item => itemOk item
  | .pinChange item => itemOk item
  | .pinGenerate item => itemOk item
  | .cvvGenerate item => itemOk item
  | .cvvVerify item => itemOk item
  | .arqcVerify item => itemOk item
  | .scriptMac item => itemOk item
  | .scriptEncrypt item => itemOk item
  | .dukptDerive item => itemOk item
  | .dukptPinTranslate item => itemOk item
  | .dukptCipher item => itemOk item
  | .dukptMac item => itemOk item
  | .macGenerate item => itemOk item
  | .macVerify item => itemOk item
  | .encrypt item => itemOk item
  | .decrypt item => itemOk item
  | .keyWrap item => itemOk item
  | .keyUnwrap item => itemOk item
  | .digest item => itemOk item
  | .streamStart item => itemOk item
  | .streamUpdate item => itemOk item
  | .streamFinish item => itemOk item
  | .rsaSign item => itemOk item
  | .rsaVerify item => itemOk item
  | .rsaDecrypt item => itemOk item
  | .ecdsaSign item => itemOk item
  | .ecdsaVerify item => itemOk item
  | .ecdh item => itemOk item
  | .eddsaSign item => itemOk item
  | .eddsaVerify item => itemOk item
  | .mlkemEncaps item => itemOk item
  | .mlkemDecaps item => itemOk item
  | .mldsaSign item => itemOk item
  | .mldsaVerify item => itemOk item
  | .keygen item => itemOk item
  | .pubkeyRead item => itemOk item
  | .kbImport item => itemOk item
  | .kbExport item => itemOk item
  | .tokenise item => itemOk item
  | .detokenise item => itemOk item
  | .delete item => itemOk item
  | .exportOpen item => itemOk item
  | .exportNext item => itemOk item
  | .vaultQuery item => itemOk item
  | .random item => itemOk item
  | .drbgStatus item => itemOk item
  | .hierConfig item => itemOk item
  | .hierOfficers item => itemOk item
  | .tenantCreate item => itemOk item
  | .tenantDelete item => itemOk item
  | .place item => itemOk item
  | .handover item => itemOk item
  | .forceActive item => itemOk item
  | .hierQuery item => itemOk item
  | .dirQuery item => itemOk item
  | .tkeyRead item => itemOk item
  | .lcStatus item => itemOk item
  | .lcTransition item => itemOk item
  | .lcEraseComplete => true
  | .krootSet item => itemOk item
  | .hoffInstall item => itemOk item
  | .debugOpen item => itemOk item
  | .powerCtl item => itemOk item
  | .adapterRecord item => itemOk item
  | .mapLoad item => itemOk item
  | .mapQuery item => itemOk item
  | .recRead item => itemOk item
  | .recAck item => itemOk item
  | .jrnlRead item => itemOk item
  | .faultStatus item => itemOk item
  | .update item => itemOk item
  | .updateImageWritten _ => true
  | .groupReloadComplete _ => true
  | .restart item => itemOk item
  | .updateStatus item => itemOk item
  | .cellarFormat item => itemOk item
  | .tamperClear item => itemOk item
  | .laneTest item => itemOk item
  | .curveQuery item => itemOk item
  | .unitTest item => itemOk item
  | .engineRequestStart _ => true
  | .segmentEnd unit => unitOk unit
  | .engineRequestComplete src => completionOk src
  | .bneRequestStart => true
  | .hcacheFillWriteback => true
  | .laneDrainComplete lane => laneOk lane
  | .laneKatComplete lane _ => laneOk lane
  | .unitKatComplete unit _ => unitOk unit
  | .groupDrainComplete group => groupOk group
  | .sweeperStep => true
  | .vineBaseRewrite => true
  | .leaseBlockRequest m => slotOk m.slot && tenantOk m.tenant
  | .leaseBlockGrant m => slotOk m.slot
  | .startupTestComplete src _ _ => sourceOk src
  | .healthTestFail src _ => sourceOk src
  | .healthyRunCount src => sourceOk src
  | .conditionerBlockClose samples => samplesOk samples
  | .drbgDraw => true
  | .drawTimeout => true
  | .cellarReadComplete _ _ => true
  | .commitLogWritten => true
  | .commitFlushDone => true
  | .nvmePortFailure port => driveOk port
  | .smartWarning drive => driveOk drive
  | .vaultSweeperStep tenant _ => tenantOk tenant
  | .pageMessage _ _ => true
  | .helloMessage port _ => portOk port
  | .finishMessage port _ => portOk port
  | .linkRetry port => portOk port
  | .frameTagFailure port _ => portOk port
  | .frameCounterLimit port => portOk port
  | .pollTimer _ _ => true
  | .managerLost => true
  | .holdLimit => true
  | .resyncComplete => true
  | .placementMessage _ _ => true
  | .keydistMessage _ _ => true
  | .keydistAck _ _ => true
  | .epochHoldTimeout => true
  | .forwardMessage _ _ => true
  | .answerMessage _ _ => true
  | .takeoverMessage _ _ _ => true
  | .deltaMessage _ _ => true
  | .dackMessage _ _ => true
  | .bulkMessage _ => true
  | .twinHoldToggle _ _ _ => true
  | .missedToggles _ => true
  | .arbitrationTimeout => true
  | .tamperDetect _ src => tamperOk src
  | .responseComplete _ => true
  | .heldTimeout => true
  | .armingTimeout => true
  | .mainPowerUp _ => true
  | .mainPowerLoss _ => true
  | .batteryTamper _ src => tamperOk src
  | .vbatColdStart _ seeds => seedsOk seeds
  | .vbatWarning mv => millivoltsOk mv
  | .debugPortLockedAccess _ _ _ => true
  | .faultReport _ _ _ => true
  | .isolationTimeout _ => true
  | .errPulseEnd => true
  | .heartbeatWrite _ pair => pairOk pair
  | .heartbeatTimeout => true
  | .sequencerFlushDone => true
  | .sequencerError => true
  | .journalFlush => true
  | .pwrfailNAssert _ => true
  | .perstNAssert _ => true
  | .resetNAssert _ => true
  | .perstNRelease _ env => strapsOk env
  | .bootReady => true
  | .p1Entry => true
  | .p1Wake _ => true
  | .p2Entry => true
  | .p2Wake _ _ => true
  | .healthGet => true
  | .mctpControl _ => true
  | .tapBypass _ => true
  | .tapIdcode => true
  | .tapSamplePreload _ => true
  | .tapExtest _ => true
  | .rcRegisterRead a r => accessorOk a && alignedOk r
  | .latchLowRead a r => accessorOk a && alignedOk r
  | .pmuEvtWrite _ _ _ => true
  | .pmuOvfClear _ _ _ _ => true
  | .pmuCounterWrap n => counterOk n
  | .errpinHoldWrite _ _ _ => true
  | .mpuRuleWrite _ _ _ _ => true
  | .mpuSwapNow _ => true
  | .mpuSwapStaged _ => true
  | .mpuCancel _ => true
  | .mpuCopyActive _ => true
  | .aqEnable _ _ => true
  | .aqDisable _ _ => true
  | .registerWrite a r _ _ => accessorOk a && alignedOk r
  | .validToggles _ _ => true
  | .controlThreadReady t => threadOk t
  | .configurationWrite w => configOk w
  | .pwrfailNRelease _ => true
  | .announcedPowerDown _ => true
  | .journalFlushComplete => true
  | .flushResetTimeout => true

end Sys2Proof
end

