-- ==== Sys2Proof/Tests/Slice0.lean ====
section
/-! SUPPORT. Small tests: terms that WellFormed refuses, and for each statement with hypotheses a state and operands that meet them. -/

set_option Elab.async false

namespace Sys2Proof.Tests

open Sys2Proof Sys2Proof.Machine

/-! ## Small states -/

/-- A part in service: READY, in FIELD, no roster, its groups online. -/
def live : State :=
  { State.reset with
    boot := { Boot.reset with phase := 5, perst := false, straps := some (0, 0) }
    otp := { Otp.reset with force := .field }
    fcr := { Fcr.reset with st := .normal }
    grd := { Guard.reset with dbgOpen := false }
    dsp := { Dsp.reset with groups := (List.range 8).map (fun g => (g, ⟨.online, 1⟩)) } }

/-- A queue pair of 16 entries with one of them waiting. -/
def pair16 : Queue := { newQueue .enabled 16 3 2 4 5 0x1000 0x2000 with sqtail := 1 }

/-- `live` with PF pair 15. -/
def paired : State := { live with hfe := { live.hfe with queues := [(15, pair16)] } }

/-- A running item. -/
def job (op tenant : Nat) (pay : Bytes) (l : List Answer) : Item :=
  { fn := 0, q := 15, pos := 0, tag := 0, raddr := 0x3000, rcap := 4096, opcode := op, tenant := tenant, flow := 0, ord := false, seq := 0, nowait := false, pcrc := false, key := 0x01000001, epoch := 0, notafter := 0, payload := pay, rsvd := false, crcOk := true, sn := 0, arr := 1, level := 3, phase := .running 0 0, answers := l, holding := [], slot := none, wrote := none, map := none, windows := [], outer := none, reply := none, source := none }

/-- A state whose one item is `it`, number 7. -/
def busyOn (s : State) (it : Item) : State := { s with dsp := { s.dsp with items := [(7, it)] } }

theorem busy_runs (s : State) (op tenant : Nat) (pay : Bytes) (l : List Answer) :
    Running (busyOn s (job op tenant pay l)) 7 op (job op tenant pay l) l :=
  ⟨rfl, ⟨0, 0, rfl⟩, rfl, rfl, rfl⟩

/-- A context of tenant 5 on VF 1. -/
def ctx5 : Ctx := { newCtx (job 1 5 [] []) 2 with vf := 1, maxpri := 31, fbase := 0, fcount := 8, infl := 8, quota := 4, left := 2 }

/-- `paired` with tenant 5's context, VF 1 enabled. -/
def attached : State := { paired with hfe := { paired.hfe with ctxs := [(5, ctx5)], vfen := true, numvf := 64 } }

/-! ## The machine and the host front end -/

theorem test_step_witness : ({ live with pending := [.healthGet] } : State).pending = [.healthGet] ∧ live.pending = [] := by decide

theorem test_doorbell_witness : 15 < 16 ∧ fnVisible paired 0 = true ∧ getQueue paired 0 15 = some pair16 ∧ pair16.st ≠ .error ∧
    0x1000F % 4096 < pair16.size ∧ pair16.size ≤ 0x10010 % 4096 := by decide

/-- An entry of a packet of 32 bytes. -/
def entry32 : Bytes := zeros 8 ++ [32] ++ zeros 23

theorem test_entry_fetch_witness : nextPair paired = some (0, 15) ∧ getQueue paired 0 15 = some pair16 ∧ hfeLive paired = true ∧
    entry32.length = 32 ∧ ([] : Bytes).length = 16 * entrySegs entry32 ∧ paired.dsp.items.length + paired.hfe.fetched.length < 8192 ∧
    staged paired + delivered entry32 [] ≤ stagingSize := by decide +kernel

/-- An entry of one byte more than staging holds. -/
def entryBig : Bytes := zeros 8 ++ [0, 0, 0xC0, 1] ++ zeros 20

theorem test_entry_waits_witness :
    let s := { paired with hfe := { paired.hfe with fetched := [⟨0, 15, 0, 0, 0, 0, 1, false⟩] } }
    nextPair s = some (0, 15) ∧ getQueue s 0 15 = some pair16 ∧ hfeLive s = true ∧ entryBig.length = 32 ∧
      ([] : Bytes).length = 16 * entrySegs entryBig ∧ s.dsp.items.length + s.hfe.fetched.length < 8192 ∧
      stagingSize < staged s + delivered entryBig [] := by decide +kernel

/-- A pair of VF 1 can be fetched from beside the PF's. -/
theorem test_other_queues_witness :
    let c : Ctx := ⟨1, 31, 256, 8, 8, 0, false, 0, none, .normal, false, 0, 0, [], none, false, false, none, []⟩
    let s := { paired with hfe := { paired.hfe with vfen := true, numvf := 1, ctxs := [(7, c)], queues := paired.hfe.queues ++ [(16, pair16)] } }
    nextPair s = some (0, 15) ∧ 1 ∈ fetchFns s := by decide +kernel

/-- A fetch within staging takes the entry. -/
theorem test_fetch_takes_witness : ∃ t, exec (.submissionEntryFetch entry32 []) paired = .next t ∧ t.hfe.fetched ≠ paired.hfe.fetched :=
  ⟨_, rfl, by decide +kernel⟩

theorem test_resets_witness : paired.powered = true ∧ pinFlush paired = false ∧ paired.boot.perst = false := by decide

/-- The packet of a PING-like item of PF opcode `op`, without payload. -/
def packet (op : Nat) : Bytes :=
  let h := toBE 1 0xD9 ++ toBE 1 1 ++ toBE 2 op ++ zeros 24
  h ++ toBE 4 (crc32c h).toNat

def fetchedPf (n : Nat) : State := { paired with hfe := { paired.hfe with fetched := [⟨0, 15, 0, 9, 0x3000, 4096, n, false⟩] } }

theorem test_admission_witness :
    let s := fetchedPf 32
    let f : Fetched := ⟨0, 15, 0, 9, 0x3000, 4096, 32, false⟩
    let it := itemOf s f (packet 0x0D01) (tget s.dsp.flows (headerOf (packet 0x0D01)).flow { head := 0, next := 0 }).next
    s.hfe.fetched.find? (mayAdmit s) = some f ∧ hfeLive s = true ∧ (packet 0x0D01).length = f.dlen ∧ directCheck s f.fn (packet 0x0D01) = none ∧
      freeEntryNo s = some 0 ∧ it.owner = none ∧ admitPf s it = .pass ∧ admitForm it = none := by decide +kernel

/-- A packet whose header digest is wrong. -/
def badPacket : Bytes := zeros 32

theorem test_direct_witness :
    let s := fetchedPf 32
    let f : Fetched := ⟨0, 15, 0, 9, 0x3000, 4096, 32, false⟩
    s.hfe.fetched.find? (mayAdmit s) = some f ∧ hfeLive s = true ∧ badPacket.length = f.dlen ∧ (directCheck s f.fn badPacket).isSome = true ∧
      pairRoom s f.fn f.q = true := by decide +kernel

/-- An item whose reply is ready. -/
def complete : Item := { job 0x0D01 0 [] [] with phase := .complete, reply := some (.bare 0 0) }

theorem test_dma_error_witness : hfeLive (busyOn (fetchedPf 32) complete) = true ∧ getQueue paired 0 15 = some pair16 ∧ pair16.fetches = true ∧
    fnFetches paired 0 = true ∧ (fetchedPf 32).hfe.fetched ≠ [] ∧ getItem (busyOn paired complete) 7 = some complete ∧ complete.fn ≤ 64 ∧
    atHead (busyOn paired complete) complete = true ∧ hasRoom (busyOn paired complete) complete = true := by decide +kernel

theorem test_ctim_witness :
    let p := { pair16 with unsig := 1, unsigAt := 10 }
    let s := { live with hfe := { live.hfe with queues := [(15, p)] } }
    getQueue s 0 15 = some p ∧ p.unsig ≠ 0 ∧ p.ctim ≠ 0 ∧ p.vec ≠ 0xFF ∧ hfeLive s = true ∧ msixOpen s 0 p.vec = false := by decide +kernel

theorem test_flr_witness : 1 ≤ 64 ∧ fnVisible attached 1 = true ∧ fnVisible attached 64 = true := by decide

/-- Tenant 5's context in some state. -/
def ctxAt (c : Ctx) : State := { attached with hfe := { attached.hfe with ctxs := [(5, c)] } }

theorem test_waits_end_witness :
    let r := { ctx5 with st := .resetting }
    let g := { r with gone := true }
    let f := { ctx5 with st := .frozen, freezer := [7] }
    let p := { pair16 with del := true, delers := [7] }
    let d := { live with hfe := { live.hfe with queues := [(15, p)] } }
    (getCtx (ctxAt r) 5 = some r ∧ r.st = .resetting ∧ itemsOf (ctxAt r) 5 = [] ∧ r.gone = false) ∧
      (getCtx (ctxAt g) 5 = some g ∧ itemsOf (ctxAt g) 5 = [] ∧ g.gone = true) ∧
      (getCtx (ctxAt f) 5 = some f ∧ f.freezer ≠ [] ∧ ctxInflight (ctxAt f) 5 f = 0) ∧
      getQueue d 0 15 = some p ∧ p.del = true ∧ (0, 15) ≠ (0, 0) ∧
      countItems (fun i it => it.fn == 0 && it.q == 15 && !p.delers.contains i) (busyOn d (job 5 0 [] [])) = 0 ∧
      ∀ f ∈ d.hfe.fetched, ¬(f.fn = 0 ∧ f.q = 15) := by decide +kernel

theorem test_configuration_witness : live.boot.perst = false ∧ live.powered = true ∧ tfind live.hfe.msix (msixKey 64 29) = none := by decide

/-! ## The dispatcher -/

/-- An item on its service list. -/
def listedIt : Item := { job 0x0D01 0 [] [] with phase := .ready }

theorem test_handoff_witness :
    let s := busyOn live listedIt
    hfeLive s = true ∧ nextItem s = some (7, listedIt) ∧ getItem s 7 = some listedIt ∧ pickCore s = some 0 ∧ freeContext s 0 = some 0 ∧
      recheck s listedIt = none := by decide +kernel

theorem test_recheck_witness :
    let it := { listedIt with opcode := 0x0101, notafter := 0, q := 15 }
    let s := busyOn { live with otp := { live.otp with force := .void } } it
    hfeLive s = true ∧ nextItem s = some (7, it) ∧ pickCore s = some 0 ∧ freeContext s 0 = some 0 ∧ (recheck s it).isSome = true := by
  decide +kernel

theorem test_resume_witness :
    let it := { listedIt with phase := .resumable 47 3 5 }
    let s := busyOn live it
    hfeLive s = true ∧ (∀ e ∈ residents s 47, e.2.isRunning = false) ∧ firstAnswered s 47 = some (7, 3, 5) ∧ getItem s 7 = some it := by
  decide +kernel

theorem test_window_witness :
    let a := { job 0x0D01 0 [] [] with windows := List.replicate 15 0 }
    let b := { job 0x0D01 0 [] [] with windows := List.replicate 16 0 }
    (getItem (busyOn live a) 7 = some a ∧ a.phase = .running 0 0 ∧ a.windows.length < 16) ∧
      getItem (busyOn live b) 7 = some b ∧ b.phase = .running 0 0 ∧ 16 ≤ b.windows.length := by decide

theorem test_release_witness :
    let full := { live with hfe := { live.hfe with queues := [(15, { pair16 with cqtail := 14, cqhead := 15 })] } }
    getItem (busyOn paired complete) 7 = some complete ∧ complete.fn ≤ 64 ∧ hfeLive (busyOn paired complete) = true ∧
      atHead (busyOn paired complete) complete = true ∧ hasRoom (busyOn paired complete) complete = true ∧
      hfeLive (busyOn full complete) = true ∧ atHead (busyOn full complete) complete = true ∧ hasRoom (busyOn full complete) complete = false := by
  decide +kernel

theorem test_flow_order_witness :
    let o := { complete with ord := true, sn := 1 }
    getItem (busyOn paired listedIt) 7 = some listedIt ∧ listedIt.fn ≤ 64 ∧ listedIt.phase ≠ .complete ∧
      getItem (busyOn paired o) 7 = some o ∧ o.ord = true ∧ (tget (busyOn paired o).dsp.flows o.flow { head := 0, next := 0 }).head ≠ o.sn := by
  decide

theorem test_thread_witness :
    let off := { live with dsp := { live.dsp with off0 := true, off1 := true } }
    pairFor off ⟨1, 31, none⟩ = none ∧ 1 < 2 ∧ pairFor live ⟨1, 0, some 1⟩ = some 1 ∧ pairFor live ⟨1, 0, some 0⟩ = some 0 := by decide

theorem test_drain_witness :
    let g : Group := ⟨.draining, 1⟩
    let s := { live with dsp := { live.dsp with groups := [(7, g)], items := [(7, { listedIt with phase := .running 0 0 })] } }
    tfind s.dsp.groups 7 = some g ∧ g.st = .draining ∧
      ∀ e ∈ s.dsp.items, (e.2.seat.map (fun u => groupOf u.1)) ≠ some 7 ∨ s.flash.upd.map (·.item) = some e.1 := by decide

/-! ## The cycle unit -/

def cycAt (c : Cyu) : State := { live with now := 10000000, cyu := c }

/-- Locked at cycle 4, its last edge at 0. -/
def lockedCyu : Cyu := { Cyu.reset with st := .locked, num := some 4 }

theorem test_edge_witness :
    let s := cycAt lockedCyu
    let l := cycAt { lockedCyu with st := .lost, setN := some 9 }
    cyuLive s = true ∧ roleOf s ≠ .worker ∧ (100 : Nat) ≤ 100 ∧ s.cyu.st = .locked ∧ inWindow s (max s.now 10100000) = true ∧
      inWindow s (max s.now 10100001) = false ∧ nextNumber s.cyu = some 5 ∧ s.cyu.setN = none ∧ s.cyu.num.map (· + 1) = some 5 ∧ 5 ≤ cycMax ∧ 100 ≤ s.cyu.period ∧
      l.cyu.st = .lost ∧ inWindow l (max l.now 0) = true ∧ l.cyu.setN = some 9 := by decide +kernel

theorem test_acquisition_witness :
    let u := live
    let a (n : Nat) := cycAt { Cyu.reset with st := .acquire, acq := n, acqLast := 100000 }
    (cyuLive u = true ∧ roleOf u ≠ .worker ∧ u.cyu.st = .unlocked) ∧ cyuLive (a 1) = true ∧ (a 1).cyu.st = .acquire ∧
      (cycP (a 1) ≤ max (a 1).now 0 - 100000 + cycW (a 1) ∧ max (a 1).now 0 - 100000 ≤ cycP (a 1) + cycW (a 1) ∧ (a 1).cyu.acq = 1) ∧
      ¬(max (a 1).now 10200001 - 100000 ≤ cycP (a 1) + cycW (a 1)) ∧ ((a 2).cyu.acq = 2 ∧ (a 2).cyu.num = none ∧ (a 2).cyu.ended = false) ∧
      ({ (a 2).cyu with ended := true } : Cyu).ended = true := by decide +kernel

theorem test_cycle_timers_witness :
    let l := cycAt lockedCyu
    let x (n : Nat) := cycAt { lockedCyu with st := .lost, run := n }
    cyuLive l = true ∧ l.cyu.setN = none ∧ l.cyu.num = some 4 ∧ 5 ≤ cycMax ∧ cycNext l + cycW l < l.cyu.lastReal + 2 * cycP l ∧
      (x 7).cyu.st = .lost ∧ (x 7).cyu.run < 8 ∧ 8 ≤ (x 8).cyu.run ∧ live.cyu.st = .unlocked ∧ cyuLive live = true ∧
      (cycAt { Cyu.reset with st := .acquire }).cyu.st = .acquire := by decide +kernel

/-- A worker at position 2 whose link to its manager is up. -/
def worker : State :=
  { live with
    boot := { live.boot with straps := some (1, 2) }
    hier := { live.hier with mst := .serving, ports := [(0, { Port.reset with st := .up })] } }

theorem test_worker_edge_witness :
    let m (n : Nat) : EdgeMsg := ⟨5, false, n, 0⟩
    let s (n : Nat) := { worker with cyu := { worker.cyu with msgs := [(9, m n)] } }
    roleOf worker = .worker ∧ linkLive worker = true ∧ (managerPort worker).isSome = true ∧ worker.hier.mterm ≤ (m 2).mterm ∧
      worker.hier.mst = .serving ∧ (s 3).cyu.msgs = [(9, m 3)] ∧ cyuLive (s 3) = true ∧ (m 2).state = 2 ∧ (m 3).state = 3 ∧
      (m 0).state = 0 ∧ (m 1).state = 1 := by decide +kernel

/-! ## Contexts and queue pairs -/

theorem test_completion_witness : getItem (busyOn paired (job 1 0 [] [])) 7 = some (job 1 0 [] []) ∧ (job 1 0 [] []).phase ≠ .complete ∧
    (job 1 0 [] []).outer = none := by decide

/-- A payload of `n` bytes, zero but for the fields at some offsets: offset, length, value. -/
def pay (n : Nat) (l : List (Nat × Nat × Nat)) : Bytes :=
  l.foldl (fun b e => b.take e.1 ++ toBE e.2.1 e.2.2 ++ b.drop (e.1 + e.2.1)) (zeros n)

/-- An ATTACH of tenant 5: VF, MAXPRI 31, FBASE, FCOUNT 1, INFL 8192, QUOTA. -/
def attachPay (vf fbase : Nat) : Bytes := pay 24 [(0, 1, vf), (1, 1, 31), (4, 2, fbase), (6, 2, 1), (8, 2, 8192), (12, 4, 0xFFFFFFFE), (16, 1, 1)]

def attachIt (vf fbase : Nat) : Item := job 1 5 (attachPay vf fbase) []

/-- Tenant 5 is placed on the part. -/
def placedOn (s : State) : State := { s with hier := { s.hier with placed := [(5, ⟨1, true, true⟩)] } }

/-- The ranges of an ATTACH. -/
def attachForm (it : Item) : Prop :=
  Laid it 24 [(2, 2), (10, 2), (17, 7)] ∧ fld it.payload 1 1 ≤ 31 ∧ 1 ≤ fld it.payload 6 2 ∧ 1 ≤ fld it.payload 8 2 ∧
    fld it.payload 8 2 ≤ 8192 ∧ fld it.payload 12 4 ≠ 0xFFFFFFFF ∧ fld it.payload 16 1 ≤ 1

theorem test_attach_form : attachForm (attachIt 64 32767) ∧ attachForm (attachIt 65 32767) ∧ attachForm (attachIt 64 255) ∧ attachForm (attachIt 0 0x8000) := by
  unfold attachForm Laid
  decide +kernel

theorem test_attach_witness :
    let s := busyOn (placedOn live) (attachIt 64 32767)
    Running s 7 1 (attachIt 64 32767) [] ∧ attachRefusal s (attachIt 64 32767) = none :=
  ⟨busy_runs _ _ _ _ _, by decide +kernel⟩

theorem test_attach_refused_witness :
    let full := { placedOn live with hfe := { live.hfe with ctxs := (List.range 64).map (fun i => (100 + i, { ctx5 with vf := i, fbase := 0, fcount := 0 })) } }
    tfind live.hier.placed 5 = none ∧ tfind (placedOn live).hier.placed 5 = some ⟨1, true, true⟩ ∧
      (getCtx (placedOn attached) 5).isSome = true ∧ (getCtx full 5 = none ∧ 64 ≤ full.hfe.ctxs.length) ∧
      getCtx (placedOn live) 5 = none ∧ (placedOn live).hfe.ctxs.length < 64 ∧ 64 < fld (attachIt 65 32767).payload 0 1 ∧
      ¬(64 < fld (attachIt 64 255).payload 0 1) ∧ tenantOfVf (placedOn live) 64 = none ∧ fld (attachIt 64 255).payload 4 2 < 256 ∧
      32768 < fld (attachIt 0 0x8000).payload 4 2 + fld (attachIt 0 0x8000).payload 6 2 := by decide +kernel

/-- A CREATE_QUEUE of pair 15 of a function. -/
def createPay (fn vec : Nat) : Bytes := pay 32 [(0, 1, fn), (1, 1, 15), (2, 2, 4096), (4, 1, 31), (5, 1, vec), (8, 8, 0x10000), (16, 8, 0x20000)]

theorem test_create_queue_witness :
    let a := job 3 0 (createPay 0 127) []
    let b := job 3 0 (createPay 1 29) []
    Running (busyOn live a) 7 3 a [] ∧ Running (busyOn attached b) 7 3 b [] ∧ (Laid a 32 [(24, 8)] ∧ Laid b 32 [(24, 8)]) ∧
      (fld a.payload 0 1 = 0 ∧ fld a.payload 1 1 = 15 ∧ fld a.payload 5 1 < 128 ∧ getQueue (busyOn live a) 0 15 = none) ∧
      (fld b.payload 0 1 = 1 ∧ fld b.payload 5 1 < 30 ∧ getQueue (busyOn attached b) 1 15 = none ∧ tenantOfVf (busyOn attached b) 1 = some 5 ∧
        getCtx (busyOn attached b) 5 = some ctx5 ∧ fld b.payload 4 1 ≤ ctx5.maxpri) ∧
      fld a.payload 2 2 ∈ [16, 32, 64, 128, 256, 512, 1024, 2048, 4096] ∧ fld a.payload 4 1 ≤ 31 ∧ fld a.payload 8 8 % 4096 = 0 ∧
      fld a.payload 16 8 % 4096 = 0 := by
  refine ⟨busy_runs _ _ _ _ _, busy_runs _ _ _ _ _, ?_, ?_⟩
  · unfold Laid
    decide +kernel
  · decide +kernel

theorem test_context_witness :
    let q := job 6 5 (pay 8 [(0, 4, 0xFFFFFFFE), (4, 1, 1)]) []
    let f := { ctx5 with st := .frozen }
    Running (busyOn attached q) 7 6 q [] ∧ Laid q 8 [(5, 3)] ∧ (fld q.payload 0 4 ≠ 0xFFFFFFFF ∧ fld q.payload 4 1 ≤ 1) ∧
      getCtx (busyOn attached q) 5 = some ctx5 ∧ getCtx (busyOn live (job 8 5 [] [])) 5 = none ∧
      getCtx (busyOn (ctxAt f) (job 12 5 [] [])) 5 = some f ∧ f.st = .frozen ∧ f.saved = false := by
  refine ⟨busy_runs _ _ _ _ _, ?_, ?_⟩
  · unfold Laid
    decide +kernel
  · decide +kernel

theorem test_context_waits_witness :
    let r := { ctx5 with st := .resetting }
    let d := job 5 0 (pay 4 [(1, 1, 15)]) []
    Running (busyOn paired d) 7 5 d [] ∧ Laid d 4 [(2, 2)] ∧ tsorted (busyOn attached d).dsp.items = true ∧
      getCtx (busyOn attached (job 2 5 [] [])) 5 = some ctx5 ∧ ctx5.st ≠ .resetting ∧ getCtx (busyOn (ctxAt r) (job 4 5 [] [])) 5 = some r ∧
      fld d.payload 0 1 ≤ 64 ∧ fld d.payload 1 1 ≤ 15 ∧ getQueue (busyOn paired d) 0 15 = some pair16 ∧ ctx5.st = .normal := by
  refine ⟨busy_runs _ _ _ _ _, ?_, ?_⟩
  · unfold Laid
    decide +kernel
  · decide +kernel

/-! ## Classes 02h to 04h -/

/-- A PAN field of 19 digits. -/
def pan19 : Nat := 0x13001234567890123456789F

/-- Its digits. -/
def digits19 : List Nat := [1, 2, 3, 4, 5, 6, 7, 8, 9, 0, 1, 2, 3, 4, 5, 6, 7, 8, 9]

/-- An IBM 3624 REFBLK with a check length and, read, a reference value of zeros. -/
def refFields (o chk : Nat) (read : Bool) : List (Nat × Nat × Nat) :=
  [(o, 4, 0x01000000), (o + 5, 1, chk), (o + 8, 8, 1), (o + 16, 8, 0x0123456789012345), (o + 24, 6, if read then (if chk = 12 then 0 else 0x0000FFFFFFFF) else 0)]

theorem fills_one (n : Nat) (b : Bytes) : Fills 1 n [.ok b] ∧ Fills 4 n [.ok b] ∧ Fills 0 n [] ∧ Fills 2 n [] :=
  ⟨⟨b, rfl⟩, ⟨b, rfl⟩, rfl, rfl⟩

theorem fills_below (n : Nat) (b : Bytes) (h : n ≤ (b.filter (fun x => x.toNat < 252)).length) : Fills 3 n [.ok b] := ⟨_, b, rfl, h, rfl⟩

/-- The two digit strings that PIN_VERIFY compares, at the least and the greatest check length. -/
theorem test_pin_witness :
    let t := job 0x0201 5 (pay 36 [(0, 1, 4), (1, 1, 4), (4, 4, 0x01000000), (8, 12, pan19)]) []
    let u := job 0x0201 5 (pay 36 [(0, 1, 0), (1, 1, 3), (4, 4, 0x01000000), (8, 12, 0x0C00123456789012FFFFFFFF)]) []
    let v := job 0x0202 5 (pay 64 ([(0, 1, 4), (4, 12, pan19)] ++ refFields 32 12 true)) []
    (Laid t 36 ([(2, 2), (9, 1)] ++ blockTail 4 20) ∧ Handle (t.f 4 4) ∧ panField (t.b 8 12) 12 19 = some digits19 ∧ Machine.pairOk 4 4 = true ∧
      ((numsPins 2 [4, 1, 2, 3, 4]).headD none).isSome = true ∧ (numsPins 2 [0]).headD none = none) ∧
    (Laid u 36 ([(2, 2), (9, 1)] ++ blockTail 0 20) ∧ Machine.pairOk 0 3 = true ∧ panField (u.b 8 12) 12 19 = some (digits19.take 10 ++ [1, 2])) ∧
    (Laid v 64 ([(1, 3), (5, 1)] ++ blockTail 4 16 ++ refRsvd 32) ∧ v.f 0 1 ≤ 4 ∧ panField (v.b 4 12) 12 19 = some digits19 ∧
      RefFits (refBlock (v.b 32 32)) true) := by
  unfold Laid RefFits Handle
  decide +kernel

theorem test_pin_change_witness :
    let c := job 0x0203 5 (pay 80 ([(0, 1, 4), (1, 1, 1), (4, 12, pan19)] ++ refFields 48 4 true)) []
    let k := job 0x0203 5 (pay 80 ([(0, 1, 4), (4, 12, pan19)] ++ refFields 48 4 false)) []
    (Laid c 80 ([(2, 2), (5, 1)] ++ blockTail 4 16 ++ blockTail 4 32 ++ refRsvd 48) ∧ c.f 0 1 ≤ 4 ∧ c.f 1 1 = 1 ∧
      panField (c.b 4 12) 12 19 = some digits19 ∧ RefFits (refBlock (c.b 48 32)) true ∧ (refBlock (c.b 48 32)).verifies none [] = false) ∧
    (Laid k 80 ([(2, 2), (5, 1)] ++ blockTail 4 16 ++ blockTail 4 32 ++ refRsvd 48) ∧ k.f 1 1 = 0 ∧ isZero (k.b 16 16) = true ∧
      RefFits (refBlock (k.b 48 32)) false ∧ (numsPins 2 ([0, 4, 1, 2, 3, 4] ++ List.replicate 32 7)).getD 1 none = some [1, 2, 3, 4] ∧
      ((refBlock (k.b 48 32)).value (List.replicate 16 7) [1, 2, 3, 4]).isSome = true) := by
  unfold Laid RefFits Handle
  decide +kernel

theorem test_pin_generate_witness :
    let g := job 0x0204 5 (pay 48 ([(0, 1, 4), (1, 1, 12), (2, 1, 1), (4, 12, pan19)] ++ refFields 16 12 false)) []
    let r := job 0x0204 5 (pay 48 ([(0, 1, 0), (1, 1, 4), (4, 12, pan19)] ++ refFields 16 4 false)) []
    (Laid g 48 ([(3, 1), (5, 1)] ++ refRsvd 16) ∧ g.f 0 1 ≤ 4 ∧ 4 ≤ g.f 1 1 ∧ g.f 1 1 ≤ 12 ∧ g.f 2 1 = 1 ∧ panField (g.b 4 12) 12 19 = some digits19 ∧
      RefFits (refBlock (g.b 16 32)) false ∧ (refBlock (g.b 16 32)).method = 0 ∧ g.f 1 1 = (refBlock (g.b 16 32)).chklen) ∧
    (Laid r 48 ([(3, 1), (5, 1)] ++ refRsvd 16) ∧ r.f 1 1 = 4 ∧ r.f 2 1 = 0 ∧ RefFits (refBlock (r.b 16 32)) false ∧
      (refBlock (r.b 16 32)).chklen ≤ r.f 1 1) := by
  unfold Laid RefFits Handle
  decide +kernel

theorem test_drew_witness : DrewBelow 250 4 [.ok [1, 2, 3, 4]] [1, 2, 3, 4] := ⟨[1, 2, 3, 4], rfl, by decide, by decide⟩

theorem test_card_witness :
    let a := job 0x0301 5 (pay 20 [(0, 12, pan19), (12, 4, 0x1234567F), (16, 1, 3)]) []
    let v := job 0x0302 5 (pay 24 [(0, 12, pan19), (12, 4, 0x1234567F), (16, 1, 5), (20, 4, 0x12345FFF)]) []
    (panField (a.b 0 12) 12 19 = some digits19 ∧ Laid a 20 [(1, 1), (17, 3)] ∧ ((nibbles (a.b 12 4)).take 7).all (· < 10) = true ∧
      (nibbles (a.b 12 4)).getD 7 0 = 15 ∧ 3 ≤ a.f 16 1 ∧ a.f 16 1 ≤ 5) ∧
    (Laid v 24 [(1, 1), (17, 3)] ∧ v.f 16 1 = 5 ∧ ((nibbles (v.b 20 4)).take (v.f 16 1)).all (· < 10) = true ∧
      ((nibbles (v.b 20 4)).drop (v.f 16 1)).all (· == 15) = true) := by
  unfold Laid
  decide +kernel

theorem test_issuer_witness :
    let q := job 0x0303 5 (pay 45 [(0, 12, pan19), (12, 1, 0x99), (13, 1, 2), (28, 1, 8), (40, 2, 1)]) []
    let m := job 0x0304 5 (pay 29 [(0, 12, pan19), (12, 1, 0x99), (13, 1, 8), (24, 2, 1)]) []
    let p := job 0x0305 5 (pay 48 [(0, 12, pan19), (12, 1, 0x99), (13, 1, 1), (14, 1, 1), (24, 4, 0x01000000), (28, 1, 4)]) []
    let d := job 0x0305 5 (pay 49 [(0, 12, pan19), (12, 1, 0x99), (14, 1, 1), (30, 2, 1)]) []
    bcd2 (q.f 12 1) = true ∧
    (Laid q 45 [(1, 1), (29, 3), (42, 2)] ∧ q.f 13 1 = 2 ∧ q.f 28 1 = 8 ∧ q.f 40 2 = 1 ∧ isZero (q.b (32 + 8) 0) = true) ∧
    (Laid m 29 [(1, 1), (14, 2), (26, 2)] ∧ 4 ≤ m.f 13 1 ∧ m.f 13 1 ≤ 8 ∧ m.f 24 2 = 1) ∧
    (p.f 13 1 = 1 ∧ Laid p 48 ([(1, 1), (15, 1), (29, 1)] ++ blockTail 4 32) ∧ p.f 14 1 ≤ 1 ∧ p.f 28 1 = 4 ∧ p.f 30 2 = 0 ∧ Handle (p.f 24 4)) ∧
    (d.f 13 1 = 0 ∧ Laid d 49 [(1, 1), (15, 1), (29, 1)] ∧ d.f 14 1 ≤ 1 ∧ d.f 30 2 = 1 ∧ isZero (d.b 24 5) = true ∧ isZero (d.b 32 16) = true) := by
  unfold Laid Handle
  decide +kernel

/-- A DUKPT block: SCHEME, WKT, WKL and a counter of one bit. -/
def dukpt (sch wkt wkl : Nat) : List (Nat × Nat × Nat) := [(0, 1, sch), (1, 1, wkt), (2, 1, wkl), if sch = 0 then (4, 10, 1) else (12, 4, 0xFFFF)]

theorem test_dukpt_witness :
    let t := job 0x0402 5 (pay 52 (dukpt 1 1 2 ++ [(16, 1, 4), (17, 1, 4), (20, 4, 0x01000000), (24, 12, pan19)])) []
    let c := job 0x0403 5 (pay 48 (dukpt 0 6 0 ++ [(16, 1, 1), (17, 1, 1), (36, 4, 8)])) []
    let m := job 0x0404 5 (pay 40 (dukpt 0 3 0 ++ [(16, 1, 1), (17, 1, 4), (18, 1, 1)])) []
    let d := job 0x0401 5 (pay 24 (dukpt 1 7 1 ++ [(16, 4, 1), (22, 1, 1)])) []
    (ksnCounter 1 t.payload ≠ 0 ∧ oneBits (ksnCounter 1 t.payload) ≤ 16 ∧ ksnCounter 0 c.payload ≠ 0 ∧ oneBits (ksnCounter 0 c.payload) ≤ 10 ∧
      isZero (c.b 14 2) = true) ∧
    (Laid t 52 ([(3, 1), (18, 2), (25, 1)] ++ blockTail 4 36) ∧ t.f 16 1 = 4 ∧ t.f 0 1 = 1 ∧ t.f 1 1 = 1 ∧ t.f 2 1 = 2 ∧ Handle (t.f 20 4) ∧
      panField (t.b 24 12) 12 19 = some digits19 ∧ Machine.pairOk 4 4 = true) ∧
    (Laid c 48 [(3, 1), (18, 2)] ∧ c.f 0 1 = 0 ∧ c.f 1 1 = 6 ∧ c.f 2 1 = 0 ∧ c.f 36 4 % 8 = 0 ∧ isZero (c.b 28 8) = true) ∧
    (Laid m 40 [(3, 1), (19, 1)] ∧ m.f 17 1 = 4 ∧ m.f 1 1 = 3 ∧ isZero (m.b 20 16) = true) ∧
    (Laid d 24 [(3, 1), (23, 1)] ∧ d.f 22 1 ≤ 1 ∧ d.f 1 1 = 7 ∧ d.f 16 4 ≠ 0) := by
  unfold Laid Handle
  decide +kernel


/-! ## Migration -/

/-- A context on no function. -/
def ctxAlone : Ctx := { ctx5 with vf := 0, fbase := 0, fcount := 8 }

/-- The header of a blob for tenant 5, MSERIAL 1, without a body. -/
def blobHead : Bytes := pay 64 [(0, 2, 1), (4, 2, 5), (8, 8, 1), (32, 16, 7)]

/-- `live` with the transport key of zeros and the context frozen. -/
def awaiting : State :=
  let s := { live with hier := { live.hier with ownTkey := zeros 32, tkeys := [(zeros 16, zeros 32)] } }
  { s with hfe := { s.hfe with ctxs := [(5, { ctxAlone with st := .frozen })] } }

theorem test_save_witness :
    let it := job 10 5 (zeros 16) [.nums [], .ok (zeros 12)]
    let s := busyOn awaiting it
    Running s 7 10 it [.nums [], .ok (zeros 12)] ∧ getCtx s 5 = some { ctxAlone with st := .frozen } ∧ it.payload.length = 16 ∧
      (s.hier.tkeys.find? (fun e => e.1 == it.payload)).map (·.2) = some (zeros 32) :=
  ⟨busy_runs _ _ _ _ _, by decide +kernel⟩

theorem slice_append (h t : Bytes) (a n : Nat) (l : a + n ≤ h.length) : slice (h ++ t) a n = slice h a n := by
  have e : ((h ++ t).drop a).take n = (h.drop a).take n := by
    rw [List.drop_append_of_le_length (by omega), List.take_append_of_le_length (by rw [List.length_drop]; omega)]
  simp [slice, e]

/-- Its tag. -/
@[irreducible] def blobTag : Bytes := gcmTag (zeros 32) (slice blobHead 52 12) blobHead []

theorem blobTag_length : blobTag.length = 16 := by decide +kernel

theorem test_restore_witness :
    let it := job 11 5 (blobHead ++ blobTag) []
    let c := { ctxAlone with st := .frozen, fcount := 0 }
    let s := busyOn { ctxAt c with fab := { live.fab with serial := toBE 16 7 }, hier := { live.hier with ownTkey := zeros 32 } } it
    Running s 7 11 it [] ∧ getCtx s 5 = some c ∧
      (Laid it (80 + 0) [(2, 2), (6, 2)] ∧ fld it.payload 48 4 = 0 ∧ fld it.payload 0 2 = 1 ∧ fld it.payload 4 2 = 5 ∧
        slice it.payload 32 16 = s.fab.serial) ∧ s.hier.ownTkey.length = 32 ∧ getTenant s 5 = none ∧ blobFits s c [] = true ∧
      gcmTag s.hier.ownTkey (slice it.payload 52 12) (slice it.payload 0 64) [] = it.payload.drop (64 + 0) := by
  have l : blobHead.length = 64 := by decide +kernel
  have p (a n : Nat) (h : a + n ≤ 64) : slice (blobHead ++ blobTag) a n = slice blobHead a n := slice_append _ _ _ _ (by omega)
  refine ⟨busy_runs _ _ _ _ _, rfl, ⟨⟨?_, ?_⟩, ?_⟩, rfl, rfl, by decide +kernel, ?_⟩
  · simp [job, l, blobTag_length]
  · simp only [job, List.mem_cons, List.not_mem_nil, or_false, forall_eq_or_imp, forall_eq]
    rw [p 2 2 (by decide), p 6 2 (by decide)]
    decide +kernel
  · simp only [job, fld]
    rw [p 48 4 (by decide), p 0 2 (by decide), p 4 2 (by decide), p 32 16 (by decide)]
    decide +kernel
  · simp only [job]
    rw [p 52 12 (by decide), p 0 64 (by decide), List.drop_left' (by omega)]
    unfold blobTag
    have e : slice blobHead 0 64 = blobHead := by decide +kernel
    rw [e]
    rfl


/-! ## Classes 05h to 0Bh and 01h -/

theorem test_mac_witness :
    let m := job 0x0501 5 (pay 26 [(0, 1, 1), (1, 1, 3), (2, 1, 4), (4, 4, 2)]) []
    let h := job 0x0502 5 (pay 24 [(0, 1, 0x31), (2, 1, 16)]) []
    (macAlg (m.f 0 1) = some (.sye, blockTypes, 4, 16) ∧ Laid m (24 + 2) [(3, 1)] ∧ m.f 4 4 = 2 ∧ m.f 1 1 = 3 ∧ m.f 2 1 = 4 ∧ isZero (m.b 8 16) = true) ∧
    (macAlg (h.f 0 1) = some (.dge, [8], 8, 32) ∧ Laid h (24 + 0) [(3, 1)] ∧ h.f 4 4 = 0 ∧ h.f 1 1 = 0 ∧ h.f 2 1 = 16) := by
  unfold Laid
  decide +kernel

theorem test_cipher_witness :
    let e := job 0x0601 5 (pay 52 [(0, 1, 1), (2, 1, 1), (24, 4, 8)]) []
    let d := job 0x0602 5 (pay 45 [(0, 1, 3), (1, 1, 16), (4, 12, 9), (20, 4, 1)]) []
    let z := job 0x0602 5 (pay 44 [(0, 1, 2)]) []
    (Laid e (44 + 0 + 8) [(3, 1)] ∧ e.f 0 1 = 1 ∧ e.f 1 1 = 0 ∧ e.f 2 1 = 1 ∧ e.f 20 4 = 0 ∧ e.f 24 4 = 8 ∧ isZero (e.b 4 16) = true ∧
      isZero (e.b 28 16) = true) ∧
    (Laid d (44 + 1 + 0) [(3, 1)] ∧ d.f 0 1 = 3 ∧ d.f 1 1 = 16 ∧ d.f 2 1 = 0 ∧ d.f 20 4 = 1 ∧ d.f 24 4 = 0 ∧ isZero ((d.b 4 16).drop 12) = true) ∧
    (Laid z (44 + 0 + 0) [(3, 1)] ∧ z.f 0 1 = 2 ∧ z.f 1 1 = 0 ∧ z.f 2 1 = 0 ∧ z.f 20 4 = 0 ∧ z.f 24 4 = 0 ∧ isZero (z.b 28 16) = true) := by
  unfold Laid
  decide +kernel

/-- A key block of version D: a BDK of 16 bytes, exportable. -/
def blockD : Bytes := ascii "D0112B0AX00E0000" ++ List.replicate 96 0x30

theorem test_wrap_witness :
    let w := job 0x0603 5 (pay 8 [(0, 1, 1), (4, 4, 0x01000000)]) []
    let u := job 0x0604 5 (pay 36 [(0, 1, 1), (4, 1, 3), (6, 2, 0x3F), (8, 4, 0xFFFFFFFF), (14, 1, 1), (16, 4, 16)]) []
    let i := job 0x0901 5 (pay 16 [(4, 4, 1), (12, 4, 112)] ++ blockD) []
    let x := job 0x0902 5 (pay 12 [(0, 1, 0x44), (1, 2, 0x4430), (3, 1, 0x42), (4, 1, 0x45), (5, 2, 0x3030), (8, 4, 0x01000000)]) []
    (Laid w 8 [(1, 3)] ∧ w.f 0 1 = 1 ∧ Handle (w.f 4 4)) ∧
    (Laid u (20 + 16) ([(1, 3)] ++ blockRsvd 4) ∧ u.f 0 1 = 1 ∧ u.f 16 4 = 16 ∧ (slotBlock (u.b 4 12)).xrst = 1 ∧ (slotBlock (u.b 4 12)).ok symTypes = true) ∧
    (Laid i (16 + 112) (blockRsvd 0) ∧ i.f 12 4 = 112 ∧ (slotBlock (i.b 0 12)).type = 0 ∧ (slotBlock (i.b 0 12)).usage = 0 ∧
      (slotBlock (i.b 0 12)).ucnt = 1 ∧ (kbParse (i.b 16 112)).isSome = true ∧ ((kbParse (i.b 16 112)).bind (fun k => kbUsage k.usage k.alg k.mode)).isSome = true) ∧
    (Laid x 12 [(7, 1)] ∧ x.f 0 1 = 0x44 ∧ x.f 4 1 = 0x45 ∧ isPrint (x.f 5 1) = true ∧ isPrint (x.f 6 1) = true ∧ Handle (x.f 8 4)) := by
  unfold Laid Handle
  decide +kernel

/-- `live` with a stream of tenant 5 open on flow 9. -/
def streaming : State := { live with eng := { live.eng with streams := [(9, { tenant := 5, alg := 2, outlen := 0, key := 0, part := 1, data := [] })] } }

theorem test_stream_witness :
    let d := job 0x0701 5 (pay 8 [(0, 1, 0x21), (2, 2, 8192)]) []
    let s := { job 0x0702 5 (pay 12 [(0, 1, 2)]) [] with ord := true, key := 0 }
    let u := { job 0x0703 5 (pay 13 [(4, 4, 1), (8, 4, 1)]) [] with ord := true, flow := 9 }
    (Laid d (8 + 0) [(1, 1)] ∧ d.f 4 4 = 0 ∧ isHash (d.f 0 1) = true ∧ isShake (d.f 0 1) = true ∧ outlenOk (d.f 0 1) (d.f 2 2) = true) ∧
    (Laid s (12 + 0) [(1, 1)] ∧ s.f 8 4 = 0 ∧ isHash (s.f 0 1) = true ∧ outlenOk (s.f 0 1) (s.f 2 2) = true ∧ isShake (s.f 0 1) = false ∧
      isHmacAlg (s.f 0 1) = false ∧ s.f 2 2 = 0 ∧ s.f 4 4 = 0 ∧ tfind live.eng.streams s.flow = none ∧ streamsTaken live 7 < 4096) ∧
    (Laid u (12 + 1) [(1, 1), (0, 1), (2, 2)] ∧ u.f 8 4 = 1 ∧ tfind streaming.eng.streams u.flow = some { tenant := 5, alg := 2, outlen := 0, key := 0, part := 1, data := [] } ∧
      u.f 4 4 = 1) := by
  unfold Laid
  decide +kernel

theorem test_random_witness :
    let r := job 0x0B01 5 (pay 56 [(0, 4, 65536), (4, 1, 1), (5, 1, 48)]) []
    r.payload.length = 8 + 48 ∧ r.f 0 4 = 65536 ∧ r.f 4 1 = 1 ∧ r.f 5 1 = 48 ∧ r.f 6 2 = 0 := by
  decide +kernel

theorem test_digested_witness (d : Bytes) : Digested 1 [] d [.ok d] ∧ Digested 0 d d [] := ⟨.inr ⟨rfl, rfl⟩, .inl ⟨rfl, rfl, rfl⟩⟩

theorem test_rsa_witness :
    let g := job 0x0801 5 (pay 44 [(0, 1, 1), (1, 1, 2), (2, 1, 32), (8, 4, 32)]) []
    let v := job 0x0802 5 (pay 557 [(1, 1, 0x13), (3, 1, 1), (4, 2, 2048), (6, 1, 32), (8, 4, 1)]) []
    let d := job 0x0803 5 (pay 1033 [(0, 1, 1), (2, 2, 1024), (4, 4, 1)]) []
    (Laid g (12 + 32) [(4, 4)] ∧ g.f 8 4 = 32 ∧ g.f 0 1 = 1 ∧ g.f 1 1 ∈ rsaHashes ∧ g.f 2 1 = hashLen (g.f 1 1) ∧ g.f 3 1 = 0 ∧ hashLen (g.f 1 1) = 32) ∧
    (Laid v (12 + 2 * 256 + 32 + 1) [(7, 1)] ∧ v.f 8 4 = 1 ∧ v.f 4 2 = 2048 ∧ v.f 6 1 = 32 ∧ v.f 0 1 = 0 ∧ v.f 1 1 ∈ rsaHashes ∧ v.f 2 1 = 0 ∧ v.f 3 1 = 1) ∧
    (Laid d (8 + 1024 + 1) [(1, 1)] ∧ d.f 2 2 = 1024 ∧ d.f 4 4 = 1 ∧ hashLen (d.f 0 1) ≠ 0) := by
  unfold Laid
  decide +kernel

theorem test_curve_witness :
    let g := job 0x0804 5 (pay 36 [(0, 1, 1), (1, 1, 1), (4, 4, 28)]) []
    let v := job 0x0805 5 (pay 138 [(0, 1, 1), (1, 1, 1), (2, 1, 1), (4, 4, 1), (8, 1, 4)]) []
    let a := job 0x0806 5 (pay 304 [(0, 1, 0x11), (2, 2, 256), (4, 1, 3), (6, 2, 1), (8, 4, 1)]) []
    let b := job 0x0806 5 (pay 81 [(0, 1, 1), (4, 1, 5), (6, 2, 1), (14, 1, 1), (16, 1, 4)]) []
    (Laid g (8 + 28) [(3, 1)] ∧ g.f 4 4 = 28 ∧ g.f 2 1 = 0 ∧ g.f 1 1 ∈ ecHashes ∧ hashLen (g.f 1 1) = 28) ∧
    (Laid v (8 + (1 + 2 * 32) + 2 * 32 + 1) [(3, 1)] ∧ v.f 4 4 = 1 ∧ v.f 2 1 = 1 ∧ v.f 1 1 ∈ ecHashes ∧ v.f 8 1 = 4) ∧
    (Laid a (16 + 32 + 256) ([(1, 1)] ++ blockRsvd 4) ∧ a.f 0 1 = 0x11 ∧ a.f 2 2 = 256 ∧ (slotBlock (a.b 4 12)).xrst = 0 ∧
      (slotBlock (a.b 4 12)).ok derivedTypes = true ∧ (slotBlock (a.b 4 12)).ucnt = 1) ∧
    (Laid b (16 + (1 + 2 * 32) + 0) ([(1, 1)] ++ blockRsvd 4) ∧ b.f 2 2 = 0 ∧ b.f 16 1 = 4 ∧ (slotBlock (b.b 4 12)).xrst = 1 ∧
      (slotBlock (b.b 4 12)).ok derivedTypes = true) := by
  unfold Laid
  decide +kernel

theorem test_eddsa_witness : Laid (job 0x0807 5 (pay 8 []) []) (8 + 0) [(0, 4)] ∧ Laid (job 0x0808 5 (pay 105 [(4, 4, 1)]) []) (104 + 1) [(0, 4)] := by
  unfold Laid
  decide +kernel

theorem test_lattice_witness :
    let e := job 0x0809 5 (pay (16 + kemEkLen 3) [(0, 1, 3), (4, 1, 3), (6, 2, 1), (8, 4, 1)]) []
    let d := job 0x080A 5 (pay (16 + kemCtLen 1) [(0, 1, 1), (4, 1, 3), (6, 2, 1), (8, 4, 1)]) []
    let g := job 0x080B 5 (pay 264 [(0, 1, 2), (1, 1, 1), (2, 1, 255), (4, 4, 1)]) []
    let v := job 0x080C 5 (pay (8 + dsaPkLen 1 + dsaSigLen 1) [(0, 1, 1)]) []
    let k := job 0x080D 5 (pay 16 [(0, 1, 6), (1, 1, 3), (6, 2, 0x40), (14, 1, 1)]) []
    (Laid e (16 + kemEkLen 3) ([(1, 3)] ++ blockRsvd 4) ∧ e.f 0 1 = 3 ∧ (slotBlock (e.b 4 12)).ok derivedTypes = true) ∧
    (Laid d (16 + kemCtLen 1) ([(1, 3)] ++ blockRsvd 4) ∧ d.f 0 1 = 1 ∧ (slotBlock (d.b 4 12)).ucnt = 1) ∧
    (Laid g (8 + 255 + 1) [(3, 1)] ∧ g.f 0 1 = 2 ∧ g.f 1 1 = 1 ∧ g.f 2 1 = 255 ∧ g.f 4 4 = 1) ∧
    (Laid v (8 + dsaPkLen 1 + dsaSigLen 1 + 0 + 0) [(1, 1), (3, 1)] ∧ v.f 0 1 = 1 ∧ v.f 2 1 = 0 ∧ v.f 4 4 = 0) ∧
    (Laid k 16 ([(2, 2)] ++ blockRsvd 4) ∧ kindOk (k.f 0 1) (k.f 1 1) = true ∧ (slotBlock (k.b 4 12)).type = 0 ∧
      (slotBlock (k.b 4 12)).usage = kindUsage (k.f 0 1) ∧ (slotBlock (k.b 4 12)).xrst = 1) := by
  unfold Laid
  decide +kernel



/-! ## Own slots and signed messages -/

/-- A persistent slot and an ephemeral one of tenant 5: their common part. -/
def slot5 (persist : Bool) : Slot := { Slot.empty 1 with type := 3, persist := persist, usage := 0x3F, owner := 5, key := zeros 32 }

/-- Two officers, both of them needed. -/
def twoOfficers : OfficerSet := { k := 2, keys := [(1, [4]), (1, [5])], raw := [] }

/-- The directory entry of tenant 5, its root in slot 256. -/
def tenant5 : Tenant := { newTenant none [] (256, 1) (0, 0) with officers := some twoOfficers }

/-- `live` with tenant 5, its root, two slots, and an officer set of the part. -/
def governed : State :=
  let s := putSlot 256 { slot5 true with type := 0x7E } (putSlot 257 (slot5 true) (putSlot 258 (slot5 false) live))
  { s with hier := { s.hier with hoff := some twoOfficers, dir := [(5, tenant5)] } }

theorem findBare_of (s : State) (i : Nat) (p : Slot) (h : getSlot s i = { p with tag := slotTag i p }) (l : 256 ≤ i) (t : p.type ≠ 0)
    (n : p.held = false) : findBare s i p.gen p.owner = .pass (getSlot s i) := by
  have e : (slotTag i p != slotTag i { p with tag := slotTag i p }) = false := by simp only [bne_eq_false_iff_eq]; rfl
  have w : (p.type == 0 || p.held || false) = false := by simp [t, n]
  simp only [findBare, h, e, w, show ¬(i < 256) by omega, if_false, bne_self_eq_false, Bool.false_eq_true]

theorem test_own_slot_witness :
    findBare governed 257 1 5 = .pass (getSlot governed 257) ∧ (getSlot governed 257).persist = true ∧
      findBare governed 258 1 5 = .pass (getSlot governed 258) ∧ (getSlot governed 258).persist = false ∧ keysShut governed = false ∧
      getTenant governed 5 = some tenant5 :=
  ⟨findBare_of _ 257 (slot5 true) rfl (by decide) (by decide) rfl, rfl, findBare_of _ 258 (slot5 false) rfl (by decide) (by decide) rfl, rfl, by decide, rfl⟩

theorem test_derive_witness :
    let d := job 0x0105 5 (pay 272 [(0, 1, 3), (2, 2, 1), (10, 1, 1), (12, 2, 256)]) []
    let g := job 0x0106 5 (pay 12 [(0, 1, 1), (2, 2, 1), (4, 4, 1)]) []
    (Laid d (16 + 256) (blockRsvd 0 ++ [(14, 2)]) ∧ d.f 12 2 = 256 ∧ (slotBlock (d.b 0 12)).ok symTypes = true ∧ (slotBlock (d.b 0 12)).xrst = 1) ∧
    (Laid g 12 (blockRsvd 0) ∧ (slotBlock (g.b 0 12)).ok symTypes = true ∧ (slotBlock (g.b 0 12)).ucnt = 1 ∧ (slotBlock (g.b 0 12)).life = 0) := by
  unfold Laid
  decide +kernel

/-- The signature entries of officers 0 and 1 under an algorithm. -/
def signed (alg : Nat) : Bytes := [0] ++ toBE 1 alg ++ [0, 96] ++ zeros 96 ++ [1] ++ toBE 1 alg ++ [0, 96] ++ zeros 96

/-- A message signed by officers 0 and 1. -/
def letterBy (alg kind tenant : Nat) (body : Bytes) : Bytes :=
  toBE 2 1 ++ toBE 1 kind ++ [0] ++ toBE 2 tenant ++ zeros 2 ++ zeros 16 ++ toBE 8 1 ++ toBE 4 body.length ++ zeros 4 ++ body ++
    [2, 0, 0, 0] ++ signed alg

def letter (kind tenant : Nat) (body : Bytes) : Bytes := letterBy 1 kind tenant body

def env (kind tenant : Nat) (body : Bytes) : Envelope := envelopeOf (letter kind tenant body)

theorem quorate_of (r : EnvRule) (e : Envelope)
    (h : r.held = true ∧ e.sigs.all (fun x => (r.officer x.officer).map (·.1) == some x.alg) = true ∧ r.short e.officers = none) : Quorate r e := by
  refine ⟨h.1, fun x m => ?_, h.2.2⟩
  have u := List.all_eq_true.mp h.2.1 x m
  cases k : r.officer x.officer with
  | none => simp [k] at u
  | some v => exact ⟨v, rfl, by simpa [k] using u⟩

/-- Bodies of two key grafts: PRUNE of slot 257, and WRITE of a new slot 300 under the root. -/
def pruneBody : Bytes := pay 36 [(0, 1, 3), (4, 4, 0x01010001)]
def writeBody : Bytes := pay 36 [(0, 1, 1), (1, 1, 3), (2, 2, 1), (4, 4, 0x012C0000), (13, 1, 1)]

theorem test_graft_witness :
    Quorate (tenantRule (job 0x0101 5 (letter 1 5 writeBody) []) 1 graftLen governed) (env 1 5 writeBody) ∧
    ((env 1 5 writeBody).body = writeBody ∧ (graftBody writeBody).op = 1 ∧ (graftBody writeBody).wmode = 1 ∧ (graftBody writeBody).new = true ∧
      (graftBody writeBody).hcache = false ∧ (graftBody writeBody).type = 3 ∧ (graftBody writeBody).handle ≠ 0 ∧ (graftBody writeBody).idx = 300) ∧
    takable governed 300 = true ∧ placedIds governed 5 = [] ∧ governed.boot.phase ≠ 6 ∧
    ((graftBody pruneBody).op = 3 ∧ (graftBody pruneBody).idx = 257) ∧
    baseTooBig (applyTenant 5 (env 1 5 writeBody) [300] (graftWrite 5 300 256 (graftBody writeBody) 1 [] governed)) = false := by
  refine ⟨quorate_of _ _ (by decide +kernel), ?_⟩
  decide +kernel

theorem governed_root : findBare governed 256 1 5 = .pass (getSlot governed 256) :=
  findBare_of _ 256 { slot5 true with type := 0x7E } rfl (by decide) (by decide) rfl

theorem governed_root_stamp : (getSlot governed 256).stamp = [] := rfl

theorem graftParent_of (s : State) (t : Nat) (g : GraftBody) (d : Tenant) (p : Slot) (hd : getTenant s t = some d) (hz : g.parent = 0)
    (hf : findBare s d.root.1 d.root.2 t = .pass p) (hp : p.persist = true) (hs : p.stamp = []) : graftParent t g s = .ok d.root.1 := by
  have l : findLive s d.root.1 d.root.2 t = .pass p := by simp [findLive, hf, lineage, lineageGo, hs]
  simp [graftParent, hd, hz, l, hp, Slot.depth, hs]

/-- The parent of the new slot is the root of tenant 5. -/
theorem test_graft_parent : graftParent 5 (graftBody writeBody) governed = .ok 256 :=
  graftParent_of governed 5 (graftBody writeBody) tenant5 _ rfl (by decide +kernel) governed_root rfl governed_root_stamp

/-- An officer set of two ML-DSA keys. -/
def officersBody : Bytes := [2, 2, 0, 0, 2, 0, 7, 160] ++ zeros 1952 ++ [2, 0, 7, 160] ++ zeros 1951 ++ [1]

theorem test_officer_set_witness :
    Quorate (tenantRule (job 0x0107 5 (letter 2 5 officersBody) []) 2 (fun _ => true) governed) (env 2 5 officersBody) ∧
      (officerCheck (env 2 5 officersBody).body).toOption.isSome = true ∧
      baseTooBig (applyTenant 5 (env 2 5 officersBody) [] (modTenant 5 (fun t => { t with officers := officerSet officersBody }) governed)) = false ∧
      (getTenant (applyTenant 5 (env 2 5 officersBody) [] (modTenant 5 (fun t => { t with officers := officerSet officersBody }) governed)) 5).isSome = true :=
  ⟨quorate_of _ _ (by decide +kernel), by decide +kernel⟩

/-- A mapping table without entries, which removes the tenant's table. -/
def emptyMap : Bytes := pay 608 [(0, 2, 1), (8, 1, 1)]

theorem test_map_load_witness :
    Quorate (tenantRule (job 0x0E02 5 (letter 3 5 emptyMap) []) 3 (fun _ => true) governed) (env 3 5 emptyMap) ∧
      mapCheck (env 3 5 emptyMap).body = none ∧ mapNtypes (env 3 5 emptyMap).body = 0 ∧
      (getTenant (applyTenant 5 (env 3 5 emptyMap) [] (modTenant 5 (fun t => { t with map := none }) governed)) 5).isSome = true :=
  ⟨quorate_of _ _ (by decide +kernel), by decide +kernel⟩

theorem test_tenant_kinds_witness :
    Quorate (tenantRule (job 0x0A04 5 (letter 4 5 (zeros 24)) []) 4 (fun e => e.blen == 24) governed) (env 4 5 (zeros 24)) ∧
    Quorate (tenantKind 0x12 (job 0x0C03 9 (letter 0x12 9 (zeros 4)) []) (fun e => 4 ≤ e.blen) governed) (env 0x12 9 (zeros 4)) ∧
    Quorate (tenantKind 0x13 (job 0x0C04 5 (letter 0x13 5 []) []) (fun e => e.blen == 0) governed) (env 0x13 5 []) ∧
    Quorate (tenantKind 0x14 (job 0x0C05 5 (letter 0x14 5 [1, 0, 0, 0, 0, 0xFF, 0xFF, 0xFF]) []) (fun e => e.blen == 8) governed)
      (env 0x14 5 [1, 0, 0, 0, 0, 0xFF, 0xFF, 0xFF]) ∧
    isKnown governed 9 = false ∧ fld (env 0x12 9 (zeros 4)).body 0 2 = 0 ∧ tenant5.known = true ∧
    (fld (env 0x14 5 [1, 0, 0, 0, 0, 0xFF, 0xFF, 0xFF]).body 1 3 = 0 ∧ placeIds (env 0x14 5 [1, 0, 0, 0, 0, 0xFF, 0xFF, 0xFF]).body = some [0]) ∧
    placeRefusal 5 [0] governed = (none, governed) := by
  refine ⟨quorate_of _ _ (by decide +kernel), quorate_of _ _ (by decide +kernel), quorate_of _ _ (by decide +kernel), quorate_of _ _ (by decide +kernel), ?_⟩
  exact ⟨by decide +kernel, by decide +kernel, rfl, by decide +kernel, rfl⟩

/-- TENANT_CREATE finds a slot, whichever the free value names. -/
theorem test_create_slot_witness (key : Bytes) : ∃ i v, createSlot 9 0x7E 0 false 0 key live = (some i, v) := by
  have h : takable (takeFree 65280 live).2 (256 + (takeFree 65280 live).1 % 65280) = true := by
    have e : (getSlot (takeFree 65280 live).2 (256 + (takeFree 65280 live).1 % 65280)).free = true := rfl
    have v : (takeFree 65280 live).2.vks.reserved = [] := rfl
    have l : 256 + (takeFree 65280 live).1 % 65280 < 65536 := by omega
    simp [takable, e, v, l]
  have c : chooseIndex (takeFree 65280 live).2 (takeFree 65280 live).1 (65279 + 1) = some (256 + (takeFree 65280 live).1 % 65280) := by
    unfold chooseIndex
    simp only [h, if_true]
  unfold createSlot
  simp only [show chooseIndex (takeFree 65280 live).2 (takeFree 65280 live).1 65280 = _ from c]
  exact ⟨_, _, rfl⟩


/-- A roster of the manager with ID 0 alone. -/
def rosterBody : Bytes := pay 36 [(8, 4, 100), (12, 1, 1)]

theorem test_roster_witness :
    Quorate (rosterRule governed) (env 0x10 0 rosterBody) ∧ Quorate (officersRule governed) (env 0x11 0 officersBody) ∧
    rosterRsvd (env 0x10 0 rosterBody).body = false ∧ rosterForm governed (env 0x10 0 rosterBody).body = true ∧
      rosterKeeps governed (rosterOf (env 0x10 0 rosterBody).body) = true ∧ (officerCheck (env 0x11 0 officersBody).body).toOption.isSome = true :=
  ⟨quorate_of _ _ (by decide +kernel), quorate_of _ _ (by decide +kernel), by decide +kernel⟩

/-- `governed` as the active manager at cycle 5. -/
def leading : State := { governed with hier := { governed.hier with mst := .active, synced := true }, cyu := { governed.cyu with st := .locked, num := some 5 } }

/-- `governed` as a standby that has seen no driven clock for 3 us. -/
def waiting : State := { governed with hier := { governed.hier with mst := .standbyUnsync }, now := 3000 }

theorem test_manager_messages_witness :
    Quorate (hierRule 0x15 0 (fun e => e.blen == 8) (fun s e => e.dserial == activeSerial s) leading) (env 0x15 0 (pay 8 [(0, 6, 6)])) ∧
    Quorate (hierRule 0x16 0 (fun e => e.blen == 16) (fun s e => e.dserial == s.fab.serial) waiting) (env 0x16 0 (zeros 16)) ∧
    (fld (env 0x15 0 (pay 8 [(0, 6, 6)])).body 0 6 = 6 ∧ fld (env 0x15 0 (pay 8 [(0, 6, 6)])).body 6 2 = 0 ∧ isActive leading = true ∧ leading.cyu.setDone = false ∧
      leading.cycle = some 5 ∧ leading.vks.hwm ≤ 6 ∧ 6 ≤ cycMax) ∧
    waiting.hier.mst = .standbyUnsync ∧ longUndriven waiting = true :=
  ⟨quorate_of _ _ (by decide +kernel), quorate_of _ _ (by decide +kernel), by decide +kernel⟩

/-- `governed` in PERSO, and in PERSO without officers. -/
def personal : State := { governed with otp := { governed.otp with force := .perso } }
def unowned : State := { personal with hier := { personal.hier with hoff := none } }

theorem test_perso_witness :
    let i := job 0x0D04 0 (letterBy 2 0x1A 0 officersBody) []
    personal.otp.force = .perso ∧ unowned.otp.force = .perso ∧ fld (env 0x19 0 (zeros 4)).body 1 3 = 0 ∧ fld (env 0x19 0 (zeros 4)).body 0 1 ≤ 1 ∧
    Quorate (hierRule 0x19 0 (fun e => e.blen == 4) (fun s e => e.dserial == s.fab.serial) personal) (env 0x19 0 (zeros 4)) ∧
    Quorate (hoffRule i unowned) (envelopeOf i.payload) :=
  ⟨rfl, rfl, by decide +kernel, by decide +kernel, quorate_of _ _ (by decide +kernel), quorate_of _ _ (by decide +kernel)⟩

theorem test_lc_and_tamper_witness :
    Quorate (lcRule (job 0x0D02 0 (letter 0x18 0 [0xFF, 0xFF, 0, 0]) []) governed) (env 0x18 0 [0xFF, 0xFF, 0, 0]) ∧
    Quorate (tamperRule governed) (env 0x17 0 (pay 8 [(0, 4, 0xFFFFF)])) ∧ Quorate (formatRule governed) (env 0x1C 0 (zeros 8)) ∧
    envTarget (env 0x18 0 [0xFF, 0xFF, 0, 0]) = some .void ∧ lcPrerequisites governed (env 0x18 0 [0xFF, 0xFF, 0, 0]) = none ∧
    fld (env 0x17 0 (pay 8 [(0, 4, 0xFFFFF)])).body 4 4 = 0 ∧ fld (env 0x17 0 (pay 8 [(0, 4, 0xFFFFF)])).body 0 4 < 2 ^ 20 :=
  ⟨quorate_of _ _ (by decide +kernel), quorate_of _ _ (by decide +kernel), quorate_of _ _ (by decide +kernel), by decide +kernel⟩

/-- Bodies of UPDATE messages: a service image of no bytes, CURVE that clears entry 31, cut-offs of source 3, a class. -/
def imageDigest : Bytes := toBE 48 0x38b060a751ac96384cd9327eb1b1e36a21fdb71114be07434c0cc7bf63f6e1da274edebfe76f65fbd51ad2f14898b95b
def imageBody : Bytes :=
  let h := pay 280 [(0, 4, 0x5644494D), (4, 1, 2), (12, 1, 64), (80, 4, 0x80010060), (180, 4, 0x82010060)]
  pay 8 [(0, 1, 2), (1, 1, 0xFF), (4, 4, 280)] ++ (h.take 32 ++ imageDigest ++ h.drop 80)
def curveBody : Bytes := pay 32 [(0, 1, 4), (4, 4, 24), (8, 1, 1), (9, 1, 31)]
def cutoffBody : Bytes := pay 12 [(0, 1, 5), (1, 1, 3), (4, 4, 4), (8, 1, 33), (10, 2, 815)]
def classBody : Bytes := pay 12 [(0, 1, 6), (4, 4, 4), (8, 1, 1), (9, 1, 3)]

theorem test_update_witness :
    Quorate (updateRule governed) (env 0x1B 0 imageBody) ∧ Quorate (updateRule governed) (env 0x1B 0 curveBody) ∧
    Quorate (updateRule governed) (env 0x1B 0 cutoffBody) ∧ Quorate (updateRule governed) (env 0x1B 0 classBody) ∧
    [imageBody, curveBody, cutoffBody, classBody].all (fun b => !updateRsvd b && updateForm b) = true ∧
    (imageForm 2 (imageBody.drop 8) = true ∧ floorOf governed 2 ≤ imageSvn (imageBody.drop 8)) ∧
    (curveForm (curveBody.drop 8) = true ∧ fld (curveBody.drop 8) 2 1 = 0) ∧
    (fld (cutoffBody.drop 8) 0 1 = 33 ∧ fld (cutoffBody.drop 8) 2 2 = 815) ∧
    (tamperBit (fld (classBody.drop 8) 0 1) = some 0 ∧ fld (classBody.drop 8) 1 1 = 3 ∧ tamperClass governed 0 < 3) :=
  ⟨quorate_of _ _ (by decide +kernel), quorate_of _ _ (by decide +kernel), quorate_of _ _ (by decide +kernel), quorate_of _ _ (by decide +kernel), by decide +kernel⟩

theorem imageSealed_of (c : Bytes) (h : slice c 32 48 = sha384 (c.drop 280))
    (f : (imageSigs c).all (fun x => x.alg == 1 && x.slen == 96 && 0x80 ≤ x.officer && x.officer ≤ 0x82) = true)
    (n : ((imageSigs c).map (·.officer)).Nodup) : imageSealed c = true := by
  simp only [imageSealed, h, f, n, beq_self_eq_true, decide_true, Bool.and_self]

/-- FIPS 180-4's digest of the empty message. -/
theorem test_sha384_empty : sha384 [] = imageDigest := by decide +kernel

theorem test_image_sealed_witness : imageSealed (imageBody.drop 8) = true := by
  have z : (imageBody.drop 8).drop 280 = [] := by decide +kernel
  exact imageSealed_of _ (by rw [z, test_sha384_empty]; decide +kernel) (by decide +kernel) (by decide +kernel)

/-! ## Classes 0Ah, 0Ch to 0Fh -/

theorem test_token_witness :
    let f := job 0x0A01 5 (pay 84 [(3, 1, 16), (4, 4, 0x01000000), (8, 12, pan19)]) []
    let d := job 0x0A02 5 (pay 36 [(1, 1, 8), (2, 1, 4), (4, 4, 0x01000000), (8, 12, pan19)]) []
    let r := job 0x0A01 5 (pay 84 [(0, 1, 1), (1, 1, 8), (2, 1, 4), (8, 12, pan19)]) []
    let u := job 0x0A02 5 (pay 36 [(0, 1, 1), (8, 12, pan19)]) []
    let x := job 0x0A03 5 (pay 16 [(0, 1, 1), (4, 12, pan19)]) []
    (panField (f.b 8 12) 12 19 = some digits19 ∧ f.f 0 1 = 0 ∧ f.f 1 1 = 0 ∧ f.f 2 1 = 0 ∧ f.f 3 1 = 16 ∧ Handle (f.f 4 4) ∧ Laid f 84 [(9, 1)] ∧
      isZero (f.b 36 48) = true) ∧
    (panField (d.b 8 12) 12 19 = some digits19 ∧ d.f 1 1 = 8 ∧ d.f 2 1 = 4 ∧ d.f 3 1 = 0 ∧ Handle (d.f 4 4) ∧ Laid d 36 [(9, 1)] ∧
      isZero ((d.b 20 16).drop 0) = true) ∧
    (r.f 0 1 = 1 ∧ r.f 1 1 = 8 ∧ r.f 2 1 = 4 ∧ r.f 3 1 = 0 ∧ r.f 4 4 = 0 ∧ isZero (r.b 20 16) = true ∧ Laid r 84 [(9, 1)] ∧
      withMiddle digits19 8 4 (([1, 2, 3, 4, 5, 6, 8] : Bytes).map (fun x => x.toNat % 10)) ≠ digits19) ∧
    (u.f 0 1 = 1 ∧ u.f 1 1 = 0 ∧ u.f 2 1 = 0 ∧ u.f 3 1 = 0 ∧ u.f 4 4 = 0 ∧ isZero (u.b 20 16) = true ∧ Laid u 36 [(9, 1)]) ∧
    (Laid x 16 [(1, 3), (5, 1)] ∧ x.f 0 1 = 1 ∧ panField (x.b 4 12) 12 19 = some digits19) ∧ (zeros 128).length = 128 := by
  unfold Laid Handle
  decide +kernel

theorem test_export_witness :
    let v : Session := { first := 0, last := 9, kek := (257, 1), cursor := 4, prev := 0 }
    let s := { live with clc := { live.clc with sessions := [(5, v)] } }
    (zeros 8).length = 8 ∧ (job 0x0A05 5 (zeros 8) []).f 0 8 ≠ lastCursor ∧ tfind s.clc.sessions 5 = some v ∧ (zeros 12).length = 12 := by
  decide +kernel

/-- A certificate for FIELD, signed by the hierarchy officers too. -/
def certificate : Bytes := pay 132 [(0, 2, 1), (2, 2, 2), (4, 2, 0x5A69), (24, 4, 1), (128, 1, 2)] ++ signed 1

theorem test_debug_open_witness :
    132 ≤ certificate.length ∧ ((cosigs certificate).map (·.2)) = some [] ∧ governed.otp.force ≠ .void ∧ governed.boot.phase ≠ 6 ∧
      certChecks certificate governed = none ∧ serving governed = false ∧ rightRefused governed (fld certificate 2 2) = false ∧ needsCosigs governed = true ∧
      ((cosigs certificate).map (fun l => l.1.all (fun x => (setOfficer governed.hier.hoff x.officer).map (·.1) == some x.alg))) = some true ∧
      ((cosigs certificate).map (fun l => setShort governed.hier.hoff (l.1.foldl (fun (acc : List Nat) x => if acc.contains x.officer then acc else acc ++ [x.officer]) []))) = some none := by
  decide +kernel

theorem test_hier_services_witness :
    let p := job 0x0D06 0 [1, 1, 2, 0] []
    isActive leading = true ∧ leading.hier.synced = true ∧ leading.hier.handover = none ∧ isActive live = false ∧
      (Laid p 4 [(3, 1)] ∧ p.f 0 1 ≤ 1 ∧ 1 ≤ p.f 1 1 ∧ p.f 2 1 = 2 ∧ p2Refused live = false ∧ live.otp.force = .field) := by
  unfold Laid
  decide +kernel

theorem test_lc_erase_witness :
    let it : Item := { job 0x0D02 0 [] [.nums [1], .nums []] with phase := .waiting 0 0 .event }
    let f := [lcRow .field]
    let s := busyOn { live with otp := { live.otp with copy1 := f, copy2 := f, copy3 := f, intent := [lcRow .void] } } it
    lcItem s = some 7 ∧ rollInto s.otp = some .void := by
  decide +kernel

theorem test_management_witness :
    let r := job 0x0F01 0 (pay 8 [(4, 2, 256), (6, 1, 3)]) []
    let a := job 0x0F02 0 (pay 8 [(0, 4, 7)]) []
    let j := job 0x0F03 0 (pay 8 [(0, 4, 3), (4, 2, 1)]) []
    let c := job 0x0F31 0 (pay 8 [(0, 1, 31)]) []
    let u := job 0x0F32 0 [47, 1, 0, 0] []
    let l := job 0x0F30 0 (pay 73 [(0, 1, 23), (1, 1, 3), (2, 1, 1), (8, 1, 4)]) []
    let k := job 0x0F30 0 (pay 8 []) []
    (Laid r 8 [(7, 1)] ∧ r.f 4 2 = 256 ∧ r.f 6 1 = 3) ∧ Laid a 8 [(4, 4)] ∧
    (Laid j 8 [(6, 2)] ∧ j.f 0 4 < journalSlots ∧ j.f 4 2 = 1 ∧ live.clc.st ≠ .opened) ∧
    (isActive live = false ∧ live.flash.upd = none) ∧ (Laid c 8 [(1, 7)] ∧ c.f 0 1 = 31) ∧
    (Laid u 4 [(2, 2)] ∧ u.f 0 1 = 47 ∧ u.f 1 1 = 1) ∧
    (Laid l (laneLen l 32 32) [(6, 2)] ∧ l.f 0 1 = 23 ∧ l.f 1 1 = 3 ∧ l.f 3 1 = 0 ∧ l.f 4 2 = 0 ∧ l.f 8 1 = 4) ∧
    (Laid k (laneLen k 0 0) [(6, 2)] ∧ k.f 1 1 = 0 ∧ k.f 2 1 = 0 ∧ k.f 3 1 = 0 ∧ k.f 4 2 = 0) := by
  unfold Laid
  decide +kernel

/-- A table of one type: a record that begins with 0 asks for DRBG_STATUS. -/
def oneMap : Bytes := pay 628 [(0, 2, 1), (4, 2, 1), (8, 1, 1), (616, 2, 0x0B02)]

theorem test_adapter_witness :
    let it : Item := { job 0x0E01 5 (zeros 84) [] with fn := 1, key := 0, map := some { body := oneMap, counter := 1 } }
    (match adapterCheck it with | .ok u => u.1 == 0 && (admitForm (innerItem it u.1 u.2.1 u.2.2)).isNone | .error _ => false) = true := by
  decide +kernel

theorem test_update_ends_witness :
    let u : Updating := { item := 7, utype := 2, targets := [0], done := 0, image := { ver := 2, svn := 1, u := 1 }, counter := 1, digest := [], stage := 1, retry := false }
    let s := { live with flash := { live.flash with upd := some u }, dsp := { live.dsp with groups := [(0, ⟨.offline, 1⟩)] } }
    s.flash.upd = some u ∧ u.stage = 1 ∧ s.dsp.groups.find? (fun e => e.2.st == .offline) = some (0, ⟨.offline, 1⟩) ∧ (groupRolled s 0).isNone = true ∧
      tfind ({ live with eng := { live.eng with units := [(47, ⟨.online, 0, none, []⟩)] } } : State).eng.units 47 = some ⟨.online, 0, none, []⟩ := by
  decide +kernel


/-! ## Engines, units, lanes, slots -/

/-- A request of item 7. -/
def ask (op : EngineOp) : Request :=
  { id := 1, level := 3, client := .item 7, tenant := 5, flow := 0, keys := [], chain := [], op := op, dest := none, holding := [], lane := none, segs := 0, cont := false, got := [], stamp := [] }

/-- `live` with digest unit 32 ONLINE, holding a request or none, and an engine context key. -/
def digesting (q : List Request) (r : Option Request) : State :=
  { live with eng := { live.eng with units := [(32, ⟨.online, 0, r, []⟩)], dgeQ := q, ekey := some (zeros 32) } }

/-- An item that waits for request 1. -/
def waits : Item := { job 0x0701 5 [] [] with phase := .waiting 0 0 (.engine 1) }

/-- A BNE lane, and `live` with it as lane 0, idle or running. -/
def lane0 (st : LaneState) (ops : List LaneOp) : Lane :=
  { st := st, mode := if ops.isEmpty then .idle else .whole, ops := ops, ver := 1, uctr := 1, fault := 0, katfail := false }
def laned (q : List Request) (st : LaneState) (ops : List LaneOp) : State := { live with bne := { live.bne with queue := q, lanes := [(0, lane0 st ops)] } }

/-- A key of 4,096 bits takes a whole lane. -/
def wide : Request := ask (.modexp 4096 [] [] [])

theorem test_engine_witness :
    let r := ask (.hash 2 0 [])
    let s := digesting [r] none
    let b := busyOn (digesting [] (some r)) waits
    let o : LaneOp := ⟨wide, 0, 4, 100⟩
    let l := busyOn (laned [] .online [o]) waits
    (noUnits s .dge = false ∧ queueOf s .dge = [r] ∧ freeUnit s .dge = some 32 ∧ s.eng.ekey ≠ none ∧ r.cont = false ∧ r.keys = [] ∧ r.dest = none) ∧
    (noUnits { s with eng := { s.eng with units := [(32, ⟨.offline, 1, none, []⟩)], dgeQ := [] } } .dge = true) ∧
    (workingOn b 32 = some r ∧ segments r.op ≤ r.segs + 1 ∧ waitsFor b 7 (.engine r.id) = true) ∧
    (laneOp l 0 0 = some o ∧ l.vks.leaseW.all (fun e => e.2.2 ≠ lanePlace 0 0) = true ∧ waitsFor l 7 (.engine o.req.id) = true) ∧
    (mustReserve (laned [wide] .online []) = none ∧ placeFor (laned [wide] .online []) wide = some (0, 0)) ∧
    (let w := laned [wide] .online [⟨ask .lookupOnly, 0, 4, 100⟩]
     mustReserve w = some wide ∧ w.bne.resv = none ∧ earliest (w.bne.lanes.filter (fun e => e.2.st == .online)) = some 0 ∧
      w.bne.queue.findSome? (placeFor (count 0x98 none { w with bne := { w.bne with resv := some (0, 1) } })) = none) := by
  decide +kernel

theorem test_compute_witness : (∃ a, compute [] (ask .lookupOnly) = .ok a) ∧ ∃ a, compute [] (ask (.hash 2 0 [])) = .ok a := ⟨⟨_, rfl⟩, ⟨_, rfl⟩⟩

/-- A message one byte longer than 64 KiB has two segments. -/
theorem test_segment_witness (n : Nat) (h : n = 65536 + 1) :
    let r := ask (.hash 2 0 (List.replicate n 0))
    r.segs + 1 < segments r.op := by
  simp only [ask, segments, opLen, List.length_replicate]
  omega

theorem test_suspend_witness (op : EngineOp) :
    let press := fun (s : State) => (queueOf s .dge).any (fun x => (ask op).level ≤ x.level) && (freeUnit s .dge).isNone
    ∀ q, workingOn (digesting q (some (ask op))) 32 = some (ask op) ∧ (digesting q (some (ask op))).eng.saved = [] ∧
      press (digesting [] (some (ask op))) = false ∧ press (digesting [ask .lookupOnly] (some (ask op))) = true :=
  fun _ => ⟨rfl, rfl, rfl, rfl⟩

theorem test_free_save_witness (s : State) (h : s.eng.saved = []) : freeSave s = some 0 := by
  unfold freeSave
  rw [h]
  decide +kernel

theorem test_hcache_witness :
    let f : Request := { ask .lookupOnly with client := .fill 258 1 }
    let p : Slot := { slot5 false with hcache := true, entry := some 3 }
    let s := { digesting [] (some f) with vks := { live.vks with slots := [(258, p)] } }
    let c : CacheEntry := ⟨258, 1, true, true, [], [], [], []⟩
    let s := { s with eng := { s.eng with cache := [(3, c)] } }
    s.eng.units.findSome? fillOf = some (32, f, 258, 1) ∧ getSlot s 258 = p ∧ (tfind s.eng.cache 3).map (·.slot) = some 258 := by
  decide +kernel

theorem test_unit_witness :
    let d := laned [] .draining []
    let t := laned [] .testing []
    let u := { live with eng := { live.eng with units := [(32, ⟨.testing, 0, none, []⟩)] } }
    (tfind d.bne.lanes 0 = some (lane0 .draining []) ∧ (lane0 .draining []).ops = []) ∧
    (tfind t.bne.lanes 0 = some (lane0 .testing []) ∧ suiteOn t 0 = none ∧ laneRolled t 0 = false) ∧
    tfind u.eng.units 32 = some ⟨.testing, 0, none, []⟩ := by
  decide +kernel

/-- A spent ephemeral slot under the sweeper, and a persistent one with unleased uses. -/
def spent : State :=
  { live with vks := { live.vks with slots := [(256, { slot5 false with ucnt := true }), (257, { slot5 true with ucnt := true, unleased := 300 })], logBytes := logMax,
                                     img := some { root := [], slots := [], tenants := [], hwm := 0, tkeySeed := [] } } }

theorem test_sweep_witness :
    reclaimables spent ≠ 0 ∧ reclaimable spent spent.vks.sweep (getSlot spent spent.vks.sweep) = true ∧ logFull spent = true ∧ spent.vks.img ≠ none := by
  decide +kernel

/-- A port that is UP. -/
def upp : Port := { Port.reset with st := .up }

/-- `spent` as manager 0, active or not, with a twin port and trellis port 0 in a state. -/
def manager (st : MState) (p : Port) : State := { spent with hier := { spent.hier with mst := st, ports := [(0, p), (4, upp)] } }

/-- A worker with ID 2, its up-port linked. -/
def worked (st : MState) : State :=
  { spent with boot := { spent.boot with straps := some (1, 2) }, hier := { spent.hier with mst := st, ports := [(0, upp)], placed := [(5, ⟨1, true, true⟩)] } }

theorem test_lease_witness :
    let s := manager .active upp
    let r : LeaseRequest := ⟨2, 5, 0, 257⟩
    let o := { s with vks := { s.vks with leaseP := [(257, 0, 256)] } }
    (peerLive s = true ∧ isActive s = true ∧ (routeTo s 2).isSome = true ∧ epochOf s 5 = r.epoch ∧ (getSlot s 257).persist = true ∧
      (getSlot s 257).ucnt = true ∧ 0 < (getSlot s 257).unleased ∧ hasStandby s = false) ∧ (getSlot s 256).unleased = 0 ∧
    (s.hier.mterm ≤ 0 ∧ o.vks.leaseP.find? (fun e => e.1 == 257) = some (257, myId o, 256)) ∧
    (peerLive (worked .serving) = true ∧ isActive (worked .serving) = false ∧ (managerPort (worked .serving)).isSome = true ∧
      roleOf (worked .serving) = .worker ∧ (getSlot (worked .serving) 257).gen = 1) ∧
    ((managerPort (manager .standbySync upp)).isSome = true ∧ roleOf (manager .standbySync upp) ≠ .worker ∧ isActive (manager .standbySync upp) = false) := by
  decide +kernel

/-! ## Entropy unit, cellar -/

theorem test_entropy_witness :
    let n : Noise := { st := .healthy, fails := 2, apt := false, cr := 41, ca := 795 }
    let d : Draw := { id := 1, item := 7, inst := 5, n := 65536, pr := false, nowait := false, adata := [], secret := false, got := [], since := 0 }
    let g : Drbg := { tenant := 5, key := zeros 32, v := zeros 16, reqs := 1, bytes := 0, seeded := true, made := true }
    let s := { live with ent := { live.ent with src := [(0, n), (1, { n with st := .retest })], cond := .running, asked := [d], insts := [(5, g)], waiting := [d] } }
    (tfind s.ent.src 0 = some n ∧ tfind s.ent.src 1 = some { n with st := .retest }) ∧
    ((zeros 128).length = 128 ∧ s.ent.cond = .running ∧ s.ent.ekey = false ∧ ({ s.ent with ekey := true } : Ent).ekey = true) ∧
    (s.ent.asked = [d] ∧ (getInst s d.inst).hard = false ∧ d.pr = false ∧ d.got = [] ∧ d.n = 65536) ∧ s.ent.waiting = [d] := by
  decide +kernel

/-- An open cellar in whose batch 3 a record is being made durable. -/
def cellar (durable : Bool) : State :=
  { live with clc := { live.clc with st := .opened, drive0 := ⟨true, 1000, 1⟩, closing := some (3, 2), copies := [⟨.empty 3, durable, none⟩], repairs := [9] },
              bk := { live.bk with root := some { cserial := 4, croot := [], pserial := 5, proot := [1], logdig := [], crcOk := true } } }

theorem test_commit_witness :
    ((cellar false).clc.closing = some (3, 2) ∧ (cellar false).bk.root.isSome = true ∧ (cellar false).clc.st = .opened ∧
      (cellar false).clc.copies.find? (fun c => c.batch.num == 3 && !c.durable) = some ⟨.empty 3, false, none⟩) ∧
    (∀ c ∈ (cellar true).clc.copies, c.batch.num = 3 → c.durable = true) ∧ (cellar true).clc.repairs.contains 9 = true ∧
    ((cellar true).clc.drive0.usable = true ∧ collecting (cellar true) = true ∧ (cellar true).clc.off0 = false) := by
  decide +kernel

theorem test_cellar_read_witness :
    let s := busyOn { cellar true with clc := { (cellar true).clc with reads := [(7, 12)] } } { job 0x0A03 5 [] [] with phase := .waiting 0 0 .page }
    tfind s.clc.reads 7 = some 12 ∧ waitsFor s 7 .page = true ∧ s.clc.bad.contains 12 = false ∧ s.clc.bad.length < 256 ∧ hasStandby s = false := by
  decide +kernel

theorem test_vault_sweep_witness :
    let s := { cellar true with hier := { live.hier with mst := .active } }
    let s := { s with clc := { s.clc with shares := [(5, ⟨[0], 1⟩)], vault := [(5 * 2 ^ 40 + 3, { VaultRec.free with kind := 3 })] } }
    isActive s = true ∧ s.clc.st = .opened ∧ 0 < sharePages s 5 ∧ (recordsOf s 5).filter (fun e => e.1 / 32 == 0 && e.2.tomb) ≠ [] ∧
      pathThrough (sharePages s 5) 0 (recordsOf s 5) = false := by
  decide +kernel


/-! ## Links and the hierarchy -/

/-- `manager` in a two-part roster with a twin, of which ID 0 has the serial of zeros. -/
def rostered (st : MState) (p : Port) : State :=
  let s := manager st p
  { s with hier := { s.hier with roster := some { hid := 1, period := 10000, twin := true, parts := [(zeros 16, 0, 0)] } } }

def hello : HelloMsg := { serial := zeros 16, role := 1, id := 2, hid := 1, mterm := 0, chain := [], nonce := [], point := [], kem := [], cseq := 0 }

theorem test_link_witness :
    let t := manager .active { Port.reset with st := .training }
    let a := manager .active { Port.reset with st := .auth, hello := some hello }
    let r := manager .active { Port.reset with st := .rejected }
    let u := manager .active upp
    let f := manager .active { upp with tagAt := List.replicate 15 0 }
    (peerLive t = true ∧ t.hier.portsHeld = false ∧ (portKeys t).contains 0 = true ∧ portIsolated t 0 = false ∧ (getPort t 0).st = .training) ∧
    (peerLive a = true ∧ (getPort a 0).st = .auth ∧ (getPort a 0).hello = some hello) ∧ (peerLive r = true ∧ (getPort r 0).st = .rejected) ∧
    (linkLive u = true ∧ portUp u 0 = true ∧ (tagWindow (getPort u 0).tagAt (max u.now 5)).length < 16 ∧
      16 ≤ (tagWindow (getPort f 0).tagAt (max f.now 5)).length ∧ isActive u = true) := by
  decide +kernel

theorem test_membership_witness :
    let h := { worked .hold with hier := { (worked .hold).hier with holdCnt := 64 } }
    (peerLive (worked .serving) = true ∧ following (worked .serving) = true) ∧ (peerLive h = true ∧ h.hier.mst = .hold ∧ h.hier.holdCnt = 64) ∧
    ((worked .resync).hier.mst = .resync ∧ (managerPort (worked .resync)).isSome = true) := by
  decide +kernel

theorem test_twin_witness :
    let d := fun n => { manager .active upp with hier := { (manager .active upp).hier with driving := true, mism := n } }
    let q := fun m => { rostered m upp with hier := { (rostered m upp).hier with undriven := false } }
    (linkLive (d 0) = true ∧ (d 0).hier.driving = true ∧ (d 0).hier.mism = 0 ∧ (d 1).hier.mism = 1) ∧
    (linkLive (q .standbySync) = true ∧ (q .standbySync).hier.driving = false ∧ roleOf (q .standbySync) = .manager ∧
      (q .standbySync).hier.toggleAt + 3000 ≤ max (q .standbySync).now 3000 ∧ (q .standbyResync).hier.mst = .standbyResync) ∧
    (twinSet (q .arbitrating) = true ∧ (q .arbitrating).hier.mst = .arbitrating) ∧
    ((rostered .arbitrating upp).hier.undriven = true ∧ linkLive (rostered .arbitrating upp) = true) := by
  decide +kernel

theorem test_manager_to_worker_witness :
    let w := { busyOn (worked .serving) { job 0x0A01 5 [] [] with phase := .waiting 0 0 .forward } with out := [] }
    (peerLive w = true ∧ following w = true ∧ (managerPort w).isSome = true ∧ w.hier.mterm ≤ 0) ∧ (epochOf w 5 ≤ 1 ∧ 0 < epochOf w 5 ∧ epochOf w 5 < 2) ∧
    (awaitsAnswer w 7 = true ∧ (getItem w 7).map (·.tenant) = some 5) ∧
    ({ w.hier with msgs := [(4, .keydist ⟨0, 1, 5, 2, [], false⟩)] } : Hier).msgs = [(4, .keydist ⟨0, 1, 5, 2, [], false⟩)] := by
  decide +kernel

theorem test_worker_to_manager_witness :
    let s := manager .active upp
    let b := manager .standbyResync upp
    heardFrom s 2 = true ∧ epochOf s 5 = 0 ∧ (peerLive s = true ∧ portUp s 4 = true ∧ isActive s = true) ∧
    (peerLive b = true ∧ portUp b 4 = true ∧ roleOf b = .manager ∧ copies b = true ∧ b.hier.mst = .standbyResync ∧
      DeltaContent.empty.mterm = b.hier.mterm) := by
  decide +kernel

/-! ## Guard, faults, pins and power -/

/-- `live` with the guard in a state. -/
def guarded (st : GuardState) : State := { live with grd := { live.grd with st := st } }

theorem test_guard_witness :
    (tamperBit 0x01 = some 0 ∧ tamperBit 0x12 = some 9 ∧ tamperBit 0x23 = some 15 ∧ tamperBit 0x32 = some 19) ∧
    (live.powered = true ∧ live.grd.st = .watching ∧ 2 ≤ live.boot.phase ∧ live.boot.phase ≠ 0) ∧
    (let r := { live with grd := { live.grd with st := .responding, cls := 2 } }
     r.powered = true ∧ r.fcr.flushing = false ∧ tamperClass r 0 ≤ r.grd.cls ∧ r.grd.cls < tamperClass r 9) ∧
    ((guarded .held).powered = true ∧ (guarded .arming).grd.st = .arming ∧ (guarded .dormant).grd.st = .dormant) ∧
    ((guarded .battery).powered = false ∧ onBattery 0x12 = true ∧ onBattery 0x07 = true ∧ tamperClass live 9 = 3 ∧ tamperClass live 6 ≠ 3) := by
  decide +kernel

theorem test_fault_witness :
    let f := { live with fcr := { live.fcr with srcs := [(0x0301, { last := 2, isol := true, wire := false, errsel := false, winAt := 0, winN := 0 })], beatAt := some 9 } }
    let j := { live with fcr := { live.fcr with flushing := true } }
    let q := { live with fcr := { live.fcr with flushing := true, seqRun := true } }
    let e : Record := { index := 1, sev := 1, source := 0, code := 0, tenant := 0, flushed := false, late := false, bytes := [] }
    (collecting live = true ∧ (fsrc live 0x0301).wire = false ∧ live.dsp.off0 = false ∧ live.dsp.off1 = false) ∧
    (collecting f = true ∧ (fsrc f 0x0301).last = 2 ∧ f.fcr.st ≠ .recovery ∧ f.fcr.beatAt = some 9 ∧ f.grd.st = .watching) ∧
    (({ live.fcr with unfl := [e] } : Fcr).unfl ≠ [] ∧ live.fcr.flushing = false) ∧
    (j.fcr.flushing = true ∧ j.fcr.seqRun = false ∧ j.boot.deferred = none) ∧ (q.fcr.seqRun = true ∧ q.fcr.flushing = true ∧ q.grd.st ≠ .responding) ∧
    ({ live.boot with deferred := some (.perst, 5) } : Boot).deferred = some (.perst, 5) := by
  decide +kernel

theorem test_pin_witness_states :
    let d := { live with boot := { live.boot with pwrfail := true } }
    let q := { live with fcr := { live.fcr with flushing := true, seqRun := true } }
    let o := { live with grd := { live.grd with dbgOpen := true, rights := 1 } }
    (live.powered = true ∧ live.boot.pwrfail = false ∧ collecting live = true ∧ pinFlush live = false ∧ live.boot.perst = false) ∧
    (pinFlush q = true ∧ State.reset.powered = true ∧ State.reset.boot.perst = true) ∧ (d.boot.pwrfail = true ∧ d.boot.pwrfailAt + 1000000 ≤ 1000000) ∧
    (o.grd.dbgOpen = true ∧ o.grd.rights.getLsbD 0 = true) := by
  decide +kernel

theorem test_power_witness :
    let b := { live with boot := { live.boot with phase := 4 }, fcr := { live.fcr with st := .startup } }
    let p := { live with grd := { live.grd with p1en := true, p2go := true } }
    (b.grd.st = .watching ∧ b.boot.phase = 4 ∧ b.fcr.st = .startup) ∧ (p.grd.st = .watching ∧ p.grd.p1en = true ∧ p.grd.power = .p0 ∧ p.boot.phase = 5 ∧ idle p = true ∧ p.grd.p2go = true) ∧
    wakesP2 .alarm = true := by
  decide +kernel

/-! ## Registers -/

theorem test_register_witness :
    (reaches live .host 0x28010 = true ∧ lockedFor live .host 0x28010 false = false ∧ eventAt .host 0x28010 = none ∧ 0x28010 < blocksEnd) ∧
    (reaches live .cp0 0x30004 = true ∧ lockedFor live .cp0 0x30004 true = false ∧ reaches live .cp0 0x2C004 = true ∧ reaches live .cp0 0x30014 = true) ∧
    (∀ o ∈ [0x00008, 0x04020, 0x34000], reaches live .cp0 o = true ∧ lockedFor live .cp0 o true = false) ∧
    (regDefined 0x00008 = true ∧ mayWrite .cp0 0x00008 = false) ∧ (regDefined 0x03FF0 = false ∧ mayWrite .cp0 0x03FF0 = false) := by
  decide +kernel

theorem test_counter_witness :
    let c : Counter := { evt := 0x00001001, cnt := 2 ^ 48 - 1, ovf := false }
    let k : Counter := { evt := 0x00003001, cnt := 2 ^ 48 - 1, ovf := false }
    let s := { live with pmu := [(2, c), (4, k)] }
    ((pmuCounter s 2).en = true ∧ (pmuCounter s 2).cnt = 2 ^ 48 - 1 ∧ chained s 2 = false) ∧
    ((pmuCounter s 4).en = true ∧ chained s 4 = true ∧ (pmuCounter s 5).cnt + 1 < 2 ^ 48) := by
  decide +kernel

theorem test_aq_witness :
    let s := addQueue 0 0 (aqPair live 0x800C0000) (setAqcfg 0x800C0000 live)
    (hostLive live = true ∧ aqOn live = false ∧ aqGood ((0x000C7F00 : Word) ||| 0x80000000) = true ∧ getQueue live 0 0 = none) ∧
    (hostLive s = true ∧ aqOn s = true ∧ (getQueue s 0 0).isSome = true) := by
  decide +kernel

/-- `live` with control pair 0 at a master and slot, a swap staged or not. -/
def atMaster (m k : Nat) (pend : Bool) : State :=
  { live with cp0 := { live.cp0 with msel := m + 256 * k }, dsp := { live.dsp with mpus := [(m, { a := [], b := [], actB := false, pend := pend, vaddr := 0, vright := none })], tpend := pend } }

theorem test_mpu_witness :
    (reaches (atMaster 2 0 false) .cp0 0 = true ∧ (copiesOf (atMaster 2 0 false) .cp0).master = 2 ∧ mpuLocked 2 = true) ∧
    (mpuLocked 0x36 = false ∧ (copiesOf (atMaster 0x36 53 false) .cp0).master = 0x36 ∧ (copiesOf (atMaster 0x36 53 false) .cp0).slot = 53) ∧
    ((getMpu (atMaster 0x36 53 false) 0x36).pend = false ∧ (getMpu (atMaster 0x36 53 true) 0x36).pend = true) ∧
    ((copiesOf (atMaster 0x3F 17 true) .cp0).master = templateMaster ∧ (atMaster 0x3F 17 true).dsp.tpend = true ∧ (atMaster 0x3F 16 false).dsp.tpend = false ∧
      (copiesOf (atMaster 0x3F 16 false) .cp0).slot = 16) := by
  decide +kernel

/-! ## What no step undoes -/

/-- A command at the front of the queue answers a next state. -/
theorem test_step_next_witness : ∃ t, step { live with pending := [.errPulseEnd] } = .next t := ⟨_, rfl⟩

theorem test_raises_witness : RaisesBurnt { live with otp := { live.otp with raiseC := 1 }, bk := { live.bk with classes := [(0, 3)] } } ∧
    tsorted (busyOn live (job 1 0 [] [])).dsp.items = true := by
  refine ⟨fun i => ?_, by decide⟩
  by_cases h : i = 0
  · subst h
    decide
  · simp [tget, tfind, Ne.symm h]

/-! ## Ill-formed commands -/

/-- Every check of WellFormed refuses a term just past its range. -/
theorem test_ill_formed :
    [Instr.sqTailWrite 65 0 0, .cqHeadWrite 0 16 0, .submissionEntryFetch (zeros 31) [], .submissionEntryFetch (zeros 32) (zeros 15),
      .submissionEntryFetch (zeros 32) (zeros 4112), .hostDmaError (.entryRead 65 0), .hostDmaError (.replyWrite 16384), .itemResume 48,
      .windowGrant 0 (2 ^ 19) 0, .windowGrant 0 0 (2 ^ 19), .vfFlr 0, .vfFlr 65, .tenantResetComplete 1024, .freezeComplete 1024,
      .attach 16384, .segmentEnd 48, .engineRequestComplete (.lane 24 0), .engineRequestComplete (.lane 0 4), .laneDrainComplete 24,
      .unitKatComplete 48 0, .groupDrainComplete 8, .leaseBlockRequest ⟨0, 1024, 0, 0⟩, .leaseBlockGrant ⟨65536, 0, 0, 0, 0⟩,
      .healthyRunCount 4, .conditionerBlockClose (zeros 127), .nvmePortFailure 2, .smartWarning 2, .vaultSweeperStep 1024 0, .linkRetry 5,
      .linkRetry 16, .tamperDetect 0 0x08, .batteryTamper 0 0x33, .vbatColdStart 0 [0, 0, 0], .vbatColdStart 0 [0, 0, 0, 2 ^ 32], .vbatWarning 4096,
      .heartbeatWrite 0 2, .perstNRelease 0 { BootEnv.reset with role := 4 }, .perstNRelease 0 { BootEnv.reset with id := 32 },
      .rcRegisterRead (.vf 65) ⟨0, 1, 15, 0⟩, .latchLowRead .host ⟨2, 1, 15, 0⟩, .registerWrite .host ⟨1, 1, 15, 0⟩ 0 0, .pmuCounterWrap 64,
      .controlThreadReady ⟨0, 32, none⟩, .controlThreadReady ⟨0, 0, some 2⟩, .configurationWrite (.vfEnable true 65),
      .configurationWrite (.msixEntry 0 128 0 0 false), .configurationWrite (.msixEntry 1 30 0 0 false), .configurationWrite (.link 3 1),
      .configurationWrite (.link 8 6)].all (fun c => !c.wf) = true := by
  decide +kernel

theorem test_well_formed :
    [Instr.sqTailWrite 64 15 65535, .submissionEntryFetch (zeros 32) (zeros 4096), .itemResume 47, .vfFlr 64, .tenantResetComplete 1023, .attach 16383,
      .leaseBlockGrant ⟨65535, 0, 0, 0, 0⟩, .conditionerBlockClose (zeros 128), .linkRetry 12, .tamperDetect 0 0x32, .pmuCounterWrap 63,
      .configurationWrite (.msixEntry 0 127 0 0 false), .configurationWrite (.link 8 5), .registerWrite .host ⟨4, 1, 15, 0⟩ 0 0].all Instr.wf = true := by
  decide +kernel

/-- The table gives its rows no bits: no word spells a command. -/
theorem test_no_words (n w : Nat) (s : State) : decodeTableWord n w = none ∧ s.withFetchWord n w = s := ⟨rfl, rfl⟩

end Sys2Proof.Tests
end

/-! # The cycle unit (02)

What a boundary runs (Table 2.4) reaches into every block, but neither moves the clock nor touches the cycle unit: "the advance
of the cycle number itself is never delayed" (R33). The first sections say so of each operation that a boundary calls; the
statements about edges then follow from what the edge itself does to the unit. -/

namespace Sys2Proof.Machine

set_option Elab.async false

/-- `t` stands at the instant of `s` and holds its cycle unit. -/
@[simp] abbrev SameCycle (s t : State) : Prop := t.now = s.now ∧ t.cyu = s.cyu

theorem foldl_sameCycle {β : Type} {f : State → β → State} (hf : ∀ s b, SameCycle s (f s b)) (l : List β) (s : State) :
    SameCycle s (l.foldl f s) := by
  induction l generalizing s with
  | nil => exact ⟨rfl, rfl⟩
  | cons b l ih => exact ⟨(ih _).1.trans (hf s b).1, (ih _).2.trans (hf s b).2⟩

/-! ## The shared operations -/

@[simp] theorem eachCopy_sameCycle (f : Copies → Copies) (s : State) : SameCycle s (eachCopy f s) := ⟨rfl, rfl⟩

@[simp] theorem takeFree_sameCycle (n : Nat) (s : State) : SameCycle s (takeFree n s).2 := ⟨rfl, rfl⟩

@[simp] theorem record_sameCycle (sev source code : Nat) (data : Bytes) (tenant : Nat) (late : Bool) (s : State) :
    SameCycle s (record sev source code data tenant late s) := by
  unfold record
  dsimp only
  split <;> simp

@[simp] theorem cycleRecord_sameCycle (sev kind added : Nat) (s : State) : SameCycle s (cycleRecord sev kind added s) := by
  simp [cycleRecord]

@[simp] theorem cellarRecord_sameCycle (sev page : Nat) (s : State) : SameCycle s (cellarRecord sev page s) := by
  simp [cellarRecord]

@[simp] theorem checkpoint_sameCycle (s : State) : SameCycle s (checkpoint s) := by
  simp [checkpoint]

@[simp] theorem sendOn_sameCycle (k : Nat) (m : LinkMsg) (s : State) : SameCycle s (sendOn k m s) := by
  unfold sendOn
  split <;> simp

@[simp] theorem sendTo_sameCycle (id : Nat) (m : LinkMsg) (s : State) : SameCycle s (sendTo id m s) := by
  unfold sendTo
  split <;> simp

@[simp] theorem sendManager_sameCycle (m : LinkMsg) (s : State) : SameCycle s (sendManager m s) := by
  unfold sendManager
  split <;> simp

@[simp] theorem noteDelta_sameCycle (f : DeltaContent → DeltaContent) (s : State) : SameCycle s (noteDelta f s) := by
  unfold noteDelta
  split <;> simp

@[simp] theorem noteSlots_sameCycle (l : List Nat) (s : State) : SameCycle s (noteSlots l s) := by
  simp [noteSlots]

/-! ## A fatal fault: a slot whose tag does not match -/

@[simp] theorem closeGates_sameCycle (s : State) : SameCycle s (closeGates s) := ⟨rfl, rfl⟩

@[simp] theorem setFsrc_sameCycle (n : Nat) (f : FaultSrc → FaultSrc) (s : State) : SameCycle s (setFsrc n f s) := ⟨rfl, rfl⟩

@[simp] theorem errPulse_sameCycle (s : State) : SameCycle s (errPulse s) := by
  unfold errPulse
  split <;> simp

@[simp] theorem fatalFault_sameCycle (src cause addr : Nat) (wire escal : Bool) (s : State) :
    SameCycle s (fatalFault src cause addr wire escal s) := by
  simp [fatalFault]

@[simp] theorem slotFatal_sameCycle (i : Nat) (s : State) : SameCycle s (slotFatal i s) := by
  unfold slotFatal fatal
  split <;> simp

/-! ## Work items: their end, their lists, their admission -/

@[simp] theorem enterList_sameCycle (id : Nat) (s : State) : SameCycle s (enterList id s) := by
  unfold enterList
  split
  · simp
  · split <;> simp

@[simp] theorem enterLists_sameCycle (flow : Nat) (s : State) : SameCycle s (enterLists flow s) := by
  refine foldl_sameCycle (fun s e => ?_) _ s
  split <;> simp

@[simp] theorem wakeGate_sameCycle (g : Option Nat) (s : State) : SameCycle s (wakeGate g s) := by
  unfold wakeGate
  repeat' split
  all_goals simp

@[simp] theorem closeStream_sameCycle (flow : Nat) (s : State) : SameCycle s (closeStream flow s) := ⟨rfl, rfl⟩

@[simp] theorem endUpdate_sameCycle (id : Nat) (s : State) : SameCycle s (endUpdate id s) := ⟨rfl, rfl⟩

@[simp] theorem freeReserved_sameCycle (it : Item) (s : State) : SameCycle s (freeReserved it s) := by
  unfold freeReserved
  split
  · simp
  · split <;> simp

@[simp] theorem dropDraws_sameCycle (id : Nat) (s : State) : SameCycle s (dropDraws id s) := by
  unfold dropDraws
  dsimp only
  split <;> simp

@[simp] theorem itemDone_sameCycle (id : Nat) (r : Reply) (s : State) : SameCycle s (itemDone id r s) := by
  unfold itemDone
  split
  · simp
  · dsimp only
    split
    · simp
    · split <;> simp

@[simp] theorem itemEnd_sameCycle (id status detail : Nat) (s : State) : SameCycle s (itemEnd id status detail s) :=
  itemDone_sameCycle id _ s

theorem endEach_sameCycle (status detail : Nat) (l : List Nat) (s : State) :
    SameCycle s (l.foldl (fun (s : State) (i : Nat) => itemEnd i status detail s) s) :=
  foldl_sameCycle (fun s i => itemEnd_sameCycle i status detail s) l s

@[simp] theorem unlockHeld_sameCycle (s : State) : SameCycle s (unlockHeld s) := endEach_sameCycle _ _ _ s

@[simp] theorem failAdmit_sameCycle (id status detail step : Nat) (s : State) :
    SameCycle s (failAdmit id status detail step s) := by
  simp [failAdmit]

@[simp] theorem chargeQuota_sameCycle (it : Item) (s : State) : SameCycle s (chargeQuota it s) := by
  unfold chargeQuota
  split <;> simp

@[simp] theorem admitCharged_sameCycle (id : Nat) (it : Item) (s : State) : SameCycle s (admitCharged id it s) := by
  unfold admitCharged
  dsimp only
  split <;> simp

@[simp] theorem holdItem_sameCycle (id : Nat) (it : Item) (s : State) : SameCycle s (holdItem id it s) := by
  simp [holdItem]

@[simp] theorem admitItem_sameCycle (id : Nat) (s : State) : SameCycle s (admitItem id s) := by
  unfold admitItem
  split
  · simp
  · dsimp only
    split
    · simp
    · simp
    · split <;> simp

@[simp] theorem refreshQuota_sameCycle (s : State) : SameCycle s (refreshQuota s) := by
  unfold refreshQuota
  dsimp only
  exact foldl_sameCycle (fun s i => admitItem_sameCycle i s) _ _

/-! ## Slots, the vine image and leases -/

@[simp] theorem putSlot_sameCycle (i : Nat) (p : Slot) (s : State) : SameCycle s (putSlot i p s) := ⟨rfl, rfl⟩

@[simp] theorem rewriteBase_sameCycle (s : State) : SameCycle s (rewriteBase s) := ⟨rfl, rfl⟩

@[simp] theorem imgAppend_sameCycle (f : VineImage → VineImage) (s : State) : SameCycle s (imgAppend f s) := by
  unfold imgAppend
  dsimp only
  split <;> simp

@[simp] theorem imgPutSlot_sameCycle (i : Nat) (s : State) : SameCycle s (imgPutSlot i s) := imgAppend_sameCycle _ s

@[simp] theorem imgSync_sameCycle (t : Nat) (l : List Nat) (s : State) : SameCycle s (imgSync t l s) := imgAppend_sameCycle _ s

@[simp] theorem freeEntry_sameCycle (p : Slot) (s : State) : SameCycle s (freeEntry p s) := by
  unfold freeEntry
  split <;> simp

@[simp] theorem freeObject_sameCycle (p : Slot) (s : State) : SameCycle s (freeObject p s) := by
  unfold freeObject
  split <;> simp

@[simp] theorem pruneSlot_sameCycle (i : Nat) (s : State) : SameCycle s (pruneSlot i s) := by
  simp [pruneSlot, freeSlot]

@[simp] theorem topUp_sameCycle (i : Nat) (s : State) : SameCycle s (topUp i s) := by
  unfold topUp
  dsimp only
  split <;> simp

@[simp] theorem charge_sameCycle (k : KeyReq) (s : State) : SameCycle s (charge k s) := by
  unfold charge
  dsimp only
  split <;> simp

@[simp] theorem lookupFailed_sameCycle (tenant status : Nat) (s : State) : SameCycle s (lookupFailed tenant status s) := by
  unfold lookupFailed
  dsimp only
  split <;> simp

theorem askLease_sameCycle {k : KeyReq} {p : Slot} {s t : State} (h : askLease k p s = some t) : SameCycle s t := by
  unfold askLease at h
  dsimp only at h
  repeat' split at h
  all_goals cases h
  all_goals simp

theorem deliver_sameCycle {k : KeyReq} {p : Slot} {r : Request} {s : State} {u : Request × State}
    (h : deliver k p r s = some u) : SameCycle s u.2 := by
  obtain ⟨m, -, rfl⟩ := Option.map_eq_some_iff.1 h
  exact charge_sameCycle k s

/-- A key's lookup, up to a use that it charges. -/
theorem takeGo_sameCycle (l : List KeyReq) (r : Request) (s : State) : SameCycle s (takeGo l r s).state := by
  induction l generalizing r s with
  | nil => exact ⟨rfl, rfl⟩
  | cons k l ih =>
    unfold takeGo
    dsimp only
    split
    · split
      · next u hu =>
        have := ih u.1 u.2
        have := deliver_sameCycle hu
        simp_all
      · exact charge_sameCycle k s
    · exact lookupFailed_sameCycle _ _ s
    · exact slotFatal_sameCycle _ s
    · split
      · split
        · next u hu =>
          have := ih u.1 u.2
          have := deliver_sameCycle hu
          simp_all
        · simp [Took.state]
      · split
        · next t ht => exact askLease_sameCycle ht
        · exact lookupFailed_sameCycle k.tenant 0x0304 s

theorem takeDest_sameCycle (r : Request) (s : State) : SameCycle s (takeDest r s).state := by
  unfold takeDest
  dsimp only
  repeat' split
  all_goals exact ⟨rfl, rfl⟩

@[simp] theorem takeKeys_sameCycle (r : Request) (s : State) : SameCycle s (takeKeys r s).state := by
  unfold takeKeys
  split
  · exact ⟨rfl, rfl⟩
  · have h := takeGo_sameCycle (r.keys.drop r.got.length) r s
    split
    · next e =>
      rw [e] at h
      have := takeDest_sameCycle
      simp_all [Took.state]
    · exact h

/-! ## Engines that a lease lets go on -/

@[simp] theorem answerRequest_sameCycle (r : Request) (a : Answer) (s : State) : SameCycle s (answerRequest r a s) := by
  unfold answerRequest
  split
  · split <;> simp
  · simp

@[simp] theorem countHmac_sameCycle (r : Request) (s : State) : SameCycle s (countHmac r s) := by
  unfold countHmac
  dsimp only
  repeat' split
  all_goals simp

@[simp] theorem unitTook_sameCycle (n : Nat) (t : Took) : SameCycle t.state (unitTook n t) := by
  cases t with
  | refuse st d s =>
    unfold unitTook
    dsimp only
    split <;> simp [Took.state]
  | ready r s | wait slot r s | broken s => simp [unitTook, Took.state]

@[simp] theorem laneTime_sameCycle (r : Request) (s : State) : SameCycle s (laneTime r s).2 := by
  unfold laneTime
  split <;> simp

@[simp] theorem laneTook_sameCycle (l i : Nat) (t : Took) : SameCycle t.state (laneTook l i t) := by
  cases t with
  | refuse st d s =>
    unfold laneTook
    dsimp only
    split <;> simp [Took.state, dropOp]
  | ready r s | wait slot r s | broken s => simp [laneTook, Took.state, setOp]

@[simp] theorem resumeLease_sameCycle (slot : Nat) (s : State) : SameCycle s (resumeLease slot s) := by
  unfold resumeLease
  dsimp only
  refine foldl_sameCycle (fun s e => ?_) _ _
  split <;> simp

@[simp] theorem leaseAcked_sameCycle (slot : Nat) (s : State) : SameCycle s (leaseAcked slot s) := by
  unfold leaseAcked grantTo
  split
  · simp
  · dsimp only
    split <;> simp

@[simp] theorem remoteTopUp_sameCycle (i part : Nat) (s : State) : SameCycle s (remoteTopUp i part s) := by
  unfold remoteTopUp
  dsimp only
  split <;> simp

@[simp] theorem topUpSlot_sameCycle (i : Nat) (s : State) : SameCycle s (topUpSlot i s) := by
  have parts (l : List Nat) := foldl_sameCycle (fun s k => remoteTopUp_sameCycle i k s) l
  unfold topUpSlot
  dsimp only
  repeat' split
  all_goals simp [parts]

@[simp] theorem boundaryLeases_sameCycle (s : State) : SameCycle s (boundaryLeases s) := by
  unfold boundaryLeases
  split
  · exact foldl_sameCycle (fun s i => topUpSlot_sameCycle i s) _ s
  · simp

/-! ## Contexts and placements that end with a copy -/

@[simp] theorem ctxEvent_sameCycle (c : Ctx) (s : State) : SameCycle s (ctxEvent c s) := by
  unfold ctxEvent setEvent sendMsix
  dsimp only
  repeat' split
  all_goals simp

@[simp] theorem removeQueues_sameCycle (fn : Nat) (s : State) : SameCycle s (removeQueues fn s) := by
  unfold removeQueues
  dsimp only
  refine foldl_sameCycle (fun s e => ?_) _ _
  exact endEach_sameCycle 0 0 e.2.delers s

@[simp] theorem destroyEphemeral_sameCycle (t : Nat) (s : State) : SameCycle s (destroyEphemeral t s) := by
  unfold destroyEphemeral
  refine foldl_sameCycle (fun s e => ?_) _ s
  exact pruneSlot_sameCycle e.1 s

@[simp] theorem tenantLeaves_sameCycle (t : Nat) (s : State) : SameCycle s (tenantLeaves t s) := by
  unfold tenantLeaves
  dsimp only
  repeat' split
  all_goals simp

@[simp] theorem removeCtx_sameCycle (t : Nat) (s : State) : SameCycle s (removeCtx t s) := by
  unfold removeCtx emptyShare uninstantiate
  dsimp only
  repeat' split
  all_goals simp [endEach_sameCycle]

@[simp] theorem tenantIdle_sameCycle (t : Nat) (s : State) : SameCycle s (tenantIdle t s) := by
  unfold tenantIdle
  repeat' split
  all_goals simp

@[simp] theorem adoptEntry_sameCycle (t : Nat) (e : Tenant) (s : State) : SameCycle s (adoptEntry t e s) := by
  unfold adoptEntry
  dsimp only
  repeat' split
  all_goals simp

@[simp] theorem sendPlacement_sameCycle (ref : Nat) (ids : List Nat) (b : PlacementBody) (s : State) :
    SameCycle s (sendPlacement ref ids b s) :=
  foldl_sameCycle (fun _ _ => sendTo_sameCycle _ _ _) ids s

@[simp] theorem applyNext_sameCycle (a : Apply) (s : State) : SameCycle s (applyNext a s).2 := by
  unfold applyNext
  split
  · dsimp only
    split <;> simp
  · simp

theorem applyEach_sameCycle (l : List Apply) (u : List Apply × State) :
    SameCycle u.2 (l.foldl (fun (u : List Apply × State) a =>
      let v := applyNext a u.2
      (u.1 ++ [v.1], v.2)) u).2 := by
  induction l generalizing u with
  | nil => exact ⟨rfl, rfl⟩
  | cons a l ih => simpa using ih (u.1 ++ [(applyNext a u.2).1], (applyNext a u.2).2)

@[simp] theorem modApplies_sameCycle (f : Apply → Apply) (s : State) : SameCycle s (modApplies f s) := by
  have ends (l : List Apply) := foldl_sameCycle (f := fun (s : State) (a : Apply) =>
    a.also.foldl (fun (s : State) (i : Nat) => itemEnd i 0x0010 0 s) (itemDone a.item a.reply s))
    (fun s a => by simp [endEach_sameCycle]) l
  unfold modApplies finishApplies
  simp [ends, applyEach_sameCycle]

/-! ## The twin copy -/

@[simp] theorem finishCopies_sameCycle (s : State) : SameCycle s (finishCopies s) := by
  unfold finishCopies
  dsimp only
  refine foldl_sameCycle (fun s c => foldl_sameCycle (fun s e => ?_) _ s) _ _
  split <;> simp

@[simp] theorem releaseCopies_sameCycle (s : State) : SameCycle s (releaseCopies s) := by
  have acks (l : List (Nat × Nat × Nat)) := foldl_sameCycle (fun s (e : Nat × Nat × Nat) => leaseAcked_sameCycle e.1 s) l
  unfold releaseCopies
  simp [acks]

@[simp] theorem standbyLost_sameCycle (s : State) : SameCycle s (standbyLost s) := by
  unfold standbyLost
  dsimp only
  repeat' split
  all_goals simp

@[simp] theorem closeBatch_sameCycle (cseq : Option Nat) (s : State) : SameCycle s (closeBatch cseq s) := by
  unfold closeBatch
  dsimp only
  repeat' split
  all_goals simp

@[simp] theorem sendDelta_sameCycle (s : State) : SameCycle s (sendDelta s) := by
  simp [sendDelta]

@[simp] theorem sendBulk_sameCycle (s : State) : SameCycle s (sendBulk s) := by
  unfold sendBulk
  dsimp only
  have extents := foldl_sameCycle (f := fun (s : State) (e : Nat × Share) => sendOn 4 (.bulk (.extent (extentWrites s e.1))) s)
    (fun _ _ => sendOn_sameCycle _ _ _)
  simp [extents]

@[simp] theorem twinCopy_sameCycle (s : State) : SameCycle s (twinCopy s) := by
  unfold twinCopy
  dsimp only
  repeat' split
  all_goals simp

/-! ## The boundary and the edge messages -/

@[simp] theorem holdTick_sameCycle (s : State) : SameCycle s (holdTick s) := by
  unfold holdTick
  split <;> simp

@[simp] theorem releaseStaged_sameCycle (s : State) : SameCycle s (releaseStaged s) := ⟨rfl, rfl⟩

@[simp] theorem boundary_sameCycle (edge : Bool) (s : State) : SameCycle s (boundary edge s) := by
  unfold boundary
  dsimp only
  split
  · simp
  · split <;> simp

@[simp] theorem sendEdge_sameCycle (s : State) : SameCycle s (sendEdge s) := by
  unfold sendEdge
  split
  · exact foldl_sameCycle (fun _ _ => sendOn_sameCycle _ _ _) _ s
  · simp

/-! ## Edges of a manager: what each does to the unit (02 R21, R23, R26) -/

/-- The unit as an accepted edge at `t` with number `n` leaves it. -/
def Cyu.accepted (c : Cyu) (t n : Nat) : Cyu :=
  { c with
    st := .locked, num := some n, setN := none, held := false, run := 0, ivals := addIval c t, counts := true,
    lastReal := t, base := t, lastAdv := t }

/-- The unit as its entry into UNLOCKED at `t` leaves it. -/
def Cyu.unlocked (c : Cyu) (t : Nat) : Cyu := { c with st := .unlocked, lostSeen := true, timer := t, counts := false }

theorem pulseEdge_of_wide {low high : Nat} (hl : 100 ≤ low) (hh : 100 ≤ high) (s : State) : pulseEdge low high s = (true, s) := by
  have h : ¬ high < 50 := by omega
  simp [pulseEdge, hl, hh, h]

/-- A pulse of full width on CYCIN of a part that is no worker is a real edge (R17, 18 R469). -/
theorem exec_cycinEdge {s : State} {low high : Nat} (at_ : Nat) (hlive : cyuLive s = true) (hrole : roleOf s ≠ .worker)
    (hl : 100 ≤ low) (hh : 100 ≤ high) :
    exec (.cycinEdge at_ low high) s = .next (realEdge (max s.now at_) (s.at_ at_)) := by
  show execCycinEdge at_ low high s = _
  simp [execCycinEdge, hlive, hrole, pulseEdge_of_wide hl hh]

theorem realEdge_of_inWindow {s : State} {t : Nat} (hst : s.cyu.st = .locked ∨ s.cyu.st = .lost) (hw : inWindow s t = true) :
    realEdge t s = acceptEdge t s := by
  rcases hst with h | h <;> simp [realEdge, h, hw]

theorem realEdge_of_not_inWindow {s : State} {t : Nat} (hst : s.cyu.st = .locked ∨ s.cyu.st = .lost)
    (hw : inWindow s t = false) : realEdge t s = strayEdge s := by
  rcases hst with h | h <;> simp [realEdge, h, hw]

theorem cycUnlock_now_cyu (t : Nat) (s : State) : (cycUnlock t s).now = s.now ∧ (cycUnlock t s).cyu = s.cyu.unlocked t := by
  simp [cycUnlock, Cyu.unlocked]

theorem acceptEdge_now_cyu {s : State} {n : Nat} (t : Nat) (hn : nextNumber s.cyu = some n) :
    (acceptEdge t s).now = s.now ∧ (acceptEdge t s).cyu = s.cyu.accepted t n := by
  unfold acceptEdge
  rw [hn]
  dsimp only
  split <;> simp [Cyu.accepted]

/-- Where the count has ended, an edge in its window unlocks (R23). -/
theorem acceptEdge_cyu_of_end {s : State} (t : Nat) (hn : nextNumber s.cyu = none) :
    (acceptEdge t s).cyu = s.cyu.unlocked t := by
  unfold acceptEdge
  rw [hn]
  exact (cycUnlock_now_cyu t s).2

/-- A pending set gives the number of the next edge; else it is the number after the current one, up to FFFFFFFFFFFEh. -/
theorem nextNumber_eq_some {c : Cyu} {n : Nat}
    (h : c.setN = some n ∨ (c.setN = none ∧ c.num.map (· + 1) = some n ∧ n ≤ cycMax)) : nextNumber c = some n := by
  unfold nextNumber
  rcases h with h | ⟨hset, hnum, hle⟩
  · rw [h]
  · obtain ⟨k, hk, rfl⟩ := Option.map_eq_some_iff.1 hnum
    rw [hset, hk]
    exact if_pos hle

/-- A real edge in its window while the number can still advance. -/
theorem exec_cycinEdge_accepted {s : State} {low high n : Nat} (at_ : Nat) (hlive : cyuLive s = true) (hrole : roleOf s ≠ .worker)
    (hl : 100 ≤ low) (hh : 100 ≤ high) (hst : s.cyu.st = .locked ∨ s.cyu.st = .lost)
    (hw : inWindow s (max s.now at_) = true) (hn : nextNumber s.cyu = some n) :
    ∃ t, exec (.cycinEdge at_ low high) s = .next t ∧ t.now = max s.now at_ ∧ t.cyu = s.cyu.accepted (max s.now at_) n := by
  refine ⟨_, exec_cycinEdge at_ hlive hrole hl hh, ?_⟩
  rw [realEdge_of_inWindow (s := s.at_ at_) hst hw]
  exact acceptEdge_now_cyu (s := s.at_ at_) _ hn

/-- Settles O22: the boundary that the edge starts leaves the unit as the edge made it. -/
theorem acceptedEdgeAdvancesNumber : Obligations.AcceptedEdgeAdvancesNumber := by
  intro s at_ low high n hlive hrole hl hh hst hw hn
  obtain ⟨t, he, hnow, hcyu⟩ := exec_cycinEdge_accepted at_ hlive hrole hl hh hst hw (nextNumber_eq_some hn)
  exact ⟨t, he, hnow, by simp [hcyu, Cyu.accepted]⟩

/-! ## Stray edges -/

/-- The record that `record` writes. -/
def newRecord (sev source code : Nat) (data : Bytes) (tenant : Nat) (late : Bool) (s : State) : Record :=
  { index := s.fcr.ridx, sev := sev, source := source, code := code, tenant := tenant, late := late,
    bytes := recordBytes s sev source code tenant late data, flushed := false }

/-- A record takes the next index and offers itself to the ring (16 R419, R420). -/
theorem record_ridx_ring (sev source code : Nat) (data : Bytes) (tenant : Nat) (late : Bool) (s : State) :
    (record sev source code data tenant late s).fcr.ridx = (s.fcr.ridx + 1) % 2 ^ 32 ∧
      (record sev source code data tenant late s).fcr.ring =
        (ringAdd s.fcr.ring (newRecord sev source code data tenant late s)).getD s.fcr.ring := by
  unfold record newRecord
  dsimp only
  split
  · next h => simp [h, eachCopy]
  · next h => simp [h, eachCopy]

/-- Writing a record leaves every accessor's CYU_STRAY. -/
@[simp] theorem record_stray (sev source code : Nat) (data : Bytes) (tenant : Nat) (late : Bool) (s : State) :
    (record sev source code data tenant late s).host.stray = s.host.stray ∧
      (record sev source code data tenant late s).cp0.stray = s.cp0.stray ∧
      (record sev source code data tenant late s).cp1.stray = s.cp1.stray ∧
      (record sev source code data tenant late s).dbg.stray = s.dbg.stray := by
  unfold record
  dsimp only
  split <;> simp [eachCopy]

theorem strayEdge_cyu (s : State) : (strayEdge s).cyu = s.cyu := by
  simp [strayEdge, countStray]

theorem strayEdge_stray (s : State) :
    (strayEdge s).host.stray = satAdd max32 s.host.stray 1 ∧ (strayEdge s).cp0.stray = satAdd max32 s.cp0.stray 1 ∧
      (strayEdge s).cp1.stray = satAdd max32 s.cp1.stray 1 ∧ (strayEdge s).dbg.stray = satAdd max32 s.dbg.stray 1 := by
  simp [strayEdge, cycleRecord, countStray, eachCopy]

theorem strayEdge_record (s : State) :
    ∃ r : Record, r.sev = 1 ∧ r.index = s.fcr.ridx ∧ (strayEdge s).fcr.ridx = (s.fcr.ridx + 1) % 2 ^ 32 ∧
      (strayEdge s).fcr.ring = (ringAdd s.fcr.ring r).getD s.fcr.ring := by
  have hfcr : (countStray s).fcr = s.fcr := by simp [countStray, eachCopy]
  rw [← hfcr]
  exact ⟨newRecord 1 srcCycle 0x0030 (toBE 1 1 ++ toBE 6 0) noTenant false (countStray s), rfl, rfl, record_ridx_ring ..⟩

/-- P_est is at least P − w (R20). -/
theorem cycP_le_cycPest_add_cycW (s : State) : cycP s ≤ cycPest s + cycW s := by
  unfold cycPest
  split <;> omega

/-- Windows are narrow beside the period, which is at least 100 µs (R18, R19). -/
theorem four_mul_cycW_lt_cycP {s : State} (h : 100 ≤ s.cyu.period) : 4 * cycW s < cycP s := by
  unfold cycW cycP
  omega

/-- After an edge accepted in a window, no later instant of that window lies in the next one. -/
theorem inWindow_accepted_eq_false {s t : State} {a b n : Nat} (hp : 100 ≤ s.cyu.period) (hw : inWindow s a = true)
    (ht : t.cyu = s.cyu.accepted a n) (hb : b ≤ cycNext s + cycW s) : inWindow t b = false := by
  have hP : cycP t = cycP s := by simp [cycP, ht, Cyu.accepted]
  have hW : cycW t = cycW s := by simp [cycW, hP]
  have hN : cycNext t = a + cycPest t := by simp [cycNext, ht, Cyu.accepted]
  have hE := cycP_le_cycPest_add_cycW t
  have h4 := four_mul_cycW_lt_cycP hp
  simp only [inWindow, Bool.and_eq_true, decide_eq_true_eq] at hw
  simp only [inWindow, Bool.and_eq_false_iff, decide_eq_false_iff_not]
  omega

/-- Settles O23: a stray edge counts and writes its record, and the window after an accepted edge begins past the end of the
window that the edge came in, since 4w is less than P. -/
theorem strayEdgesAdvanceNothing : Obligations.StrayEdgesAdvanceNothing := by
  intro s at_ low high hlive hrole hl hh hst
  have he := exec_cycinEdge at_ hlive hrole hl hh
  refine ⟨fun hw => ?_, fun hw n hn => ?_, fun t hp hw ht hlocked b _ hb => ?_⟩
  · rw [realEdge_of_not_inWindow (s := s.at_ at_) hst hw] at he
    obtain ⟨hhost, hcp0, hcp1, hdbg⟩ := strayEdge_stray (s.at_ at_)
    exact ⟨_, he, strayEdge_cyu _, hhost, hcp0, hcp1, hdbg, strayEdge_record (s.at_ at_)⟩
  · obtain ⟨t, he, -, hcyu⟩ := exec_cycinEdge_accepted at_ hlive hrole hl hh hst hw hn
    exact ⟨t, he, by simp [hcyu, Cyu.accepted]⟩
  · rw [he, realEdge_of_inWindow (s := s.at_ at_) hst hw] at ht
    cases ht
    cases hn : nextNumber s.cyu with
    | none =>
      rw [acceptEdge_cyu_of_end (s := s.at_ at_) _ hn] at hlocked
      cases hlocked
    | some n => exact inWindow_accepted_eq_false hp hw (acceptEdge_now_cyu (s := s.at_ at_) _ hn).2 hb

/-! ## Acquisition (R26, R27) -/

/-- An instant lies P ± w after the last acquisition edge. -/
def OnBeat (s : State) (t : Nat) : Prop :=
  cycP s ≤ t - s.cyu.acqLast + cycW s ∧ t - s.cyu.acqLast ≤ cycP s + cycW s

/-- The unit with an edge at `t` as its `n`-th acquisition edge. -/
def Cyu.acquired (c : Cyu) (n t : Nat) : Cyu := { c with acq := n, acqLast := t }

/-- The second edge on the beat counts. -/
theorem acquireEdge_second {s : State} {t : Nat} (h : OnBeat s t) (ha : s.cyu.acq = 1) :
    acquireEdge t s = modCyu (·.acquired 2 t) s := by
  simp [acquireEdge, Cyu.acquired, h.1, h.2, ha]

/-- The third edge on the beat is the locking edge. -/
theorem acquireEdge_third {s : State} {t : Nat} (h : OnBeat s t) (ha : s.cyu.acq = 2) :
    acquireEdge t s = lockEdge t (modCyu (·.acquired 3 t) s) := by
  simp [acquireEdge, Cyu.acquired, h.1, h.2, ha]

/-- An edge off the beat starts the count again. -/
theorem acquireEdge_of_not_onBeat {s : State} {t : Nat} (h : ¬ OnBeat s t) :
    acquireEdge t s = modCyu (·.acquired 1 t) s := by
  have hb : (decide (cycP s ≤ t - s.cyu.acqLast + cycW s) && decide (t - s.cyu.acqLast ≤ cycP s + cycW s)) = false := by
    rw [Bool.and_eq_false_iff, decide_eq_false_iff_not, decide_eq_false_iff_not]
    exact Decidable.not_and_iff_not_or_not.1 h
  unfold acquireEdge
  dsimp only
  rw [hb]
  rfl

theorem lockEdge_cyu {s : State} {t : Nat} (he : s.cyu.ended = false) (hn : lockNumber t s ≤ cycMax) :
    (lockEdge t s).cyu =
      { s.cyu with
        st := .locked, num := some (lockNumber t s), setN := none, held := false, run := 0, counts := true,
        lastReal := t, base := t, lastAdv := t, acq := 0 } := by
  unfold lockEdge
  dsimp only
  rw [if_neg (by simpa [he] using hn)]
  split <;> simp

/-- A lock that R23 forbids leaves the number. -/
theorem lockEdge_cyu_of_end {s : State} {t : Nat} (h : s.cyu.ended = true ∨ cycMax < lockNumber t s) :
    (lockEdge t s).cyu = { s.cyu with st := .unlocked, ended := true, acq := 0 } := by
  unfold lockEdge
  dsimp only
  rw [if_pos (by simpa using h)]
  simp

/-- The first lock since reset carries 0. -/
theorem lockNumber_first {s : State} (t : Nat) (h : s.cyu.num = none) : lockNumber t s = 0 := by
  simp [lockNumber, h]

/-- The first lock since reset. -/
theorem acquireEdge_first_lock {s : State} {t : Nat} (h : OnBeat s t) (ha : s.cyu.acq = 2) (hnum : s.cyu.num = none)
    (hend : s.cyu.ended = false) :
    (acquireEdge t s).cyu.st = .locked ∧ (acquireEdge t s).cyu.num = some 0 ∧ (acquireEdge t s).cyu.held = false := by
  have hn : lockNumber t (modCyu (·.acquired 3 t) s) = 0 := lockNumber_first t hnum
  have hc := lockEdge_cyu (s := modCyu (·.acquired 3 t) s) (t := t) hend (by simp [hn])
  rw [acquireEdge_third h ha, hc, hn]
  exact ⟨rfl, rfl, rfl⟩

/-- A unit whose count has ended locks no more until a reset (R23). -/
theorem acquireEdge_after_end {s : State} {t : Nat} (h : OnBeat s t) (ha : s.cyu.acq = 2) (hend : s.cyu.ended = true) :
    (acquireEdge t s).cyu.st = .unlocked ∧ (acquireEdge t s).cyu.num = s.cyu.num := by
  have hc := lockEdge_cyu_of_end (s := modCyu (·.acquired 3 t) s) (t := t) (.inl hend)
  rw [acquireEdge_third h ha, hc]
  exact ⟨rfl, rfl⟩

theorem realEdge_of_unlocked {s : State} (t : Nat) (h : s.cyu.st = .unlocked) :
    realEdge t s = modCyu (fun c => { c with st := .acquire, acq := 1, acqLast := t }) s := by
  simp only [realEdge, h]

theorem realEdge_of_acquire {s : State} (t : Nat) (h : s.cyu.st = .acquire) : realEdge t s = acquireEdge t s := by
  simp only [realEdge, h]

/-- Settles O24: an edge in ACQUIRE falls into the cases of Table 2.2 by its spacing and by the acquisition count. -/
theorem acquisitionLocks : Obligations.AcquisitionLocks := by
  intro s at_ low high hlive hrole hl hh
  have he := exec_cycinEdge at_ hlive hrole hl hh
  refine ⟨fun hst => ?_, fun hst => ?_⟩
  · rw [realEdge_of_unlocked (s := s.at_ at_) _ hst] at he
    exact ⟨_, he, rfl⟩
  rw [realEdge_of_acquire (s := s.at_ at_) _ hst] at he
  refine ⟨fun ⟨hgood, ha⟩ => ?_, fun hoff => ?_, fun ⟨hgood, ha, hnum, hend⟩ => ?_, fun ⟨hgood, ha, hend⟩ => ?_⟩
  · rw [acquireEdge_second (s := s.at_ at_) hgood ha] at he
    exact ⟨_, he, rfl⟩
  · rw [acquireEdge_of_not_onBeat (s := s.at_ at_) hoff] at he
    exact ⟨_, he, rfl⟩
  · exact ⟨_, he, acquireEdge_first_lock (s := s.at_ at_) hgood ha hnum hend⟩
  · exact ⟨_, he, acquireEdge_after_end (s := s.at_ at_) hgood ha hend⟩

/-! ## Edges of a worker (R29-R31) -/

@[simp] theorem passDown_sameCycle (m : LinkMsg) (s : State) : SameCycle s (passDown m s) :=
  foldl_sameCycle (fun _ _ => sendOn_sameCycle _ _ _) _ s

theorem receivedManager_frame (s : State) : ∃ p, receivedManager s = { s with pmu := p } := by
  unfold receivedManager
  split
  · exact ⟨_, rfl⟩
  · exact count_frame _ _ s

/-- A part that serves a manager takes a message that carries its MTERM or a higher one (13 R346). -/
theorem fromManager_of_serving {s : State} {mterm : Nat} (f : State → State) (hm : s.hier.mterm ≤ mterm)
    (hs : s.hier.mst = .serving) : ∃ u, fromManager mterm f s = f u ∧ SameCycle s u :=
  ⟨{ s with hier := { s.hier with mterm := mterm, heard := s.now } },
    by simp [fromManager, Nat.not_lt.2 hm, isActive, leaveHold, hs], rfl, rfl⟩

theorem queueEdge_cyu (t : Nat) (m : EdgeMsg) (s : State) :
    (queueEdge t m s).cyu = { s.cyu with msgs := s.cyu.msgs ++ [(t + 2500 - s.cyu.skew, m)] } := rfl

@[simp] theorem countHeld_sameCycle (s : State) : SameCycle s (countHeld s) := by
  simp [countHeld]

theorem cycle_eq_none {s : State} (h : s.cyu.st = .unlocked) : s.cycle = none := by
  simp [State.cycle, h]

/-- The unit of a worker that has applied the edge message `m` at `t`. -/
def Cyu.followed (c : Cyu) (t : Nat) (m : EdgeMsg) : Cyu :=
  { c with
    st := .locked, trellis := true, num := some m.num, held := m.held, run := 0, ivals := addIval c t, counts := !m.held,
    lastReal := t, base := t, lastAdv := t }

/-- An edge message of a manager in LOCKED or CYCLE_LOST locks the worker with its number and held flag. -/
theorem applyEdge_locks {m : EdgeMsg} (t : Nat) (s : State) (hm : m.state = 2 ∨ m.state = 3) :
    (applyEdge t m s).now = s.now ∧ (applyEdge t m s).cyu = s.cyu.followed t m := by
  have h : ¬ (m.state == 0 || m.state == 1) = true := by
    rcases hm with h | h <;> simp [h]
  unfold applyEdge
  rw [if_neg h]
  dsimp only
  split <;> simp [Cyu.followed]

/-- An edge message of a manager in UNLOCKED or ACQUIRE leaves the worker without a number. -/
theorem applyEdge_unlocks {m : EdgeMsg} (t : Nat) (s : State) (hm : m.state = 0 ∨ m.state = 1) :
    (applyEdge t m s).cycle = none ∧ (applyEdge t m s).cyu.msgs = s.cyu.msgs := by
  have h : (m.state == 0 || m.state == 1) = true := by
    rcases hm with h | h <;> simp [h]
  unfold applyEdge
  rw [if_pos h]
  split
  · have hc := (cycUnlock_now_cyu t s).2
    exact ⟨cycle_eq_none (by rw [hc]; rfl), by rw [hc]; rfl⟩
  · next hnone => exact ⟨by simpa using hnone, rfl⟩

/-- A serving worker queues the edge message on a state that has moved to the message's instant. -/
theorem exec_edgeMessage {s : State} {m : EdgeMsg} (at_ : Nat) (hrole : roleOf s = .worker) (hlink : linkLive s = true)
    (hport : (managerPort s).isSome = true) (hterm : s.hier.mterm ≤ m.mterm) (hserving : s.hier.mst = .serving) :
    ∃ u : State, exec (.edgeMessage at_ m) s = .next (passDown (.edge m) (queueEdge u.now m u)) ∧
      u.now = max s.now at_ ∧ u.cyu = s.cyu := by
  obtain ⟨p, hp⟩ := receivedManager_frame (s.at_ at_)
  obtain ⟨u, hu, hnow, hcyu⟩ := fromManager_of_serving (s := receivedManager (s.at_ at_))
    (fun s => passDown (.edge m) (queueEdge s.now m s)) (by simpa [hp] using hterm) (by simpa [hp] using hserving)
  refine ⟨u, ?_, hnow.trans (by simp [hp]), hcyu.trans (by simp [hp])⟩
  show execEdgeMessage at_ m s = _
  simp [execEdgeMessage, hlink, hrole, hport, hu]

/-- A worker's oldest edge takes effect at its instant, on a state whose queue holds the later edges. -/
theorem exec_edgeApply {s : State} {due : Nat} {m : EdgeMsg} {rest : List (Nat × EdgeMsg)} (hrole : roleOf s = .worker)
    (hlive : cyuLive s = true) (hq : s.cyu.msgs = (due, m) :: rest) :
    ∃ u : State, exec .edgeApply s = .next (applyEdge (max s.now due) m u) ∧ u.now = max s.now due ∧ u.cyu.msgs = rest := by
  refine ⟨if m.num % 1024 == 0 then measureLatency (modCyu (fun c => { c with msgs := rest }) (s.at_ due))
    else modCyu (fun c => { c with msgs := rest }) (s.at_ due), ?_, ?_, ?_⟩
  · show execEdgeApply s = _
    simp [execEdgeApply, hq, hlive, hrole]
  · split <;> rfl
  · split <;> rfl

/-- Settles O26: a serving worker queues the edge for the instant of R30, and what the message says is taken at that instant. -/
theorem workerFollowsEdges : Obligations.WorkerFollowsEdges := by
  intro s hrole
  refine ⟨fun at_ m hlink hport hterm hserving => ?_, fun due m rest hq hlive => ?_⟩
  · obtain ⟨u, he, hnow, hcyu⟩ := exec_edgeMessage at_ hrole hlink hport hterm hserving
    exact ⟨_, he, by simp [queueEdge_cyu, hnow, hcyu]⟩
  · obtain ⟨u, he, hnow, hmsgs⟩ := exec_edgeApply hrole hlive hq
    refine ⟨fun hm => ⟨_, he, ?_⟩, fun hm => ⟨_, he, ?_⟩⟩
    · obtain ⟨hnow', hcyu⟩ := applyEdge_locks (max s.now due) u hm
      rw [hcyu, hnow']
      exact ⟨rfl, rfl, rfl, hmsgs, hnow⟩
    · obtain ⟨hcycle, hmsgs'⟩ := applyEdge_unlocks (max s.now due) u hm
      exact ⟨hmsgs'.trans hmsgs, hcycle⟩

end Sys2Proof.Machine

/-! # Packets, their admission and the management services (03, 16, 17)

An entry fetch passes the turn on or takes one entry. A packet that passes its checks lands as an item, is charged and comes to its
list: each step has its frame, and the statement on admission composes them. A management service is run on the answers it has
had: a check that holds drops out of it, and what is left is its reply or its wait. -/

namespace Sys2Proof.Machine

set_option Elab.async false

/-! ## Fetch and staging (03 R56, 04 R82) -/

/-- An entry fetch does nothing, or reads the entry of the pair whose turn it is. -/
theorem execSubmissionEntryFetch_cases (entry segs : Bytes) (s : State) :
    execSubmissionEntryFetch entry segs s = .next s ∨
      ∃ fn q p, execSubmissionEntryFetch entry segs s = .next (fetchEntry fn q p entry segs s) := by
  unfold execSubmissionEntryFetch
  split
  · exact .inl rfl
  · split
    · exact .inl rfl
    · split
      · exact .inr ⟨_, _, _, rfl⟩
      · exact .inl rfl

theorem fetchEntry_of_full {s : State} {entry segs : Bytes} (fn q : Nat) (p : Queue)
    (h : stagingSize < staged s + delivered entry segs) : fetchEntry fn q p entry segs s = passTurn fn q s :=
  if_neg (Nat.not_le.2 h)

/-- Only a packet that staging can hold is fetched. -/
theorem staged_le_of_fetched_ne {s t : State} {entry segs : Bytes} (he : exec (.submissionEntryFetch entry segs) s = .next t)
    (hne : t.hfe.fetched ≠ s.hfe.fetched) : staged s + delivered entry segs ≤ stagingSize := by
  replace he : execSubmissionEntryFetch entry segs s = .next t := he
  rcases execSubmissionEntryFetch_cases entry segs s with h | ⟨fn, q, p, h⟩
  · cases h.symm.trans he
    exact absurd rfl hne
  · cases h.symm.trans he
    refine Nat.not_lt.1 fun hfull => hne ?_
    rw [fetchEntry_of_full fn q p hfull]
    rfl

/-- The turn goes to an element at or after it where there is one. -/
theorem le_of_turn {n i : Nat} {l : List Nat} (hl : ∃ k ∈ l, n ≤ k) (h : turn n l = some i) : n ≤ i := by
  obtain ⟨k, hk, hnk⟩ := hl
  cases hf : l.find? (fun i => n ≤ i) with
  | none => exact absurd hnk (by simpa using List.find?_eq_none.1 hf k hk)
  | some j =>
    have hj : n ≤ j := by simpa using List.find?_some hf
    have hji : j = i := by simpa [turn, hf] using h
    exact hji ▸ hj

theorem turn_of_nextPair {s : State} {fn q : Nat} (h : nextPair s = some (fn, q)) :
    turn s.hfe.rrFn (fetchFns s) = some fn := by
  obtain ⟨f, hf, hq⟩ := Option.bind_eq_some_iff.1 h
  obtain ⟨_, -, heq⟩ := Option.map_eq_some_iff.1 hq
  cases heq
  exact hf

/-- Settles O5: the one change of a fetch that staging cannot take is `passTurn`, which sends the turn past the function. -/
theorem entryFetchWaitsForStaging : Obligations.EntryFetchWaitsForStaging := by
  intro s entry segs
  refine ⟨fun t => staged_le_of_fetched_ne, fun fn q p hnext hq hlive hentry hsegs hroom hfull => ?_⟩
  refine ⟨passTurn fn q s, ?_, rfl, fun f r => ⟨rfl, rfl⟩, fun hlater f r hn => ?_⟩
  · show execSubmissionEntryFetch entry segs s = _
    simp [execSubmissionEntryFetch, hnext, hq, hlive, hentry, hsegs, hroom, fetchEntry_of_full fn q p hfull]
  · exact le_of_turn hlater (turn_of_nextPair hn)

/-! ## Admission of a packet (03 R50, R53, 05 R103, R111) -/

theorem takeNext_frame (h : Header) (s : State) :
    ∃ l, takeNext h s = (if h.ord then (tget s.dsp.flows h.flow { head := 0, next := 0 }).next else 0,
      { s with dsp := { s.dsp with flows := l } }) := by
  unfold takeNext
  split
  · exact ⟨_, rfl⟩
  · exact ⟨_, rfl⟩

theorem chargeQuota_frame (it : Item) (s : State) : ∃ l, chargeQuota it s = { s with hfe := { s.hfe with ctxs := l } } := by
  unfold chargeQuota
  split
  · exact ⟨_, rfl⟩
  · exact ⟨_, rfl⟩

@[simp] theorem chargeQuota_dsp (it : Item) (s : State) : (chargeQuota it s).dsp = s.dsp := by
  obtain ⟨l, h⟩ := chargeQuota_frame it s
  rw [h]

/-- A context with a quota pays one unit for the item. -/
theorem getCtx_chargeQuota {it : Item} {s : State} {t : Nat} {c : Ctx} (ho : it.owner = some t) (hc : getCtx s t = some c)
    (hq : c.quota ≠ 0) : getCtx (chargeQuota it s) t = some { c with left := c.left - 1 } := by
  unfold getCtx at hc
  simp [chargeQuota, ho, getCtx, hc, hq]

theorem enterList_frame (id : Nat) (s : State) : ∃ d p, enterList id s = { s with dsp := d, pmu := p } := by
  unfold enterList
  split
  · exact ⟨_, _, rfl⟩
  · next it _ =>
    split
    · obtain ⟨p, hp⟩ := count_frame (0x30 + it.level) it.owner
        (modItem id (fun i => { i with arr := s.dsp.arr + 1 }) { s with dsp := { s.dsp with arr := s.dsp.arr + 1 } })
      exact ⟨_, p, hp⟩
    · exact ⟨_, _, rfl⟩

theorem getItem_enterList_ne {id j : Nat} (hj : j ≠ id) (s : State) : getItem (enterList id s) j = getItem s j := by
  unfold enterList
  split
  · rfl
  · split
    · simp [getItem, tfind_tmod_ne _ _ hj]
    · rfl

/-- A ready item that may stand on its list has the next number of arrival; another one keeps its own. -/
theorem getItem_enterList_self {id : Nat} {it : Item} {s : State} (hg : getItem s id = some it) :
    getItem (enterList id s) id =
      some { it with arr := if it.phase == .ready && it.arr == 0 && mayEnter s it then s.dsp.arr + 1 else it.arr } := by
  unfold enterList
  rw [hg]
  dsimp only
  split
  · unfold getItem at hg
    simp [getItem, hg]
  · exact hg

/-- Steps 5 to 8 read the contexts, the hierarchy and the cycle unit alone. -/
theorem Admitted.congr {s t : State} {it : Item} (hctx : t.hfe.ctxs = s.hfe.ctxs) (hhier : t.hier = s.hier)
    (hcyu : t.cyu = s.cyu) (h : Admitted s it) : Admitted t it := by
  have hd (n d : Nat) : deadline t n d = deadline s n d := by simp [deadline, State.cycle, hcyu]
  have hc (c : Ctx) : admitCtx t it c = admitCtx s it c := by
    simp [admitCtx, epochOk, epochOf, quotaCheck, State.cycle, hd, hhier, hcyu]
  simpa [Admitted, admitPf, getCtx, hctx, hd, hc] using h

theorem admitItem_of_admitted {s : State} {id : Nat} {it : Item} (hg : getItem s id = some it) (h : Admitted s it) :
    admitItem id s = admitCharged id it s := by
  unfold Admitted at h
  unfold admitItem
  rw [hg]
  dsimp only
  cases ho : it.owner with
  | none => simp_all
  | some t =>
    rw [ho] at h
    obtain ⟨c, hc, hpass⟩ := h
    simp [hc, hpass]

/-- The state with item `it` at entry `id`, before its admission: the packet has left the fetched ones, and an ordered item has
taken its number. -/
def landed (id : Nat) (it : Item) (fetched : List Fetched) (flows : Table Flow) (s : State) : State :=
  { s with
    hfe := { s.hfe with fetched := fetched }
    dsp := { s.dsp with flows := flows, items := tput s.dsp.items id it } }

theorem getItem_landed_self (id : Nat) (it : Item) (fetched : List Fetched) (flows : Table Flow) (s : State) :
    getItem (landed id it fetched flows s) id = some it :=
  tfind_tput_self _ _ _

theorem getItem_landed_ne {id j : Nat} (hj : j ≠ id) (it : Item) (fetched : List Fetched) (flows : Table Flow) (s : State) :
    getItem (landed id it fetched flows s) j = getItem s j :=
  tfind_tput_ne _ _ hj

/-- The item that a packet becomes, with NEXT of its flow where it is ordered. -/
def arriving (s : State) (f : Fetched) (pkt : Bytes) : Item :=
  itemOf s f pkt
    (if (headerOf pkt).ord then (tget s.dsp.flows (headerOf pkt).flow { head := 0, next := 0 }).next else 0)

/-- A packet becomes its item on the state in which that item has landed. -/
theorem makeItem_eq (id : Nat) (f : Fetched) (pkt : Bytes) (fetched : List Fetched) (s : State) :
    ∃ flows, makeItem id f pkt { s with hfe := { s.hfe with fetched := fetched } } =
      admitItem id (landed id (arriving s f pkt) fetched flows s) := by
  obtain ⟨flows, h⟩ := takeNext_frame (headerOf pkt) { s with hfe := { s.hfe with fetched := fetched } }
  refine ⟨flows, ?_⟩
  unfold makeItem
  rw [h]
  rfl

/-- A packet that passes all steps: its item lands, pays its unit and comes to its list. -/
theorem exec_packetAdmission_of_admitted {s : State} {f : Fetched} {pkt : Bytes} {id : Nat}
    (hf : s.hfe.fetched.find? (mayAdmit s) = some f) (hlive : hfeLive s = true) (hlen : pkt.length = f.dlen)
    (hdirect : directCheck s f.fn pkt = none) (hfree : freeEntryNo s = some id) (hadm : Admitted s (arriving s f pkt))
    (hform : admitForm (arriving s f pkt) = none) :
    ∃ flows, exec (.packetAdmission pkt) s = .next (enterList id (modItem id (fun i => { i with phase := .ready, arr := 0 })
      (chargeQuota (arriving s f pkt) (landed id (arriving s f pkt) (removeFirst (mayAdmit s) s.hfe.fetched) flows s)))) := by
  obtain ⟨flows, hmake⟩ := makeItem_eq id f pkt (removeFirst (mayAdmit s) s.hfe.fetched) s
  have hadm' : Admitted (landed id (arriving s f pkt) (removeFirst (mayAdmit s) s.hfe.fetched) flows s)
      (arriving s f pkt) := hadm.congr rfl rfl rfl
  rw [admitItem_of_admitted (getItem_landed_self ..) hadm'] at hmake
  refine ⟨flows, ?_⟩
  show execPacketAdmission pkt s = _
  simp [execPacketAdmission, hf, hlive, hlen, admitPacket, hdirect, hfree, hmake, admitCharged, hform]

@[simp] theorem getCtx_enterList (id t : Nat) (s : State) : getCtx (enterList id s) t = getCtx s t := by
  obtain ⟨d, p, h⟩ := enterList_frame id s
  rw [h]
  rfl

theorem mayEnter_of_not_serial {it : Item} (s : State) (h : (flowSerial it.opcode && it.ord) = false) :
    mayEnter s it = true := by
  simp [mayEnter, h]

/-- Settles O6: the item lands, the charge changes one context, and entering its list gives it its number of arrival. -/
theorem packetAdmissionMakesItem : Obligations.PacketAdmissionMakesItem := by
  intro s f pkt id hf hlive hlen hdirect hfree it hadm hform
  obtain ⟨flows, he⟩ := exec_packetAdmission_of_admitted hf hlive hlen hdirect hfree hadm hform
  let u := landed id it (removeFirst (mayAdmit s) s.hfe.fetched) flows s
  let v := modItem id (fun i => { i with phase := .ready, arr := 0 }) (chargeQuota it u)
  have hv : getItem v id = some it := by
    show tfind (tmod (chargeQuota it u).dsp.items id _) id = _
    rw [tfind_tmod_self, chargeQuota_dsp, show tfind u.dsp.items id = some it from getItem_landed_self ..]
    rfl
  obtain ⟨ctxs, hcharge⟩ := chargeQuota_frame it u
  obtain ⟨d, p, henter⟩ := enterList_frame id v
  have hframe : enterList id v = { s with
      hfe := { s.hfe with fetched := removeFirst (mayAdmit s) s.hfe.fetched, ctxs := ctxs }, dsp := d, pmu := p } := by
    rw [henter]
    simp only [v, hcharge]
    rfl
  refine ⟨enterList id v, _, he, getItem_enterList_self hv, fun hserial => ?_, by rw [hframe], fun j hj => ?_,
    fun ten c ho hc hq => ?_, by rw [hframe]⟩
  · rw [mayEnter_of_not_serial v hserial, show v.dsp.arr = s.dsp.arr by simp [v, u, landed]]
    rfl
  · rw [getItem_enterList_ne hj, getItem, modItem_dsp, chargeQuota_dsp, tfind_tmod_ne _ _ hj]
    exact getItem_landed_ne hj ..
  · rw [getCtx_enterList]
    exact getCtx_chargeQuota ho hc hq

/-! ## Services that run to their end or to a wait -/

/-- A service that ends with a reply completes its item. -/
theorem runOpcode_reply {s t : State} {id op : Nat} {it : Item} {l m : List Answer} {svc : Item → Svc Reply} {r : Reply}
    (h : Running s id op it l) (hs : svc it ⟨l, s⟩ = .ok (r, ⟨m, t⟩)) : runOpcode op id svc s = itemDone id r t := by
  rw [runOpcode_running svc h, hs]

/-- A service that must wait leaves the state in which it waits. -/
theorem runOpcode_wait {s t : State} {id op : Nat} {it : Item} {l : List Answer} {svc : Item → Svc Reply}
    (h : Running s id op it l) (hs : svc it ⟨l, s⟩ = .error (.wait t)) : runOpcode op id svc s = t := by
  rw [runOpcode_running svc h, hs]

theorem Running.isRunning {s : State} {id op : Nat} {it : Item} {l : List Answer} (h : Running s id op it l) :
    it.isRunning = true := by
  obtain ⟨-, ⟨c, k, hp⟩, -⟩ := h
  simp [Item.isRunning, hp]

theorem Laid.zero {it : Item} {n : Nat} {l : List (Nat × Nat)} (h : Laid it n l) : Svc.zero it l = pure () := by
  have hall : l.all (fun e => isZero (slice it.payload e.1 e.2)) = true := List.all_eq_true.2 h.2
  simp [Svc.zero, hall, svc_check_true]

theorem svc_len_of {ok : Bool} (h : ok = true) : Svc.len ok = pure () := by rw [h]; rfl

theorem svc_len_isEmpty {it : Item} (h : it.payload = []) : Svc.len it.payload.isEmpty = pure () := svc_len_of (by simp [h])

theorem svc_range_of {ok : Bool} (h : ok = true) : Svc.range ok = pure () := by rw [h]; rfl

theorem svc_bad_of {ok : Bool} (detail : Nat) (h : ok = true) : Svc.bad ok detail = pure () := by rw [h]; rfl

theorem Laid.lenIs {it : Item} {n : Nat} {l : List (Nat × Nat)} (h : Laid it n l) : Svc.lenIs it n = pure () :=
  svc_len_of (by simp [h.1])

/-! ## The recorder (16 R425, R426) -/

theorem Laid.recorder {it : Item} {n : Nat} {l : List (Nat × Nat)} {range : Bool} (h : Laid it n l) (hr : range = true) :
    Svc.recorder it n l range = pure () := by
  simp [Svc.recorder, svc_len_of, h.1, h.zero, svc_range_of hr]

theorem svcRecRead_reply {it : Item} (s : State) (h : Laid it 8 [(7, 1)]) (h1 : 1 ≤ it.f 4 2) (h256 : it.f 4 2 ≤ 256)
    (hsev : it.f 6 1 ≤ 3) :
    let l := ringFrom s (it.f 0 4) (it.f 4 2) (it.f 6 1)
    svcRecRead it ⟨[], s⟩ = .ok (.done (toBE 4 (ringNext (it.f 0 4) l) ++ toBE 2 l.length ++ zeros 2 ++
      (l.map (·.bytes)).flatten), ⟨[], s⟩) := by
  intro l
  rw [svcRecRead, h.recorder (by simp [h1, h256, hsev]), ← List.length_map (f := (·.bytes)) (as := l)]
  rfl

theorem svcRecAck_reply {it : Item} (s : State) (h : Laid it 8 [(4, 4)]) :
    svcRecAck it ⟨[], s⟩ =
      .ok (.done (toBE 4 (s.fcr.ring.countP (ackFrees (it.f 0 4))) ++ zeros 4), ⟨[], ringAck (it.f 0 4) s⟩) := by
  rw [svcRecAck, h.recorder rfl]
  rfl

theorem mem_ring_ringAck {upto : Nat} {s : State} {r : Record} :
    r ∈ (ringAck upto s).fcr.ring ↔ r ∈ s.fcr.ring ∧ ¬(r.index ≤ upto ∧ (r.sev = 0 ∨ r.flushed = true)) := by
  have hfrees : ackFrees upto r = true ↔ r.index ≤ upto ∧ (r.sev = 0 ∨ r.flushed = true) := by
    simp [ackFrees]
  simp [ringAck, ← hfrees]

theorem svcJrnlRead_reply {it : Item} (id : Nat) {s : State} (h : Laid it 8 [(6, 2)]) (hslot : it.f 0 4 < journalSlots)
    (h1 : 1 ≤ it.f 4 2) (h256 : it.f 4 2 ≤ 256) (hclosed : s.clc.st ≠ .opened) :
    let l := (journalRun (it.f 0 4) (it.f 4 2)).filterMap (fun k => tfind (journalOf s) k)
    svcJrnlRead id it ⟨[], s⟩ =
      .ok (.done (toBE 4 ((it.f 0 4 + it.f 4 2) % journalSlots) ++ toBE 2 l.length ++ zeros 2 ++ l.flatten), ⟨[], s⟩) := by
  intro l
  rw [svcJrnlRead, h.recorder (by simp [hslot, h1, h256])]
  have hopen : (s.clc.st == .opened) = false := by simpa using hclosed
  simp only [svc_bind, svc_state, svc_pure, hopen, Bool.false_eq_true, if_false]
  rfl

/-! ## Status queries and RESTART (03 R68, 16 R426, 17 R448, R451) -/

theorem svcFaultStatus_reply {it : Item} (s : State) (h : it.payload = []) :
    svcFaultStatus it ⟨[], s⟩ = .ok (.done (faultStatusBytes s), ⟨[], s⟩) := by
  rw [svcFaultStatus, svc_len_isEmpty h]
  rfl

theorem svcUpdateStatus_reply {it : Item} (s : State) (h : it.payload = []) :
    svcUpdateStatus it ⟨[], s⟩ = .ok (.done (updateStatusBytes s), ⟨[], s⟩) := by
  rw [svcUpdateStatus, svc_len_isEmpty h]
  rfl

theorem svcMapQuery_reply {it : Item} (s : State) (h : it.payload = []) :
    svcMapQuery it ⟨[], s⟩ = .ok (.done (mapDigest ((getTenant s it.tenant).bind (·.map))), ⟨[], s⟩) := by
  rw [svcMapQuery, svc_len_isEmpty h]
  rfl

theorem exec_restart {s : State} {id : Nat} {it : Item} (h : Running s id 0x0F11 it []) (hpay : it.payload = [])
    (hactive : isActive s = false) (hupd : s.flash.upd = none) :
    exec (.restart id) s = .next (restart .perst .nothing 0x0701 0 (replyNow id (.bare 0 0) s)) := by
  have hrun := h.isRunning
  obtain ⟨hget, -, hop, hout, -⟩ := h
  show execRestart id s = _
  simp [execRestart, runWhole, hget, hrun, hop, hout, restartItem, hpay, restartRefused, hactive, hupd]

/-! ## Diagnostics (10 R292, R296, 11 R315) -/

theorem svcCurveQuery_reply {it : Item} (s : State) (h : Laid it 8 [(1, 7)]) (hi : it.f 0 1 < 32) :
    let used := toBE 4 (s.vks.slots.countP (fun e => e.2.type == 0x20 + it.f 0 1))
    svcCurveQuery it ⟨[], s⟩ = .ok (.done (match tfind s.flash.curves (it.f 0 1) with
      | none => zeros 36 ++ used
      | some b => sha256 b ++ slice b 4 2 ++ slice b 3 1 ++ [0] ++ used), ⟨[], s⟩) := by
  intro used
  simp only [svcCurveQuery, h.lenIs, h.zero, svc_range_of (decide_eq_true hi), pure_bind, svc_bind, svc_state]
  cases tfind s.flash.curves (it.f 0 1) <;> rfl

theorem svcUnitTest_wait {it : Item} (id : Nat) {s : State} {u : EngineUnit} (h : Laid it 4 [(2, 2)]) (hn : it.f 0 1 < 48)
    (htest : it.f 1 1 = 1) (hu : tfind s.eng.units (it.f 0 1) = some u) (hstuck : u.stuck = false) :
    svcUnitTest id it ⟨[], s⟩ = .error (.wait (itemWait id .event (startTest (it.f 0 1) id s))) := by
  simp [svcUnitTest, h.lenIs, h.zero, svc_bad_of, hn, htest, svc_bind, svc_state, hu, hstuck, svc_pure, Svc.pend]

theorem eight_le_laneLen (it : Item) (l ln : Nat) : 8 ≤ laneLen it l ln := by
  unfold laneLen
  split <;> omega

/-- The operands of LANE_TEST keep to Table 10.10. -/
structure LaneOperands (it : Item) (l ln : Nat) : Prop where
  laid : Laid it (laneLen it l ln) [(6, 2)]
  lane : it.f 0 1 < 24
  curve : it.f 1 1 = 2 ∨ it.f 1 1 = 3 ∨ it.f 2 1 = 0
  size : if it.f 1 1 = 1 then 1 ≤ it.f 3 1 ∧ it.f 3 1 ≤ 32 else it.f 3 1 = 0 ∧ it.f 4 2 = 0
  scalar : it.f 1 1 = 2 → it.f (8 + ln) 1 = 4
  point : it.f 1 1 = 3 → it.f 8 1 = 4

theorem svc_decideOk_nums (id : Nat) (f : State → Answer × State) (l : List Nat) (m : List Answer) (s : State) :
    Svc.decideOk id f ⟨.nums l :: m, s⟩ = .ok (.nums l, ⟨m, s⟩) := rfl

/-- LANE_TEST with its two decisions recorded and its operands in order is the request of its lane alone. -/
theorem svcLaneTest_checked {it : Item} {l ln : Nat} (id : Nat) (s : State) (m : List Answer) (h : LaneOperands it l ln) :
    svcLaneTest id it ⟨.nums [l, ln] :: .nums [] :: m, s⟩ =
      (Svc.awaitOk (askEngine .bne id (laneRequest id it (laneJob it l ln))) >>= fun a => done a.bytes) ⟨m, s⟩ := by
  have hlen : Svc.len (8 ≤ it.payload.length && it.payload.length == laneLen it l ln) = pure () :=
    svc_len_of (by simp [h.laid.1, eight_le_laneLen])
  have hrange : Svc.range (it.f 0 1 < 24 && (it.f 1 1 == 2 || it.f 1 1 == 3 || it.f 2 1 == 0) &&
      (if it.f 1 1 == 1 then 1 ≤ it.f 3 1 && it.f 3 1 ≤ 32 else it.f 3 1 == 0 && it.f 4 2 == 0)) = pure () := by
    refine svc_range_of ?_
    have hsize := h.size
    have hcurve : (it.f 1 1 == 2 || it.f 1 1 == 3 || it.f 2 1 == 0) = true := by simpa [or_assoc] using h.curve
    rw [hcurve]
    by_cases hop : it.f 1 1 = 1
    · rw [if_pos hop] at hsize
      simp [h.lane, hop, hsize]
    · rw [if_neg hop] at hsize
      simp [h.lane, hop, hsize]
  have hform : Svc.range (!(it.f 1 1 == 2 || it.f 1 1 == 3) || it.f (if it.f 1 1 == 2 then 8 + ln else 8) 1 == 4) =
      pure () := by
    refine svc_range_of ?_
    by_cases h2 : it.f 1 1 = 2
    · simp [h2, h.scalar h2]
    · by_cases h3 : it.f 1 1 = 3
      · simp [h3, h.point h3]
      · simp [h2, h3]
  simp only [svcLaneTest, svc_bind, svc_decideOk_nums, Answer.list, List.headD_cons, List.getD_cons_succ, List.getD_cons_zero,
    hlen, h.laid.zero, hrange, hform, svc_pure]

/-! ## The adapter, the ends of an image and of a reload (03 R66, 17 R444-R446) -/

theorem exec_adapterRecord {s : State} {id i : Nat} {it : Item} {e : MapEntry} {p : Bytes} (h : Running s id 0x0E01 it [])
    (hcheck : adapterCheck it = .ok (i, e, p)) (hform : admitForm (innerItem it i e p) = none) :
    exec (.adapterRecord id) s =
      .next (adapterInner id (innerItem it i e p) (modItem id (fun _ => innerItem it i e p) s)) := by
  have hrun := h.isRunning
  obtain ⟨hget, -, hop, hout, -⟩ := h
  show execAdapterRecord id s = _
  simp [execAdapterRecord, hget, hrun, hop, hout, adapterBegin, hcheck, hform]

/-- The image of a running UPDATE has its durable point, or ends the UPDATE where it does not read back (R444, log 80). -/
theorem exec_updateImageWritten {s : State} {u : Updating} (good : Bool) (hu : s.flash.upd = some u) (hst : u.stage = 1) :
    exec (.updateImageWritten good) s = .next (if good then imageWritten u s else updateEnds 0x0105 0x01D2 s) := by
  show execUpdateImageWritten good s = _
  cases good <;> simp [execUpdateImageWritten, hu, hst]

theorem groupOnlineWith_groups (g ver : Nat) (s : State) :
    (groupOnlineWith g ver s).dsp.groups = tput s.dsp.groups g { st := .online, ver := ver } := by
  unfold groupOnlineWith
  generalize (List.range 6).map (fun i => 0x0300 + 6 * g + i) ++ [0x0400 + g] = l
  refine List.foldlRecOn (motive := fun t : State => t.dsp.groups = _) l _ rfl fun t ht n _ => ?_
  split <;> exact ht

/-- A group that no running UPDATE reloads takes the current image (log 68). -/
theorem exec_groupReloadComplete_pass {s : State} {g : Nat × Group}
    (hg : s.dsp.groups.find? (fun e => e.2.st == .offline) = some g) (hroll : groupRolled s g.1 = none) :
    exec (.groupReloadComplete true) s = .next (selfCheck s (groupOnlineWith g.1 s.flash.svc.current.ver s)) := by
  show execGroupReloadComplete true s = _
  simp [execGroupReloadComplete, hg, groupLoaded, hroll]

/-- Settles O46, each clause from the run of its service or its command. -/
theorem managementServicesReply : Obligations.ManagementServicesReply := by
  intro s id it
  refine ⟨fun h h1 h256 hsev hr => ?_, fun h hr => ?_, fun h hslot h1 h256 hclosed hr => ?_,
    fun hpay => ⟨fun hr => ?_, fun hr => ?_, fun hr => ?_, fun hr hactive hupd => exec_restart hr hpay hactive hupd⟩,
    fun h hi hr => ?_, fun u h hn htest hu hstuck hr => ?_, fun l ln out => ?_,
    fun i e p hr hcheck hform => ?_,
    fun u hu hst => ⟨exec_updateImageWritten true hu hst, exec_updateImageWritten false hu hst⟩, fun g hg hroll => ?_⟩
  · exact congrArg _ (runOpcode_reply hr (svcRecRead_reply s h h1 h256 hsev))
  · exact ⟨_, congrArg _ (runOpcode_reply hr (svcRecAck_reply s h)), fun r => mem_ring_ringAck, rfl⟩
  · exact congrArg _ (runOpcode_reply hr (svcJrnlRead_reply id h hslot h1 h256 hclosed))
  · exact congrArg _ (runOpcode_reply hr (svcFaultStatus_reply s hpay))
  · exact congrArg _ (runOpcode_reply hr (svcUpdateStatus_reply s hpay))
  · exact congrArg _ (runOpcode_reply hr (svcMapQuery_reply s hpay))
  · exact congrArg _ (runOpcode_reply hr (svcCurveQuery_reply s h hi))
  · exact congrArg _ (runOpcode_wait hr (svcUnitTest_wait id h hn htest hu hstuck))
  · intro op h hlane hcurve hsize h2 h3
    have hops : LaneOperands it l ln := ⟨h, hlane, hcurve, hsize, h2, h3⟩
    exact ⟨fun hr => congrArg _ (runOpcode_wait hr (svcLaneTest_checked id s [] hops)),
      fun hr => congrArg _ (runOpcode_reply hr (svcLaneTest_checked id s [.ok out] hops))⟩
  · refine ⟨_, exec_adapterRecord hr hcheck hform, ?_, fun j hj => ?_⟩
    · have hget : tfind s.dsp.items id = some it := hr.1
      simp [getItem, hget]
    · simp [getItem, tfind_tmod_ne _ _ hj]
  · exact ⟨_, by rw [groupOnlineWith_groups, tfind_tput_self], exec_groupReloadComplete_pass hg hroll⟩

end Sys2Proof.Machine

/-! # The host front end (04)

A queue pair is found under the key 16 × function + pair, and keys of pairs below 16 differ. Messages and cause bits change the
MSI-X state, the event register and the output alone; so contexts, pairs and items are read through them as if they were not
there. -/

namespace Sys2Proof.Machine

set_option Elab.async false

/-! ## Queue pairs -/

theorem qkey_inj {f r fn q : Nat} (hr : r < 16) (hq : q < 16) (h : qkey f r = qkey fn q) : (f, r) = (fn, q) := by
  unfold qkey at h
  rw [Prod.mk.injEq]
  omega

theorem qkey_div {q : Nat} (fn : Nat) (hq : q < 16) : qkey fn q / 16 = fn := by
  unfold qkey
  omega

theorem getQueue_modQueue_self {s : State} {fn q : Nat} {p : Queue} (f : Queue → Queue) (h : getQueue s fn q = some p) :
    getQueue (modQueue fn q f s) fn q = some (f p) := by
  unfold getQueue at h
  simp [getQueue, h]

theorem getQueue_modQueue_ne {fn q f r : Nat} (g : Queue → Queue) (s : State) (hq : q < 16) (hr : r < 16)
    (h : (f, r) ≠ (fn, q)) : getQueue (modQueue fn q g s) f r = getQueue s f r :=
  tfind_tmod_ne _ _ fun hk => h (qkey_inj hr hq hk)

/-- Every entry of a table with one entry changed is an entry of the table, or the changed one. -/
theorem mem_tmod {α : Type} {t : Table α} {k : Nat} {f : α → α} {e : Nat × α} (h : e ∈ tmod t k f) :
    e ∈ t ∨ ∃ v, (k, v) ∈ t ∧ e = (k, f v) := by
  induction t with
  | nil => exact .inl h
  | cons x r ih =>
    obtain ⟨i, v⟩ := x
    unfold tmod at h
    split at h
    · next hi =>
      subst hi
      rcases List.mem_cons.1 h with rfl | h
      · exact .inr ⟨v, List.mem_cons_self, rfl⟩
      · exact .inl (List.mem_cons_of_mem _ h)
    · rcases List.mem_cons.1 h with rfl | h
      · exact .inl List.mem_cons_self
      · exact (ih h).imp (List.mem_cons_of_mem _) fun ⟨w, hw, he⟩ => ⟨w, List.mem_cons_of_mem _ hw, he⟩

/-! ## Doorbells (R80, R81) -/

theorem doorbell_inRange {s : State} {fn q v : Nat} {p : Queue} (f : Nat → Queue → Queue) (hvis : fnVisible s fn = true)
    (hp : getQueue s fn q = some p) (hst : p.st ≠ .error) (hv : v % 4096 < p.size) :
    doorbell fn q v f s = modQueue fn q (f (v % 4096)) s := by
  simp [doorbell, hp, hvis, hst, hv]

theorem writeRmarks_of_none {s : State} (h : ∀ e ∈ s.hfe.queues, e.2.rmark = false) : writeRmarks s = s := by
  have hnil : s.hfe.queues.filter (fun e => e.2.rmark) = [] := List.filter_eq_nil_iff.2 fun e he => by simp [h e he]
  simp [writeRmarks, hnil]

/-- Settles O2: in range, a doorbell is one `modQueue`, which leaves the pairs under other keys and every RMARK that waits. -/
theorem doorbellSetsPointer : Obligations.DoorbellSetsPointer := by
  intro s fn q v p hq hvis hp hst hv
  refine ⟨⟨modQueue fn q (fun p => { p with sqtail := v % 4096 }) s, ?_, getQueue_modQueue_self _ hp,
      fun f r hr => getQueue_modQueue_ne _ s hq hr, rfl⟩,
    modQueue fn q (fun p => { p with cqhead := v % 4096 }) s, ?_, getQueue_modQueue_self _ hp,
      fun f r hr => getQueue_modQueue_ne _ s hq hr, rfl, fun hno => writeRmarks_of_none fun e he => ?_⟩
  · exact congrArg _ (doorbell_inRange (fun n p => { p with sqtail := n }) hvis hp hst hv)
  · exact congrArg (fun t => Host.Outcome.next (writeRmarks t)) (doorbell_inRange (fun n p => { p with cqhead := n }) hvis hp hst hv)
  · rcases mem_tmod he with he | ⟨w, hw, rfl⟩
    · exact hno e he
    · exact hno (qkey fn q, w) hw

/-! ## Fetch (R76, R82) -/

/-- The state in which entry `f` of pair `q` has been fetched and its events are counted. -/
def entryTaken (fn q : Nat) (f : Fetched) (pmu : Table Counter) (s : State) : State :=
  modQueue fn q (fun p => { p with sqhead := (p.sqhead + 1) % p.size })
    { s with
      hfe := { s.hfe with fetched := s.hfe.fetched ++ [f], rrFn := fn + 1, rrQ := tput s.hfe.rrQ fn (q + 1) }
      pmu := pmu }

theorem fetchEntry_of_room {s : State} {entry segs : Bytes} (fn q : Nat) (p : Queue)
    (h : staged s + delivered entry segs ≤ stagingSize) :
    ∃ pmu, fetchEntry fn q p entry segs s = entryTaken fn q ⟨fn, q, p.sqhead, fldLE entry 12 2, fldLE entry 16 8,
      fldLE entry 24 4, delivered entry segs, false⟩ pmu s := by
  obtain ⟨p1, h1⟩ := count_frame 0x10 (tenantOfVf (passTurn fn q s) fn) (passTurn fn q s)
  obtain ⟨p2, h2⟩ := countN_frame 0x11 ((delivered entry segs + 63) / 64) (tenantOfVf (passTurn fn q s) fn)
    { passTurn fn q s with pmu := p1 }
  refine ⟨p2, (if_pos h).trans ?_⟩
  dsimp only
  rw [h1, h2]
  rfl

/-- Settles O4: with room in staging the fetch appends the entry, advances the head of its pair and passes the turn. -/
theorem entryFetchTakesEntry : Obligations.EntryFetchTakesEntry := by
  intro s entry segs fn q p hnext hp hlive hentry hsegs hroom hstaged
  obtain ⟨pmu, h⟩ := fetchEntry_of_room fn q p hstaged
  refine ⟨entryTaken fn q _ pmu s, ?_, rfl, getQueue_modQueue_self _ hp, rfl⟩
  show execSubmissionEntryFetch entry segs s = _
  simp [execSubmissionEntryFetch, hnext, hp, hlive, hentry, hsegs, hroom, h]

/-! ## Messages and events (R84, R85) -/

theorem sendMsix_of_open {s : State} {fn vec : Nat} (h : msixOpen s fn vec = true) :
    sendMsix fn vec s = count 0x15 none (emit (.msix fn vec) s) := if_pos h

theorem sendMsix_of_masked {s : State} {fn vec : Nat} (h : msixOpen s fn vec = false) :
    sendMsix fn vec s = { s with hfe := { s.hfe with
      msix := tput s.hfe.msix (msixKey fn vec) { tget s.hfe.msix (msixKey fn vec) .reset with pend := true } } } :=
  if_neg (Bool.eq_false_iff.1 h)

theorem sendMsix_frame (fn vec : Nat) (s : State) :
    ∃ o m p, sendMsix fn vec s = { s with out := o, hfe := { s.hfe with msix := m }, pmu := p } := by
  cases h : msixOpen s fn vec with
  | false => exact ⟨_, _, _, sendMsix_of_masked h⟩
  | true =>
    obtain ⟨p, hp⟩ := count_frame 0x15 none (emit (.msix fn vec) s)
    exact ⟨_, _, p, (sendMsix_of_open h).trans hp⟩

@[simp] theorem sendMsix_now (fn vec : Nat) (s : State) : (sendMsix fn vec s).now = s.now := by
  obtain ⟨o, m, p, h⟩ := sendMsix_frame fn vec s
  rw [h]

@[simp] theorem getQueue_sendMsix (fn vec f r : Nat) (s : State) : getQueue (sendMsix fn vec s) f r = getQueue s f r := by
  obtain ⟨o, m, p, h⟩ := sendMsix_frame fn vec s
  rw [h]
  rfl

/-- Where a message goes: out of the part, or into the pending bit of its vector. -/
theorem sendMsix_sent (fn vec : Nat) (s : State) :
    if msixOpen s fn vec then (sendMsix fn vec s).out = s.out ++ [.msix fn vec]
    else (sendMsix fn vec s).out = s.out ∧ (tget (sendMsix fn vec s).hfe.msix (msixKey fn vec) .reset).pend = true := by
  cases h : msixOpen s fn vec with
  | false => simp [sendMsix_of_masked h, tget]
  | true => simp [sendMsix_of_open h]

/-- Settles O9: the expiry is a message of the pair's vector on a state at its instant with the count cleared. -/
theorem ctimExpirySignals : Obligations.CtimExpirySignals := by
  intro s fn q p hp hunsig hctim hvec hlive
  refine ⟨sendMsix fn p.vec (modQueue fn q (fun p => { p with unsig := 0 }) (s.at_ (p.unsigAt + 1000 * p.ctim))), ?_, ?_, ?_,
    ?_⟩
  · show execCtimExpiry fn q s = _
    simp [execCtimExpiry, hp, hunsig, hctim, hvec, hlive]
  · rw [getQueue_sendMsix]
    exact getQueue_modQueue_self _ hp
  · simp
  · exact sendMsix_sent fn p.vec (modQueue fn q (fun p => { p with unsig := 0 }) (s.at_ (p.unsigAt + 1000 * p.ctim)))

/-! ## Configuration writes (R74, R84, R491) -/

/-- Settles O13: each write is one update of the front end; an entry not listed had no message pending. -/
theorem configurationWrites : Obligations.ConfigurationWrites := by
  intro s hperst hpow
  have hlive : ¬ (s.boot.perst || !s.powered) = true := by simp [hperst, hpow]
  refine ⟨fun e n => ⟨_, if_neg hlive, rfl, rfl, rfl⟩, fun w sp => ⟨_, if_neg hlive, rfl, rfl, rfl⟩,
    fun fn e m => if_neg hlive, fun fn vec a d m hnew => ⟨_, if_neg hlive, ?_⟩⟩
  simp [tget, hnew, Msix.reset]

/-! ## Resets, freezes and deletions that end (R91, R96, R97) -/

/-- Settles O12: each command runs its end where its guard holds, and the guards are the hypotheses. -/
theorem waitsForItemsEnd : Obligations.WaitsForItemsEnd := by
  intro s
  refine ⟨fun t c hc hst hnone hgone => ?_, fun t c hc hst hnone hgone => ?_, fun t c hc hfr hnone => ?_,
    fun fn q p hp hdel hne hitems hfetched => ?_⟩
  · show execTenantResetComplete t s = _
    simp [execTenantResetComplete, hc, hst, hnone, hgone]
  · show execTenantResetComplete t s = _
    simp [execTenantResetComplete, hc, hst, hnone, hgone]
  · show execFreezeComplete t s = _
    simp [execFreezeComplete, hc, hfr, hnone]
  · have hpf : (fn == 0 && q == 0) = false := by simpa using hne
    have hall : s.hfe.fetched.all (fun f => !(f.fn == fn && f.q == q)) = true :=
      List.all_eq_true.2 fun f hf => by
        rw [Bool.not_eq_true', Bool.eq_false_iff]
        exact fun h => hfetched f hf (by simpa only [Bool.and_eq_true, beq_iff_eq] using h)
    show execDeleteQueueComplete fn q s = _
    unfold execDeleteQueueComplete
    rw [hp]
    dsimp only
    rw [hdel, hitems, hall, hpf]
    rfl

end Sys2Proof.Machine

/-! # Contexts and queue pairs (04; class 00h)

What a context's change of state and an item's end leave alone is said once each. A reset, as it begins, ends the items of its
context that are on no core; the item that asked for it is on one, so it is there to wait. A service of class 00h is run on the
answers it has had: the checks that hold drop out of it. -/

namespace Sys2Proof.Machine

set_option Elab.async false

/-! ## What a change of state and an item's end leave alone -/

/-- What every step of a fold leaves alone, the fold leaves alone. -/
theorem foldl_keeps {β γ : Type} (g : State → γ) {f : State → β → State} (hf : ∀ s b, g (f s b) = g s) (l : List β)
    (s : State) : g (l.foldl f s) = g s :=
  List.foldlRecOn (motive := fun t => g t = g s) l f rfl fun t ht b _ => (hf t b).trans ht

theorem ctxEvent_frame (c : Ctx) (s : State) :
    ∃ o e m p, ctxEvent c s = { s with out := o, hfe := { s.hfe with events := e, msix := m }, pmu := p } := by
  unfold ctxEvent
  split
  · exact ⟨_, _, _, _, rfl⟩
  · obtain ⟨o, m, p, h⟩ := sendMsix_frame c.vf (eventVec c.vf)
      { s with hfe := { s.hfe with events := tput s.hfe.events c.vf (tget s.hfe.events c.vf 0 ||| BitVec.ofNat 4 (2 ^ 1)) } }
    exact ⟨o, _, m, p, h⟩

@[simp] theorem ctxEvent_dsp (c : Ctx) (s : State) : (ctxEvent c s).dsp = s.dsp := by
  obtain ⟨o, e, m, p, h⟩ := ctxEvent_frame c s
  rw [h]

@[simp] theorem ctxEvent_hier (c : Ctx) (s : State) : (ctxEvent c s).hier = s.hier := by
  obtain ⟨o, e, m, p, h⟩ := ctxEvent_frame c s
  rw [h]

@[simp] theorem ctxEvent_ctxs (c : Ctx) (s : State) : (ctxEvent c s).hfe.ctxs = s.hfe.ctxs := by
  obtain ⟨o, e, m, p, h⟩ := ctxEvent_frame c s
  rw [h]

/-- `t` holds the host front end and the hierarchy of `s`. -/
@[simp] abbrev SameFront (s t : State) : Prop := t.hfe = s.hfe ∧ t.hier = s.hier

theorem foldl_sameFront {β : Type} {f : State → β → State} (hf : ∀ s b, SameFront s (f s b)) (l : List β) (s : State) :
    SameFront s (l.foldl f s) :=
  ⟨foldl_keeps (·.hfe) (fun s b => (hf s b).1) l s, foldl_keeps (·.hier) (fun s b => (hf s b).2) l s⟩

@[simp] theorem enterList_sameFront (id : Nat) (s : State) : SameFront s (enterList id s) := by
  obtain ⟨d, p, h⟩ := enterList_frame id s
  simp [h]

@[simp] theorem enterLists_sameFront (flow : Nat) (s : State) : SameFront s (enterLists flow s) := by
  refine foldl_sameFront (fun s e => ?_) _ s
  split <;> simp

@[simp] theorem wakeGate_sameFront (g : Option Nat) (s : State) : SameFront s (wakeGate g s) := by
  unfold wakeGate
  repeat' split
  all_goals simp

@[simp] theorem freeReserved_sameFront (it : Item) (s : State) : SameFront s (freeReserved it s) := by
  unfold freeReserved
  repeat' split
  all_goals simp

@[simp] theorem dropDraws_sameFront (id : Nat) (s : State) : SameFront s (dropDraws id s) := by
  unfold dropDraws
  dsimp only
  split <;> simp

@[simp] theorem itemDone_sameFront (id : Nat) (r : Reply) (s : State) : SameFront s (itemDone id r s) := by
  unfold itemDone
  split
  · simp
  · dsimp only
    repeat' split
    all_goals simp [endUpdate, closeStream]

@[simp] theorem itemEnd_sameFront (id status detail : Nat) (s : State) : SameFront s (itemEnd id status detail s) :=
  itemDone_sameFront id _ s

@[simp] theorem endItems_sameFront (p : Nat → Item → Bool) (status detail : Nat) (s : State) :
    SameFront s (endItems p status detail s) := by
  refine foldl_sameFront (fun s e => ?_) _ s
  split <;> simp

@[simp] theorem endItems_sameCycle (p : Nat → Item → Bool) (status detail : Nat) (s : State) :
    SameCycle s (endItems p status detail s) := by
  refine foldl_sameCycle (fun s e => ?_) _ s
  split <;> simp

/-! ## Contexts -/

theorem getCtx_modCtx_self {s : State} {t : Nat} {c : Ctx} (f : Ctx → Ctx) (h : getCtx s t = some c) :
    getCtx (modCtx t f s) t = some (f c) := by
  unfold getCtx at h
  simp [getCtx, h]

theorem getCtx_congr {s u : State} (h : u.hfe.ctxs = s.hfe.ctxs) (t : Nat) : getCtx u t = getCtx s t := by
  rw [getCtx, getCtx, h]

@[simp] theorem getCtx_ctxEvent (c : Ctx) (s : State) (t : Nat) : getCtx (ctxEvent c s) t = getCtx s t :=
  getCtx_congr (ctxEvent_ctxs c s) t

@[simp] theorem getCtx_endWaiting (t status detail u : Nat) (s : State) : getCtx (endWaiting t status detail s) u = getCtx s u :=
  getCtx_congr (by simp [endWaiting]) u

/-! ## A reset begins (R91) -/

/-- The context as a reset that begins leaves it. -/
def Ctx.resets (c : Ctx) (detail : Nat) (waiter : Option Nat) (flr : Bool) : Ctx :=
  { c with
    st := .resetting, saved := false, rdetail := detail, waiters := waiter.toList, flr := flr, quarAfter := none }

/-- The context as one more request of the reset in progress leaves it. -/
def Ctx.joins (c : Ctx) (waiter : Option Nat) (flr : Bool) : Ctx :=
  { c with waiters := c.waiters ++ waiter.toList, flr := c.flr || flr }

/-- The context's waiting items have ended, and at an FLR its fetched packets are dropped. -/
def resetClears (t detail : Nat) (flr : Bool) (c : Ctx) (s : State) : State :=
  { endWaiting t 0x0703 detail s with
    hfe := { s.hfe with fetched := s.hfe.fetched.filter (fun f => !(flr && f.fn == c.vf)) } }

theorem beginReset_joins {s : State} {t : Nat} {c : Ctx} (detail : Nat) (waiter : Option Nat) (flr : Bool)
    (hc : getCtx s t = some c) (hst : c.st = .resetting) :
    beginReset t detail waiter flr s = modCtx t (·.joins waiter flr) s := by
  simp [beginReset, hc, hst, Ctx.joins]

theorem beginReset_begins {s : State} {t : Nat} {c : Ctx} (detail : Nat) (waiter : Option Nat) (flr : Bool)
    (hc : getCtx s t = some c) (hst : c.st ≠ .resetting) :
    beginReset t detail waiter flr s =
      ctxEvent c (modCtx t (·.resets detail waiter flr) (resetClears t detail flr c s)) := by
  simp [beginReset, hc, hst, Ctx.resets, resetClears, endWaiting]

/-- A reset begins where the context is not in one, and else is joined. -/
theorem beginReset_cases (t detail : Nat) (waiter : Option Nat) (flr : Bool) (s : State) :
    beginReset t detail waiter flr s = s ∨
      ∃ c, getCtx s t = some c ∧
        (c.st = .resetting ∧ beginReset t detail waiter flr s = modCtx t (·.joins waiter flr) s ∨
          c.st ≠ .resetting ∧ beginReset t detail waiter flr s =
            ctxEvent c (modCtx t (·.resets detail waiter flr) (resetClears t detail flr c s))) := by
  cases hc : getCtx s t with
  | none => exact .inl (by simp [beginReset, hc])
  | some c =>
    by_cases hst : c.st = .resetting
    · exact .inr ⟨c, rfl, .inl ⟨hst, beginReset_joins detail waiter flr hc hst⟩⟩
    · exact .inr ⟨c, rfl, .inr ⟨hst, beginReset_begins detail waiter flr hc hst⟩⟩

@[simp] theorem beginReset_hier_cyu (t detail : Nat) (waiter : Option Nat) (flr : Bool) (s : State) :
    (beginReset t detail waiter flr s).hier = s.hier ∧ (beginReset t detail waiter flr s).cyu = s.cyu := by
  rcases beginReset_cases t detail waiter flr s with h | ⟨c, -, ⟨-, h⟩ | ⟨-, h⟩⟩ <;> simp [h, resetClears, endWaiting]

/-! ## Function resets (R91, R92) -/

theorem removeQueues_hfe (fn : Nat) (s : State) :
    (removeQueues fn s).hfe = { s.hfe with
      queues := s.hfe.queues.filter (fun e => e.1 / 16 != fn), fetched := s.hfe.fetched.filter (fun f => f.fn != fn) } :=
  foldl_keeps (·.hfe) (fun s _ => foldl_keeps (·.hfe) (fun s i => (itemEnd_sameFront i 0 0 s).1) _ s) _ _

@[simp] theorem removeQueues_hier (fn : Nat) (s : State) : (removeQueues fn s).hier = s.hier :=
  foldl_keeps (·.hier) (fun s _ => foldl_keeps (·.hier) (fun s i => (itemEnd_sameFront i 0 0 s).2) _ s) _ _

/-- The pairs of every function of a list removed, one function after the other. -/
def removeAll (l : List Nat) (s : State) : State := l.foldl (fun (s : State) (fn : Nat) => removeQueues fn s) s

theorem removeAll_hier (l : List Nat) (s : State) : (removeAll l s).hier = s.hier :=
  foldl_keeps (·.hier) (fun s fn => removeQueues_hier fn s) l s

theorem removeAll_cyu (l : List Nat) (s : State) : (removeAll l s).cyu = s.cyu :=
  foldl_keeps (·.cyu) (fun s fn => (removeQueues_sameCycle fn s).2) l s

theorem mem_queues_of_removeAll {l : List Nat} {s : State} {e : Nat × Queue} (he : e ∈ (removeAll l s).hfe.queues) :
    e ∈ s.hfe.queues := by
  induction l generalizing s with
  | nil => exact he
  | cons a l ih =>
    have he' := ih (s := removeQueues a s) he
    rw [removeQueues_hfe] at he'
    exact (List.mem_filter.1 he').1

/-- No pair of a function of the list stays. -/
theorem div_ne_of_mem_removeAll {l : List Nat} {fn : Nat} {s : State} {e : Nat × Queue} (hfn : fn ∈ l)
    (he : e ∈ (removeAll l s).hfe.queues) : e.1 / 16 ≠ fn := by
  induction l generalizing s with
  | nil => cases hfn
  | cons a l ih =>
    rcases List.mem_cons.1 hfn with rfl | hl
    · have he' := mem_queues_of_removeAll (s := removeQueues fn s) he
      rw [removeQueues_hfe] at he'
      simpa using (List.mem_filter.1 he').2
    · exact ih (s := removeQueues a s) hl he

theorem tfind_eq_none {α : Type} {t : Table α} {k : Nat} (h : ∀ e ∈ t, e.1 ≠ k) : tfind t k = none := by
  induction t with
  | nil => rfl
  | cons e r ih =>
    rw [tfind_cons, if_neg (h e List.mem_cons_self)]
    exact ih fun x hx => h x (List.mem_cons_of_mem _ hx)

/-- An FLR of a visible VF: its context's reset has begun in `u`, and its rings and messages return to their defaults. -/
theorem exec_vfFlr {s : State} {vf : Nat} (hvf : 1 ≤ vf) (hvis : fnVisible s vf = true) :
    ∃ u, exec (.vfFlr vf) s = .next (resetMsix vf (zeroRings vf u)) :=
  ⟨_, if_neg (by simp [hvis, Nat.ne_of_gt hvf])⟩

/-- A reset by FLR has begun for every context. -/
def flrAll (s : State) : State := s.hfe.ctxs.foldl (fun (s : State) (e : Nat × Ctx) => beginReset e.1 2 none true s) s

theorem flrAll_hier (s : State) : (flrAll s).hier = s.hier :=
  foldl_keeps (·.hier) (fun s (e : Nat × Ctx) => (beginReset_hier_cyu e.1 2 none true s).1) _ s

theorem flrAll_cyu (s : State) : (flrAll s).cyu = s.cyu :=
  foldl_keeps (·.cyu) (fun s (e : Nat × Ctx) => (beginReset_hier_cyu e.1 2 none true s).2) _ s

/-- The PF's FLR once resets have begun and the pairs of the functions of `l` are gone: VF Enable, GEN_AQCFG EN and the host's
copies are cleared. -/
def pfCleared (l : List Nat) (s : State) : State :=
  resetMsix 0 { removeAll l (flrAll s) with
    hfe := { (removeAll l (flrAll s)).hfe with vfen := false, numvf := 0 }
    boot := { (removeAll l (flrAll s)).boot with aqcfg := (removeAll l (flrAll s)).boot.aqcfg &&& 0x7FFFFFFF }
    host := .reset }

theorem exec_pfFlr (s : State) : exec .pfFlr s = .next (pfCleared (List.range 65) s) := by
  show execPfFlr s = _
  simp only [execPfFlr, pfCleared, removeAll, flrAll]

theorem getQueue_pfCleared {l : List Nat} {fn q : Nat} (s : State) (hfn : fn ∈ l) (hq : q < 16) :
    getQueue (pfCleared l s) fn q = none :=
  tfind_eq_none fun e he hk => div_ne_of_mem_removeAll (s := flrAll s) hfn he (by rw [hk, qkey_div fn hq])

theorem pfCleared_hier (l : List Nat) (s : State) : (pfCleared l s).hier = s.hier :=
  (removeAll_hier l _).trans (flrAll_hier s)

theorem pfCleared_cyu (l : List Nat) (s : State) : (pfCleared l s).cyu = s.cyu :=
  (removeAll_cyu l _).trans (flrAll_cyu s)

theorem getQueue_zeroRings {s : State} {fn q : Nat} {p : Queue} (hq : q < 16) (h : getQueue (zeroRings fn s) fn q = some p) :
    p.sqtail = 0 ∧ p.sqhead = 0 ∧ p.cqhead = 0 ∧ p.cqtail = 0 ∧ p.phase = true := by
  simp only [getQueue, zeroRings, modQueuesOf, tfind_tmap, qkey_div fn hq, beq_self_eq_true, if_true] at h
  obtain ⟨w, -, rfl⟩ := Option.map_eq_some_iff.1 h
  exact ⟨rfl, rfl, rfl, rfl, rfl⟩

/-- Settles O10: `zeroRings` has the last word on a VF's pairs; on the PF each function's pairs are removed, and neither that nor
the resets it begins reach the hierarchy or the cycle unit. -/
theorem functionResets : Obligations.FunctionResets := by
  intro s
  refine ⟨fun vf hvf hvis => ?_, _, exec_pfFlr s, rfl, rfl, fun fn q hfn hq => ?_,
    congrArg Hier.placed (pfCleared_hier ..), pfCleared_cyu ..⟩
  · obtain ⟨u, he⟩ := exec_vfFlr hvf hvis
    exact ⟨_, he, fun q p hq hp => getQueue_zeroRings (s := u) hq hp⟩
  · exact getQueue_pfCleared s (List.mem_range.2 (Nat.lt_succ_of_le hfn)) hq

end Sys2Proof.Machine

/-! # The services of class 00h (04 R72-R100) -/

namespace Sys2Proof.Machine

set_option Elab.async false

/-! ## Services that end early, and their context -/

/-- A service that refuses ends its item with its status. -/
theorem runOpcode_refuses {s t : State} {id op st d : Nat} {it : Item} {l : List Answer} {svc : Item → Svc Reply}
    (h : Running s id op it l) (hs : svc it ⟨l, s⟩ = .error (.reply (.bare st d) t)) :
    runOpcode op id svc s = itemEnd id st d t := by
  rw [runOpcode_running svc h, hs]
  rfl

theorem svc_context_of {s : State} {it : Item} {c : Ctx} (l : List Answer) (hc : getCtx s it.tenant = some c) :
    Svc.context it ⟨l, s⟩ = .ok (c, ⟨l, s⟩) := by
  simp only [Svc.context, svc_bind, svc_state, hc, svc_pure]

/-! ## ATTACH (R72, R94, Table 4.6) -/

/-- The fields of ATTACH keep to their ranges. -/
structure AttachFields (it : Item) : Prop where
  laid : Laid it 24 [(2, 2), (10, 2), (17, 7)]
  maxpri : it.f 1 1 ≤ 31
  fcount : 1 ≤ it.f 6 2
  infl : 1 ≤ it.f 8 2 ∧ it.f 8 2 ≤ 8192
  quota : it.f 12 4 ≠ 0xFFFFFFFF
  hold : it.f 16 1 ≤ 1

theorem AttachFields.range {it : Item} (h : AttachFields it) :
    Svc.range (it.f 1 1 ≤ 31 && 1 ≤ it.f 6 2 && 1 ≤ it.f 8 2 && it.f 8 2 ≤ 8192 && it.f 12 4 != max32 && it.f 16 1 ≤ 1) =
      pure () :=
  svc_range_of (by simp [h.maxpri, h.fcount, h.infl, h.hold, max32, h.quota])

theorem svcAttach_reply {s : State} {it : Item} (h : AttachFields it) (hr : attachRefusal s it = none) :
    svcAttach it ⟨[], s⟩ = .ok (.done [], ⟨[], attachCtx it s⟩) := by
  simp only [svcAttach, h.laid.lenIs, h.laid.zero, h.range, svc_pure, svc_bind, svc_state, hr, svc_update]
  rfl

theorem svcAttach_refuses {s : State} {it : Item} {d : Nat} (h : AttachFields it) (hr : attachRefusal s it = some d) :
    svcAttach it ⟨[], s⟩ = .error (.reply (.bare 0x0105 d) s) := by
  simp only [svcAttach, h.laid.lenIs, h.laid.zero, h.range, svc_pure, svc_bind, svc_state, hr]
  rfl

@[simp] theorem askUrgent_hfe (i : Nat) (u : SeedUse) (s : State) : (askUrgent i u s).hfe = s.hfe := by
  unfold askUrgent takeReserve
  dsimp only
  split
  · rfl
  · cases s.ent.reserve <;> rfl

@[simp] theorem instantiate_hfe (i tenant : Nat) (s : State) : (instantiate i tenant s).hfe = s.hfe := by
  simp [instantiate, setInst]

theorem attachCtx_ctxs (it : Item) (s : State) :
    (attachCtx it s).hfe.ctxs = tput s.hfe.ctxs it.tenant (newCtx it (freeInst s)) := by
  simp [attachCtx]

/-- Settles O28: the service reaches `attachCtx`, which lists the new context under its tenant. -/
theorem attachBuildsContext : Obligations.AttachBuildsContext := by
  intro s id it hrun hlaid hpri hfc hi1 hi2 hq hhold hr
  have hf : AttachFields it := ⟨hlaid, hpri, hfc, ⟨hi1, hi2⟩, hq, hhold⟩
  refine ⟨attachCtx it s, newCtx it (freeInst s), congrArg _ (runOpcode_reply hrun (svcAttach_reply hf hr)), ?_, rfl, rfl, rfl,
    rfl, rfl, rfl, rfl, rfl, fun u hu => ?_⟩
  · rw [getCtx, attachCtx_ctxs, tfind_tput_self]
  · rw [getCtx, attachCtx_ctxs, tfind_tput_ne _ _ hu, getCtx]

/-- The tenant is placed on this part. -/
def PlacedHere (s : State) (it : Item) : Prop := ∃ p, tfind s.hier.placed it.tenant = some p ∧ p.here = true

/-- Check 5 fails: the VF is out of range or bound. -/
def VfTaken (s : State) (it : Item) : Prop := 64 < it.f 0 1 ∨ (tenantOfVf s (it.f 0 1)).isSome = true

/-- Check 6 fails: the share leaves the tenants' flows or meets another share. -/
def ShareTaken (s : State) (it : Item) : Prop :=
  it.f 4 2 < 256 ∨ 32768 < it.f 4 2 + it.f 6 2 ∨
    ∃ e ∈ s.hfe.ctxs, it.f 4 2 < e.2.fbase + e.2.fcount ∧ e.2.fbase < it.f 4 2 + it.f 6 2

theorem placedHere_iff {s : State} {it : Item} :
    PlacedHere s it ↔ ((tfind s.hier.placed it.tenant).map (·.here)).getD false = true := by
  unfold PlacedHere
  cases tfind s.hier.placed it.tenant <;> simp

theorem vfTaken_iff {s : State} {it : Item} :
    VfTaken s it ↔ (decide (64 < it.f 0 1) || (tenantOfVf s (it.f 0 1)).isSome) = true := by
  simp [VfTaken]

theorem shareTaken_iff {s : State} {it : Item} :
    ShareTaken s it ↔ (decide (it.f 4 2 < 256) || decide (32768 < it.f 4 2 + it.f 6 2) ||
      s.hfe.ctxs.any (fun e => overlaps (it.f 4 2) (it.f 6 2) e.2)) = true := by
  simp [ShareTaken, overlaps, or_assoc]

open Classical in
/-- Checks 2 to 6, the first that fails. -/
theorem attachRefusal_eq (s : State) (it : Item) :
    attachRefusal s it =
      if ¬ PlacedHere s it then some 0x0101
      else if (getCtx s it.tenant).isSome then some 0x0104
      else if 64 ≤ s.hfe.ctxs.length then some 0x0105
      else if VfTaken s it then some 0x0102
      else if ShareTaken s it then some 0x0103
      else none := by
  simp only [attachRefusal, placedHere_iff, vfTaken_iff, shareTaken_iff, Bool.not_eq_true', Bool.not_eq_true]

/-- Settles O29: the checks of `attachRefusal` are those of R94, in its order. -/
theorem attachRefusesInOrder : Obligations.AttachRefusesInOrder := by
  intro s id it hrun hlaid hpri hfc hi1 hi2 hq hhold placed vfBad flowBad refuses
  have hf : AttachFields it := ⟨hlaid, hpri, hfc, ⟨hi1, hi2⟩, hq, hhold⟩
  have refuse (d : Nat) (h : attachRefusal s it = some d) : refuses d :=
    congrArg _ (runOpcode_refuses hrun (svcAttach_refuses hf h))
  have hplaced : placed ↔ PlacedHere s it := Iff.rfl
  have hvf : vfBad ↔ VfTaken s it := Iff.rfl
  have hflow : flowBad ↔ ShareTaken s it := Iff.rfl
  rw [hplaced, hvf, hflow]
  refine ⟨fun h => ?_, fun h hc => ?_, fun h hc hn => ?_, fun h hc hn hv => ?_, fun h hc hn hv hs => ?_⟩ <;>
    refine refuse _ ?_ <;> rw [attachRefusal_eq]
  · simp [h]
  · simp [h, hc]
  · simp [h, hc, hn]
  · simp [h, hc, Nat.not_le.2 hn, hv]
  · simp [h, hc, Nat.not_le.2 hn, hv, hs]

/-! ## CREATE_QUEUE (R75, R96) -/

/-- The state that a new pair of a context begins in. -/
def firstState (c : Option Ctx) : QState :=
  match c with
  | some c => if c.st == .frozen then .frozen else .enabled
  | none => .enabled

/-- The context of a function that is bound to one. -/
def ctxOfFn (s : State) (fn : Nat) : Option Ctx := (tenantOfVf s fn).bind (getCtx s)

/-- The pair that a CREATE_QUEUE describes. -/
def createdPair (s : State) (it : Item) : Queue :=
  newQueue (firstState (ctxOfFn s (it.f 0 1))) (it.f 2 2) (it.f 4 1) (it.f 5 1) (it.f 6 1) (it.f 7 1) (it.f 8 8) (it.f 16 8)

/-- The operands of CREATE_QUEUE keep to their ranges. -/
structure PairFields (it : Item) : Prop where
  laid : Laid it 32 [(24, 8)]
  fn : it.f 0 1 ≤ 64
  pair : it.f 1 1 ≤ 15
  size : ringSizeOk (it.f 2 2) = true
  pri : it.f 4 1 ≤ 31
  vec : it.f 5 1 = 0xFF ∨ it.f 5 1 < if it.f 0 1 = 0 then 128 else 30
  sqbase : it.f 8 8 % 4096 = 0
  cqbase : it.f 16 8 % 4096 = 0

theorem PairFields.range {it : Item} (h : PairFields it) :
    Svc.range (it.f 0 1 ≤ 64 && it.f 1 1 ≤ 15 && ringSizeOk (it.f 2 2) && it.f 4 1 ≤ 31 &&
      (it.f 5 1 == 0xFF || it.f 5 1 < (if it.f 0 1 == 0 then 128 else 30)) && it.f 8 8 % 4096 == 0 && it.f 16 8 % 4096 == 0) =
      pure () :=
  svc_range_of (by simp [h.fn, h.pair, h.size, h.pri, h.vec, h.sqbase, h.cqbase])

theorem svcCreateQueue_reply {s : State} {it : Item} (h : PairFields it) (hne : (it.f 0 1, it.f 1 1) ≠ (0, 0))
    (hnew : getQueue s (it.f 0 1) (it.f 1 1) = none) (hfn : it.f 0 1 = 0 ∨ (ctxOfFn s (it.f 0 1)).isSome = true)
    (hpri : ∀ c, ctxOfFn s (it.f 0 1) = some c → it.f 4 1 ≤ c.maxpri) :
    svcCreateQueue it ⟨[], s⟩ = .ok (.done [], ⟨[], addQueue (it.f 0 1) (it.f 1 1) (createdPair s it) s⟩) := by
  have hpf : (it.f 0 1 == 0 && it.f 1 1 == 0) = false := by simpa using hne
  have hfn' : (it.f 0 1 == 0 || (ctxOfFn s (it.f 0 1)).isSome) = true := by simpa using hfn
  have hok : ((getQueue s (it.f 0 1) (it.f 1 1)).isNone && !(it.f 0 1 == 0 && it.f 1 1 == 0) &&
      (it.f 0 1 == 0 || (ctxOfFn s (it.f 0 1)).isSome)) = true := by
    simp only [hnew, hpf, hfn', Option.isNone_none, Bool.not_false, Bool.and_self]
  unfold ctxOfFn at hok hpri
  simp only [svcCreateQueue, h.laid.lenIs, h.laid.zero, h.range, svc_pure, svc_bind, svc_state, svc_bad_of _ hok, createdPair,
    ctxOfFn]
  cases hc : (tenantOfVf s (it.f 0 1)).bind (getCtx s) with
  | none => rfl
  | some c =>
    simp only [svc_range_of (decide_eq_true (hpri c hc))]
    rfl

theorem ringSizeOk_of_mem {n : Nat} (h : n ∈ [16, 32, 64, 128, 256, 512, 1024, 2048, 4096]) : ringSizeOk n = true :=
  List.contains_iff_mem.2 h

/-- A new pair begins enabled, or frozen in a frozen context. -/
theorem firstState_eq (c : Option Ctx) :
    firstState c = .enabled ∨ ∃ x, c = some x ∧ x.st = .frozen ∧ firstState c = .frozen := by
  cases c with
  | none => exact .inl rfl
  | some x =>
    by_cases h : x.st = .frozen
    · exact .inr ⟨x, rfl, h, by simp [firstState, h]⟩
    · exact .inl (by simp [firstState, h])

theorem ctxOfFn_eq_some {s : State} {fn : Nat} {c : Ctx} :
    ctxOfFn s fn = some c ↔ ∃ t, tenantOfVf s fn = some t ∧ getCtx s t = some c := Option.bind_eq_some_iff

theorem tenantOfVf_zero (s : State) : tenantOfVf s 0 = none := rfl

/-- Settles O30: the service reaches `addQueue`, and the pair it lists is new but for its operands and its state. -/
theorem createQueueMakesPair : Obligations.CreateQueueMakesPair := by
  rintro s id it fn q hrun hlaid rfl rfl hfn hq hne hsize hpri hvec hsq hcq hnew hctx
  have hf : PairFields it := ⟨hlaid, hfn, hq, ringSizeOk_of_mem hsize, hpri, hvec, hsq, hcq⟩
  have hbound : it.f 0 1 = 0 ∨ (ctxOfFn s (it.f 0 1)).isSome = true :=
    hctx.imp_right fun ⟨t, c, ht, hc, _⟩ => Option.isSome_iff_exists.2 ⟨c, ctxOfFn_eq_some.2 ⟨t, ht, hc⟩⟩
  have hmax (c : Ctx) (hc : ctxOfFn s (it.f 0 1) = some c) : it.f 4 1 ≤ c.maxpri := by
    obtain ⟨t, ht, hc⟩ := ctxOfFn_eq_some.1 hc
    rcases hctx with h0 | ⟨t', c', ht', hc', hle⟩
    · rw [show it.f 0 1 = 0 from h0, tenantOfVf_zero] at ht
      cases ht
    · cases ht.symm.trans ht'
      cases hc.symm.trans hc'
      exact hle
  refine ⟨_, createdPair s it, congrArg _ (runOpcode_reply hrun (svcCreateQueue_reply hf hne hnew hbound hmax)),
    tfind_tput_self .., rfl, rfl, rfl, rfl, rfl, rfl, rfl, rfl, rfl, rfl, rfl, rfl, rfl, ?_, fun f r hr hfr => ?_⟩
  · refine (firstState_eq (ctxOfFn s (it.f 0 1))).imp_right fun ⟨c, hc, hst, h⟩ => ?_
    obtain ⟨t, ht, hc⟩ := ctxOfFn_eq_some.1 hc
    exact ⟨t, c, ht, hc, hst, h⟩
  · exact tfind_tput_ne _ _ fun hk => hfr (qkey_inj hr (Nat.lt_succ_of_le hq) hk)

/-! ## SET_QUOTA, QUARANTINE, QUERY_TENANT, THAW (R86, R90, R93, R94) -/

theorem svcSetQuota_reply {s : State} {it : Item} {c : Ctx} (h : Laid it 8 [(5, 3)]) (hq : it.f 0 4 ≠ 0xFFFFFFFF)
    (hhold : it.f 4 1 ≤ 1) (hc : getCtx s it.tenant = some c) :
    svcSetQuota it ⟨[], s⟩ =
      .ok (.done [], ⟨[], modCtx it.tenant (fun c => { c with staged := some (it.f 0 4, it.f 4 1 == 1) }) s⟩) := by
  have hrange : Svc.range (it.f 0 4 != max32 && it.f 4 1 ≤ 1) = pure () := svc_range_of (by simp [max32, hq, hhold])
  simp only [svcSetQuota, h.lenIs, h.zero, hrange, svc_pure, svc_bind, svc_context_of [] hc, svc_update]
  rfl

theorem svcQuarantine_reply {s : State} {it : Item} {c : Ctx} (hc : getCtx s it.tenant = some c) :
    svcQuarantine it ⟨[], s⟩ = .ok (.done [], ⟨[], quarantine it.tenant 0 s⟩) := by
  simp only [svcQuarantine, svc_bind, svc_context_of [] hc, svc_update]
  rfl

theorem svcQueryTenant_some {s : State} {it : Item} {c : Ctx} (hc : getCtx s it.tenant = some c) :
    svcQueryTenant it ⟨[], s⟩ = .ok (.done (queryBytes c), ⟨[], s⟩) := by
  simp only [svcQueryTenant, svc_bind, svc_state, hc]
  rfl

theorem svcQueryTenant_none {s : State} {it : Item} (hc : getCtx s it.tenant = none) :
    svcQueryTenant it ⟨[], s⟩ = .ok (.done (List.replicate 32 0), ⟨[], s⟩) := by
  simp only [svcQueryTenant, svc_bind, svc_state, hc]
  rfl

theorem svcThaw_reply {s : State} {it : Item} {c : Ctx} (hc : getCtx s it.tenant = some c) (hst : c.st = .frozen)
    (hsaved : c.saved = false) : svcThaw it ⟨[], s⟩ = .ok (.done [], ⟨[], thawCtx it.tenant c s⟩) := by
  simp only [svcThaw, svc_bind, svc_context_of [] hc, svc_bad_of, hst, hsaved, beq_self_eq_true, Bool.not_false, svc_pure,
    svc_update]
  rfl

theorem getCtx_thawCtx {s : State} {t : Nat} {c : Ctx} (x : Ctx) (hc : getCtx s t = some c) :
    getCtx (thawCtx t x s) t = some { c with st := .normal, fsrc := 0 } := by
  unfold thawCtx
  rw [getCtx_ctxEvent]
  split <;> exact getCtx_modCtx_self _ hc

/-- Settles O31, each clause from the run of its service. -/
theorem contextCommandsComplete : Obligations.ContextCommandsComplete := by
  intro s id it
  refine ⟨fun c hrun hlaid hq hhold hc => ?_, fun c hrun hc => ?_, fun c hrun hc => ?_, fun hrun hc => ?_,
    fun c hrun hc hst hsaved => ?_⟩
  · exact ⟨_, congrArg _ (runOpcode_reply hrun (svcSetQuota_reply hlaid hq hhold hc)), getCtx_modCtx_self _ hc⟩
  · exact congrArg _ (runOpcode_reply hrun (svcQuarantine_reply hc))
  · exact congrArg _ (runOpcode_reply hrun (svcQueryTenant_some hc))
  · exact congrArg _ (runOpcode_reply hrun (svcQueryTenant_none hc))
  · exact ⟨_, congrArg _ (runOpcode_reply hrun (svcThaw_reply hc hst hsaved)), getCtx_thawCtx c hc⟩

/-! ## DETACH, TENANT_RESET, DELETE_QUEUE, FREEZE (R91, R96, R97) -/

/-- Item `id` is `x` and holds a core. -/
def OnCore (s : State) (id : Nat) (x : Item) : Prop := getItem s id = some x ∧ ∃ c k, x.phase = .running c k

theorem Running.onCore {s : State} {id op : Nat} {it : Item} {l : List Answer} (h : Running s id op it l) : OnCore s id it :=
  ⟨h.1, h.2.1⟩

/-- An item on a core stays as it is while another one, listed or not, ends. -/
theorem OnCore.itemEnd {s : State} {id j : Nat} {x : Item} (status detail : Nat) (hx : OnCore s j x) (hj : j ≠ id) :
    OnCore (itemEnd id status detail s) j x := by
  obtain ⟨hget, hrun⟩ := hx
  refine ⟨?_, hrun⟩
  cases h : getItem s id with
  | none => simpa [Machine.itemEnd, itemDone, h] using hget
  | some it =>
    by_cases hc : it.phase = .complete
    · simpa [Machine.itemEnd, itemDone, h, Item.isComplete, hc] using hget
    · exact itemDone_running _ h hc hj hget hrun

/-- Ending a set of items leaves an item on a core that is not of the set. -/
theorem OnCore.endItems {s : State} {id : Nat} {x : Item} {p : Nat → Item → Bool} (status detail : Nat) (hx : OnCore s id x)
    (hs : tsorted s.dsp.items = true) (hp : p id x = false) : OnCore (endItems p status detail s) id x := by
  refine List.foldlRecOn (motive := fun t => OnCore t id x) s.dsp.items _ hx fun t ht e he => ?_
  split
  · next hpe =>
    refine ht.itemEnd status detail fun hid => ?_
    have hfind : getItem s id = some e.2 := by
      rw [hid]
      exact tfind_of_mem hs he
    cases hx.1.symm.trans hfind
    rw [← hid, hp] at hpe
    cases hpe
  · exact ht

theorem Item.resident_of_running {x : Item} (h : ∃ c k, x.phase = .running c k) : x.resident = true := by
  obtain ⟨c, k, hp⟩ := h
  simp [Item.resident, Item.seat, hp]

/-- A reset as it begins ends no item that is on a core. -/
theorem OnCore.beginReset {s : State} {id : Nat} {x : Item} (t detail : Nat) (waiter : Option Nat) (flr : Bool)
    (hx : OnCore s id x) (hs : tsorted s.dsp.items = true) : OnCore (beginReset t detail waiter flr s) id x := by
  rcases beginReset_cases t detail waiter flr s with h | ⟨c, -, ⟨-, h⟩ | ⟨-, h⟩⟩ <;> rw [h]
  · exact hx
  · exact hx
  · rw [OnCore, getItem, ctxEvent_dsp]
    exact hx.endItems 0x0703 detail hs (by simp [Item.resident_of_running hx.2])

theorem OnCore.freezeCtx {s : State} {id : Nat} {x : Item} (t n : Nat) (c : Ctx) (hx : OnCore s id x) :
    OnCore (freezeCtx t n c s) id x := by
  unfold Machine.freezeCtx
  rw [OnCore, getItem, ctxEvent_dsp]
  split <;> exact hx

/-- An item on a core can give up its issue slot and wait. -/
theorem OnCore.waitsFor {s : State} {id : Nat} {x : Item} (w : Wait) (hx : OnCore s id x) :
    waitsFor (itemWait id w s) id w = true := by
  obtain ⟨hget, c, k, hp⟩ := hx
  have hwait : getItem (itemWait id w s) id = some { x with phase := .waiting c k w } := by
    unfold getItem at hget
    simp [getItem, itemWait, hget, hp]
  simp [Machine.waitsFor, hwait]

/-- The context in a reset that has begun or that it joins. -/
theorem getCtx_beginReset {s : State} {t : Nat} {c : Ctx} (detail id : Nat) (hc : getCtx s t = some c) :
    ∃ x, getCtx (beginReset t detail (some id) false s) t = some x ∧ x.st = .resetting ∧ x.gone = c.gone ∧
      (c.st ≠ .resetting → x.rdetail = detail ∧ x.waiters = [id]) ∧
      (c.st = .resetting → x.rdetail = c.rdetail ∧ x.waiters = c.waiters ++ [id]) := by
  by_cases hst : c.st = .resetting
  · rw [beginReset_joins detail (some id) false hc hst]
    exact ⟨_, getCtx_modCtx_self _ hc, hst, rfl, fun h => absurd hst h, fun _ => ⟨rfl, rfl⟩⟩
  · rw [beginReset_begins detail (some id) false hc hst, getCtx_ctxEvent]
    have hc' : getCtx (resetClears t detail false c s) t = some c := hc
    exact ⟨_, getCtx_modCtx_self _ hc', rfl, rfl, fun _ => ⟨rfl, rfl⟩, fun h => absurd h hst⟩

theorem svcDetach_wait {s : State} {it : Item} {c : Ctx} (id : Nat) (hc : getCtx s it.tenant = some c) :
    svcDetach id it ⟨[], s⟩ = .error (.wait (itemWait id .event
      (modCtx it.tenant (fun c => { c with gone := true }) (beginReset it.tenant 3 (some id) false s)))) := by
  simp only [svcDetach, svc_bind, svc_context_of [] hc, Svc.pend]

theorem svcTenantReset_wait {s : State} {it : Item} {c : Ctx} (id : Nat) (hc : getCtx s it.tenant = some c) :
    svcTenantReset id it ⟨[], s⟩ = .error (.wait (itemWait id .event (beginReset it.tenant 1 (some id) false s))) := by
  simp only [svcTenantReset, svc_bind, svc_context_of [] hc, Svc.pend]

theorem svcDeleteQueue_wait {s : State} {it : Item} {p : Queue} (id : Nat) (h : Laid it 4 [(2, 2)]) (hfn : it.f 0 1 ≤ 64)
    (hq : it.f 1 1 ≤ 15) (hp : getQueue s (it.f 0 1) (it.f 1 1) = some p) :
    svcDeleteQueue id it ⟨[], s⟩ = .error (.wait (itemWait id .event
      (modQueue (it.f 0 1) (it.f 1 1) (fun p => { p with del := true, delers := p.delers ++ [id] }) s))) := by
  have hok : (it.f 0 1 ≤ 64 && it.f 1 1 ≤ 15 && (getQueue s (it.f 0 1) (it.f 1 1)).isSome) = true := by
    simp [hfn, hq, hp]
  simp only [svcDeleteQueue, h.lenIs, h.zero, svc_pure, svc_bind, svc_state, svc_bad_of _ hok, Svc.pend]

theorem svcFreeze_wait {s : State} {it : Item} {c : Ctx} (id : Nat) (hc : getCtx s it.tenant = some c) (hst : c.st = .normal) :
    svcFreeze id it ⟨[], s⟩ = .error (.wait (itemWait id .event (freezeCtx it.tenant id c s))) := by
  simp only [svcFreeze, svc_bind, svc_context_of [] hc, svc_bad_of, hst, beq_self_eq_true, svc_pure, Svc.pend]

theorem getCtx_freezeCtx {s : State} {t : Nat} {c : Ctx} (id : Nat) (x : Ctx) (hc : getCtx s t = some c) :
    getCtx (freezeCtx t id x s) t = some { c with st := .frozen, freezer := c.freezer ++ [id] } := by
  unfold freezeCtx
  rw [getCtx_ctxEvent]
  split <;> exact getCtx_modCtx_self _ hc

/-- Settles O32: what each command begins leaves its own item on its core, whence it goes to wait. -/
theorem contextCommandsWait : Obligations.ContextCommandsWait := by
  intro s id it hs
  refine ⟨fun c hrun hc => ?_, fun c hrun hc => ?_, fun p hrun hlaid hfn hq hp => ?_, fun c hrun hc hst => ?_⟩
  · obtain ⟨x, hx, hst, -, hnew, hold⟩ := getCtx_beginReset 3 id hc
    exact ⟨_, { x with gone := true }, congrArg Host.Outcome.next (runOpcode_wait hrun (svcDetach_wait id hc)),
      OnCore.waitsFor _ (hrun.onCore.beginReset it.tenant 3 (some id) false hs), getCtx_modCtx_self _ hx, hst, rfl, hnew, hold⟩
  · obtain ⟨x, hx, hreset⟩ := getCtx_beginReset 1 id hc
    exact ⟨_, x, congrArg Host.Outcome.next (runOpcode_wait hrun (svcTenantReset_wait id hc)),
      (hrun.onCore.beginReset it.tenant 1 (some id) false hs).waitsFor _, hx, hreset⟩
  · exact ⟨_, congrArg Host.Outcome.next (runOpcode_wait hrun (svcDeleteQueue_wait id hlaid hfn hq hp)),
      OnCore.waitsFor _ hrun.onCore, getQueue_modQueue_self _ hp⟩
  · exact ⟨_, congrArg Host.Outcome.next (runOpcode_wait hrun (svcFreeze_wait id hc hst)),
      (hrun.onCore.freezeCtx it.tenant id c).waitsFor _, getCtx_freezeCtx id c hc⟩

/-! ## SAVE and RESTORE (R98, R99) -/

@[simp] theorem pruneSlot_hfe (i : Nat) (s : State) : (pruneSlot i s).hfe = s.hfe := by
  have hentry (p : Slot) (s : State) : (freeEntry p s).hfe = s.hfe := by
    unfold freeEntry
    split <;> rfl
  have hobject (p : Slot) (s : State) : (freeObject p s).hfe = s.hfe := by
    unfold freeObject
    split <;> rfl
  simp [pruneSlot, freeSlot, putSlot, hentry, hobject]

@[simp] theorem destroyEphemeral_hfe (t : Nat) (s : State) : (destroyEphemeral t s).hfe = s.hfe :=
  foldl_keeps (·.hfe) (fun s (e : Nat × Slot) => pruneSlot_hfe e.1 s) _ s

@[simp] theorem imgSync_hfe (t : Nat) (l : List Nat) (s : State) : (imgSync t l s).hfe = s.hfe := by
  unfold imgSync imgAppend
  dsimp only
  split <;> rfl

/-- The blob and the source context after it: saved, its generator gone. -/
theorem saveBlob_ok {s : State} {t : Nat} {c : Ctx} (target key iv : Bytes) (hc : getCtx s t = some c) :
    ∃ b u, saveBlob t c target key iv s = (.ok b, u) ∧ getCtx u t = some { c with saved := true, inst := none } := by
  refine ⟨_, _, rfl, getCtx_modCtx_self _ ((getCtx_congr ?_ t).trans hc)⟩
  cases c.inst <;> simp [uninstantiate, nextSave]

/-- A decision taken now is the last answer of the item. -/
theorem svc_decideOk_nil {s u : State} {b : Bytes} {f : State → Answer × State} (id : Nat) (h : f s = (.ok b, u)) :
    Svc.decideOk id f ⟨[], s⟩ =
      .ok (.ok b, ⟨[], modItem id (fun i => { i with answers := i.answers ++ [.ok b] }) u⟩) := by
  simp only [Svc.decideOk, svc_bind, svc_decide_nil, h]
  rfl

theorem svc_drawArmature_ok (id : Nat) (it : Item) (n : Nat) (b : Bytes) (l : List Answer) (s : State) :
    Svc.drawArmature id it n ⟨.ok b :: l, s⟩ = .ok (b, ⟨l, s⟩) := rfl

theorem svcSave_drawn {s u : State} {it : Item} {c : Ctx} {iv b key : Bytes} (id : Nat) (hlen : it.payload.length = 16)
    (hc : getCtx s it.tenant = some c)
    (hkey : (s.hier.tkeys.find? (fun e => e.1 == it.payload)).map (·.2) = some key)
    (hblob : saveBlob it.tenant c it.payload key iv s = (.ok b, u)) :
    svcSave id it ⟨[.nums [], .ok iv], s⟩ =
      .ok (.done b, ⟨[], modItem id (fun i => { i with answers := i.answers ++ [.ok b] }) u⟩) := by
  have hl : Svc.lenIs it 16 = pure () := svc_len_of (by simp [hlen])
  simp only [svcSave, hl, svc_pure, svc_bind, svc_context_of _ hc, svc_state, svc_decideOk_nums, svc_drawArmature_ok,
    hkey, Option.getD_some, svc_decideOk_nil id hblob]
  rfl

/-- The blob is for this part and its tenant, authenticates and is fresh. -/
structure BlobTaken (s : State) (it : Item) : Prop where
  laid : Laid it (80 + it.f 48 4) [(2, 2), (6, 2)]
  version : it.f 0 2 = 1
  tenant : it.f 4 2 = it.tenant
  serial : it.b 32 16 = s.fab.serial
  key : s.hier.ownTkey.length = 32
  tag : gcmTag s.hier.ownTkey (it.b 52 12) (it.b 0 64) (it.b 64 (it.f 48 4)) = it.payload.drop (64 + it.f 48 4)
  fresh : serialCheck s it.tenant (it.f 8 8) (sha256 it.payload) = none

/-- The plain content of the blob. -/
def blobOf (s : State) (it : Item) : Bytes := gcmCrypt s.hier.ownTkey (it.b 52 12) (it.b 64 (it.f 48 4))

/-- The state with the blob loaded and its MSERIAL noted. -/
def restored (it : Item) (c : Ctx) (s : State) : State :=
  imgSync it.tenant [] (modTenant it.tenant (fun e => { e with mserial := it.f 8 8, mdigest := sha256 it.payload })
    (loadBlob it.tenant c (blobOf s it) s))

theorem svcRestore_reply {s : State} {it : Item} {c : Ctx} (h : BlobTaken s it) (hc : getCtx s it.tenant = some c)
    (hst : c.st = .frozen) (hfits : blobFits s c (blobOf s it) = true) :
    svcRestore it ⟨[], s⟩ = .ok (.done [], ⟨[], restored it c s⟩) := by
  have hlen : Svc.len (80 ≤ it.payload.length && it.payload.length == 80 + it.f 48 4) = pure () :=
    svc_len_of (by simp [h.laid.1])
  have hrange : Svc.range (it.f 0 2 == 1 && it.f 4 2 == it.tenant) = pure () := svc_range_of (by simp [h.version, h.tenant])
  have hserial : (it.b 32 16 == s.fab.serial) = true := beq_iff_eq.2 h.serial
  have htag : (s.hier.ownTkey.length == 32 &&
      gcmTag s.hier.ownTkey (it.b 52 12) (it.b 0 64) (it.b 64 (it.f 48 4)) == it.payload.drop (64 + it.f 48 4)) = true := by
    rw [h.key, h.tag]
    simp
  have hfrozen : (c.st == .frozen) = true := beq_iff_eq.2 hst
  unfold blobOf at hfits
  simp only [svcRestore, hlen, h.laid.zero, hrange, svc_pure, svc_bind, svc_context_of _ hc, svc_state, hserial, htag,
    svc_check_true, h.fresh, svc_bad_of _ hfrozen, svc_bad_of _ hfits, svc_update, restored, blobOf]
  rfl

theorem getCtx_loadBlob {s : State} {t : Nat} {c : Ctx} (b : Bytes) (hc : getCtx s t = some c) :
    ∃ x, getCtx (loadBlob t c b s) t = some x ∧ x.st = .normal ∧ x.quota = fld b 144 4 ∧
      x.left = fld b 144 4 - fld b 149 4 := by
  refine ⟨_, getCtx_thawCtx c (getCtx_modCtx_self _ ((getCtx_congr ?_ t).trans hc)), rfl, rfl, rfl⟩
  simp [setInst]

/-- Settles O33: the decision on the blob is the service's last answer, and what follows a load leaves the contexts. -/
theorem migrationCompletes : Obligations.MigrationCompletes := by
  intro s id it c hc
  refine ⟨fun iv key hrun hlen hkey => ?_, fun hrun hlaid hver hten hser hkey htag hfresh hst hfits => ?_⟩
  · obtain ⟨b, u, hblob, hget⟩ := saveBlob_ok it.payload key iv hc
    exact ⟨_, b, congrArg Host.Outcome.next (runOpcode_reply hrun (svcSave_drawn id hlen hc hkey hblob)),
      congrArg Prod.fst hblob, hget⟩
  · obtain ⟨x, hx, hnormal, hquota, hleft⟩ := getCtx_loadBlob (blobOf s it) hc
    have htaken : BlobTaken s it := ⟨hlaid, hver, hten, hser, hkey, htag, hfresh⟩
    refine ⟨restored it c s, x, congrArg Host.Outcome.next (runOpcode_reply hrun (svcRestore_reply htaken hc hst hfits)), ?_,
      hnormal, hquota, hleft⟩
    exact (getCtx_congr (by simp [restored]) it.tenant).trans hx

end Sys2Proof.Machine

/-! # The dispatcher and the engines (05, 10 R277, 11 R305)

A resumption and a window grant each change one item and swap its core's rule set; a thread, a group, a release and the end of an
item are each one change with its frame. The commands of the engines go by what their queues, their units and their lanes hold:
each has one lemma per outcome, and the statement on them puts these together. -/

namespace Sys2Proof.Machine

set_option Elab.async false

/-! ## Items and the rule sets of their cores (R104, R106, R123, R126) -/

theorem getItem_modItem_self {s : State} {id : Nat} {it : Item} (f : Item → Item) (h : getItem s id = some it) :
    getItem (modItem id f s) id = some (f it) := by
  unfold getItem at h
  simp [getItem, h]

theorem getItem_modItem_ne {id j : Nat} (f : Item → Item) (s : State) (hj : j ≠ id) :
    getItem (modItem id f s) j = getItem s j :=
  tfind_tmod_ne _ _ hj

@[simp] theorem getItem_count (ev : Nat) (ten : Option Nat) (s : State) (j : Nat) : getItem (count ev ten s) j = getItem s j := by
  simp [getItem]

/-- A swap of rule sets touches no item. -/
@[simp] theorem getItem_swapItem (core ctx : Nat) (ws : List (BitVec 64)) (s : State) (j : Nat) :
    getItem (swapItem core ctx ws s) j = getItem s j := rfl

@[simp] theorem swapItem_hfe (core ctx : Nat) (ws : List (BitVec 64)) (s : State) : (swapItem core ctx ws s).hfe = s.hfe := rfl

/-- The state in which item `id` is changed and its core holds the rule set of windows `ws`, with one event counted. -/
def reseated (ev id core ctx : Nat) (ws : List (BitVec 64)) (it : Item) (f : Item → Item) (s : State) : State :=
  count ev it.owner (swapItem core ctx ws (modItem id f s))

theorem getItem_reseated_self {s : State} {id : Nat} {it : Item} (ev core ctx : Nat) (ws : List (BitVec 64)) (f : Item → Item)
    (h : getItem s id = some it) : getItem (reseated ev id core ctx ws it f s) id = some (f it) := by
  simp [reseated, getItem_modItem_self f h]

theorem getItem_reseated_ne {id j : Nat} (ev core ctx : Nat) (ws : List (BitVec 64)) (it : Item) (f : Item → Item) (s : State)
    (hj : j ≠ id) : getItem (reseated ev id core ctx ws it f s) j = getItem s j := by
  simp [reseated, getItem_modItem_ne f s hj]

theorem exec_itemResume {s : State} {id core ctx t : Nat} {it : Item} (hlive : hfeLive s = true)
    (hidle : ∀ e ∈ residents s core, e.2.isRunning = false) (hfirst : firstAnswered s core = some (id, ctx, t))
    (hit : getItem s id = some it) :
    exec (.itemResume core) s =
      .next (reseated 0x54 id core ctx it.windows it (fun i => { i with phase := .running core ctx }) s) := by
  have hnone : (residents s core).any (fun e => e.2.isRunning) = false :=
    List.any_eq_false.2 fun e he => by simp [hidle e he]
  show execItemResume core s = _
  simp only [execItemResume, hlive, hnone, hfirst, hit]
  rfl

/-- Settles O16: the core goes back to the item answered first, with the windows that the item kept. -/
theorem resumeReturnsCore : Obligations.ResumeReturnsCore := by
  intro s id core ctx t it hlive hidle hfirst hit
  exact ⟨_, exec_itemResume hlive hidle hfirst hit, getItem_reseated_self _ _ _ _ _ hit,
    fun j hj => getItem_reseated_ne _ _ _ _ _ _ s hj, by simp [reseated]⟩

theorem exec_windowGrant {s : State} {id core ctx : Nat} {it : Item} (base len : Nat) (hit : getItem s id = some it)
    (hrun : it.phase = .running core ctx) :
    exec (.windowGrant id base len) s =
      if 16 ≤ it.windows.length then .next s
      else
        let ws := it.windows ++ [windowRule base len true true]
        .next (reseated 0x56 id core ctx ws it (fun i => { i with windows := ws }) s) := by
  show execWindowGrant id base len s = _
  simp only [execWindowGrant, hit, hrun]
  rfl

/-- Settles O17: below sixteen windows the grant appends one, readable and writable (log 49), to the item's own and rebuilds
its core's rule set. -/
theorem windowGrantAddsWindow : Obligations.WindowGrantAddsWindow := by
  intro s id core ctx base len it hit hrun
  refine ⟨fun hroom => ⟨_, (exec_windowGrant base len hit hrun).trans (if_neg (Nat.not_le.2 hroom)), ?_, fun j hj => ?_⟩,
    fun hfull => (exec_windowGrant base len hit hrun).trans (if_pos hfull)⟩
  · exact getItem_reseated_self _ _ _ _ _ hit
  · exact getItem_reseated_ne _ _ _ _ _ _ s hj

/-! ## Draining groups (R108) -/

theorem exec_groupDrainComplete {s : State} {n : Nat} {g : Group} (hg : tfind s.dsp.groups n = some g) (hst : g.st = .draining)
    (hempty : ∀ e ∈ s.dsp.items, (e.2.seat.map (fun u => groupOf u.1)) ≠ some n ∨ s.flash.upd.map (·.item) = some e.1) :
    exec (.groupDrainComplete n) s =
      .next { s with dsp := { s.dsp with groups := tput s.dsp.groups n { g with st := .offline } } } := by
  have hall : s.dsp.items.all (fun e =>
      (e.2.seat.map (fun u => groupOf u.1)) != some n || (s.flash.upd.map (·.item)) == some e.1) = true :=
    List.all_eq_true.2 fun e he => by simpa using hempty e he
  show execGroupDrainComplete n s = _
  simp only [execGroupDrainComplete, hg, hst, hall]
  rfl

/-- Settles O21: the one change is the group's own entry; the UPDATE that drains it may stay (log 68). -/
theorem groupDrainGoesOffline : Obligations.GroupDrainGoesOffline := by
  intro s n g hg hst hempty
  exact ⟨_, exec_groupDrainComplete hg hst hempty, tfind_tput_self _ _ _, fun m hm => tfind_tput_ne _ _ hm, rfl⟩

/-! ## The decanter (R113) -/

theorem atHead_iff {s : State} {it : Item} :
    atHead s it = true ↔
      it.phase = .complete ∧ (it.ord = true → (tget s.dsp.flows it.flow { head := 0, next := 0 }).head = it.sn) := by
  cases ho : it.ord <;> simp [atHead, Item.isComplete, ho]

/-- Settles O19: such an item is not at the head of its flow, so its release changes nothing. -/
theorem releaseInFlowOrder : Obligations.ReleaseInFlowOrder := by
  intro s id it hit hfn hbehind
  have hlocal : (it.fn == fnForward) = false := by
    simp only [fnForward, beq_eq_false_iff_ne]
    omega
  have hhead : atHead s it = false := by
    refine Bool.eq_false_iff.2 fun h => ?_
    obtain ⟨hphase, horder⟩ := atHead_iff.1 h
    exact hbehind.elim (fun hne => hne hphase) fun ⟨hord, hne⟩ => hne (horder hord)
  show execDecanterRelease id s = _
  simp [execDecanterRelease, hit, hlocal, hhead]

/-! ## Armature threads (R109) -/

@[simp] theorem pairThread_setPair_self (p : Nat) (t : Option Thread) (s : State) : pairThread (setPair p t s) p = t := by
  unfold pairThread setPair
  split <;> rfl

theorem pairThread_setPair_other {p : Nat} (hp : p < 2) (t : Option Thread) (s : State) :
    pairThread (setPair p t s) (1 - p) = pairThread s (1 - p) := by
  obtain rfl | rfl : p = 0 ∨ p = 1 := by omega
  · rfl
  · rfl

@[simp] theorem setPair_control (p : Nat) (t : Option Thread) (s : State) : (setPair p t s).dsp.control = s.dsp.control := by
  unfold setPair
  dsimp only
  split <;> rfl

@[simp] theorem setPair_items (p : Nat) (t : Option Thread) (s : State) : (setPair p t s).dsp.items = s.dsp.items := by
  unfold setPair
  dsimp only
  split <;> rfl

/-- The state in which pair `p` runs thread `th`, and the thread that it ran waits ahead of the others. -/
def threadOn (p : Nat) (th : Thread) (s : State) : State :=
  setPair p (some th) { s with dsp := { s.dsp with control := (pairThread s p).toList ++ s.dsp.control } }

theorem threadReady_of_none {s : State} {th : Thread} (h : pairFor s th = none) :
    threadReady th s = { s with dsp := { s.dsp with control := s.dsp.control ++ [th] } } := by
  simp only [threadReady, h]

theorem threadReady_dsp_of_some {s : State} {th : Thread} {p : Nat} (h : pairFor s th = some p) :
    (threadReady th s).dsp = (threadOn p th s).dsp := by
  unfold threadOn
  cases hold : pairThread s p with
  | none => simp only [threadReady, h, hold, Option.toList_none, List.nil_append]
  | some old => simp only [threadReady, h, hold, count_dsp, Option.toList_some, List.singleton_append]

theorem pairThread_congr {s t : State} (h : t.dsp = s.dsp) (p : Nat) : pairThread t p = pairThread s p := by
  rw [pairThread, pairThread, h]

/-- Settles O20: a thread without a pair joins the end of the list, one with a pair takes it and what ran there
waits at its front (log 41). -/
theorem threadReadyPlacesThread : Obligations.ThreadReadyPlacesThread := by
  refine fun s th => ⟨fun hnone => ?_, fun p hp hsome => ?_⟩
  · exact ⟨_, congrArg Host.Outcome.next (threadReady_of_none hnone), rfl, rfl, rfl, rfl⟩
  · have hdsp := threadReady_dsp_of_some hsome
    refine ⟨threadReady th s, rfl, ?_, ?_, by simp [hdsp, threadOn], by simp [hdsp, threadOn]⟩
    · exact (pairThread_congr hdsp p).trans (pairThread_setPair_self p (some th) _)
    · exact (pairThread_congr hdsp (1 - p)).trans (pairThread_setPair_other hp (some th) _)

/-! ## The end of an item (R112, 07 R185) -/

/-- `t` differs from `s` in the blocks that the end of an item reaches, and in no other: the dispatcher, the stream of its flow,
the slot it had reserved, its draws, a running UPDATE, the performance counters. -/
def EndReaches (s t : State) : Prop :=
  ∃ d g v n f p, t = { s with dsp := d, eng := g, vks := v, ent := n, flash := f, pmu := p }

theorem EndReaches.refl (s : State) : EndReaches s s := ⟨_, _, _, _, _, _, rfl⟩

theorem EndReaches.trans {s t u : State} (h : EndReaches s t) (h' : EndReaches t u) : EndReaches s u := by
  obtain ⟨d, g, v, n, f, p, rfl⟩ := h
  obtain ⟨d', g', v', n', f', p', rfl⟩ := h'
  exact ⟨d', g', v', n', f', p', rfl⟩

theorem foldl_endReaches {β : Type} {f : State → β → State} (hf : ∀ s b, EndReaches s (f s b)) (l : List β) (s : State) :
    EndReaches s (l.foldl f s) := by
  induction l generalizing s with
  | nil => exact .refl s
  | cons b l ih => exact (hf s b).trans (ih _)

theorem count_endReaches (ev : Nat) (ten : Option Nat) (s : State) : EndReaches s (count ev ten s) := by
  obtain ⟨p, h⟩ := count_frame ev ten s
  exact ⟨_, _, _, _, _, p, h⟩

theorem modItem_endReaches (id : Nat) (f : Item → Item) (s : State) : EndReaches s (modItem id f s) :=
  ⟨_, _, _, _, _, _, rfl⟩

theorem freeReserved_endReaches (it : Item) (s : State) : EndReaches s (freeReserved it s) := by
  unfold freeReserved
  repeat' split
  all_goals exact ⟨_, _, _, _, _, _, rfl⟩

theorem dropDraws_endReaches (id : Nat) (s : State) : EndReaches s (dropDraws id s) := by
  unfold dropDraws
  dsimp only
  split <;> exact ⟨_, _, _, _, _, _, rfl⟩

theorem endUpdate_endReaches (id : Nat) (s : State) : EndReaches s (endUpdate id s) := ⟨_, _, _, _, _, _, rfl⟩

theorem closeStream_endReaches (flow : Nat) (s : State) : EndReaches s (closeStream flow s) := ⟨_, _, _, _, _, _, rfl⟩

theorem enterLists_endReaches (flow : Nat) (s : State) : EndReaches s (enterLists flow s) := by
  refine foldl_endReaches (fun s e => ?_) _ s
  split
  · obtain ⟨d, p, h⟩ := enterList_frame e.1 s
    exact ⟨d, _, _, _, _, p, h⟩
  · exact .refl s

theorem wakeGate_endReaches (g : Option Nat) (s : State) : EndReaches s (wakeGate g s) := by
  unfold wakeGate
  repeat' split
  all_goals exact ⟨_, _, _, _, _, _, rfl⟩

theorem itemDone_endReaches (id : Nat) (r : Reply) (s : State) : EndReaches s (itemDone id r s) := by
  unfold itemDone
  split
  · exact .refl s
  · next it _ =>
    dsimp only
    split
    · exact .refl s
    · have hheld : ∀ f, EndReaches s (endUpdate id (dropDraws id (freeReserved it (modItem id f s)))) := fun f =>
        (((modItem_endReaches id f s).trans (freeReserved_endReaches it _)).trans (dropDraws_endReaches id _)).trans
          (endUpdate_endReaches id _)
      refine .trans ?_ (((count_endReaches 0x50 it.owner _).trans (enterLists_endReaches it.flow _)).trans
        (wakeGate_endReaches it.gate _))
      split
      · exact (hheld _).trans (closeStream_endReaches it.flow _)
      · exact hheld _

theorem Item.completed_of_outer_none {it : Item} (r : Reply) (h : it.outer = none) :
    it.completed r = { it with
      phase := .complete, reply := some r, slot := none, holding := [], windows := [], answers := [] } := by
  simp only [Item.completed, outerItem, outerReply, h]

/-- Another item stays listed or unlisted, and is complete only as the complete item that it was. -/
theorem getItem_itemDone_ne {s : State} {id j : Nat} {it : Item} (r : Reply) (hit : getItem s id = some it)
    (hphase : it.phase ≠ .complete) (hj : j ≠ id) :
    (getItem s j = none ∧ getItem (itemDone id r s) j = none) ∨
      ∃ x y, getItem s j = some x ∧ getItem (itemDone id r s) j = some y ∧ (y.phase = .complete → y = x) := by
  have hother := (itemDone_items r hit hphase).2 j hj
  cases hx : getItem s j with
  | none =>
    rw [hx] at hother
    exact .inl ⟨rfl, hother⟩
  | some x =>
    rw [hx] at hother
    obtain ⟨y, hy, hcases⟩ := hother
    refine .inr ⟨x, y, rfl, hy, fun hc => ?_⟩
    rcases hcases with rfl | ⟨-, hready, -⟩ | ⟨c, k, w, l, -, rfl⟩
    · rfl
    · exact absurd (hready.symm.trans hc) (by simp)
    · exact absurd hc (by simp)

theorem isSome_getItem_itemDone {s : State} {id : Nat} {it : Item} (r : Reply) (hit : getItem s id = some it)
    (hphase : it.phase ≠ .complete) (j : Nat) : (getItem (itemDone id r s) j).isSome = (getItem s j).isSome := by
  by_cases hj : j = id
  · simp [hj, (itemDone_items r hit hphase).1, hit]
  · rcases getItem_itemDone_ne r hit hphase hj with ⟨hs, ht⟩ | ⟨x, y, hs, ht, -⟩ <;> simp [hs, ht]

/-- Settles O27: the item completes as it stood, no other one leaves or completes, and the blocks named lie beyond its end. -/
theorem completionHoldsReply : Obligations.CompletionHoldsReply := by
  intro s id it r hit hphase houter
  obtain ⟨d, g, v, n, f, p, hframe⟩ := itemDone_endReaches id r s
  refine ⟨⟨it.arr, ?_⟩, isSome_getItem_itemDone r hit hphase, fun j x hj hx hc => ?_, ?_⟩
  · rw [(itemDone_items r hit hphase).1, Item.completed_of_outer_none r houter]
  · rcases getItem_itemDone_ne r hit hphase hj with ⟨-, ht⟩ | ⟨y, z, hs, ht, hsame⟩
    · exact absurd (hx.symm.trans ht) (by simp)
    · obtain rfl : z = x := Option.some.inj (ht.symm.trans hx)
      exact ⟨y, hs, hsame hc ▸ hc⟩
  · rw [hframe]
    exact ⟨rfl, rfl, rfl, rfl, rfl, rfl, rfl, rfl, rfl⟩

/-! ## Units and their queues (R116) -/

theorem exists_tfind_of_mem {α : Type} {t : Table α} {e : Nat × α} (h : e ∈ t) : ∃ v, tfind t e.1 = some v := by
  induction t with
  | nil => cases h
  | cons x r ih =>
    rw [tfind_cons]
    split
    · exact ⟨_, rfl⟩
    · next hne =>
      rcases List.mem_cons.1 h with rfl | h
      · exact absurd rfl hne
      · exact ih h

theorem exists_unit_of_freeUnit {s : State} {k : EngineKind} {n : Nat} (h : freeUnit s k = some n) :
    ∃ u, tfind s.eng.units n = some u := by
  obtain ⟨e, he, rfl⟩ := Option.map_eq_some_iff.1 h
  exact exists_tfind_of_mem ((List.mem_filter.1 (List.mem_of_find?_eq_some he)).1)

theorem exists_unit_of_workingOn {s : State} {n : Nat} {r : Request} (h : workingOn s n = some r) :
    ∃ u, tfind s.eng.units n = some u := by
  unfold workingOn at h
  split at h
  · cases h
  · next hr =>
    obtain ⟨u, hu, -⟩ := Option.bind_eq_some_iff.1 hr
    exact ⟨u, hu⟩

@[simp] theorem setQueue_units (k : EngineKind) (q : List Request) (s : State) : (setQueue k q s).eng.units = s.eng.units := by
  cases k <;> rfl

@[simp] theorem queueOf_setQueue (k : EngineKind) (q : List Request) (s : State) : queueOf (setQueue k q s) k = q := by
  cases k <;> rfl

@[simp] theorem queueOf_modUnit (n : Nat) (f : EngineUnit → EngineUnit) (s : State) (k : EngineKind) :
    queueOf (modUnit n f s) k = queueOf s k := by
  cases k <;> rfl

theorem queueOf_congr {s t : State} (h : t.eng = s.eng) (k : EngineKind) : queueOf t k = queueOf s k := by
  cases k <;> simp [queueOf, h]

@[simp] theorem countStart_eng (k : EngineKind) (r : Request) (s : State) : (countStart k r s).eng = s.eng := by
  unfold countStart
  split <;> simp

/-- The request that a listed unit holds once it is set. -/
theorem req_modUnit {s : State} {n : Nat} {u : EngineUnit} (r : Option Request) (h : tfind s.eng.units n = some u) :
    (tfind (modUnit n (fun u => { u with req := r }) s).eng.units n).bind (·.req) = r := by
  simp [h]

/-! ## A unit takes a request -/

/-- The state in which unit `n` has taken the request at the head of its queue and `q` is left. -/
def unitTakes (n : Nat) (k : EngineKind) (r : Request) (q : List Request) (s : State) : State :=
  countStart k r (modUnit n (fun u => { u with req := some r }) (setQueue k q s))

theorem exec_engineRequestStart {s : State} {k : EngineKind} {r : Request} {q : List Request} {n : Nat}
    (hunits : noUnits s k = false) (hq : queueOf s k = r :: q) (hfree : freeUnit s k = some n) (hkey : s.eng.ekey ≠ none)
    (hcont : r.cont = false) :
    exec (.engineRequestStart k) s = .next (unitTook n (takeKeys r (unitTakes n k r q s))) := by
  have hsome : s.eng.ekey.isNone = false := Option.isNone_eq_false_iff.2 (Option.isSome_iff_ne_none.2 hkey)
  show execEngineRequestStart k s = _
  simp [execEngineRequestStart, hunits, hq, hfree, hsome, startOn, hcont, unitTakes]

theorem exec_engineRequestStart_of_empty {s : State} {k : EngineKind} (hunits : noUnits s k = true) (hq : queueOf s k = []) :
    exec (.engineRequestStart k) s = .next s := by
  show execEngineRequestStart k s = _
  simp [execEngineRequestStart, hunits, drainKind, hq]

theorem takeKeys_of_no_key {r : Request} {id : Nat} (s : State) (hkeys : r.keys = []) (hdest : r.dest = none)
    (hclient : r.client = .item id) : takeKeys r s = .ready r s := by
  simp [takeKeys, hclient, hkeys, takeGo, takeDest, hdest]

theorem countHmac_of_no_key {r : Request} (s : State) (hkeys : r.keys = []) : countHmac r s = s := by
  simp [countHmac, hkeys]

/-- The unit that takes a request without keys holds it, and its queue has moved on. -/
theorem unitTook_ready {s : State} {k : EngineKind} {r : Request} {q : List Request} {n : Nat} (hfree : freeUnit s k = some n)
    (hkeys : r.keys = []) :
    let u := unitTook n (.ready r (unitTakes n k r q s))
    queueOf u k = q ∧ (tfind u.eng.units n).bind (·.req) = some r := by
  obtain ⟨x, hx⟩ := exists_unit_of_freeUnit hfree
  simp only [unitTook, countHmac_of_no_key _ hkeys]
  refine ⟨?_, ?_⟩
  · rw [queueOf_modUnit, unitTakes, queueOf_congr (countStart_eng k r _), queueOf_modUnit, queueOf_setQueue]
  · exact req_modUnit (u := { x with req := some r }) (some r) (by simp [unitTakes, hx])

/-! ## Segments (R117-R119) -/

/-- A request at the level of unit `n`'s message or above it waits, and no unit of the kind is free. -/
def pressed (s : State) (n : Nat) (r : Request) : Bool :=
  let k := if isPipe n then EngineKind.sye else .dge
  (queueOf s k).any (fun x => r.level ≤ x.level) && (freeUnit s k).isNone

theorem exec_segmentEnd_goesOn {s : State} {n : Nat} {r : Request} (hwork : workingOn s n = some r)
    (hmore : r.segs + 1 < segments r.op) (hfree : pressed s n r = false) :
    exec (.segmentEnd n) s = .next (modUnit n (fun u => { u with req := some { r with segs := r.segs + 1 } }) s) := by
  unfold pressed at hfree
  show execSegmentEnd n s = _
  simp only [execSegmentEnd, hwork, if_neg (Nat.not_le.2 hmore), hfree]
  split <;> rfl

theorem exec_segmentEnd_suspends {s : State} {n e : Nat} {r : Request} (hwork : workingOn s n = some r)
    (hmore : r.segs + 1 < segments r.op) (hpress : pressed s n r = true) (hsave : freeSave s = some e) :
    exec (.segmentEnd n) s = .next (suspend n (if isPipe n then .sye else .dge) r e s) := by
  unfold pressed at hpress
  show execSegmentEnd n s = _
  simp only [execSegmentEnd, hwork, if_neg (Nat.not_le.2 hmore), hpress, hsave, if_true]

/-- The message as it queues again when it is suspended after its segment. -/
def Request.suspended (r : Request) : Request := { r with segs := r.segs + 1, cont := true }

/-- A suspended message queues again behind the requests of its level. -/
theorem queueOf_suspend (n : Nat) (k : EngineKind) (r : Request) (e : Nat) (s : State) :
    queueOf (suspend n k r e s) k = enqueue r.suspended (queueOf s k) := by
  cases k <;> simp [suspend, setQueue, queueOf, eachCopy, Request.suspended]

@[simp] theorem suspend_units (n : Nat) (k : EngineKind) (r : Request) (e : Nat) (s : State) :
    (suspend n k r e s).eng.units = tmod s.eng.units n (fun u => { u with req := none }) := by
  simp [suspend, eachCopy]

/-- The context goes to entry `e` under the counter's value, with its request and the segment that comes next. -/
theorem suspend_saved (n : Nat) (k : EngineKind) (r : Request) (e : Nat) (s : State) :
    (tfind (suspend n k r e s).eng.saved e).map (fun c => (c.ctr, c.req, c.seg)) = some (s.eng.savectr, r.id, r.segs + 1) := by
  cases k <;> simp [suspend, setQueue, eachCopy]

@[simp] theorem suspend_savectr (n : Nat) (k : EngineKind) (r : Request) (e : Nat) (s : State) :
    (suspend n k r e s).eng.savectr = s.eng.savectr + 1 := by
  cases k <;> simp [suspend, setQueue, eachCopy]

/-! ## A unit's request ends (R104) -/

theorem finish_ok {r : Request} {id : Nat} {s : State} (a : Answer) (hclient : r.client = .item id)
    (hwait : waitsFor s id (.engine r.id) = true) : finish r (.ok a) s = itemAnswer id a s := by
  simp [finish, wanted, answerRequest, hclient, hwait]

theorem waitsFor_congr {s t : State} (h : t.dsp = s.dsp) (id : Nat) (w : Wait) : waitsFor t id w = waitsFor s id w := by
  rw [waitsFor, waitsFor, getItem, getItem, h]

theorem countBlocks_frame (k : EngineKind) (r : Request) (s : State) :
    ∃ f p, countBlocks k r s = { s with free := f, pmu := p } := by
  unfold countBlocks
  dsimp only
  split
  · exact ⟨s.free, countN_frame _ _ _ s⟩
  · exact ⟨_, countN_frame _ _ _ (takeFree 65536 s).2⟩

theorem unitDone_ok {s : State} {n id : Nat} {r : Request} {a : Answer} (hwork : workingOn s n = some r)
    (hclient : r.client = .item id) (hlast : segments r.op ≤ r.segs + 1) (hwait : waitsFor s id (.engine r.id) = true)
    (hcompute : compute s.flash.curves r = .ok a) :
    ∃ f p, unitDone n s = itemAnswer id a { modUnit n (fun u => { u with req := none }) s with free := f, pmu := p } := by
  obtain ⟨f, p, h⟩ := countBlocks_frame (if isPipe n then .sye else .dge) r (modUnit n (fun u => { u with req := none }) s)
  refine ⟨f, p, ?_⟩
  simp only [unitDone, hwork, hclient, if_neg (Nat.not_lt.2 hlast), h, modUnit_flash, hcompute]
  exact finish_ok a hclient ((waitsFor_congr rfl _ _).trans hwait)

/-! ## A lane's operation ends (10 R277) -/

/-- The state in which lane `l` counts one more operation. -/
def laneCounted (l : Nat) (s : State) : State :=
  eachCopy (fun c => { c with lops := tput c.lops l (satAdd max32 (tget c.lops l 0) 1) }) (count (0x80 + l) none s)

@[simp] theorem laneCounted_dsp (l : Nat) (s : State) : (laneCounted l s).dsp = s.dsp := count_dsp (0x80 + l) none s

@[simp] theorem laneCounted_now (l : Nat) (s : State) : (laneCounted l s).now = s.now := count_now (0x80 + l) none s

@[simp] theorem dropOp_dsp (l i : Nat) (s : State) : (dropOp l i s).dsp = s.dsp := rfl

@[simp] theorem dropOp_now (l i : Nat) (s : State) : (dropOp l i s).now = s.now := rfl

theorem laneOp_dropOp (l i : Nat) (s : State) : laneOp (dropOp l i s) l i = none := by
  simp only [laneOp, dropOp, modLane_bne, tfind_tmod_self]
  cases tfind s.bne.lanes l with
  | none => rfl
  | some x => simp [List.find?_eq_none]

theorem laneDone_ok {s : State} {l i id : Nat} {o : LaneOp} {a : Answer} (hop : laneOp s l i = some o)
    (hlease : s.vks.leaseW.all (fun e => e.2.2 ≠ lanePlace l i) = true) (hclient : o.req.client = .item id)
    (hlane : o.req.lane = none) (hwait : waitsFor s id (.engine o.req.id) = true)
    (hcompute : compute s.flash.curves o.req = .ok a) :
    laneDone l i s = itemAnswer id a (dropOp l i (laneCounted l (s.at_ o.fin))) := by
  have hnone : s.vks.leaseW.any (fun e => e.2.2 == lanePlace l i) = false := by simpa using hlease
  have hanswer : laneAnswer o.req (opTime (laneCounted l (s.at_ o.fin)).flash.curves o.req) (.ok a) = .ok a := by
    simp only [laneAnswer, hlane]
  simp only [laneDone, hop, hnone, hcompute]
  refine (congrArg (fun x => finish o.req x _) hanswer).trans (finish_ok a hclient ?_)
  exact (waitsFor_congr (t := dropOp l i (laneCounted l (s.at_ o.fin))) (by simp) _ _).trans hwait

/-! ## Lanes take requests (10 R277) -/

theorem drainBne_of_lane {s : State} (h : ∃ x ∈ s.bne.lanes, x.2.st ≠ .offline) : drainBne s = s := by
  obtain ⟨x, hx, hst⟩ := h
  have hall : s.bne.lanes.all (fun e => e.2.st == .offline) = false := List.all_eq_false.2 ⟨x, hx, by simpa using hst⟩
  simp [drainBne, hall]

theorem reserve_of_none {s : State} (h : mustReserve s = none) : reserve s = s := by
  simp only [reserve, h]

/-- The state in which lane `l` is reserved for request `r`. -/
def reserved (l : Nat) (r : Request) (s : State) : State :=
  count 0x98 none { s with bne := { s.bne with resv := some (l, r.id) } }

theorem reserve_of_some {s : State} {r : Request} {l : Nat} (h : mustReserve s = some r) (hresv : s.bne.resv = none)
    (hl : earliest (s.bne.lanes.filter (fun e => e.2.st == .online)) = some l) : reserve s = reserved l r s := by
  simp only [reserve, h, hresv, hl, reserved]

theorem exec_bneRequestStart_starts {s : State} {r : Request} {q : List Request} {l i : Nat}
    (hlane : ∃ x ∈ s.bne.lanes, x.2.st ≠ .offline) (hmust : mustReserve s = none) (hq : s.bne.queue = r :: q)
    (hplace : placeFor s r = some (l, i)) : exec .bneRequestStart s = .next (startLane l i r s) := by
  show execBneRequestStart s = _
  simp [execBneRequestStart, drainBne_of_lane hlane, reserve_of_none hmust, hq, hplace]

theorem exec_bneRequestStart_reserves {s : State} {r : Request} {l : Nat}
    (hlane : ∃ x ∈ s.bne.lanes, x.2.st ≠ .offline) (hmust : mustReserve s = some r) (hresv : s.bne.resv = none)
    (hl : earliest (s.bne.lanes.filter (fun e => e.2.st == .online)) = some l)
    (hfits : s.bne.queue.findSome? (placeFor (reserved l r s)) = none) :
    exec .bneRequestStart s = .next (reserved l r s) := by
  have hqueue : (reserved l r s).bne.queue = s.bne.queue := by simp [reserved]
  have hnone : s.bne.queue.findSome? (fun x => (placeFor (reserved l r s) x).map (fun p => (x, p))) = none := by
    simpa [List.findSome?_eq_none_iff] using hfits
  show execBneRequestStart s = _
  simp only [execBneRequestStart, drainBne_of_lane hlane, reserve_of_some hmust hresv hl, hqueue, hnone]

/-! ## Cache fills (11 R305) -/

theorem exec_hcacheFillWriteback {s : State} {n i g e : Nat} {r : Request}
    (hfill : s.eng.units.findSome? fillOf = some (n, r, i, g)) (hentry : (getSlot s i).entry = some e)
    (hgen : (getSlot s i).gen = g) (hcache : (getSlot s i).hcache = true)
    (hslot : (tfind s.eng.cache e).map (·.slot) = some i) :
    exec .hcacheFillWriteback s = .next { s with eng := { s.eng with
      units := tmod s.eng.units n (fun u => { u with req := none })
      cache := tmod s.eng.cache e (cacheStates (((r.got.head?).map (·.2)).getD [])) } } := by
  have hsame : getSlot (modUnit n (fun u => { u with req := none }) s) i = getSlot s i := rfl
  show execHcacheFillWriteback s = _
  simp [execHcacheFillWriteback, hfill, hsame, hentry, hgen, hcache, hslot]

/-- Settles O47, each clause from the outcome of its command. -/
theorem engineCommandsWork : Obligations.EngineCommandsWork := by
  intro s k r q n i l id a o e
  refine ⟨fun hunits hq hfree hkey hcont => ?_, exec_engineRequestStart_of_empty,
    fun hwork hmore => ⟨exec_segmentEnd_goesOn hwork hmore, fun hpress hsave => ?_⟩,
    fun hwork hclient hlast hwait hcompute => ?_, fun hop hlease hclient hlane hwait hcompute => ?_,
    fun hlane => ⟨exec_bneRequestStart_starts hlane, exec_bneRequestStart_reserves hlane⟩,
    fun g => exec_hcacheFillWriteback⟩
  · have hstart := exec_engineRequestStart hunits hq hfree hkey hcont
    refine ⟨hstart, fun hkeys hdest hclient => ?_⟩
    have hready := takeKeys_of_no_key (unitTakes n k r q s) hkeys hdest hclient
    exact ⟨hready, _, hstart.trans (by rw [hready]), unitTook_ready hfree hkeys⟩
  · obtain ⟨u, hu⟩ := exists_unit_of_workingOn hwork
    exact ⟨_, exec_segmentEnd_suspends hwork hmore hpress hsave, queueOf_suspend _ _ r e s, by simp [hu],
      suspend_saved _ _ r e s, suspend_savectr _ _ r e s⟩
  · obtain ⟨u, hu⟩ := exists_unit_of_workingOn hwork
    obtain ⟨f, p, hdone⟩ := unitDone_ok hwork hclient hlast hwait hcompute
    exact ⟨_, congrArg _ hdone, req_modUnit none hu, rfl⟩
  · refine ⟨dropOp l i (laneCounted l (s.at_ o.fin)), ?_, laneOp_dropOp l i _, by simp, by simp⟩
    exact congrArg (fun t => Host.Outcome.next (selfCheck s t)) (laneDone_ok hop hlease hclient hlane hwait hcompute)

end Sys2Proof.Machine

/-! # What the services of the opcodes share (05 R104; 06 R132, R133)

A service reads its payload, asks an engine and replies. Its checks drop out where the payload keeps to its ranges; what is left
takes the answers that are recorded and then gives a value, ends with a status or asks for more. -/

namespace Sys2Proof.Machine

set_option Elab.async false

/-! ## What a service does with the answers it has had (05 R104) -/

section Runs

variable {α β : Type}

/-- The service takes these answers, no more, and gives `a`. -/
structure Gives (x : Svc α) (l : List Answer) (a : α) : Prop where
  runs : ∀ m s, x ⟨l ++ m, s⟩ = .ok (a, ⟨m, s⟩)

/-- On these answers the service ends its item with a status. -/
structure Refuses (x : Svc α) (l : List Answer) (st d : Nat) : Prop where
  runs : ∀ s, x ⟨l, s⟩ = .error (.reply (.bare st d) s)

/-- On these answers the service stops and waits for more. -/
structure Asks (x : Svc α) (l : List Answer) (place : State → State) : Prop where
  runs : ∀ s, x ⟨l, s⟩ = .error (.wait (place s))

protected theorem Gives.pure (a : α) : Gives (pure a) [] a := ⟨fun _ _ => rfl⟩

protected theorem Gives.done (b : Bytes) : Gives (done b) [] (.done b) := .pure _

protected theorem Refuses.finish (st d : Nat) : Refuses (Svc.finish st d : Svc α) [] st d := ⟨fun _ => rfl⟩

protected theorem Gives.bind {x : Svc α} {f : α → Svc β} {l m : List Answer} {a : α} {b : β} (hx : Gives x l a)
    (hf : Gives (f a) m b) : Gives (x >>= f) (l ++ m) b := by
  refine ⟨fun n s => ?_⟩
  rw [List.append_assoc, svc_bind, hx.runs]
  exact hf.runs n s

protected theorem Gives.map {x : Svc α} {l : List Answer} {a : α} (f : α → β) (hx : Gives x l a) :
    Gives (x >>= fun a => pure (f a)) l (f a) :=
  List.append_nil l ▸ hx.bind (.pure _)

protected theorem Gives.bind_refuses {x : Svc α} {f : α → Svc β} {l m : List Answer} {a : α} {st d : Nat} (hx : Gives x l a)
    (hf : Refuses (f a) m st d) : Refuses (x >>= f) (l ++ m) st d := by
  refine ⟨fun s => ?_⟩
  rw [svc_bind, hx.runs]
  exact hf.runs s

protected theorem Gives.bind_asks {x : Svc α} {f : α → Svc β} {l : List Answer} {a : α} {place : State → State}
    (hx : Gives x l a) (hf : Asks (f a) [] place) : Asks (x >>= f) l place := by
  refine ⟨fun s => ?_⟩
  rw [svc_bind, ← List.append_nil l, hx.runs]
  exact hf.runs s

protected theorem Asks.bind {x : Svc α} {l : List Answer} {place : State → State} (f : α → Svc β) (hx : Asks x l place) :
    Asks (x >>= f) l place := by
  refine ⟨fun s => ?_⟩
  rw [svc_bind, hx.runs]

end Runs

/-! ## Requests and draws (12 R329; 06 R140, R148) -/

section Requests

variable (k : Engine) (id : Nat) (it : Item) (keys : List KeyReq) (chain : List KeyStep) (op : EngineOp) (d : Option NewSlot)

protected theorem Asks.engine :
    Asks (Svc.engine k id it keys chain op d) [] (askEngine k id (itemRequest id it keys chain op d)) :=
  ⟨fun _ => rfl⟩

theorem Gives.engine_ok (b : Bytes) : Gives (Svc.engine k id it keys chain op d) [.ok b] (.ok b) := ⟨fun _ _ => rfl⟩

theorem Gives.engine_nums (l : List Nat) : Gives (Svc.engine k id it keys chain op d) [.nums l] (.nums l) := ⟨fun _ _ => rfl⟩

end Requests

protected theorem Gives.draw (id : Nat) (it : Item) (n : Nat) (b : Bytes) : Gives (Svc.draw id it n) [.ok b] b :=
  ⟨fun _ _ => rfl⟩

/-- Bytes below a limit: one draw that gave enough of them is the only one. -/
protected theorem Gives.drawBelow {limit n : Nat} {draws : List Answer} {bytes : Bytes} (id : Nat) (it : Item) (hn : 0 < n)
    (h : DrewBelow limit n draws bytes) : Gives (drawBelow id it limit n it.rounds []) draws bytes := by
  obtain ⟨b, rfl, hlen, rfl⟩ := h
  have hfirst : ¬ n ≤ ([] : Bytes).length := Nat.not_le.2 hn
  rw [Item.rounds, drawBelow, if_neg hfirst]
  refine (Gives.draw id it _ b).bind (m := []) ?_
  rw [List.nil_append, drawBelow, if_pos hlen]
  exact .pure _

/-- The draws behind a block's fill give a fill (the number of bytes is the model's choice, log 29). -/
protected theorem Gives.fillDraw {fmt n : Nat} {draws : List Answer} (id : Nat) (it : Item) (hn : 0 < n) (hfmt : fmt ≤ 4)
    (h : Fills fmt n draws) : ∃ fill, Gives (fillDraw id it fmt n) draws fill := by
  match fmt with
  | 0 | 2 =>
    obtain rfl : draws = [] := h
    exact ⟨[], .pure []⟩
  | 1 =>
    obtain ⟨b, rfl⟩ : ∃ b, draws = [.ok b] := h
    exact ⟨b, .draw id it n b⟩
  | 3 =>
    obtain ⟨b, hb⟩ : ∃ b, DrewBelow 252 n draws b := h
    exact ⟨_, (Gives.drawBelow id it hn hb).map _⟩
  | 4 =>
    obtain ⟨b, rfl⟩ : ∃ b, draws = [.ok b] := h
    exact ⟨b, .draw id it 8 b⟩

/-- A new slot whose index has been decided. -/
protected theorem Gives.newSlot {b : SlotBlock} (id : Nat) (it : Item) (fromKey : Bool) (slot : Nat)
    (h : b.ucnt ≠ 0 ∨ b.xrst = 1) :
    Gives (Svc.newSlot id it b false fromKey) [.nums [slot]] (b.new slot it.tenant fromKey) := by
  have huses : (b.ucnt != 0 || b.xrst == 1) = true := by simpa using h
  rw [Svc.newSlot, svc_bad_of _ huses, pure_bind]
  exact ⟨fun _ _ => rfl⟩

/-! ## The service of an opcode that runs (05 R104) -/

section Opcode

variable {s : State} {id op : Nat} {it : Item} {l : List Answer} {svc : Item → Svc Reply}

theorem runOpcode_gives {r : Reply} (h : Running s id op it l) (hs : Gives (svc it) l r) :
    runOpcode op id svc s = itemDone id r s :=
  runOpcode_reply h (by simpa using hs.runs [] s)

theorem runOpcode_ends {st d : Nat} (h : Running s id op it l) (hs : Refuses (svc it) l st d) :
    runOpcode op id svc s = itemEnd id st d s :=
  runOpcode_refuses h (hs.runs s)

theorem runOpcode_asks {place : State → State} (h : Running s id op it l) (hs : Asks (svc it) l place) :
    runOpcode op id svc s = place s :=
  runOpcode_wait h (hs.runs s)

/-- A service that begins with an engine request asks for it. -/
theorem runOpcode_request {k : Engine} {keys : List KeyReq} {chain : List KeyStep} {e : EngineOp} {d : Option NewSlot}
    {f : Answer → Svc Reply} (h : Running s id op it []) (hs : svc it = Svc.engine k id it keys chain e d >>= f) :
    runOpcode op id svc s = askEngine k id (itemRequest id it keys chain e d) s :=
  runOpcode_asks h (hs ▸ (Asks.engine ..).bind f)

/-- A service that replies what it makes of its last answer. -/
theorem runOpcode_done {α : Type} {x : Svc α} {f : α → Bytes} {a : α} (h : Running s id op it l)
    (hs : svc it = x >>= fun a => done (f a)) (hx : Gives x l a) : runOpcode op id svc s = itemDone id (.done (f a)) s :=
  runOpcode_gives h (hs ▸ hx.map _)

/-- A service of one request that replies the bytes it is answered, as an opcode's command runs it. -/
theorem request_and_reply {k : Engine} {keys : List KeyReq} {chain : List KeyStep} {e : EngineOp} {d : Option NewSlot}
    (out : Bytes) (hs : svc it = Svc.engine k id it keys chain e d >>= fun a => done a.bytes) :
    (Running s id op it [] → (.next (runOpcode op id svc s) : Host.Outcome State Fault Refusal) =
      .next (askEngine k id (itemRequest id it keys chain e d) s)) ∧
    (Running s id op it [.ok out] → (.next (runOpcode op id svc s) : Host.Outcome State Fault Refusal) =
      .next (itemDone id (.done out) s)) :=
  ⟨fun h => by rw [runOpcode_request h hs],
    fun h => by rw [runOpcode_done h hs (.engine_ok k id it keys chain e d out)]; rfl⟩

/-- A service that ends with a comparison replies DONE or VERIFY_FAIL. -/
theorem runOpcode_verified {α : Type} {x : Svc α} {ok : α → Bool} {a : α} (h : Running s id op it l)
    (hs : svc it = x >>= fun a => verified (ok a)) (hx : Gives x l a) :
    runOpcode op id svc s = if ok a then itemDone id (.done []) s else itemEnd id 0x0501 0 s := by
  rw [← List.append_nil l] at h
  cases hok : ok a with
  | true => exact runOpcode_gives h (hs ▸ hx.bind (by rw [hok]; exact .done []))
  | false => exact runOpcode_ends h (hs ▸ hx.bind_refuses (by rw [hok]; exact ⟨fun _ => rfl⟩))

end Opcode

/-! ## Checks that a payload in its ranges passes (R132, R133) -/

theorem Laid.len {it : Item} {n : Nat} {l : List (Nat × Nat)} (h : Laid it n l) : Svc.len (it.payload.length == n) = pure () :=
  svc_len_of (by simp [h.1])

theorem Laid.lenFrom {it : Item} {n d : Nat} {l : List (Nat × Nat)} (h : Laid it (n + d) l) :
    Svc.len (n ≤ it.payload.length && it.payload.length == n + d) = pure () :=
  svc_len_of (by simp [h.1])

theorem Handle.checked {h : Nat} (hh : Handle h) : Svc.handle h = pure () := by
  have hok : decide (256 ≤ h / 65536) = true := decide_eq_true hh
  rw [Svc.handle, hok, svc_check_true]

theorem svc_pan_of {b : Bytes} {lo hi : Nat} {pan : List Nat} (h : panField b lo hi = some pan) : Svc.pan b lo hi = pure pan := by
  rw [Svc.pan, h]

/-- METHOD is the IBM 3624 offset or the PVV (R144). -/
theorem RefFits.offset_or_pvv {r : RefBlock} {read : Bool} (h : RefFits r read) : r.method = 0 ∨ r.method = 1 := by
  obtain ⟨-, hmethod, -⟩ := h
  exact Nat.le_one_iff_eq_zero_or_eq_one.1 hmethod

theorem RefFits.range {r : RefBlock} {read : Bool} (h : RefFits r read) : Svc.refRange r = pure () := by
  obtain ⟨hpvk, hmethod, hpvki, hdtab, -⟩ := h
  rw [Svc.refRange, hpvk.checked, pure_bind, svc_range_of (by simp only [hmethod, hpvki, hdtab, decide_true, Bool.and_self])]

theorem RefFits.agree {r : RefBlock} {read : Bool} (h : RefFits r read) : Svc.refAgree r read = pure () := by
  obtain ⟨-, -, -, -, hagrees, hrefval, hdtab⟩ := h
  have hform : (r.agrees && if read then r.formed else r.refval.all (· == 0)) = true := by
    cases read <;> simpa [hagrees] using hrefval
  have htable : (r.method == 1 || (List.range 10).all fun d => 1 ≤ r.dtab.count d && r.dtab.count d ≤ 2) = true := by
    simpa only [Bool.or_eq_true, beq_iff_eq] using hdtab
  rw [Svc.refAgree, svc_bad_of _ hform, pure_bind, svc_bad_of _ htable]

end Sys2Proof.Machine

/-! # The PIN services (06 R138-R148) -/

namespace Sys2Proof.Machine

set_option Elab.async false

/-! ## PIN_TRANSLATE (R143) -/

/-- The outgoing block, where a PIN was recovered. -/
protected theorem Gives.translateOut {l : List Nat} (id : Nat) (it : Item) (i o okey : Nat) (pan : List Nat) (fill out : Bytes)
    (h : ((numsPins 2 l).headD none).isSome = true) :
    Gives (translateOut id it (.nums l) i o okey pan fill) [.ok out] (.done out) := by
  match hp : numsPins 2 l with
  | some pin :: _ =>
    simp only [translateOut, Answer.list, hp]
    exact (Gives.engine_ok _ _ _ _ _ _ _ out).bind (.done out)
  | none :: _ => simp [hp] at h
  | [] => simp [hp] at h

protected theorem Refuses.translateOut {l : List Nat} (id : Nat) (it : Item) (i o okey : Nat) (pan : List Nat) (fill : Bytes)
    (h : (numsPins 2 l).headD none = none) :
    Refuses (translateOut id it (.nums l) i o okey pan fill) [] 0x0105 0x0120 := by
  match hp : numsPins 2 l with
  | some pin :: _ => simp [hp] at h
  | none :: _ => simp only [translateOut, Answer.list, hp]; exact .finish ..
  | [] => simp only [translateOut, Answer.list, hp]; exact .finish ..

/-- The PAN of a payload that two block formats bind or leave unread. -/
def boundPan (it : Item) (off i o : Nat) : Option (List Nat) :=
  panField (it.b off 12) (if panBound i || panBound o then 12 else 0) (if panBound i || panBound o then 19 else 0)

/-- The steps that PIN_TRANSLATE and DUKPT_PIN_TRANSLATE share: the fill, the check of the incoming block under a key, the
outgoing block. -/
def pinTranslation (id : Nat) (it : Item) (i o okey : Nat) (pan : List Nat) (key : KeyReq) (chain : List KeyStep) (blk : Bytes) :
    Svc Reply := do
  let fill ← fillDraw id it o 10
  let a ← Svc.engine .sye id it [key] chain (.pinDecipher i pan [blk])
  translateOut id it a i o okey pan fill

/-- The formats, the outgoing handle and the PAN of a translation keep to their ranges and go together (Table 6.5). -/
structure TranslationFields (it : Item) (off i o okey : Nat) (pan : List Nat) : Prop where
  ifmt : i ≤ 4
  ofmt : o ≤ 4
  key : Handle okey
  pan : boundPan it off i o = some pan
  pair : pairOk i o = true

theorem svcPinTranslate_eq {it : Item} {pan : List Nat} (id : Nat)
    (hlaid : Laid it 36 ([(2, 2), (9, 1)] ++ blockTail (it.f 0 1) 20))
    (h : TranslationFields it 8 (it.f 0 1) (it.f 1 1) (it.f 4 4) pan) :
    svcPinTranslate id it = pinTranslation id it (it.f 0 1) (it.f 1 1) (it.f 4 4) pan
      (keyNeed it it.key (pinTypes (it.f 0 1)) uPINENC) [] (it.b 20 16) := by
  have hrange : Svc.range (it.f 0 1 ≤ 4 && it.f 1 1 ≤ 4) = pure () := svc_range_of (by simp [h.ifmt, h.ofmt])
  simp only [svcPinTranslate, hlaid.len, hlaid.zero, hrange, h.key.checked, svc_pan_of h.pan, svc_bad_of _ h.pair, pure_bind,
    pinTranslation]

section Translation

variable {fills : List Answer} {o : Nat} (id : Nat) (it : Item) (i okey : Nat) (pan : List Nat) (key : KeyReq)
  (chain : List KeyStep) (blk : Bytes) (ho : o ≤ 4) (hfills : Fills o 10 fills)

include ho hfills

protected theorem Asks.pinTranslation : Asks (pinTranslation id it i o okey pan key chain blk) fills
    (askEngine .sye id (itemRequest id it [key] chain (.pinDecipher i pan [blk]) none)) := by
  obtain ⟨fill, hfill⟩ := Gives.fillDraw id it (by decide) ho hfills
  exact hfill.bind_asks ((Asks.engine ..).bind _)

protected theorem Gives.pinTranslation {l : List Nat} (out : Bytes) (h : ((numsPins 2 l).headD none).isSome = true) :
    Gives (pinTranslation id it i o okey pan key chain blk) (fills ++ [.nums l, .ok out]) (.done out) := by
  obtain ⟨fill, hfill⟩ := Gives.fillDraw id it (by decide) ho hfills
  exact hfill.bind ((Gives.engine_nums ..).bind (.translateOut id it i o okey pan fill out h))

protected theorem Refuses.pinTranslation {l : List Nat} (h : (numsPins 2 l).headD none = none) :
    Refuses (pinTranslation id it i o okey pan key chain blk) (fills ++ [.nums l]) 0x0105 0x0120 := by
  obtain ⟨fill, hfill⟩ := Gives.fillDraw id it (by decide) ho hfills
  exact hfill.bind_refuses ((Gives.engine_nums ..).bind_refuses (.translateOut id it i o okey pan fill h))

end Translation

/-! ## PIN_VERIFY, PIN_CHANGE, PIN_GENERATE (R146-R148) -/

theorem svcPinVerify_eq {it : Item} {pan : List Nat} (id : Nat)
    (h : Laid it 64 ([(1, 3), (5, 1)] ++ blockTail (it.f 0 1) 16 ++ refRsvd 32)) (hi : it.f 0 1 ≤ 4)
    (hpan : panField (it.b 4 12) 12 19 = some pan) (hr : RefFits (refBlock (it.b 32 32)) true) :
    let r := refBlock (it.b 32 32)
    svcPinVerify id it = Svc.engine .sye id it
      [keyNeed it it.key (pinTypes (it.f 0 1)) uPINENC, keyNeed it r.pvk tdesTypes uPINVER] []
      (.pinRef (it.f 0 1) pan [it.b 16 16] r.method r.vdata r.pvki) >>= fun a =>
        verified (r.verifies ((numsPins 1 a.list).headD none) (a.list.drop (a.list.length - 16))) := by
  simp only [svcPinVerify, h.len, h.zero, svc_range_of (decide_eq_true hi), svc_pan_of hpan, hr.range, hr.agree, pure_bind]

/-- What PIN_CHANGE makes of the engine's answer: the old PIN compared where VFY asks for it, then the new PIN's value. -/
def changeReply (r : RefBlock) (vfy : Nat) (l : List Nat) : Svc Reply := do
  Svc.check (vfy == 0 || r.verifies ((numsPins 2 l).headD none) ((l.drop (l.length - 32)).take 16)) 0x0501 0
  match (numsPins 2 l).getD 1 none with
  | none => Svc.finish 0x0105 0x0120
  | some pin =>
    match r.value ((l.drop (l.length - 32)).drop 16) pin with
    | none => Svc.finish 0x0105 0x0122
    | some v => done (refvalBytes v)

/-- The payload of PIN_CHANGE keeps to its ranges. -/
structure ChangeFields (it : Item) (pan : List Nat) : Prop where
  laid : Laid it 80 ([(2, 2), (5, 1)] ++ blockTail (it.f 0 1) 16 ++ blockTail (it.f 0 1) 32 ++ refRsvd 48)
  ifmt : it.f 0 1 ≤ 4
  vfy : it.f 1 1 ≤ 1
  pan : panField (it.b 4 12) 12 19 = some pan
  ref : RefFits (refBlock (it.b 48 32)) (it.f 1 1 == 1)
  old : it.f 1 1 = 0 → isZero (it.b 16 16) = true

theorem ChangeFields.svcPinChange_eq {it : Item} {pan : List Nat} (id : Nat) (h : ChangeFields it pan) :
    let r := refBlock (it.b 48 32)
    svcPinChange id it = Svc.engine .sye id it
      [keyNeed it it.key (pinTypes (it.f 0 1)) uPINENC, keyNeed it r.pvk tdesTypes uPINVER] []
      (.pinRef (it.f 0 1) pan [it.b 16 16, it.b 32 16] r.method r.vdata r.pvki) >>= fun a => changeReply r (it.f 1 1) a.list := by
  have hrange : Svc.range (it.f 0 1 ≤ 4 && it.f 1 1 ≤ 1) = pure () := svc_range_of (by simp [h.ifmt, h.vfy])
  have hold : (it.f 1 1 == 1 || isZero (it.b 16 16)) = true := by
    obtain h0 | h1 : it.f 1 1 = 0 ∨ it.f 1 1 = 1 := Nat.le_one_iff_eq_zero_or_eq_one.1 h.vfy
    · simp [h.old h0]
    · simp [h1]
  simp only [svcPinChange, h.laid.len, h.laid.zero, hrange, svc_pan_of h.pan, h.ref.range, svc_bad_of _ hold,
    h.ref.agree, pure_bind] <;> rfl

protected theorem Gives.changeReply {r : RefBlock} {vfy : Nat} {l pin v : List Nat}
    (hold : vfy = 0 ∨ r.verifies ((numsPins 2 l).headD none) ((l.drop (l.length - 32)).take 16) = true)
    (hpin : (numsPins 2 l).getD 1 none = some pin) (hv : r.value ((l.drop (l.length - 32)).drop 16) pin = some v) :
    Gives (changeReply r vfy l) [] (.done (refvalBytes v)) := by
  have hok : (vfy == 0 || r.verifies ((numsPins 2 l).headD none) ((l.drop (l.length - 32)).take 16)) = true := by simpa using hold
  simp only [changeReply, hok, svc_check_true, pure_bind, hpin, hv]
  exact .done _

protected theorem Refuses.changeReply {r : RefBlock} {vfy : Nat} {l : List Nat} (hvfy : vfy = 1)
    (h : r.verifies ((numsPins 2 l).headD none) ((l.drop (l.length - 32)).take 16) = false) :
    Refuses (changeReply r vfy l) [] 0x0501 0 := by
  have hfails : (vfy == 0 || r.verifies ((numsPins 2 l).headD none) ((l.drop (l.length - 32)).take 16)) = false := by
    rw [h, hvfy]
    rfl
  rw [changeReply, hfails]
  exact ⟨fun _ => rfl⟩

/-- The payload of PIN_GENERATE keeps to its ranges. -/
structure GenerateFields (it : Item) (pan : List Nat) : Prop where
  laid : Laid it 48 ([(3, 1), (5, 1)] ++ refRsvd 16)
  ofmt : it.f 0 1 ≤ 4
  len : 4 ≤ it.f 1 1 ∧ it.f 1 1 ≤ 12
  gmode : it.f 2 1 ≤ 1
  pan : panField (it.b 4 12) 12 19 = some pan
  ref : RefFits (refBlock (it.b 16 32)) false
  natural : it.f 2 1 = 1 → (refBlock (it.b 16 32)).method = 0 ∧ it.f 1 1 = (refBlock (it.b 16 32)).chklen
  chklen : (refBlock (it.b 16 32)).method = 0 → (refBlock (it.b 16 32)).chklen ≤ it.f 1 1

/-- The PIN that PIN_GENERATE makes: drawn digits, or the natural PIN of the PVK's nibbles. -/
def generatedPin (it : Item) (rnd : Bytes) (x : List Nat) : List Nat :=
  if it.f 2 1 = 0 then rnd.map (fun b => b.toNat % 10)
  else naturalPin (refBlock (it.b 16 32)).dtab x (refBlock (it.b 16 32)).chklen

/-- The bytes that PIN_GENERATE draws for its digits: none under the natural PIN. -/
def pinDraw (id : Nat) (it : Item) : Svc Bytes :=
  if it.f 2 1 = 0 then drawBelow id it 250 (it.f 1 1) it.rounds [] else pure []

/-- PIN_GENERATE past its checks. -/
def pinGeneration (id : Nat) (it : Item) (pan : List Nat) : Svc Reply := do
  let r := refBlock (it.b 16 32)
  let rnd ← pinDraw id it
  let fill ← fillDraw id it (it.f 0 1) (14 - it.f 1 1)
  let a ← Svc.engine .sye id it [keyNeed it r.pvk tdesTypes uPINVER] [] (.cipher 0 true false (zeros 16) []
    (if r.method = 0 then r.vdata else pvvInput pan r.pvki (rnd.map (fun b => b.toNat % 10))) [] 0)
  let x := nibbles (a.bytes.drop 16)
  let blk ← Svc.engine .sye id it [keyNeed it it.key (pinTypes (it.f 0 1)) uPINENC] []
    (.pinEncipher (it.f 0 1) pan (generatedPin it rnd x) fill)
  done (blk.bytes ++ refvalBytes ((r.value x (generatedPin it rnd x)).getD []))

theorem GenerateFields.svcPinGenerate_eq {it : Item} {pan : List Nat} (id : Nat) (h : GenerateFields it pan) :
    svcPinGenerate id it = pinGeneration id it pan := by
  obtain ⟨hlaid, hofmt, ⟨hlo, hhi⟩, hgmode, hpan, href, hnatural, hchklen⟩ := h
  have hrange : Svc.range (it.f 0 1 ≤ 4 && 4 ≤ it.f 1 1 && it.f 1 1 ≤ 12 && it.f 2 1 ≤ 1) = pure () :=
    svc_range_of (by simp [hofmt, hlo, hhi, hgmode])
  have hmode : (it.f 2 1 == 0 || ((refBlock (it.b 16 32)).method == 0 && it.f 1 1 == (refBlock (it.b 16 32)).chklen)) = true := by
    obtain h0 | h1 : it.f 2 1 = 0 ∨ it.f 2 1 = 1 := Nat.le_one_iff_eq_zero_or_eq_one.1 hgmode
    · simp [h0]
    · simp [hnatural h1]
  have hlong : ((refBlock (it.b 16 32)).method == 1 || decide ((refBlock (it.b 16 32)).chklen ≤ it.f 1 1)) = true := by
    rcases href.offset_or_pvv with h0 | h1
    · simp [hchklen h0]
    · simp [h1]
  simp only [svcPinGenerate, hlaid.len, hlaid.zero, hrange, svc_pan_of hpan, href.range, href.agree, svc_bad_of _ hmode,
    svc_bad_of _ hlong, pure_bind, pinGeneration, generatedPin, beq_iff_eq, pinDraw]
  split <;> rfl

/-- The draws of PIN_GENERATE, and the PIN that their bytes lead to. -/
protected theorem Gives.pinDraw {it : Item} {draws : List Answer} {rnd : Bytes} (id : Nat) (x : List Nat) (hn : 0 < it.f 1 1)
    (h : if it.f 2 1 = 0 then DrewBelow 250 (it.f 1 1) draws rnd else draws = []) :
    ∃ drawn, Gives (pinDraw id it) draws drawn ∧ generatedPin it drawn x = generatedPin it rnd x := by
  unfold pinDraw
  split at h
  next h0 => exact ⟨rnd, by rw [if_pos h0]; exact .drawBelow id it hn h, rfl⟩
  next h0 => exact ⟨[], by rw [if_neg h0, h]; exact .pure [], by simp [generatedPin, h0]⟩

protected theorem Gives.pinGeneration {it : Item} {draws fills : List Answer} {rnd : Bytes} (id : Nat) (pan : List Nat)
    (out blk : Bytes) (hofmt : it.f 0 1 ≤ 4) (hlen : 4 ≤ it.f 1 1 ∧ it.f 1 1 ≤ 12)
    (hdraws : if it.f 2 1 = 0 then DrewBelow 250 (it.f 1 1) draws rnd else draws = [])
    (hfills : Fills (it.f 0 1) (14 - it.f 1 1) fills) :
    let x := nibbles (out.drop 16)
    Gives (pinGeneration id it pan) (draws ++ fills ++ [.ok out, .ok blk])
      (.done (blk ++ refvalBytes (((refBlock (it.b 16 32)).value x (generatedPin it rnd x)).getD []))) := by
  intro x
  obtain ⟨fill, hfill⟩ := Gives.fillDraw id it (by omega) hofmt hfills
  obtain ⟨drawn, hdrawn, hpin⟩ := Gives.pinDraw id x (by omega) hdraws
  rw [List.append_assoc, ← hpin]
  refine hdrawn.bind ?_
  refine hfill.bind ?_
  exact (Gives.engine_ok _ _ _ _ _ _ _ out).bind ((Gives.engine_ok _ _ _ _ _ _ _ blk).bind (.done _))

/-- Settles O34: past its checks each service is its requests, and each answer leads to the reply stated. PIN_VERIFY and
PIN_CHANGE name both their keys in one request (log 117). -/
theorem pinServicesReply : Obligations.PinServicesReply := by
  intro s id it pan l fills draws out rnd
  refine ⟨?_, ?_, ?_, ?_⟩
  · intro i o b hlaid hi ho hkey hpan hpair hfills
    have heq := svcPinTranslate_eq id hlaid ⟨hi, ho, hkey, hpan, hpair⟩
    exact ⟨fun h => congrArg _ (runOpcode_asks h (heq ▸ .pinTranslation id it i _ pan _ _ _ ho hfills)),
      fun h hpin => congrArg _ (runOpcode_gives h (heq ▸ .pinTranslation id it i _ pan _ _ _ ho hfills out hpin)),
      fun h hpin => congrArg _ (runOpcode_ends h (heq ▸ .pinTranslation id it i _ pan _ _ _ ho hfills hpin))⟩
  · intro i r hlaid hi hpan hr
    have heq := svcPinVerify_eq id hlaid hi hpan hr
    exact ⟨fun h => congrArg _ (runOpcode_request h heq),
      fun h => congrArg _ (runOpcode_verified h heq (.engine_nums _ _ _ _ _ _ _ l))⟩
  · intro i r x hlaid hi hvfy hpan hr hold h
    have heq := ChangeFields.svcPinChange_eq id ⟨hlaid, hi, hvfy, hpan, hr, hold⟩
    refine ⟨fun pin v hver hpin hv => congrArg _ (runOpcode_gives h (heq ▸ (Gives.engine_nums _ _ _ _ _ _ _ l).bind ?_)),
      fun h1 hver => congrArg _ (runOpcode_ends h (heq ▸ (Gives.engine_nums _ _ _ _ _ _ _ l).bind_refuses ?_))⟩
    · exact .changeReply hver hpin hv
    · exact .changeReply h1 hver
  · intro o n g r pin0 x pin hlaid ho hlo hhi hg hpan hr hnat hchk hdraws hfills blk h
    have heq := GenerateFields.svcPinGenerate_eq id ⟨hlaid, ho, ⟨hlo, hhi⟩, hg, hpan, hr, hnat, hchk⟩
    exact congrArg _ (runOpcode_gives h (heq ▸ .pinGeneration id pan out blk ho ⟨hlo, hhi⟩ hdraws hfills))

end Sys2Proof.Machine

/-! # The card and EMV services (06 R149-R155) -/

namespace Sys2Proof.Machine

set_option Elab.async false

/-! ## CVV_GENERATE, CVV_VERIFY (R149) -/

/-- The expiry date and service code are seven digits and a filler, and the value has three to five digits. -/
structure Dated (it : Item) : Prop where
  digits : ((nibbles (it.b 12 4)).take 7).all (· < 10) = true
  filler : (nibbles (it.b 12 4)).getD 7 0 = 15
  len : 3 ≤ it.f 16 1 ∧ it.f 16 1 ≤ 5

theorem Dated.cvvChecks {it : Item} {n : Nat} {pan : List Nat} (h : Dated it) (hlaid : Laid it n [(1, 1), (17, 3)])
    (hpan : panField (it.b 0 12) 12 19 = some pan) : cvvChecks it n = pure pan := by
  have hrange : Svc.range (((nibbles (it.b 12 4)).take 7).all (· < 10) && (nibbles (it.b 12 4)).getD 7 0 == 15 &&
      3 ≤ it.f 16 1 && it.f 16 1 ≤ 5) = pure () :=
    svc_range_of (by simp only [h.digits, h.filler, h.len, beq_self_eq_true, decide_true, Bool.and_self])
  simp only [Machine.cvvChecks, hlaid.len, hlaid.zero, svc_pan_of hpan, hrange, pure_bind]

theorem svcCvvGenerate_eq {it : Item} {pan : List Nat} (id : Nat) (h : Dated it) (hlaid : Laid it 20 [(1, 1), (17, 3)])
    (hpan : panField (it.b 0 12) 12 19 = some pan) :
    svcCvvGenerate id it = Svc.engine .sye id it [keyNeed it it.key [1] uCVK] [] (.cvv (pan ++ (nibbles (it.b 12 4)).take 7)) >>=
      fun a => done (packNibbles (a.list.take (it.f 16 1) ++ List.replicate (8 - (a.list.take (it.f 16 1)).length) 15)) := by
  simp only [svcCvvGenerate, h.cvvChecks hlaid hpan, cvvValue, pure_bind, bind_assoc]

theorem svcCvvVerify_eq {it : Item} {pan : List Nat} (id : Nat) (h : Dated it) (hlaid : Laid it 24 [(1, 1), (17, 3)])
    (hpan : panField (it.b 0 12) 12 19 = some pan) (hdigits : ((nibbles (it.b 20 4)).take (it.f 16 1)).all (· < 10) = true)
    (hfiller : ((nibbles (it.b 20 4)).drop (it.f 16 1)).all (· == 15) = true) :
    svcCvvVerify id it = Svc.engine .sye id it [keyNeed it it.key [1] uCVK] [] (.cvv (pan ++ (nibbles (it.b 12 4)).take 7)) >>=
      fun a => verified (a.list.take (it.f 16 1) == (nibbles (it.b 20 4)).take (it.f 16 1)) := by
  have hrange : Svc.range (((nibbles (it.b 20 4)).take (it.f 16 1)).all (· < 10) &&
      ((nibbles (it.b 20 4)).drop (it.f 16 1)).all (· == 15)) = pure () :=
    svc_range_of (by rw [hdigits, hfiller, Bool.and_self])
  simp only [svcCvvVerify, h.cvvChecks hlaid hpan, hrange, cvvValue, pure_bind, bind_assoc]

/-! ## ARQC_VERIFY, SCRIPT_MAC, SCRIPT_ENCRYPT (R152-R155) -/

/-- The payload of ARQC_VERIFY keeps to its ranges. -/
structure ArqcFields (it : Item) (pan : List Nat) : Prop where
  laid : Laid it (44 + it.f 40 2) [(1, 1), (29, 3), (42, 2)]
  pan : panField (it.b 0 12) 12 19 = some pan
  psn : bcd2 (it.f 12 1) = true
  method : it.f 13 1 ≤ 2
  padlen : it.f 28 1 ≤ 8
  data : 1 ≤ it.f 40 2 ∧ it.f 40 2 ≤ 1024
  unpadded : it.f 13 1 ≠ 2 → it.f 28 1 = 0
  noCsu : it.f 13 1 = 0 → isZero (it.b 24 4) = true
  shortCsu : it.f 13 1 = 1 → isZero (it.b 26 2) = true
  tail : isZero (it.b (32 + it.f 28 1) (8 - it.f 28 1)) = true

/-- The fields of the ARPC agree with its method (Table 6.16). -/
theorem ArqcFields.agree {it : Item} {pan : List Nat} (h : ArqcFields it pan) :
    ((it.f 13 1 == 2 || it.f 28 1 == 0) && (it.f 13 1 != 0 || isZero (it.b 24 4)) && (it.f 13 1 != 1 || isZero (it.b 26 2))) =
      true := by
  have hmethod : it.f 13 1 = 0 ∨ it.f 13 1 = 1 ∨ it.f 13 1 = 2 := by
    have := h.method
    omega
  rcases hmethod with h0 | h1 | h2
  · simp [h0, h.unpadded, h.noCsu]
  · simp [h1, h.unpadded, h.shortCsu]
  · simp [h2]

theorem ArqcFields.svcArqcVerify_eq {it : Item} {pan : List Nat} (id : Nat) (h : ArqcFields it pan) :
    svcArqcVerify id it = Svc.engine .sye id it
      [keyNeed it it.key imkTypes (uICCMK ||| uMACV ||| (if it.f 13 1 = 0 then 0 else uMACG))]
      [.icc pan (psnDigits (it.f 12 1)), .session (padTo 8 (it.b 14 2))]
      (.arqc (it.f 13 1) (it.b 16 8) (it.b 24 4) (it.b 32 (it.f 28 1)) (it.b 44 (it.f 40 2))) >>= fun a => done a.bytes := by
  have hrange : Svc.range (bcd2 (it.f 12 1) && it.f 13 1 ≤ 2 && it.f 28 1 ≤ 8 && 1 ≤ it.f 40 2 && it.f 40 2 ≤ 1024) = pure () :=
    svc_range_of (by simp only [h.psn, h.method, h.padlen, h.data, decide_true, Bool.and_self])
  simp only [svcArqcVerify, h.laid.lenFrom, h.laid.zero, svc_pan_of h.pan, hrange, svc_bad_of _ h.agree, svc_bad_of _ h.tail,
    pure_bind, beq_iff_eq]

theorem svcScriptMac_eq {it : Item} {pan : List Nat} (id : Nat) (hlaid : Laid it (28 + it.f 24 2) [(1, 1), (14, 2), (26, 2)])
    (hpan : panField (it.b 0 12) 12 19 = some pan) (hpsn : bcd2 (it.f 12 1) = true) (hmac : 4 ≤ it.f 13 1 ∧ it.f 13 1 ≤ 8)
    (hmsg : 1 ≤ it.f 24 2 ∧ it.f 24 2 ≤ 1024) :
    svcScriptMac id it = Svc.engine .sye id it [keyNeed it it.key imkTypes (uICCMK ||| uMACG)]
      [.icc pan (psnDigits (it.f 12 1)), .session (it.b 16 8)] (.mac 0xFF 2 (it.f 13 1) (it.b 28 (it.f 24 2))) >>=
        fun a => done a.bytes := by
  have hrange : Svc.range (bcd2 (it.f 12 1) && 4 ≤ it.f 13 1 && it.f 13 1 ≤ 8 && 1 ≤ it.f 24 2 && it.f 24 2 ≤ 1024) = pure () :=
    svc_range_of (by simp only [hpsn, hmac, hmsg, decide_true, Bool.and_self])
  simp only [svcScriptMac, hlaid.lenFrom, hlaid.zero, svc_pan_of hpan, hrange, pure_bind]

/-- The payload of a SCRIPT_ENCRYPT that carries a PIN block keeps to its ranges. -/
structure ScriptPinFields (it : Item) (pan : List Nat) : Prop where
  laid : Laid it 48 ([(1, 1), (15, 1), (29, 1)] ++ blockTail (it.f 28 1) 32)
  pan : panField (it.b 0 12) 12 19 = some pan
  psn : bcd2 (it.f 12 1) = true
  kind : it.f 13 1 = 1
  padm : it.f 14 1 ≤ 1
  ifmt : it.f 28 1 ≤ 4
  recoverable : it.f 28 1 ≠ 2
  noData : it.f 30 2 = 0
  key : Handle (it.f 24 4)

theorem ScriptPinFields.svcScriptEncrypt_eq {it : Item} {pan : List Nat} (id : Nat) (h : ScriptPinFields it pan) :
    svcScriptEncrypt id it = Svc.engine .sye id it
      [keyNeed it it.key imkTypes (uICCMK ||| uENC), keyNeed it (it.f 24 4) (pinTypes (it.f 28 1)) uPINENC]
      [.icc pan (psnDigits (it.f 12 1)), .session (it.b 16 8)] (.scriptPin (it.f 28 1) (it.f 14 1) pan (it.b 32 16)) >>=
        fun a => done a.bytes := by
  obtain ⟨hlaid, hpan, hpsn, hkind, hpadm, hifmt, hrec, hdata, hkey⟩ := h
  have hlen : Svc.len (48 ≤ it.payload.length && it.payload.length == 48 + 0) = pure () := hlaid.lenFrom (d := 0)
  have hzero : Svc.zero it ((1, 1) :: (15, 1) :: (29, 1) :: blockTail (it.f 28 1) 32) = pure () := hlaid.zero
  simp [svcScriptEncrypt, hkind, hdata, hlen, hrec, hzero, svc_pan_of hpan, hpsn, hpadm, hifmt, svc_range_of, hkey.checked,
    svc_bad_of]

/-- The payload of a SCRIPT_ENCRYPT that carries data keeps to its ranges. -/
structure ScriptDataFields (it : Item) (pan : List Nat) : Prop where
  laid : Laid it (48 + it.f 30 2) [(1, 1), (15, 1), (29, 1)]
  pan : panField (it.b 0 12) 12 19 = some pan
  psn : bcd2 (it.f 12 1) = true
  kind : it.f 13 1 = 0
  padm : it.f 14 1 ≤ 1
  data : 1 ≤ it.f 30 2 ∧ it.f 30 2 ≤ 1024
  noKey : isZero (it.b 24 5) = true
  noBlock : isZero (it.b 32 16) = true

theorem ScriptDataFields.svcScriptEncrypt_eq {it : Item} {pan : List Nat} (id : Nat) (h : ScriptDataFields it pan) :
    svcScriptEncrypt id it = Svc.engine .sye id it [keyNeed it it.key imkTypes (uICCMK ||| uENC)]
      [.icc pan (psnDigits (it.f 12 1)), .session (it.b 16 8)] (.scriptData (it.f 14 1) (it.b 48 (it.f 30 2))) >>=
        fun a => done a.bytes := by
  obtain ⟨hlaid, hpan, hpsn, hkind, hpadm, hdata, hkey, hblock⟩ := h
  simp [svcScriptEncrypt, hkind, hlaid.lenFrom, hlaid.zero, svc_pan_of hpan, hpsn, hpadm, hdata, svc_range_of, hkey, hblock,
    svc_bad_of]

/-- Settles O35: past its checks each service is one request, and its reply is made from the answer. -/
theorem cardServicesReply : Obligations.CardServicesReply := by
  intro s id it pan l out hpan asks replies date dated icc
  refine ⟨fun hlaid ⟨hdig, hend, hlo, hhi⟩ => ?_, fun hlaid ⟨hdig, hend, hlo, hhi⟩ hdigits hfiller => ?_,
    fun hpsn => ⟨?_, ?_, fun hkind => ?_, fun hkind => ?_⟩⟩
  · have heq := svcCvvGenerate_eq id ⟨hdig, hend, hlo, hhi⟩ hlaid hpan
    exact ⟨fun h => congrArg _ (runOpcode_request h heq),
      fun h => congrArg _ (runOpcode_done h heq (.engine_nums _ _ _ _ _ _ _ l))⟩
  · have heq := svcCvvVerify_eq id ⟨hdig, hend, hlo, hhi⟩ hlaid hpan hdigits hfiller
    exact ⟨fun h => congrArg _ (runOpcode_request h heq),
      fun h => congrArg _ (runOpcode_verified h heq (.engine_nums _ _ _ _ _ _ _ l))⟩
  · intro td m p hlaid hm hp htd htd' hpad h0 h1 htail
    have heq := ArqcFields.svcArqcVerify_eq id ⟨hlaid, hpan, hpsn, hm, hp, ⟨htd, htd'⟩, hpad, h0, h1, htail⟩
    exact request_and_reply out heq
  · intro ml hlaid hn hn' hml hml'
    have heq := svcScriptMac_eq id hlaid hpan hpsn ⟨hn, hn'⟩ ⟨hml, hml'⟩
    exact request_and_reply out heq
  · intro hlaid hpadm hi hi2 hdl hkey
    have heq := ScriptPinFields.svcScriptEncrypt_eq id ⟨hlaid, hpan, hpsn, hkind, hpadm, hi, hi2, hdl, hkey⟩
    exact request_and_reply out heq
  · intro hlaid hpadm hdl hdl' hkey hblock
    have heq := ScriptDataFields.svcScriptEncrypt_eq id ⟨hlaid, hpan, hpsn, hkind, hpadm, ⟨hdl, hdl'⟩, hkey, hblock⟩
    exact request_and_reply out heq

end Sys2Proof.Machine

/-! # The DUKPT services (06 R156-R163) -/

namespace Sys2Proof.Machine

set_option Elab.async false

/-! ## Parameter blocks and DUKPT_PIN_TRANSLATE (R157, R158, R161) -/

/-- A DUKPT parameter block keeps to its ranges (R157). -/
structure DukptFields (it : Item) : Prop where
  scheme : it.f 0 1 ≤ 1
  tail : it.f 0 1 = 0 → isZero (it.b 14 2) = true
  counter : ksnCounter (it.f 0 1) it.payload ≠ 0
  ones : oneBits (ksnCounter (it.f 0 1) it.payload) ≤ if it.f 0 1 = 0 then 10 else 16
  wkt : it.f 0 1 = 0 → it.f 1 1 ≠ 4 ∧ it.f 1 1 ≠ 7
  wkl : if it.f 0 1 = 0 then it.f 2 1 = 0 else it.f 2 1 = 1 ∨ it.f 2 1 = 2

theorem DukptFields.tdes_or_aes {it : Item} (h : DukptFields it) : it.f 0 1 = 0 ∨ it.f 0 1 = 1 :=
  Nat.le_one_iff_eq_zero_or_eq_one.1 h.scheme

theorem DukptFields.range {it : Item} (h : DukptFields it) : Svc.dukptRange it = pure () :=
  svc_range_of (decide_eq_true h.scheme)

theorem DukptFields.agree {it : Item} {wkts : List Nat} (h : DukptFields it) (hmem : it.f 1 1 ∈ wkts) :
    Svc.dukptAgree it wkts = pure () := by
  have htail : (it.f 0 1 == 1 || isZero (it.b 14 2)) = true := by
    rcases h.tdes_or_aes with h0 | h1
    · rw [h.tail h0, Bool.or_true]
    · rw [h1, beq_self_eq_true, Bool.true_or]
  have hksn : (ksnCounter (it.f 0 1) it.payload != 0 &&
      decide (oneBits (ksnCounter (it.f 0 1) it.payload) ≤ if it.f 0 1 == 0 then 10 else 16)) = true := by
    simp only [Bool.and_eq_true, bne_iff_ne, decide_eq_true_eq, beq_iff_eq]
    exact ⟨h.counter, h.ones⟩
  have hwkt : (wkts.contains (it.f 1 1) && (it.f 0 1 == 1 || (it.f 1 1 != 4 && it.f 1 1 != 7))) = true := by
    simp only [Bool.and_eq_true, Bool.or_eq_true, List.contains_iff_mem, beq_iff_eq, bne_iff_ne]
    exact ⟨hmem, h.tdes_or_aes.symm.imp_right h.wkt⟩
  have hwkl : (if it.f 0 1 == 0 then it.f 2 1 == 0 else it.f 2 1 == 1 || it.f 2 1 == 2) = true := by
    have hrange := h.wkl
    simp only [beq_iff_eq]
    split at hrange
    next h0 => rw [if_pos h0, hrange, beq_self_eq_true]
    next h0 => rw [if_neg h0, Bool.or_eq_true, beq_iff_eq, beq_iff_eq]; exact hrange
  simp only [Svc.dukptAgree, svc_bad_of _ htail, svc_bad_of _ hksn, svc_bad_of _ hwkt, svc_bad_of _ hwkl, pure_bind]

theorem DukptFields.svcDukptPinTranslate_eq {it : Item} {pan : List Nat} (id : Nat) (h : DukptFields it)
    (hlaid : Laid it 52 ([(3, 1), (18, 2), (25, 1)] ++ blockTail (it.f 16 1) 36)) (hwkt : it.f 1 1 = 1)
    (hscheme : it.f 16 1 = 4 ↔ it.f 0 1 = 1) (ht : TranslationFields it 24 (it.f 16 1) (it.f 17 1) (it.f 20 4) pan) :
    svcDukptPinTranslate id it = pinTranslation id it (it.f 16 1) (it.f 17 1) (it.f 20 4) pan (bdkNeed it) (dukptChain it)
      (it.b 36 16) := by
  have hrange : Svc.range (it.f 16 1 ≤ 4 && it.f 17 1 ≤ 4) = pure () := svc_range_of (by simp [ht.ifmt, ht.ofmt])
  have hformat : ((if it.f 0 1 == 0 then it.f 16 1 != 4 else it.f 16 1 == 4) && pairOk (it.f 16 1) (it.f 17 1)) = true := by
    rcases h.tdes_or_aes with h0 | h1
    · simp [h0, hscheme, ht.pair]
    · simpa [h1, hscheme.2 h1] using ht.pair
  simp only [svcDukptPinTranslate, hlaid.len, hlaid.zero, h.range, hrange, ht.key.checked, svc_pan_of ht.pan,
    h.agree (wkts := [1]) (by simp [hwkt]), svc_bad_of _ hformat, pure_bind, pinTranslation]

/-! ## DUKPT_CIPHER (R162) -/

/-- The payload of DUKPT_CIPHER past its parameter block keeps to its ranges. -/
structure DukptCipherFields (it : Item) : Prop where
  block : DukptFields it
  laid : Laid it (40 + it.f 36 4) [(3, 1), (18, 2)]
  dir : it.f 16 1 ≤ 1
  mode : it.f 17 1 ≤ 1
  data : (if it.f 0 1 = 0 then 8 else 16) ≤ it.f 36 4 ∧ it.f 36 4 ≤ 1048576
  whole : it.f 36 4 % (if it.f 0 1 = 0 then 8 else 16) = 0
  use : it.f 1 1 = 7 ∨ it.f 1 1 = if it.f 16 1 == 1 then 6 else 5
  noIv : it.f 17 1 = 0 → isZero (it.b 20 16) = true
  shortIv : it.f 17 1 = 1 → it.f 0 1 = 0 → isZero (it.b 28 8) = true

theorem DukptCipherFields.svcDukptCipher_eq {it : Item} (id : Nat) (h : DukptCipherFields it) :
    svcDukptCipher id it = Svc.engine .sye id it [bdkNeed it] (dukptChain it)
      (.cipher (it.f 17 1) (it.f 16 1 == 1) false (it.b 20 16) [] (it.b 40 (it.f 36 4)) [] 0) >>= fun a =>
        done (if it.f 16 1 == 1 then a.bytes.drop 16 else a.bytes) := by
  have hrange : Svc.range (it.f 16 1 ≤ 1 && it.f 17 1 ≤ 1 && (if it.f 0 1 == 0 then 8 else 16) ≤ it.f 36 4 &&
      it.f 36 4 ≤ 1048576) = pure () :=
    svc_range_of (by simp only [h.dir, h.mode, h.data, beq_iff_eq, decide_true, Bool.and_self])
  have huse : (it.f 1 1 == 7 || it.f 1 1 == (if it.f 16 1 == 1 then 6 else 5)) = true := by
    simpa only [Bool.or_eq_true, beq_iff_eq] using h.use
  have hmem : it.f 1 1 ∈ [5, 6, 7] := by
    rcases h.use with h7 | h56
    · simp [h7]
    · rw [h56]
      split <;> decide
  have hiv : (if it.f 17 1 == 0 then isZero (it.b 20 16) else !(it.f 0 1 == 0) || isZero (it.b 28 8)) = true := by
    obtain h0 | h1 : it.f 17 1 = 0 ∨ it.f 17 1 = 1 := Nat.le_one_iff_eq_zero_or_eq_one.1 h.mode
    · simp [h0, h.noIv]
    · rcases h.block.tdes_or_aes with ht | ha
      · simp [h1, ht, h.shortIv]
      · simp [h1, ha]
  have hwhole : (it.f 36 4 % (if it.f 0 1 == 0 then 8 else 16) == 0) = true := by
    simpa only [beq_iff_eq] using h.whole
  simp only [svcDukptCipher, h.laid.lenFrom, h.laid.zero, h.block.range, hrange, h.block.agree hmem, svc_bad_of _ huse,
    svc_bad_of _ hiv, svc_bad_of _ hwhole, pure_bind]

/-! ## DUKPT_MAC (R163) -/

/-- The payload of DUKPT_MAC past its parameter block keeps to its ranges. -/
structure DukptMacFields (it : Item) : Prop where
  block : DukptFields it
  laid : Laid it (40 + it.f 36 4) [(3, 1), (19, 1)]
  dir : it.f 16 1 ≤ 1
  len : 4 ≤ it.f 17 1 ∧ it.f 17 1 ≤ if it.f 0 1 = 0 then 8 else 16
  padm : it.f 18 1 ≤ 1
  msg : it.f 36 4 ≤ 1048576
  use : it.f 1 1 = 4 ∨ it.f 1 1 = if it.f 16 1 == 1 then 3 else 2
  noPadm : it.f 0 1 = 1 → it.f 18 1 = 0
  noMac : (it.f 16 1 == 1) = true → isZero (it.b 20 16) = true

/-- The reply of DUKPT_MAC: the MAC made, or the comparison with the MAC given. -/
def dukptMacReply (it : Item) (mac : Bytes) : Svc Reply :=
  if it.f 16 1 == 1 then done mac else verified (padTo 16 mac == it.b 20 16)

theorem DukptMacFields.svcDukptMac_eq {it : Item} (id : Nat) (h : DukptMacFields it) :
    svcDukptMac id it = Svc.engine .sye id it [bdkNeed it] (dukptChain it)
      (.mac 0xFE (it.f 18 1 + 1) (it.f 17 1) (it.b 40 (it.f 36 4))) >>= fun a => dukptMacReply it a.bytes := by
  have hrange : Svc.range (it.f 16 1 ≤ 1 && 4 ≤ it.f 17 1 && it.f 17 1 ≤ (if it.f 0 1 == 0 then 8 else 16) && it.f 18 1 ≤ 1 &&
      it.f 36 4 ≤ 1048576) = pure () :=
    svc_range_of (by simp only [h.dir, h.len, h.padm, h.msg, beq_iff_eq, decide_true, Bool.and_self])
  have huse : (it.f 1 1 == 4 || it.f 1 1 == (if it.f 16 1 == 1 then 3 else 2)) = true := by
    simpa only [Bool.or_eq_true, beq_iff_eq] using h.use
  have hmem : it.f 1 1 ∈ [2, 3, 4] := by
    rcases h.use with h4 | h23
    · simp [h4]
    · rw [h23]
      split <;> decide
  have hpadm : (it.f 0 1 == 0 || it.f 18 1 == 0) = true := by
    rcases h.block.tdes_or_aes with ht | ha
    · simp [ht]
    · simp [h.noPadm ha]
  have hmac : (!(it.f 16 1 == 1) || isZero (it.b 20 16)) = true := by
    cases hgen : it.f 16 1 == 1 with
    | true => simp [h.noMac hgen]
    | false => rfl
  simp only [svcDukptMac, h.laid.lenFrom, h.laid.zero, h.block.range, hrange, h.block.agree hmem, svc_bad_of _ huse,
    svc_bad_of 4 (Bool.and_eq_true_iff.2 ⟨hpadm, hmac⟩), pure_bind, dukptMacReply]

/-! ## DUKPT_DERIVE (R159) -/

/-- The slot that DUKPT_DERIVE asks for its working key (R159, Table 6.22). -/
def derivedBlock (it : Item) : SlotBlock :=
  { type := if it.f 0 1 = 0 then 1 else if it.f 2 1 = 2 then 5 else 3, usage := wktUsage (it.f 1 1), ucnt := it.f 16 4,
    life := it.f 20 2, xrst := it.f 22 1 }

theorem DukptFields.svcDukptDerive_eq {it : Item} (id : Nat) (h : DukptFields it) (hlaid : Laid it 24 [(3, 1), (23, 1)])
    (hxrst : it.f 22 1 ≤ 1) (hwkt : 1 ≤ it.f 1 1 ∧ it.f 1 1 ≤ 7) :
    svcDukptDerive id it = Svc.newSlot id it (derivedBlock it) false true >>= fun d =>
      Svc.engine .sye id it [bdkNeed it] (dukptChain it) .lookupOnly (some d) >>= fun a => done a.bytes := by
  have hmem : it.f 1 1 ∈ [1, 2, 3, 4, 5, 6, 7] := by
    simp only [List.mem_cons, List.not_mem_nil, or_false]
    omega
  simp only [svcDukptDerive, hlaid.len, hlaid.zero, h.range, svc_range_of (decide_eq_true hxrst), h.agree hmem, pure_bind,
    derivedBlock, beq_iff_eq]

/-- Settles O36: past its checks each service is its request under the BDK, and each answer leads to the reply stated. -/
theorem dukptServicesReply : Obligations.DukptServicesReply := by
  intro s id it pan l fills out sch wkt wkl c hsch htail hc hones hwkt hwkl asks
  have hblock : DukptFields it := ⟨hsch, htail, hc, hones, hwkt, hwkl⟩
  refine ⟨?_, ?_, ?_, ?_⟩
  · intro i o b hlaid hi ho hkey hpan hpin hscheme hpair hfills
    have heq := hblock.svcDukptPinTranslate_eq id hlaid hpin hscheme ⟨hi, ho, hkey, hpan, hpair⟩
    exact ⟨fun h => congrArg _ (runOpcode_asks h (heq ▸ .pinTranslation id it i _ pan _ _ _ ho hfills)),
      fun h hsome => congrArg _ (runOpcode_gives h (heq ▸ .pinTranslation id it i _ pan _ _ _ ho hfills out hsome))⟩
  · intro dl n enc mode hlaid hdir hmode hlo hhi hwhole huse hnoIv hshortIv
    have heq := DukptCipherFields.svcDukptCipher_eq id ⟨hblock, hlaid, hdir, hmode, ⟨hlo, hhi⟩, hwhole, huse, hnoIv, hshortIv⟩
    exact ⟨fun h => congrArg _ (runOpcode_request h heq),
      fun h => congrArg _ (runOpcode_done h heq (.engine_ok _ _ _ _ _ _ _ out))⟩
  · intro ml gen n hlaid hdir hlo hhi hpadm hml huse hnoPadm hnoMac
    have heq := DukptMacFields.svcDukptMac_eq id ⟨hblock, hlaid, hdir, ⟨hlo, hhi⟩, hpadm, hml, huse, hnoPadm, hnoMac⟩
    refine ⟨fun h => congrArg _ (runOpcode_request h heq), fun h => ?_⟩
    have hanswer := Gives.engine_ok .sye id it [bdkNeed it] (dukptChain it) (.mac 0xFE (it.f 18 1 + 1) n (it.b 40 ml)) none out
    unfold dukptMacReply at heq
    cases hgen : it.f 16 1 == 1 with
    | true =>
      simp only [gen, hgen, if_true] at heq ⊢
      exact congrArg _ (runOpcode_done h heq hanswer)
    | false =>
      simp only [gen, hgen, Bool.false_eq_true, if_false] at heq ⊢
      exact congrArg _ (runOpcode_verified h heq hanswer)
  · intro slot hlaid hxrst hlo hhi huses d
    have heq := hblock.svcDukptDerive_eq id hlaid hxrst ⟨hlo, hhi⟩
    have hslot : Gives (Svc.newSlot id it (derivedBlock it) false true) [.nums [slot]] d := .newSlot id it true slot huses
    exact ⟨fun h => congrArg _ (runOpcode_asks h (heq ▸ hslot.bind_asks ((Asks.engine ..).bind _))),
      fun h => congrArg _ (runOpcode_gives h (heq ▸ hslot.bind ((Gives.engine_ok _ _ _ _ _ _ _ out).bind (.done out))))⟩

end Sys2Proof.Machine

/-! # Services that end in one request (07 R164-R172)

Past its checks and its draws each service of chapter 07 makes one request of an engine, and its reply is made from the answer.
What comes before the request decides which answers it has had by then. -/

namespace Sys2Proof.Machine

set_option Elab.async false

/-! ## A service and its last request (05 R104) -/

/-- After the answers `l` the service asks for its last work; answered `out`, it replies `r`. -/
structure Serves (x : Svc Reply) (l : List Answer) (place : State → State) (out : Bytes) (r : Reply) : Prop where
  asks : Asks x l place
  gives : Gives x (l ++ [.ok out]) r

section Serves

variable {α : Type} {s : State} {id op : Nat} {it : Item} {l m : List Answer} {place : State → State} {out : Bytes} {r : Reply}

/-- A request whose answer makes the reply. -/
protected theorem Serves.request {k : Engine} {keys : List KeyReq} {chain : List KeyStep} {e : EngineOp} {d : Option NewSlot}
    {f : Answer → Bytes} :
    Serves (Svc.engine k id it keys chain e d >>= fun a => done (f a)) [] (askEngine k id (itemRequest id it keys chain e d)) out
      (.done (f (.ok out))) :=
  ⟨(Asks.engine ..).bind _, (Gives.engine_ok _ _ _ _ _ _ _ out).bind (.done _)⟩

/-- What the service does first takes its own answers. -/
protected theorem Serves.bind {x : Svc α} {f : α → Svc Reply} {a : α} (hx : Gives x l a) (hf : Serves (f a) m place out r) :
    Serves (x >>= f) (l ++ m) place out r :=
  ⟨⟨fun s => by rw [svc_bind, hx.runs]; exact hf.asks.runs s⟩, List.append_assoc l m _ ▸ hx.bind hf.gives⟩

/-- The same, where the request is the next thing the service does. -/
protected theorem Serves.after {x : Svc α} {f : α → Svc Reply} {a : α} (hx : Gives x l a) (hf : Serves (f a) [] place out r) :
    Serves (x >>= f) l place out r :=
  List.append_nil l ▸ Serves.bind hx hf

/-- An opcode's command makes the request, and on its answer the reply. -/
theorem Serves.runs {svc : Item → Svc Reply} {x : Svc Reply} (heq : svc it = x) (hs : Serves x l place out r) :
    (Running s id op it l → (.next (runOpcode op id svc s) : Host.Outcome State Fault Refusal) = .next (place s)) ∧
      (Running s id op it (l ++ [.ok out]) →
        (.next (runOpcode op id svc s) : Host.Outcome State Fault Refusal) = .next (itemDone id r s)) :=
  ⟨fun h => congrArg _ (runOpcode_asks h (heq ▸ hs.asks)), fun h => congrArg _ (runOpcode_gives h (heq ▸ hs.gives))⟩

end Serves

/-! ## Draws and decisions (10 R281, 12 R329) -/

protected theorem Gives.drawSecret (id : Nat) (it : Item) (n : Nat) (b : Bytes) : Gives (Svc.drawSecret id it n) [.ok b] () :=
  ⟨fun _ _ => rfl⟩

/-- A decision recorded before is taken as it was. -/
theorem Gives.decideOk_ok (id : Nat) (f : State → Answer × State) (b : Bytes) : Gives (Svc.decideOk id f) [.ok b] (.ok b) :=
  ⟨fun _ _ => rfl⟩

theorem Gives.decideOk_nums (id : Nat) (f : State → Answer × State) (l : List Nat) :
    Gives (Svc.decideOk id f) [.nums l] (.nums l) :=
  ⟨fun _ _ => rfl⟩

/-- A new slot whose index has been decided, exportable as the service asks. -/
theorem Gives.newSlot_expo {b : SlotBlock} (id : Nat) (it : Item) (expo fromKey : Bool) (slot : Nat)
    (h : b.ucnt ≠ 0 ∨ b.xrst = 1) :
    Gives (Svc.newSlot id it b expo fromKey) [.nums [slot]] { b.new slot it.tenant fromKey with expo := expo } := by
  have huses : (b.ucnt != 0 || b.xrst == 1) = true := by simpa using h
  rw [Svc.newSlot, svc_bad_of _ huses, pure_bind]
  exact (Gives.decideOk_nums id _ [slot]).map _

/-! ## The length of a payload with a fixed part (R165) -/

theorem Laid.lenAbove {it : Item} {m n : Nat} {l : List (Nat × Nat)} (h : Laid it n l) (hm : m ≤ n) :
    Svc.len (m ≤ it.payload.length && it.payload.length == n) = pure () :=
  svc_len_of (by simp [h.1, hm])

end Sys2Proof.Machine

/-! # MACs, ciphers, key wraps and key blocks (07 R173-R181, R198-R200) -/

namespace Sys2Proof.Machine

set_option Elab.async false

/-! ## MAC_GENERATE and MAC_VERIFY (R173-R175) -/

/-- The payload of a MAC opcode keeps to the ranges of its algorithm (Table 7.7). -/
structure MacFields (it : Item) (eng : Engine) (types : List Nat) (lo hi : Nat) : Prop where
  alg : macAlg (it.f 0 1) = some (eng, types, lo, hi)
  laid : Laid it (24 + it.f 4 4) [(3, 1)]
  padm : it.f 1 1 ≤ 3
  padded : it.f 1 1 = 0 ↔ it.f 0 1 ≠ 1 ∧ it.f 0 1 ≠ 3
  len : lo ≤ it.f 2 1 ∧ it.f 2 1 ≤ hi

/-- What a MAC opcode asks its engine for. -/
def macOp (it : Item) (eng : Engine) : EngineOp :=
  if eng = .dge then .hmac (it.f 0 1) (it.f 2 1) (it.b 24 (it.f 4 4))
  else .mac (it.f 0 1) (it.f 1 1) (it.f 2 1) (it.b 24 (it.f 4 4))

theorem MacFields.macWork_eq {it : Item} {eng : Engine} {types : List Nat} {lo hi : Nat} {verify : Bool} (id : Nat)
    (h : MacFields it eng types lo hi) (hmac : verify = false → isZero (it.b 8 16) = true)
    (hlen : verify = true → it.f 2 1 ≤ 16) :
    macWork id it verify = Svc.engine eng id it [keyNeed it it.key types (if verify then uMACV else uMACG)] [] (macOp it eng) >>=
      fun a => pure a.bytes := by
  have hgiven : (verify || isZero (it.b 8 16)) = true := by cases verify <;> simp [hmac]
  have hpad : ((it.f 1 1 == 0) == (it.f 0 1 != 1 && it.f 0 1 != 3)) = true := by
    rw [beq_iff_eq, Bool.eq_iff_iff]
    simpa only [beq_iff_eq, Bool.and_eq_true, bne_iff_ne] using h.padded
  have hbounds : (lo ≤ it.f 2 1 && it.f 2 1 ≤ hi && (!verify || it.f 2 1 ≤ 16)) = true := by
    cases verify <;> simp [h.len, hlen]
  simp only [macWork, h.laid.lenFrom, h.laid.zero, h.alg, svc_range_of (decide_eq_true h.padm), svc_bad_of _ hgiven,
    svc_bad_of _ hpad, svc_bad_of _ hbounds, pure_bind, macOp, beq_iff_eq]

theorem MacFields.svcMacGenerate_eq {it : Item} {eng : Engine} {types : List Nat} {lo hi : Nat} (id : Nat)
    (h : MacFields it eng types lo hi) (hmac : isZero (it.b 8 16) = true) :
    svcMacGenerate id it = Svc.engine eng id it [keyNeed it it.key types uMACG] [] (macOp it eng) >>= fun a => done a.bytes := by
  rw [svcMacGenerate, h.macWork_eq id (fun _ => hmac) (by simp), bind_assoc]
  simp only [pure_bind, Bool.false_eq_true, if_false]

theorem MacFields.svcMacVerify_eq {it : Item} {eng : Engine} {types : List Nat} {lo hi : Nat} (id : Nat)
    (h : MacFields it eng types lo hi) (hlen : it.f 2 1 ≤ 16) :
    svcMacVerify id it = Svc.engine eng id it [keyNeed it it.key types uMACV] [] (macOp it eng) >>= fun a =>
      verified (padTo 16 a.bytes == it.b 8 16) := by
  rw [svcMacVerify, h.macWork_eq id (by simp) (fun _ => hlen), bind_assoc]
  simp only [pure_bind, if_true]

/-! ## ENCRYPT and DECRYPT (R176-R178) -/

/-- The payload of ENCRYPT or DECRYPT keeps to the ranges that the two share (Table 7.8). -/
structure CipherFields (it : Item) : Prop where
  laid : Laid it (44 + it.f 20 4 + it.f 24 4) [(3, 1)]
  mode : it.f 0 1 ≤ 3
  tag : if it.f 0 1 = 3 then 12 ≤ it.f 1 1 ∧ it.f 1 1 ≤ 16 else it.f 1 1 = 0
  noIv : it.f 0 1 = 0 → isZero (it.b 4 16) = true
  shortIv : it.f 0 1 = 3 → isZero ((it.b 4 16).drop 12) = true
  noAad : it.f 0 1 ≠ 3 → it.f 20 4 = 0
  blocks : it.f 0 1 ≤ 1 → it.f 24 4 ≠ 0 ∧ it.f 24 4 % 8 = 0

/-- The IV is the payload's, or a drawn one, which only ENCRYPT of a mode with an IV takes (Table 7.8). -/
structure IvFields (it : Item) (enc : Bool) (draws : List Answer) (v : Bytes) : Prop where
  iv : (it.f 2 1 = 0 ∧ draws = [] ∧ v = it.b 4 16) ∨
    (it.f 2 1 = 1 ∧ enc = true ∧ it.f 0 1 ≠ 0 ∧ isZero (it.b 4 16) = true ∧ draws = [.ok v])
  tag : (it.f 0 1 ≠ 3 ∨ enc = true) → isZero (it.b 28 16) = true

/-- The IV of ENCRYPT or DECRYPT. -/
def cipherIv (id : Nat) (it : Item) : Svc Bytes :=
  if it.f 2 1 = 1 then Svc.draw id it (if it.f 0 1 = 1 then 16 else if it.f 0 1 = 2 then 8 else 12) else pure (it.b 4 16)

protected theorem Gives.cipherIv {it : Item} {enc : Bool} {draws : List Answer} {v : Bytes} (id : Nat)
    (h : IvFields it enc draws v) : Gives (cipherIv id it) draws v := by
  unfold cipherIv
  obtain ⟨hsrc, rfl, rfl⟩ | ⟨hsrc, -, -, -, rfl⟩ := h.iv
  · rw [if_neg (by omega)]
    exact .pure _
  · rw [if_pos hsrc]
    exact .draw id it _ v

/-- The key that ENCRYPT or DECRYPT asks for, and the work under it. -/
def cipherKey (it : Item) (enc : Bool) : KeyReq :=
  keyNeed it it.key (if it.f 0 1 ≤ 1 then blockTypes else aesTypes) (if enc then uENC else uDEC)

def cipherOp (it : Item) (enc : Bool) (v : Bytes) : EngineOp :=
  .cipher (it.f 0 1) enc (it.f 2 1 == 1) v (it.b 44 (it.f 20 4)) (it.b (44 + it.f 20 4) (it.f 24 4)) (it.b 28 16) (it.f 1 1)

theorem CipherFields.cipherWork_eq {it : Item} {enc : Bool} {draws : List Answer} {v : Bytes} (id : Nat) (h : CipherFields it)
    (hiv : IvFields it enc draws v) :
    cipherWork id it enc = cipherIv id it >>= fun v =>
      Svc.engine .sye id it [cipherKey it enc] [] (cipherOp it enc v) >>= fun a => pure a.bytes := by
  obtain ⟨hlaid, hmode, htag, hnoIv, hshort, hnoAad, hblocks⟩ := h
  have hsrc : it.f 2 1 ≤ 1 := by
    rcases hiv.iv with ⟨h0, -⟩ | ⟨h1, -⟩ <;> omega
  have htaglen : (if it.f 0 1 = 3 then 12 ≤ it.f 1 1 && it.f 1 1 ≤ 16 else it.f 1 1 == 0) = true := by
    split at htag
    next h3 => rw [if_pos h3, Bool.and_eq_true, decide_eq_true_eq, decide_eq_true_eq]; exact htag
    next h3 => rw [if_neg h3, beq_iff_eq]; exact htag
  have hdrawn : (it.f 2 1 == 0 || (enc && it.f 0 1 != 0 && isZero (it.b 4 16))) = true := by
    rcases hiv.iv with ⟨h0, -⟩ | ⟨-, henc, hne, hz, -⟩
    · simp [h0]
    · simp [henc, hne, hz]
  have hzeroIv : (it.f 0 1 != 0 || isZero (it.b 4 16)) = true := by
    simpa only [Bool.or_eq_true, bne_iff_ne] using Decidable.not_or_of_imp hnoIv
  have hivTail : (it.f 0 1 != 3 || isZero ((it.b 4 16).drop 12)) = true := by
    simpa only [Bool.or_eq_true, bne_iff_ne] using Decidable.not_or_of_imp hshort
  have haad : (it.f 0 1 == 3 || it.f 20 4 == 0) = true := by
    simpa only [Bool.or_eq_true, beq_iff_eq] using Decidable.or_iff_not_imp_left.2 hnoAad
  have hnoTag : ((it.f 0 1 == 3 && !enc) || isZero (it.b 28 16)) = true := by
    cases enc with
    | true => rw [hiv.tag (.inr rfl), Bool.or_true]
    | false =>
      by_cases h3 : it.f 0 1 = 3
      · simp [h3]
      · rw [hiv.tag (.inl h3), Bool.or_true]
  have hwhole : (2 ≤ it.f 0 1 || (it.f 24 4 != 0 && it.f 24 4 % 8 == 0)) = true := by
    by_cases h1 : it.f 0 1 ≤ 1
    · simp [hblocks h1]
    · rw [decide_eq_true (by omega), Bool.true_or]
  have hrange : Svc.range (it.f 0 1 ≤ 3 && it.f 2 1 ≤ 1) = pure () := svc_range_of (by simp [hmode, hsrc])
  simp only [cipherWork, hlaid.lenAbove (m := 44) (by omega), hlaid.zero, hrange, svc_bad_of _ htaglen, hdrawn, hzeroIv,
    hivTail, haad, hnoTag, Bool.and_self, svc_bad_of _ hwhole, svc_bad_of, pure_bind, cipherIv, cipherKey, cipherOp, beq_iff_eq]
  split <;> rfl

theorem CipherFields.svcEncrypt_eq {it : Item} {draws : List Answer} {v : Bytes} (id : Nat) (h : CipherFields it)
    (hiv : IvFields it true draws v) :
    svcEncrypt id it = cipherIv id it >>= fun v =>
      Svc.engine .sye id it [cipherKey it true] [] (cipherOp it true v) >>= fun a => done a.bytes := by
  simp only [svcEncrypt, h.cipherWork_eq id hiv, bind_assoc, pure_bind]

theorem CipherFields.svcDecrypt_eq {it : Item} {draws : List Answer} {v : Bytes} (id : Nat) (h : CipherFields it)
    (hiv : IvFields it false draws v) :
    svcDecrypt id it = cipherIv id it >>= fun v =>
      Svc.engine .sye id it [cipherKey it false] [] (cipherOp it false v) >>= fun a => done a.bytes := by
  simp only [svcDecrypt, h.cipherWork_eq id hiv, bind_assoc, pure_bind]

/-! ## KEY_WRAP and KEY_UNWRAP (R179-R181) -/

theorem svcKeyWrap_eq {it : Item} (id : Nat) (h : Laid it 8 [(1, 3)]) (hkwp : it.f 0 1 ≤ 1) (hkey : Handle (it.f 4 4)) :
    svcKeyWrap id it = Svc.engine .sye id it [keyNeed it it.key aesTypes uWRAP, keyNeed it (it.f 4 4) symTypes 0] []
      (.wrap (it.f 0 1 == 1)) >>= fun a => done a.bytes := by
  simp only [svcKeyWrap, h.len, h.zero, svc_range_of (decide_eq_true hkwp), hkey.checked, pure_bind]

/-- The payload of KEY_UNWRAP keeps to its ranges. -/
structure UnwrapFields (it : Item) : Prop where
  laid : Laid it (20 + it.f 16 4) ([(1, 3)] ++ blockRsvd 4)
  kwp : it.f 0 1 ≤ 1
  xrst : (slotBlock (it.b 4 12)).xrst ≤ 1
  whole : it.f 16 4 % 8 = 0
  wrapped : (if it.f 0 1 = 1 then 16 else 24) ≤ it.f 16 4 ∧ it.f 16 4 ≤ 72
  block : (slotBlock (it.b 4 12)).ok symTypes = true

theorem UnwrapFields.svcKeyUnwrap_eq {it : Item} (id : Nat) (h : UnwrapFields it) :
    svcKeyUnwrap id it = Svc.newSlot id it (slotBlock (it.b 4 12)) false true >>= fun d =>
      Svc.engine .sye id it [keyPersist it it.key aesTypes uUNWRAP] [] (.unwrap (it.f 0 1 == 1) (it.b 20 (it.f 16 4))) (some d) >>=
        fun a => done a.bytes := by
  have hrange : Svc.range (it.f 0 1 ≤ 1 && (slotBlock (it.b 4 12)).xrst ≤ 1 && it.f 16 4 % 8 == 0 &&
      (if it.f 0 1 == 1 then 16 else 24) ≤ it.f 16 4 && it.f 16 4 ≤ 72) = pure () :=
    svc_range_of (by simp only [h.kwp, h.xrst, h.whole, h.wrapped, beq_iff_eq, decide_true, beq_self_eq_true, Bool.and_self])
  simp only [svcKeyUnwrap, h.laid.lenFrom, h.laid.zero, hrange, svc_bad_of _ h.block, pure_bind]

/-! ## KB_IMPORT and KB_EXPORT (R198-R200) -/

/-- The payload of KB_IMPORT keeps to its ranges; its key block parses as `k`, whose header gives the usage `m`. -/
structure KbImportFields (it : Item) (k : KeyBlock) (m : BitVec 16) : Prop where
  laid : Laid it (16 + it.f 12 4) (blockRsvd 0)
  xrst : (slotBlock (it.b 0 12)).xrst ≤ 1
  parsed : kbParse (it.b 16 (it.f 12 4)) = some k
  usage : kbUsage k.usage k.alg k.mode = some m
  noType : (slotBlock (it.b 0 12)).type = 0
  noUsage : (slotBlock (it.b 0 12)).usage = 0

theorem KbImportFields.svcKbImport_eq {it : Item} {k : KeyBlock} {m : BitVec 16} (id : Nat) (h : KbImportFields it k m) :
    svcKbImport id it = Svc.newSlot id it { slotBlock (it.b 0 12) with usage := m } (k.expo == 0x45) true >>= fun d =>
      Svc.engine .sye id it [keyPersist it it.key (if k.version = 0x44 then aesTypes else tdesTypes) uUNWRAP] []
        (.kbImport (it.b 16 (it.f 12 4))) (some d) >>= fun a => done a.bytes := by
  have hblock : ((slotBlock (it.b 0 12)).type == 0 && (slotBlock (it.b 0 12)).usage == 0) = true := by
    rw [h.noType, h.noUsage, beq_self_eq_true, beq_self_eq_true, Bool.and_self]
  simp only [svcKbImport, h.laid.lenFrom, h.laid.zero, svc_range_of (decide_eq_true h.xrst), h.parsed, h.usage, svc_bad_of _ hblock,
    pure_bind, beq_iff_eq]

/-- The payload of KB_EXPORT keeps to its ranges. -/
structure KbExportFields (it : Item) : Prop where
  laid : Laid it 12 [(7, 1)]
  version : it.f 0 1 = 0x42 ∨ it.f 0 1 = 0x44
  expo : it.f 4 1 ∈ [0x45, 0x4E, 0x53]
  print : isPrint (it.f 5 1) = true ∧ isPrint (it.f 6 1) = true
  key : Handle (it.f 8 4)

theorem KbExportFields.svcKbExport_eq {it : Item} (id : Nat) (h : KbExportFields it) :
    svcKbExport id it = Svc.draw id it (kbBlock (it.f 0 1)) >>= fun fill =>
      Svc.engine .sye id it [keyNeed it it.key blockTypes uWRAP, keyNeed it (it.f 8 4) symTypes 0] []
        (.kbExport (it.b 0 7) fill) >>= fun a => done a.bytes := by
  have hrange : Svc.range ((it.f 0 1 == 0x42 || it.f 0 1 == 0x44) && [0x45, 0x4E, 0x53].contains (it.f 4 1) &&
      isPrint (it.f 5 1) && isPrint (it.f 6 1)) = pure () :=
    svc_range_of (by simp only [Bool.and_eq_true, Bool.or_eq_true, beq_iff_eq, List.contains_iff_mem]
                     exact ⟨⟨⟨h.version, h.expo⟩, h.print.1⟩, h.print.2⟩)
  simp only [svcKbExport, h.laid.len, h.laid.zero, hrange, h.key.checked, pure_bind]

/-- Settles O37: past its checks and its draws each service is one request, and its reply is made from the answer. -/
theorem cipherServicesReply : Obligations.CipherServicesReply := by
  intro s id it out asks replies
  refine ⟨?_, ?_, ?_, ?_, ?_, ?_⟩
  · intro eng types lo hi ml alg padm n halg hlaid hpadm hpadded hlo hhi op
    have hf : MacFields it eng types lo hi := ⟨halg, hlaid, hpadm, hpadded, hlo, hhi⟩
    refine ⟨fun hmac => ?_, fun hlen => ?_⟩
    · exact request_and_reply out (hf.svcMacGenerate_eq id hmac)
    · have heq := hf.svcMacVerify_eq id hlen
      exact ⟨fun h => congrArg _ (runOpcode_request h heq),
        fun h => congrArg _ (runOpcode_verified h heq (.engine_ok _ _ _ _ _ _ _ out))⟩
  · intro v draws mode tl src al dl iv types op hlaid hmode htag hnoIv hshort hnoAad hblocks
    have hf : CipherFields it := ⟨hlaid, hmode, htag, hnoIv, hshort, hnoAad, hblocks⟩
    refine ⟨fun hiv hnoTag => ?_, fun hsrc hv hnoTag => ?_⟩
    · have hdrawn : IvFields it true draws v :=
        ⟨hiv.imp_right fun ⟨h1, hne, hz, hd⟩ => ⟨h1, rfl, hne, hz, hd⟩, fun _ => hnoTag⟩
      exact Serves.runs (hf.svcEncrypt_eq id hdrawn) (.after (.cipherIv id hdrawn) .request)
    · have hgiven : IvFields it false [] v := ⟨.inl ⟨hsrc, rfl, hv⟩, fun h => hnoTag (h.resolve_right Bool.false_ne_true)⟩
      exact Serves.runs (hf.svcDecrypt_eq id hgiven) (.after (.cipherIv id hgiven) .request)
  · intro hlaid hkwp hkey
    exact request_and_reply out (svcKeyWrap_eq id hlaid hkwp hkey)
  · intro slot wl b hlaid hkwp hxrst hwhole hlo hhi hblock huses
    have heq := UnwrapFields.svcKeyUnwrap_eq id ⟨hlaid, hkwp, hxrst, hwhole, ⟨hlo, hhi⟩, hblock⟩
    exact Serves.runs heq (.after (.newSlot id it true slot huses) .request)
  · intro slot k m bl b d hlaid hxrst hparsed husage hnoType hnoUsage huses
    have heq := KbImportFields.svcKbImport_eq id ⟨hlaid, hxrst, hparsed, husage, hnoType, hnoUsage⟩
    have hd : { ({ b with usage := m } : SlotBlock).new slot it.tenant true with expo := k.expo == 0x45 } = d := by
      simp only [SlotBlock.new, hnoType, d]
    have hslot := Gives.newSlot_expo (b := { b with usage := m }) id it (k.expo == 0x45) true slot huses
    rw [hd] at hslot
    exact Serves.runs heq (.after hslot .request)
  · intro fill v hlaid hversion hexpo hprint hprint' hkey
    have heq := KbExportFields.svcKbExport_eq id ⟨hlaid, hversion, hexpo, ⟨hprint, hprint'⟩, hkey⟩
    exact Serves.runs heq (.after (.draw id it _ fill) .request)

end Sys2Proof.Machine

/-! # Digests, streams and random bytes (07 R182-R186; 12 R329-R331) -/

namespace Sys2Proof.Machine

set_option Elab.async false

/-! ## DIGEST (R182) -/

/-- The payload of DIGEST keeps to its ranges. -/
structure DigestFields (it : Item) : Prop where
  laid : Laid it (8 + it.f 4 4) [(1, 1)]
  alg : isHash (it.f 0 1) = true
  outlen : outlenOk (it.f 0 1) (it.f 2 2) = true
  noOutlen : isShake (it.f 0 1) = false → it.f 2 2 = 0

theorem DigestFields.svcDigest_eq {it : Item} (id : Nat) (h : DigestFields it) :
    svcDigest id it = Svc.engine .dge id it [] [] (.hash (it.f 0 1) (it.f 2 2) (it.b 8 (it.f 4 4))) >>= fun a => done a.bytes := by
  have hrange : Svc.range (isHash (it.f 0 1) && outlenOk (it.f 0 1) (it.f 2 2)) = pure () :=
    svc_range_of (by rw [h.alg, h.outlen, Bool.and_self])
  have hnoOutlen : (isShake (it.f 0 1) || it.f 2 2 == 0) = true := by
    cases hs : isShake (it.f 0 1) <;> simp [h.noOutlen, hs]
  simp only [svcDigest, h.laid.lenFrom, h.laid.zero, hrange, svc_bad_of _ hnoOutlen, pure_bind]

/-! ## Services that change the state before they reply -/

/-- A service whose last act before its reply is a change of the state. -/
theorem runOpcode_updates {α : Type} {s : State} {id op : Nat} {it : Item} {l : List Answer} {svc : Item → Svc Reply}
    {x : Svc α} {f : State → State} {g : α → Bytes} {a : α} (h : Running s id op it l)
    (hs : svc it = x >>= fun a => Svc.update f >>= fun _ => done (g a)) (hx : Gives x l a) :
    runOpcode op id svc s = itemDone id (.done (g a)) (f s) := by
  refine runOpcode_reply h (m := []) ?_
  rw [hs, svc_bind, ← List.append_nil l, hx.runs]
  rfl

protected theorem Asks.awaitOk (place : State → State) : Asks (Svc.awaitOk place) [] place := ⟨fun _ => rfl⟩

theorem Gives.awaitOk_ok (place : State → State) (b : Bytes) : Gives (Svc.awaitOk place) [.ok b] (.ok b) := ⟨fun _ _ => rfl⟩

/-! ## STREAM_START (R183) -/

/-- The payload of STREAM_START keeps to its ranges, and its packet is ordered. -/
structure StreamStartFields (it : Item) : Prop where
  laid : Laid it (12 + it.f 8 4) [(1, 1)]
  ord : it.ord = true
  alg : isHash (it.f 0 1) = true ∨ isHmacAlg (it.f 0 1) = true
  outlen : outlenOk (it.f 0 1) (it.f 2 2) = true
  noOutlen : isShake (it.f 0 1) = false → isHmacAlg (it.f 0 1) = false → it.f 2 2 = 0
  key : isHmacAlg (it.f 0 1) = true ↔ it.key ≠ 0

/-- What STREAM_START decides once: the flow has no stream, this is part 0, and there is room. -/
def streamOpens (id : Nat) (it : Item) (s : State) : Answer × State :=
  if (tfind s.eng.streams it.flow).isSome then (.err 0x0105 0x0162, s)
  else if it.f 4 4 != 0 then (.err 0x0105 0x0163, s)
  else if 4096 ≤ streamsTaken s id then (.err 0x0105 0x0160, s)
  else (.ok [], s)

/-- The request of a stream's part that is not the last. -/
def streamPart (id : Nat) (it : Item) (alg key : Nat) : Svc Answer :=
  Svc.engine .dge id it (streamKey it alg key) [] (.stream alg 0 (it.b 12 (it.f 8 4)) [])

/-- The stream that STREAM_START opens with its first part. -/
def newStream (it : Item) : Stream :=
  { tenant := it.tenant, alg := it.f 0 1, outlen := it.f 2 2, key := it.key, part := 1, data := it.b 12 (it.f 8 4) }

/-- The state in which that stream is open. -/
def streamOpened (it : Item) (s : State) : State :=
  { s with eng := { s.eng with streams := tput s.eng.streams it.flow (newStream it) } }

theorem StreamStartFields.svcStreamStart_eq {it : Item} (id : Nat) (h : StreamStartFields it) :
    svcStreamStart id it = (Svc.decideOk id (streamOpens id it) >>= fun _ => streamPart id it (it.f 0 1) it.key) >>= fun _ =>
      Svc.update (streamOpened it) >>= fun _ => done := by
  obtain ⟨hlaid, hord, halg, houtlen, hnoOutlen, hkey⟩ := h
  have hrange : Svc.range ((isHash (it.f 0 1) || isHmacAlg (it.f 0 1)) && outlenOk (it.f 0 1) (it.f 2 2)) = pure () :=
    svc_range_of (by rw [houtlen, Bool.and_true, Bool.or_eq_true]; exact halg)
  have hlength : (isShake (it.f 0 1) || isHmacAlg (it.f 0 1) || it.f 2 2 == 0) = true := by
    by_cases halgs : isShake (it.f 0 1) = false ∧ isHmacAlg (it.f 0 1) = false
    · simp [hnoOutlen halgs.1 halgs.2]
    · rw [← Bool.or_eq_false_iff, Bool.not_eq_false] at halgs
      rw [halgs, Bool.true_or]
  have hkeyed : (isHmacAlg (it.f 0 1) == (it.key != 0)) = true := by
    rw [beq_iff_eq, Bool.eq_iff_iff, bne_iff_ne]
    exact hkey
  have hreserved : Svc.zero it ([(1, 1)] ++ []) = pure () := hlaid.zero
  simp only [svcStreamStart, streamChecks, if_true, hlaid.lenFrom, hreserved, hrange, svc_bad_of _ hlength, svc_bad_of _ hord,
    svc_bad_of _ hkeyed, pure_bind, bind_assoc]
  rfl

/-- The opening decided, the first part's request is answered. -/
protected theorem Gives.streamStart (id : Nat) (it : Item) (out : Bytes) :
    Gives (Svc.decideOk id (streamOpens id it) >>= fun _ => streamPart id it (it.f 0 1) it.key) [.ok [], .ok out] (.ok out) :=
  (Gives.decideOk_ok id _ []).bind (.engine_ok _ _ _ _ _ _ _ out)

/-- A stream may open: its flow has none, the part is number 0 and fewer than 4,096 are taken. -/
theorem streamOpens_ok {s : State} {id : Nat} {it : Item} (hnone : tfind s.eng.streams it.flow = none) (hpart : it.f 4 4 = 0)
    (hroom : streamsTaken s id < 4096) : streamOpens id it s = (.ok [], s) := by
  simp [streamOpens, hnone, hpart, Nat.not_le.2 hroom]

/-- An item with one more decision recorded. -/
def decided (id : Nat) (a : Answer) (s : State) : State := modItem id (fun i => { i with answers := i.answers ++ [a] }) s

theorem StreamStartFields.asks {s : State} {id : Nat} {it : Item} (h : StreamStartFields it)
    (hopens : streamOpens id it s = (.ok [], s)) :
    svcStreamStart id it ⟨[], s⟩ = .error (.wait (askEngine .dge id (itemRequest id it (streamKey it (it.f 0 1) it.key) []
      (.stream (it.f 0 1) 0 (it.b 12 (it.f 8 4)) []) none) (decided id (.ok []) s))) := by
  rw [h.svcStreamStart_eq id]
  simp only [svc_bind, svc_decideOk_nil id hopens]
  rfl

/-! ## STREAM_UPDATE and STREAM_FINISH (R184, R185) -/

/-- A part of an open stream has its length, its reserved bytes are zero, and its packet is ordered. -/
structure StreamPartFields (it : Item) : Prop where
  laid : Laid it (12 + it.f 8 4) [(1, 1), (0, 1), (2, 2)]
  ord : it.ord = true

theorem StreamPartFields.checks {it : Item} (h : StreamPartFields it) : streamChecks it false = pure () := by
  have hlaid : Laid it (12 + it.f 8 4) ([(1, 1)] ++ [(0, 1), (2, 2)]) := h.laid
  simp only [streamChecks, hlaid.lenFrom, Bool.false_eq_true, if_false, hlaid.zero, pure_bind]

theorem StreamPartFields.join {it : Item} (id alg key : Nat) (h : StreamPartFields it) :
    Gives (streamJoin id it) [.nums [alg, key]] (alg, key) := by
  rw [streamJoin, svc_bad_of _ h.ord, pure_bind]
  exact (Gives.decideOk_nums id _ [alg, key]).map _

/-- The stream joined, its next part's request is answered. -/
theorem StreamPartFields.joinPart {it : Item} (id alg key : Nat) (out : Bytes) (h : StreamPartFields it) :
    Gives (streamJoin id it >>= fun u => streamPart id it u.1 u.2) [.nums [alg, key], .ok out] (.ok out) :=
  (h.join id alg key).bind (.engine_ok _ _ _ _ _ _ _ out)

/-- A part that is not the stream's next is refused (DETAIL 0163h). -/
theorem StreamPartFields.join_refuses {s : State} {it : Item} {st : Stream} (id : Nat) (h : StreamPartFields it)
    (hst : tfind s.eng.streams it.flow = some st) (hpart : it.f 4 4 ≠ st.part) :
    streamJoin id it ⟨[], s⟩ = .error (.reply (.bare 0x0105 0x0163) (decided id (.err 0x0105 0x0163) s)) := by
  have hne : (it.f 4 4 != st.part) = true := by simpa using hpart
  rw [streamJoin, svc_bad_of _ h.ord, pure_bind]
  simp only [Svc.decideOk, svc_bind, svc_decide_nil, hst, hne, if_true]
  rfl

/-- A stream with one more part. -/
def Stream.grown (st : Stream) (msg : Bytes) : Stream := { st with part := st.part + 1, data := st.data ++ msg }

/-- The state in which the stream of an item's flow has that item's part. -/
def streamGrown (it : Item) (s : State) : State :=
  { s with eng := { s.eng with streams := tmod s.eng.streams it.flow (fun st => st.grown (it.b 12 (it.f 8 4))) } }

theorem StreamPartFields.svcStreamUpdate_eq {it : Item} (id : Nat) (h : StreamPartFields it) :
    svcStreamUpdate id it = (streamJoin id it >>= fun u => streamPart id it u.1 u.2) >>= fun _ =>
      Svc.update (streamGrown it) >>= fun _ => done := by
  simp only [svcStreamUpdate, h.checks, pure_bind, bind_assoc]
  rfl

theorem StreamPartFields.update_refuses {s : State} {it : Item} {st : Stream} (id : Nat) (h : StreamPartFields it)
    (hst : tfind s.eng.streams it.flow = some st) (hpart : it.f 4 4 ≠ st.part) :
    svcStreamUpdate id it ⟨[], s⟩ = .error (.reply (.bare 0x0105 0x0163) (decided id (.err 0x0105 0x0163) s)) := by
  rw [h.svcStreamUpdate_eq id]
  simp only [svc_bind, h.join_refuses id hst hpart]

/-- The request of a stream's last part, with the whole of its message. -/
def streamLast (id : Nat) (it : Item) (u : Nat × Nat) (s : State) : State :=
  askEngine .dge id (itemRequest id it (streamKey it u.1 u.2) [] (streamFinal s it.flow (it.b 12 (it.f 8 4))) none) s

theorem StreamPartFields.svcStreamFinish_eq {it : Item} (id : Nat) (h : StreamPartFields it) :
    svcStreamFinish id it = (streamJoin id it >>= fun u => Svc.awaitOk (streamLast id it u)) >>= fun a =>
      Svc.update (closeStream it.flow) >>= fun _ => done a.bytes := by
  simp only [svcStreamFinish, h.checks, pure_bind, bind_assoc]
  rfl

/-- The stream joined, its last part's request is answered. -/
theorem StreamPartFields.joinLast {it : Item} (id alg key : Nat) (out : Bytes) (h : StreamPartFields it) :
    Gives (streamJoin id it >>= fun u => Svc.awaitOk (streamLast id it u)) [.nums [alg, key], .ok out] (.ok out) :=
  (h.join id alg key).bind (.awaitOk_ok _ out)

theorem StreamPartFields.finishAsks {it : Item} (id alg key : Nat) (h : StreamPartFields it) :
    Asks (svcStreamFinish id it) [.nums [alg, key]] (streamLast id it (alg, key)) := by
  rw [h.svcStreamFinish_eq id]
  exact ((h.join id alg key).bind_asks (.awaitOk _)).bind _

/-! ## RANDOM and DRBG_STATUS (12 R329-R331) -/

/-- The payload of RANDOM keeps to its ranges. -/
structure RandomFields (it : Item) : Prop where
  len : it.payload.length = 8 + it.f 5 1
  pr : it.f 4 1 ≤ 1
  reserved : it.f 6 2 = 0
  count : 1 ≤ it.f 0 4 ∧ it.f 0 4 ≤ if it.f 4 1 = 1 then 65536 else 1048576
  adata : it.f 5 1 ≤ 48

theorem RandomFields.svcRandom_eq {it : Item} (id : Nat) (h : RandomFields it) :
    svcRandom id it = Svc.awaitOk (askDraw id it (fun s => instOf s it.tenant) (it.f 0 4) (it.f 4 1 == 1) (it.b 8 (it.f 5 1)) false)
      >>= fun a => done a.bytes := by
  obtain ⟨hlen, hpr, hreserved, hcount, hadata⟩ := h
  have hbit : bit (it.f 4 1) 0 = (it.f 4 1 == 1) := by
    obtain h0 | h1 : it.f 4 1 = 0 ∨ it.f 4 1 = 1 := Nat.le_one_iff_eq_zero_or_eq_one.1 hpr
    · rw [h0]; rfl
    · rw [h1]; rfl
  have hlaid : Laid it (8 + it.f 5 1) [] := ⟨hlen, by simp⟩
  have hzero : (it.f 4 1 ≤ 1 && it.f 6 2 == 0) = true := by simp [hpr, hreserved]
  have hrange : Svc.range (1 ≤ it.f 0 4 && it.f 0 4 ≤ (if it.f 4 1 == 1 then 65536 else 1048576) && it.f 5 1 ≤ 48) =
      pure () :=
    svc_range_of (by simp only [beq_iff_eq, hcount, hadata, decide_true, Bool.and_self])
  simp only [svcRandom, hbit, hlaid.lenFrom, hzero, svc_check_true, hrange, pure_bind]

theorem svcDrbgStatus_reply {it : Item} (s : State) (h : it.payload = []) :
    let i := instOf s it.tenant
    let d := getInst s i
    svcDrbgStatus it ⟨[], s⟩ = .ok (.done (toBE 4 d.reqs ++ toBE 4 d.bytes ++ toBE 1 (instState s i) ++
      toBE 1 (condCode s.ent.cond) ++ toBE 1 (sourceMask s .healthy) ++ zeros 5), ⟨[], s⟩) := by
  simp only [svcDrbgStatus, svc_len_isEmpty h, pure_bind]
  rfl

/-- Settles O38: past its checks and its decisions each service is one request, and a stream changes with the reply alone. -/
theorem digestServicesReply : Obligations.DigestServicesReply := by
  intro s id it out
  refine ⟨?_, ?_, ?_, fun hpay h => congrArg _ (runOpcode_reply h (svcDrbgStatus_reply s hpay))⟩
  · intro alg n ml hlaid halg houtlen hnoOutlen
    exact request_and_reply out (DigestFields.svcDigest_eq id ⟨hlaid, halg, houtlen, hnoOutlen⟩)
  · intro ml msg alg n hord
    refine ⟨fun hlaid halg houtlen hnoOutlen hkey => ?_, fun st hlaid hst => ?_⟩
    · have hf : StreamStartFields it := ⟨hlaid, hord, halg, houtlen, hnoOutlen, hkey⟩
      refine ⟨fun h hnone hpart hroom => ?_, fun h => ?_⟩
      · exact ⟨_, congrArg Host.Outcome.next (runOpcode_wait h (hf.asks (streamOpens_ok hnone hpart hroom))), rfl, rfl⟩
      · have hdone := runOpcode_updates h (hf.svcStreamStart_eq id) (.streamStart id it out)
        exact ⟨streamOpened it s, congrArg Host.Outcome.next hdone, tfind_tput_self _ _ _, fun f hf => tfind_tput_ne _ _ hf⟩
    · have hf : StreamPartFields it := ⟨hlaid, hord⟩
      refine ⟨fun h => ?_, fun h hpart => ?_, fun h => ?_, fun h => ?_⟩
      · have hdone := runOpcode_updates h (hf.svcStreamUpdate_eq id) (hf.joinPart id _ _ out)
        refine ⟨streamGrown it s, congrArg Host.Outcome.next hdone, ?_, fun f hf => tfind_tmod_ne _ _ hf⟩
        exact (tfind_tmod_self _ _ _).trans (congrArg _ hst)
      · exact ⟨_, congrArg Host.Outcome.next (runOpcode_refuses h (hf.update_refuses id hst hpart))⟩
      · refine congrArg Host.Outcome.next ((runOpcode_asks h (hf.finishAsks id st.alg st.key)).trans ?_)
        simp only [streamLast, streamFinal, hst]
        rfl
      · have hdone := runOpcode_updates h (hf.svcStreamFinish_eq id) (hf.joinLast id _ _ out)
        exact ⟨closeStream it.flow s, congrArg Host.Outcome.next hdone, tfind_terase_self _ _, fun f hf => tfind_terase_ne _ hf⟩
  · intro n al hlen hpr hreserved hlo hhi hadata
    have heq := RandomFields.svcRandom_eq id ⟨hlen, hpr, hreserved, ⟨hlo, hhi⟩, hadata⟩
    exact ⟨fun h => congrArg _ (runOpcode_asks h (heq ▸ (Asks.awaitOk _).bind _)),
      fun h => congrArg _ (runOpcode_done h heq (.awaitOk_ok _ out))⟩

end Sys2Proof.Machine

/-! # RSA, ECDSA, ECDH and EdDSA (07 R187-R193) -/

namespace Sys2Proof.Machine

set_option Elab.async false

/-! ## Digests of messages (R188) -/

/-- A digest at hand is the message itself or the DGE's answer. -/
protected theorem Gives.digestIn {it : Item} {inmode : Nat} {msg d : Bytes} {dg : List Answer} (id hash : Nat)
    (h : Digested inmode msg d dg) : Gives (digestIn id it inmode hash msg) dg d := by
  obtain ⟨rfl, rfl, rfl⟩ | ⟨rfl, rfl⟩ := h
  · exact .pure _
  · exact (Gives.engine_ok _ _ _ _ _ _ _ d).map Answer.bytes

/-- A hash opcode takes its message whole, or a digest of the hash's length. -/
theorem suppliedLen_ok {inmode ml hl : Nat} (hmode : inmode ≤ 1) (h : inmode = 0 → ml = hl) :
    (inmode == 1 || ml == hl) = true := by
  obtain rfl | rfl : inmode = 0 ∨ inmode = 1 := Nat.le_one_iff_eq_zero_or_eq_one.1 hmode
  · simp [h]
  · rfl

/-! ## RSA (R189, R190) -/

/-- The fields that RSA_SIGN and RSA_VERIFY share keep to their ranges and agree (Table 7.15). -/
structure RsaFields (it : Item) : Prop where
  scheme : it.f 0 1 ≤ 1
  inmode : it.f 3 1 ≤ 1
  hash : it.f 1 1 ∈ rsaHashes
  salt : if it.f 0 1 = 0 then it.f 2 1 = 0 else it.f 2 1 ≤ hashLen (it.f 1 1)
  supplied : it.f 3 1 = 0 → it.f 8 4 = hashLen (it.f 1 1)

theorem RsaFields.checks {it : Item} (h : RsaFields it) : rsaChecks4 it = pure () := by
  obtain ⟨hscheme, hinmode, hhash, hsalt, hsupplied⟩ := h
  have hrange : Svc.range (it.f 0 1 ≤ 1 && it.f 3 1 ≤ 1) = pure () := svc_range_of (by simp [hscheme, hinmode])
  have hsaltLen : (it.f 0 1 == 0 || it.f 2 1 ≤ hashLen (it.f 1 1)) = true ∧ (it.f 0 1 == 1 || it.f 2 1 == 0) = true := by
    obtain h0 | h1 : it.f 0 1 = 0 ∨ it.f 0 1 = 1 := Nat.le_one_iff_eq_zero_or_eq_one.1 hscheme
    · simpa [h0] using hsalt
    · simpa [h1] using hsalt
  simp only [rsaChecks4, hrange, svc_bad_of _ (List.contains_iff_mem.2 hhash), svc_range_of hsaltLen.1, svc_bad_of _ hsaltLen.2,
    svc_bad_of _ (suppliedLen_ok hinmode hsupplied), pure_bind]

/-- The salt that RSA_SIGN draws under PSS. -/
def saltDraw (id : Nat) (it : Item) : Svc Bytes :=
  if it.f 0 1 = 1 ∧ it.f 2 1 ≠ 0 then Svc.draw id it (it.f 2 1) else pure []

protected theorem Gives.saltDraw {it : Item} {draws : List Answer} {salt : Bytes} (id : Nat)
    (h : if it.f 0 1 = 1 ∧ it.f 2 1 ≠ 0 then draws = [.ok salt] else draws = [] ∧ salt = []) :
    Gives (saltDraw id it) draws salt := by
  unfold saltDraw
  split at h
  next hpss => rw [if_pos hpss, h]; exact .draw id it _ salt
  next hpss => rw [if_neg hpss, h.1, h.2]; exact .pure []

theorem RsaFields.svcRsaSign_eq {it : Item} (id : Nat) (h : RsaFields it) (hlaid : Laid it (12 + it.f 8 4) [(4, 4)]) :
    svcRsaSign id it = saltDraw id it >>= fun salt => digestIn id it (it.f 3 1) (it.f 1 1) (it.b 12 (it.f 8 4)) >>= fun d =>
      Svc.engine .bne id it [keyNeed it it.key [0x50] uSIGN] [] (.rsaSign (it.f 0 1) (it.f 1 1) (it.f 2 1) salt d) >>= fun a =>
        done a.bytes := by
  simp only [svcRsaSign, hlaid.lenFrom, hlaid.zero, h.checks, pure_bind, saltDraw, Bool.and_eq_true, beq_iff_eq, bne_iff_ne]
  split <;> rfl

theorem RsaFields.svcRsaVerify_eq {it : Item} (id : Nat) (h : RsaFields it) (hexp : 1 ≤ it.f 6 1 ∧ it.f 6 1 ≤ 32)
    (hlaid : Laid it (12 + 2 * ((it.f 4 2 + 7) / 8) + it.f 6 1 + it.f 8 4) [(7, 1)]) :
    let nb := (it.f 4 2 + 7) / 8
    let el := it.f 6 1
    svcRsaVerify id it = digestIn id it (it.f 3 1) (it.f 1 1) (it.b (12 + 2 * nb + el) (it.f 8 4)) >>= fun d =>
      Svc.engine .bne id it [] [] (.rsaVerify (it.f 0 1) (it.f 1 1) (it.f 2 1) (it.f 4 2) (it.b 12 nb) (it.b (12 + nb) el)
        (it.b (12 + nb + el) nb) d) >>= fun _ => done := by
  have hrange : Svc.range (1 ≤ it.f 6 1 && it.f 6 1 ≤ 32) = pure () := svc_range_of (by simp [hexp])
  simp only [svcRsaVerify, hlaid.lenAbove (m := 12) (by omega), hlaid.zero, hrange, h.checks, pure_bind]

theorem svcRsaDecrypt_eq {it : Item} (id : Nat) (hlaid : Laid it (8 + it.f 2 2 + it.f 4 4) [(1, 1)])
    (hhash : hashLen (it.f 0 1) ≠ 0) (hlabel : it.f 2 2 ≤ 1024) :
    svcRsaDecrypt id it = Svc.engine .bne id it [keyNeed it it.key [0x50] uDEC] []
      (.rsaDecrypt (it.f 0 1) (it.b 8 (it.f 2 2)) (it.b (8 + it.f 2 2) (it.f 4 4))) >>= fun a => done a.bytes := by
  have hrange : Svc.range (hashLen (it.f 0 1) != 0 && it.f 2 2 ≤ 1024) = pure () := svc_range_of (by simp [hhash, hlabel])
  simp only [svcRsaDecrypt, hlaid.lenAbove (m := 8) (by omega), hlaid.zero, hrange, pure_bind]

/-! ## ECDSA and ECDH (R191, R192) -/

/-- The sizes of a curve, recorded once. -/
protected theorem Gives.curveSizes (id code : Nat) (x : Bool) (l ln : Nat) :
    Gives (curveSizes id code x) [.nums [l, ln]] (l, ln) :=
  (Gives.decideOk_nums id _ [l, ln]).map _

/-- The fields that ECDSA_SIGN and ECDSA_VERIFY share keep to their ranges and agree. -/
structure EcdsaFields (it : Item) : Prop where
  inmode : it.f 2 1 ≤ 1
  hash : it.f 1 1 ∈ ecHashes
  supplied : it.f 2 1 = 0 → it.f 4 4 = hashLen (it.f 1 1)

theorem EcdsaFields.checks {it : Item} (h : EcdsaFields it) : ecdsaChecks it = pure () := by
  simp only [ecdsaChecks, svc_range_of (decide_eq_true h.inmode), svc_bad_of _ (List.contains_iff_mem.2 h.hash),
    svc_bad_of _ (suppliedLen_ok h.inmode h.supplied), pure_bind]

theorem EcdsaFields.svcEcdsaSign_eq {it : Item} (id : Nat) (h : EcdsaFields it) (hlaid : Laid it (8 + it.f 4 4) [(3, 1)]) :
    svcEcdsaSign id it = curveSizes id (it.f 0 1) false >>= fun u => Svc.drawSecret id it (u.2 + 8) >>= fun _ =>
      digestIn id it (it.f 2 1) (it.f 1 1) (it.b 8 (it.f 4 4)) >>= fun d =>
        Svc.engine .bne id it [keyNeed it it.key [curveType (it.f 0 1)] uSIGN] [] (.ecdsaSign (it.f 0 1) d) >>= fun a =>
          done a.bytes := by
  simp only [svcEcdsaSign, hlaid.lenFrom, hlaid.zero, h.checks, pure_bind]

theorem EcdsaFields.ecdsaSign_serves {it : Item} {ln : Nat} {d : Bytes} {dg : List Answer} (id l : Nat) (out sec : Bytes)
    (h : EcdsaFields it) (hlaid : Laid it (8 + it.f 4 4) [(3, 1)]) (hd : Digested (it.f 2 1) (it.b 8 (it.f 4 4)) d dg) :
    Serves (svcEcdsaSign id it) ([.nums [l, ln]] ++ ([.ok sec] ++ dg)) (askEngine .bne id (itemRequest id it
      [keyNeed it it.key [curveType (it.f 0 1)] uSIGN] [] (.ecdsaSign (it.f 0 1) d) none)) out (.done out) := by
  rw [h.svcEcdsaSign_eq id hlaid]
  exact .bind (.curveSizes id _ false l ln) (.bind (.drawSecret id it (ln + 8) sec) (.after (.digestIn id _ hd) .request))

/-- ECDSA_VERIFY: the length of its payload goes by the curve's sizes, which it decides first. -/
theorem EcdsaFields.ecdsaVerify_serves {it : Item} {l ln : Nat} {d : Bytes} {dg : List Answer} (id : Nat) (out : Bytes)
    (h : EcdsaFields it) (hlaid : Laid it (8 + (1 + 2 * l) + 2 * ln + it.f 4 4) [(3, 1)]) (hform : it.f 8 1 = 4)
    (hd : Digested (it.f 2 1) (it.b (8 + (1 + 2 * l) + 2 * ln) (it.f 4 4)) d dg) :
    Serves (svcEcdsaVerify id it) ([.nums [l, ln]] ++ dg) (askEngine .bne id (itemRequest id it [] []
      (.ecdsaVerify (it.f 0 1) (it.b 8 (1 + 2 * l)) (it.b (8 + (1 + 2 * l)) (2 * ln)) d) none)) out (.done []) := by
  have hpoint : Svc.range (it.f 8 1 == 4) = pure () := svc_range_of (by simp [hform])
  refine .bind (.curveSizes id _ false l ln) ?_
  simp only [hlaid.lenAbove (m := 8) (by omega), hlaid.zero, hpoint, h.checks, pure_bind]
  exact .after (.digestIn id _ hd) .request

/-- The payload of ECDH keeps to its ranges; its point has `pl` bytes. -/
structure EcdhFields (it : Item) (pl : Nat) : Prop where
  laid : Laid it (16 + pl + it.f 2 2) ([(1, 1)] ++ blockRsvd 4)
  info : it.f 2 2 ≤ 256
  xrst : (slotBlock (it.b 4 12)).xrst ≤ 1
  form : it.f 0 1 = 0x11 ∨ it.f 16 1 = 4
  block : (slotBlock (it.b 4 12)).ok derivedTypes = true

/-- ECDH: the length of its payload goes by the curve's sizes, which it decides first. -/
theorem EcdhFields.ecdh_serves {it : Item} {l : Nat} (id ln slot : Nat) (out : Bytes)
    (h : EcdhFields it (if it.f 0 1 = 0x11 then 32 else 1 + 2 * l))
    (huses : (slotBlock (it.b 4 12)).ucnt ≠ 0 ∨ (slotBlock (it.b 4 12)).xrst = 1) :
    let pl := if it.f 0 1 = 0x11 then 32 else 1 + 2 * l
    Serves (svcEcdh id it) [.nums [l, ln], .nums [slot]]
      (askEngine .bne id (itemRequest id it [keyNeed it it.key [curveType (it.f 0 1)] uAGREE] []
        (.ecdh (it.f 0 1) (it.b 16 pl) (it.b (16 + pl) (it.f 2 2))) (some ((slotBlock (it.b 4 12)).new slot it.tenant true))))
      out (.done out) := by
  have hrange : Svc.range (it.f 2 2 ≤ 256 && (slotBlock (it.b 4 12)).xrst ≤ 1 && (it.f 0 1 == 0x11 || it.f 16 1 == 4)) =
      pure () :=
    svc_range_of (by simpa only [h.info, h.xrst, decide_true, Bool.true_and, Bool.or_eq_true, beq_iff_eq] using h.form)
  refine .bind (.curveSizes id _ true l ln) ?_
  simp only [beq_iff_eq, h.laid.lenAbove (m := 16) (by omega), h.laid.zero, hrange, svc_bad_of _ h.block, pure_bind]
  exact .after (.newSlot id it true slot huses) .request

/-! ## EdDSA (R193) -/

theorem svcEddsaSign_eq {it : Item} (id : Nat) (h : Laid it (8 + it.f 4 4) [(0, 4)]) :
    svcEddsaSign id it = Svc.engine .bne id it [keyNeed it it.key [0x18] uSIGN] [] (.eddsaSign (it.b 8 (it.f 4 4))) >>= fun a =>
      done a.bytes := by
  simp only [svcEddsaSign, h.lenFrom, h.zero, pure_bind]

theorem svcEddsaVerify_eq {it : Item} (id : Nat) (h : Laid it (104 + it.f 4 4) [(0, 4)]) :
    svcEddsaVerify id it = Svc.engine .bne id it [] [] (.eddsaVerify (it.b 8 32) (it.b 40 64) (it.b 104 (it.f 4 4))) >>= fun _ =>
      done := by
  simp only [svcEddsaVerify, h.lenFrom, h.zero, pure_bind]

/-- Settles O39: past its checks, its draws and its digest each service is one request of the BNE, whose answer makes the reply. -/
theorem publicKeyServicesReply : Obligations.PublicKeyServicesReply := by
  intro s id it out d dg runs hash
  refine ⟨?_, ?_, ?_⟩
  · intro sch sl rsa
    refine ⟨?_, ?_, ?_⟩
    · intro salt draws ml hlaid ⟨hscheme, hinmode, hhash, hsalt, hsupplied⟩ hdraws hd
      have hf : RsaFields it := ⟨hscheme, hinmode, hhash, hsalt, hsupplied⟩
      exact Serves.runs (hf.svcRsaSign_eq id hlaid) (.bind (.saltDraw id hdraws) (.after (.digestIn id _ hd) .request))
    · intro ml mb el nb hlaid ⟨hscheme, hinmode, hhash, hsalt, hsupplied⟩ hlo hhi hd
      have hf : RsaFields it := ⟨hscheme, hinmode, hhash, hsalt, hsupplied⟩
      exact Serves.runs (hf.svcRsaVerify_eq id ⟨hlo, hhi⟩ hlaid) (.after (.digestIn id _ hd) .request)
    · intro ll cl hlaid hhash hlabel
      exact Serves.runs (svcRsaDecrypt_eq id hlaid hhash hlabel) .request
  · intro code ml ec
    refine ⟨?_, ?_, ?_⟩
    · intro l ln sec hlaid ⟨hinmode, hhash, hsupplied⟩ hd
      have hf : EcdsaFields it := ⟨hinmode, hhash, hsupplied⟩
      exact Serves.runs (l := .nums [l, ln] :: .ok sec :: dg) rfl (hf.ecdsaSign_serves id l out sec hlaid hd)
    · intro l ln hlaid ⟨hinmode, hhash, hsupplied⟩ hform hd
      have hf : EcdsaFields it := ⟨hinmode, hhash, hsupplied⟩
      exact Serves.runs rfl (hf.ecdsaVerify_serves id out hlaid hform hd)
    · intro l ln slot ol b pl hlaid hinfo hxrst hform hblock huses
      have hf : EcdhFields it pl := ⟨hlaid, hinfo, hxrst, hform, hblock⟩
      exact Serves.runs rfl (hf.ecdh_serves id ln slot out huses)
  · intro ml
    exact ⟨fun hlaid => Serves.runs (svcEddsaSign_eq id hlaid) .request,
      fun hlaid => Serves.runs (svcEddsaVerify_eq id hlaid) .request⟩

end Sys2Proof.Machine

/-! # ML-KEM, ML-DSA, KEYGEN and PUBKEY_READ (07 R194-R197) -/

namespace Sys2Proof.Machine

set_option Elab.async false

/-- A PSET in its range. -/
theorem svc_pset_of {it : Item} (hlo : 1 ≤ it.f 0 1) (hhi : it.f 0 1 ≤ 3) : Svc.pset it = pure (it.f 0 1) := by
  rw [Svc.pset, svc_range_of (by simp only [hlo, hhi, decide_true, Bool.and_self]), pure_bind]

/-! ## MLKEM_ENCAPS and MLKEM_DECAPS (R194) -/

/-- The payload of an ML-KEM opcode with `n` bytes of key or ciphertext keeps to its ranges. -/
structure KemFields (it : Item) (n : Nat) : Prop where
  laid : Laid it (16 + n) ([(1, 3)] ++ blockRsvd 4)
  pset : 1 ≤ it.f 0 1 ∧ it.f 0 1 ≤ 3
  xrst : (slotBlock (it.b 4 12)).xrst ≤ 1
  block : (slotBlock (it.b 4 12)).ok derivedTypes = true

theorem KemFields.kemChecks_eq {it : Item} {n : Nat} (id : Nat) (fromKey : Bool) (h : KemFields it n) :
    kemChecks id it n fromKey = Svc.newSlot id it (slotBlock (it.b 4 12)) false fromKey := by
  simp only [kemChecks, h.laid.len, h.laid.zero, svc_range_of (decide_eq_true h.xrst), svc_bad_of _ h.block, pure_bind]

theorem KemFields.svcMlkemEncaps_eq {it : Item} (id : Nat) (h : KemFields it (kemEkLen (it.f 0 1))) :
    svcMlkemEncaps id it = Svc.newSlot id it (slotBlock (it.b 4 12)) false false >>= fun d => Svc.drawSecret id it 32 >>= fun _ =>
      Svc.engine .bne id it [] [] (.kemEncaps (it.f 0 1) (it.b 16 (kemEkLen (it.f 0 1)))) (some d) >>= fun a => done a.bytes := by
  simp only [svcMlkemEncaps, svc_pset_of h.pset.1 h.pset.2, h.kemChecks_eq, pure_bind]

theorem KemFields.svcMlkemDecaps_eq {it : Item} (id : Nat) (h : KemFields it (kemCtLen (it.f 0 1))) :
    svcMlkemDecaps id it = Svc.newSlot id it (slotBlock (it.b 4 12)) false true >>= fun d =>
      Svc.engine .bne id it [keyNeed it it.key [0x3F + it.f 0 1] uAGREE] []
        (.kemDecaps (it.f 0 1) (it.b 16 (kemCtLen (it.f 0 1)))) (some d) >>= fun a => done a.bytes := by
  simp only [svcMlkemDecaps, svc_pset_of h.pset.1 h.pset.2, h.kemChecks_eq, pure_bind]

/-! ## MLDSA_SIGN and MLDSA_VERIFY (R195) -/

/-- The payload of MLDSA_SIGN keeps to its ranges. -/
structure DsaSignFields (it : Item) : Prop where
  laid : Laid it (8 + it.f 2 1 + it.f 4 4) [(3, 1)]
  pset : 1 ≤ it.f 0 1 ∧ it.f 0 1 ≤ 3
  mode : it.f 1 1 ≤ 1

/-- The secret bytes of a hedged signature (MODE 00h). -/
def dsaDraw (id : Nat) (it : Item) : Svc Unit := if it.f 1 1 = 0 then Svc.drawSecret id it 32 else pure ()

protected theorem Gives.dsaDraw (id : Nat) (it : Item) (sec : Bytes) :
    Gives (dsaDraw id it) (if it.f 1 1 = 0 then [.ok sec] else []) () := by
  unfold dsaDraw
  split
  · exact .drawSecret id it 32 sec
  · exact .pure ()

theorem DsaSignFields.svcMldsaSign_eq {it : Item} (id : Nat) (h : DsaSignFields it) :
    svcMldsaSign id it = dsaDraw id it >>= fun _ => Svc.engine .bne id it [keyNeed it it.key [0x43 + it.f 0 1] uSIGN] []
      (.dsaSign (it.f 0 1) (it.f 1 1) (it.b 8 (it.f 2 1)) (it.b (8 + it.f 2 1) (it.f 4 4))) >>= fun a => done a.bytes := by
  simp only [svcMldsaSign, svc_pset_of h.pset.1 h.pset.2, h.laid.lenAbove (m := 8) (by omega), h.laid.zero,
    svc_range_of (decide_eq_true h.mode), pure_bind, dsaDraw, beq_iff_eq]
  split <;> rfl

theorem svcMldsaVerify_eq {it : Item} (id : Nat) (hlo : 1 ≤ it.f 0 1) (hhi : it.f 0 1 ≤ 3)
    (h : Laid it (8 + dsaPkLen (it.f 0 1) + dsaSigLen (it.f 0 1) + it.f 2 1 + it.f 4 4) [(1, 1), (3, 1)]) :
    let o := 8 + dsaPkLen (it.f 0 1) + dsaSigLen (it.f 0 1)
    svcMldsaVerify id it = Svc.engine .bne id it [] [] (.dsaVerify (it.f 0 1) (it.b 8 (dsaPkLen (it.f 0 1)))
      (it.b (8 + dsaPkLen (it.f 0 1)) (dsaSigLen (it.f 0 1))) (it.b o (it.f 2 1)) (it.b (o + it.f 2 1) (it.f 4 4))) >>=
        fun _ => done := by
  simp only [svcMldsaVerify, svc_pset_of hlo hhi, h.lenAbove (Nat.le_add_right_of_le (Nat.le_add_right _ _)), h.zero, pure_bind]

/-! ## KEYGEN and PUBKEY_READ (R196, R197) -/

/-- The payload of KEYGEN keeps to its ranges and its block names the usage of its kind (Table 7.18). -/
structure KeygenFields (it : Item) : Prop where
  laid : Laid it 16 ([(2, 2)] ++ blockRsvd 4)
  xrst : (slotBlock (it.b 4 12)).xrst ≤ 1
  kind : kindOk (it.f 0 1) (it.f 1 1) = true
  noType : (slotBlock (it.b 4 12)).type = 0
  usage : (slotBlock (it.b 4 12)).usage = kindUsage (it.f 0 1)

protected theorem Gives.kindDraw (id kt param n : Nat) : Gives (kindDraw id kt param) [.nums [n]] n :=
  (Gives.decideOk_nums id _ [n]).map _

theorem KeygenFields.svcKeygen_eq {it : Item} (id : Nat) (h : KeygenFields it) :
    svcKeygen id it = kindDraw id (it.f 0 1) (it.f 1 1) >>= fun n =>
      Svc.newSlot id it (slotBlock (it.b 4 12)) false false >>= fun d => Svc.drawSecret id it n >>= fun _ =>
        Svc.engine .bne id it [] [] (.keygen (it.f 0 1) (it.f 1 1)) (some d) >>= fun a => done a.bytes := by
  have hblock : ((slotBlock (it.b 4 12)).type == 0 && (slotBlock (it.b 4 12)).usage == kindUsage (it.f 0 1)) = true := by
    rw [h.noType, h.usage, beq_self_eq_true, beq_self_eq_true, Bool.and_self]
  simp only [svcKeygen, h.laid.len, h.laid.zero, svc_range_of (decide_eq_true h.xrst), svc_bad_of _ h.kind, svc_bad_of _ hblock,
    pure_bind]

theorem svcPubkeyRead_eq {it : Item} (id : Nat) (h : it.payload = []) :
    svcPubkeyRead id it = Svc.engine .bne id it
      [{ keyNeed it it.key privateTypes (uSIGN ||| uAGREE ||| uDEC) with anyOf := true }] [] .pubkey >>= fun a => done a.bytes := by
  simp only [svcPubkeyRead, h, List.length_nil, beq_self_eq_true, svc_len_of, pure_bind]

/-- Settles O40: past its checks and its draws each service is one request of the BNE, and its reply is made from the answer. -/
theorem latticeServicesReply : Obligations.LatticeServicesReply := by
  intro s id it out sec slot runs p b
  refine ⟨fun hlo hhi => ⟨fun hxrst hblock huses => ⟨fun hlaid => ?_, fun hlaid => ?_⟩, ?_⟩, ?_, fun hpay => ?_⟩
  · have heq := KemFields.svcMlkemEncaps_eq id ⟨hlaid, ⟨hlo, hhi⟩, hxrst, hblock⟩
    exact Serves.runs heq (.bind (.newSlot id it false slot huses) (.after (.drawSecret id it 32 sec) .request))
  · have heq := KemFields.svcMlkemDecaps_eq id ⟨hlaid, ⟨hlo, hhi⟩, hxrst, hblock⟩
    exact Serves.runs heq (.after (.newSlot id it true slot huses) .request)
  · intro cl ml o
    refine ⟨fun hlaid hmode => ?_, fun hlaid => ?_⟩
    · have heq := DsaSignFields.svcMldsaSign_eq id ⟨hlaid, ⟨hlo, hhi⟩, hmode⟩
      exact Serves.runs heq (.after (.dsaDraw id it sec) .request)
    · exact Serves.runs (svcMldsaVerify_eq id hlo hhi hlaid) .request
  · intro n hlaid hxrst hkind hnoType husage huses
    have heq := KeygenFields.svcKeygen_eq id ⟨hlaid, hxrst, hkind, hnoType, husage⟩
    exact Serves.runs heq (.bind (.kindDraw id _ _ n)
      (.bind (.newSlot id it false slot huses) (.after (.drawSecret id it n sec) .request)))
  · exact Serves.runs (svcPubkeyRead_eq id hpay) .request

end Sys2Proof.Machine

/-! # The token vault's services (08 R214-R231)

An operation in random mode first settles where it runs, then takes its key digest and its turn, and then makes its lookups; each
of these steps takes its own recorded answers, so a service is read off step by step from the answers of its parts. -/

namespace Sys2Proof.Machine

set_option Elab.async false

/-! ## Runs that let the next operation of their gate through (09 R254, 08 R217) -/

section Signed

variable {s : State} {id op : Nat} {it : Item} {l : List Answer} {svc : Item → Svc Reply}

theorem runSigned_running (h : Running s id op it l) : runSigned op id svc s = wakeGate it.gate (runOpcode op id svc s) := by
  obtain ⟨hget, -⟩ := h
  rw [runSigned, hget]
  rfl

theorem runSigned_gives {r : Reply} (h : Running s id op it l) (hs : Gives (svc it) l r) :
    (.next (runSigned op id svc s) : Host.Outcome State Fault Refusal) = .next (wakeGate it.gate (itemDone id r s)) := by
  rw [runSigned_running h, runOpcode_gives h hs]

theorem runSigned_ends {st d : Nat} (h : Running s id op it l) (hs : Refuses (svc it) l st d) :
    (.next (runSigned op id svc s) : Host.Outcome State Fault Refusal) = .next (wakeGate it.gate (itemEnd id st d s)) := by
  rw [runSigned_running h, runOpcode_ends h hs]

theorem runSigned_asks {place : State → State} (h : Running s id op it l) (hs : Asks (svc it) l place) :
    (.next (runSigned op id svc s) : Host.Outcome State Fault Refusal) = .next (wakeGate it.gate (place s)) := by
  rw [runSigned_running h, runOpcode_asks h hs]

end Signed

/-! ## What each step of a vault operation takes (R217, R221-R223) -/

/-- The last part of a service takes no answer of its own. -/
protected theorem Gives.last {α β : Type} {x : Svc α} {f : α → Svc β} {l : List Answer} {a : α} {b : β} (hx : Gives x l a)
    (hf : Gives (f a) [] b) : Gives (x >>= f) l b :=
  List.append_nil l ▸ hx.bind hf

/-- A service that reads the state gives what it gives in every state. -/
protected theorem Gives.state {β : Type} {f : State → Svc β} {l : List Answer} {b : β} (h : ∀ s, Gives (f s) l b) :
    Gives (Svc.state >>= f) l b :=
  ⟨fun m s => by rw [svc_bind, svc_state]; exact (h s).runs m s⟩

protected theorem Gives.here (id : Nat) (it : Item) (n : Nat) : Gives (Svc.here id it false) [.nums [n]] (n == 1) :=
  ⟨fun _ _ => rfl⟩

protected theorem Gives.gate (id : Nat) (it : Item) (a : Answer) : Gives (Svc.gate id it) [a] () := ⟨fun _ _ => rfl⟩

protected theorem Gives.decide (id : Nat) (f : State → Answer × State) (a : Answer) : Gives (Svc.decide id f) [a] a :=
  ⟨fun _ _ => rfl⟩

protected theorem Gives.pages (id t : Nat) (dig b : Bytes) : Gives (Svc.pages id t dig) [.ok b] () := ⟨fun _ _ => rfl⟩

/-- The active manager's answer is the reply, where the message is no key graft. -/
protected theorem Gives.forwarded {it : Item} (id : Nat) (out : Bytes) (h : it.opcode ≠ 0x0101) :
    Gives (Svc.forwarded id it) [.ok out] (.done out) := by
  have hgraft : ¬(it.opcode == 0x0101 && fld (envelopeOf it.payload).body 0 1 == 2) = true := by simp [h]
  simp only [Svc.forwarded, if_neg hgraft]
  exact (Gives.awaitOk_ok _ out).last (.done out)

protected theorem Gives.vaultKey (id : Nat) (it : Item) (kind : Nat) (d : List Nat) (dig : Bytes) :
    Gives (Svc.vaultKey id it kind d) [.nums [], .ok dig, .nums []] dig :=
  (Gives.decideOk_nums id _ []).bind (.state fun _ =>
    (Gives.engine_ok .dge id it _ _ _ _ dig).bind ((Gives.gate id it _).bind (.pure _)))

/-- No copy is waited for where the answer of a lookup begins with eight zero bytes. -/
theorem fld_zeros_append (r : Bytes) : fld (zeros 8 ++ r) 0 8 = 0 := by
  have hslice : slice (zeros 8 ++ r) 0 8 = zeros 8 := by simp [slice, zeros]
  rw [fld, hslice]
  decide

/-- A lookup whose answer waits for no copy gives the place and the record that the answer holds. -/
protected theorem Gives.vaultLookup (id : Nat) (it : Item) (kind : Nat) (dig : Bytes) (d : List Nat) (r : Bytes) :
    Gives (Svc.vaultLookup id it kind dig d) [.ok [], .ok (zeros 8 ++ r)]
      (if (zeros 8 ++ r).length == 8 then none else some (fld (zeros 8 ++ r) 8 6, recOf ((zeros 8 ++ r).drop 14))) := by
  refine (Gives.pages id it.tenant dig []).bind (m := [_]) ((Gives.decideOk_ok id _ _).last ?_)
  have hcopied : ¬(fld (Answer.ok (zeros 8 ++ r)).bytes 0 8 != 0) = true := by simp [Answer.bytes, fld_zeros_append]
  rw [if_neg hcopied]
  exact .pure _

protected theorem Gives.lookedNone (id : Nat) (it : Item) (kind : Nat) (dig : Bytes) (d : List Nat) :
    Gives (Svc.vaultLookup id it kind dig d) lookedNone none :=
  .vaultLookup id it kind dig d []

protected theorem Gives.lookedUp (id : Nat) (it : Item) (kind : Nat) (dig : Bytes) (d : List Nat) (place : Nat) (r : Bytes) :
    ∃ p, Gives (Svc.vaultLookup id it kind dig d) (lookedUp place r) (some (p, recOf r)) := by
  have h := Gives.vaultLookup id it kind dig d (toBE 6 place ++ r)
  have hlong : ¬((zeros 8 ++ (toBE 6 place ++ r)).length == 8) = true := by simp [zeros, toBE, toLE]
  have hrec : (zeros 8 ++ (toBE 6 place ++ r)).drop 14 = r := by simp [zeros, toBE, toLE]
  rw [if_neg hlong, hrec, ← List.append_assoc] at h
  exact ⟨_, h⟩

/-! ## Operations in random mode on the active manager (R226-R228) -/

section Random

variable {id : Nat} {it : Item} {pan : List Nat}

theorem Gives.tokeniseRandom_known (dig : Bytes) (place : Nat) (r : Bytes) :
    Gives (tokeniseRandom id it pan) ([.nums [], .ok dig, .nums []] ++ lookedUp place r)
      (.done (tokenReply (recOf r).token true (recOf r).serial)) := by
  obtain ⟨p, hlook⟩ := Gives.lookedUp id it 2 dig pan place r
  exact (Gives.vaultKey id it 2 pan dig).bind (hlook.last (.done _))

/-- A candidate that is not the PAN and of which the vault knows neither record is taken. -/
protected theorem Gives.candidate {lead trail : Nat} {draws : List Answer} {b : Bytes} (f : Nat)
    (hmid : 0 < pan.length - lead - trail) (hdraw : DrewBelow 250 (pan.length - lead - trail) draws b)
    (hne : withMiddle pan lead trail (b.map fun x => x.toNat % 10) ≠ pan) :
    Gives (candidate id it pan lead trail (f + 1)) (draws ++ lookedNone ++ lookedNone)
      (withMiddle pan lead trail (b.map fun x => x.toNat % 10)) := by
  have hsame : ¬(withMiddle pan lead trail (b.map fun x => x.toNat % 10) == pan) = true := by simpa using hne
  rw [candidate, List.append_assoc]
  refine (Gives.drawBelow id it hmid hdraw).bind ?_
  rw [if_neg hsame]
  exact .state fun s => (Gives.lookedNone id it 1 _ _).bind ((Gives.lookedNone id it 2 _ _).last (.pure _))

theorem Gives.tokeniseRandom_new {draws : List Answer} {b : Bytes} (dig : Bytes) (serial n : Nat)
    (hmid : 0 < pan.length - it.f 1 1 - it.f 2 1) (hdraw : DrewBelow 250 (pan.length - it.f 1 1 - it.f 2 1) draws b)
    (hne : withMiddle pan (it.f 1 1) (it.f 2 1) (b.map fun x => x.toNat % 10) ≠ pan) :
    Gives (tokeniseRandom id it pan)
      ([.nums [], .ok dig, .nums []] ++ (lookedNone ++ (draws ++ (lookedNone ++ (lookedNone ++ [.nums [serial, n], .ok []])))))
      (.done (tokenReply (withMiddle pan (it.f 1 1) (it.f 2 1) (b.map fun x => x.toNat % 10)) false serial)) := by
  refine (Gives.vaultKey id it 2 pan dig).bind ((Gives.lookedNone id it 2 dig pan).bind ?_)
  rw [← List.append_assoc, ← List.append_assoc]
  exact (Gives.candidate 15 hmid hdraw hne).bind ((Gives.decideOk_nums id _ [serial, n]).bind
    ((Gives.awaitOk_ok _ []).last (.done _)))

theorem Gives.detokeniseRandom_known (dig : Bytes) (place : Nat) (r : Bytes) :
    Gives (detokeniseRandom id it pan) ([.nums [], .ok dig, .nums []] ++ lookedUp place r)
      (.done (panReply (recOf r).pan (recOf r).serial (recOf r).created (recOf r).attr)) := by
  obtain ⟨p, hlook⟩ := Gives.lookedUp id it 1 dig pan place r
  exact (Gives.vaultKey id it 1 pan dig).bind (hlook.last (.done _))

theorem Refuses.detokeniseRandom_unknown (dig : Bytes) :
    Refuses (detokeniseRandom id it pan) ([.nums [], .ok dig, .nums []] ++ (lookedNone ++ [])) 0x0801 0 :=
  (Gives.vaultKey id it 1 pan dig).bind_refuses ((Gives.lookedNone id it 1 dig pan).bind_refuses (.finish 0x0801 0))

/-- Both records found, DELETE replies once the batch of its tombstones has been copied. -/
protected theorem Gives.deleteRandom (dig : Bytes) (p q n : Nat) (r1 r2 : Bytes) :
    Gives (deleteRandom id it pan)
      ([.nums [], .ok dig, .nums []] ++ (lookedUp p r1 ++ (lookedUp q r2 ++ [.nums [n], .ok []]))) (.done []) := by
  obtain ⟨p1, hfirst⟩ := Gives.lookedUp id it 1 dig pan p r1
  refine (Gives.vaultKey id it 1 pan dig).bind (hfirst.bind (.state fun s => ?_))
  obtain ⟨p2, hsecond⟩ := Gives.lookedUp id it 2 (keyDigest s it.tenant 2 (recOf r1).pan) (recOf r1).pan q r2
  exact hsecond.bind ((Gives.decideOk_nums id _ [n]).bind ((Gives.awaitOk_ok _ []).last (.done [])))

end Random

/-! ## Where an operation runs (09 R254) -/

/-- An operation of the active manager: done here, or forwarded to it. -/
def managed (id : Nat) (it : Item) (x : Svc Reply) : Svc Reply :=
  Svc.here id it false >>= fun b => if b then x else Svc.forwarded id it

section Managed

variable {id : Nat} {it : Item} {x : Svc Reply} {l : List Answer}

theorem Gives.managed_here {r : Reply} (h : Gives x l r) : Gives (managed id it x) ([.nums [1]] ++ l) r :=
  (Gives.here id it 1).bind h

theorem Refuses.managed_here {st d : Nat} (h : Refuses x l st d) : Refuses (managed id it x) ([.nums [1]] ++ l) st d :=
  (Gives.here id it 1).bind_refuses h

theorem Gives.managed_forwarded (out : Bytes) (h : it.opcode ≠ 0x0101) :
    Gives (managed id it x) ([.nums [0]] ++ [.ok out]) (.done out) :=
  (Gives.here id it 0).bind (.forwarded id out h)

end Managed

/-! ## TOKENISE, DETOKENISE, DELETE and their payloads (R227; Tables 8.6, 8.7) -/

/-- The fields that TOKENISE and DETOKENISE share keep to their ranges: a PAN field and the digits that stay. -/
structure TokenFields (it : Item) (pan : List Nat) : Prop where
  field : panField (it.b 8 12) 12 19 = some pan
  lead : it.f 1 1 ≤ 8
  trail : it.f 2 1 ≤ 4

/-- The fields of FF1: KEY and a tweak. -/
structure Ff1Fields (it : Item) (pan : List Nat) : Prop extends TokenFields it pan where
  mode : it.f 0 1 = 0
  tweak : it.f 3 1 ≤ 16
  key : Handle (it.f 4 4)
  tail : isZero ((it.b 20 16).drop (it.f 3 1)) = true
  digits : it.f 1 1 + it.f 2 1 + 6 ≤ pan.length

/-- The fields of random mode: neither KEY nor a tweak. -/
structure RandomModeFields (it : Item) (pan : List Nat) : Prop extends TokenFields it pan where
  mode : it.f 0 1 = 1
  noTweak : it.f 3 1 = 0
  noKey : it.f 4 4 = 0
  tail : isZero (it.b 20 16) = true

section Payloads

variable {it : Item} {pan : List Nat} (id : Nat)

theorem Ff1Fields.checks (h : Ff1Fields it pan) : tokenChecks it = pure pan := by
  simp [tokenChecks, h.mode, h.lead, h.trail, h.tweak, h.key.checked, svc_pan_of h.field, h.tail, svc_bad_of, svc_range_of]

theorem RandomModeFields.checks (h : RandomModeFields it pan) : tokenChecks it = pure pan := by
  simp [tokenChecks, h.mode, h.lead, h.trail, h.noTweak, h.noKey, svc_pan_of h.field, h.tail, svc_bad_of, svc_range_of]

theorem Ff1Fields.svcTokenise_eq (h : Ff1Fields it pan) (hlaid : Laid it 84 [(9, 1)]) (hattr : isZero (it.b 36 48) = true) :
    svcTokenise id it = ff1Work id it true pan >>= fun t => done (tokenReply t false 0) := by
  simp [svcTokenise, hlaid.len, hlaid.zero, h.checks, h.mode, hattr, svc_bad_of _ (decide_eq_true h.digits), svc_bad_of]

theorem Ff1Fields.svcDetokenise_eq (h : Ff1Fields it pan) (hlaid : Laid it 36 [(9, 1)]) :
    svcDetokenise id it = ff1Work id it false pan >>= fun p => done (panReply p 0 0 []) := by
  simp [svcDetokenise, hlaid.len, hlaid.zero, h.checks, h.mode, svc_bad_of _ (decide_eq_true h.digits), svc_bad_of]

theorem RandomModeFields.svcTokenise_eq (h : RandomModeFields it pan) (hlaid : Laid it 84 [(9, 1)])
    (hdigits : it.f 1 1 + it.f 2 1 + 6 ≤ pan.length) : svcTokenise id it = managed id it (tokeniseRandom id it pan) := by
  simp [svcTokenise, hlaid.len, hlaid.zero, h.checks, h.mode, hdigits, svc_bad_of, managed]

theorem RandomModeFields.svcDetokenise_eq (h : RandomModeFields it pan) (hlaid : Laid it 36 [(9, 1)])
    (hlead : it.f 1 1 = 0) (htrail : it.f 2 1 = 0) : svcDetokenise id it = managed id it (detokeniseRandom id it pan) := by
  simp [svcDetokenise, hlaid.len, hlaid.zero, h.checks, h.mode, hlead, htrail, svc_bad_of, managed]

theorem svcDelete_eq (hlaid : Laid it 16 [(1, 3), (5, 1)]) (hmode : it.f 0 1 = 1)
    (hpan : panField (it.b 4 12) 12 19 = some pan) : svcDelete id it = managed id it (deleteRandom id it pan) := by
  simp [svcDelete, hlaid.len, hlaid.zero, hmode, svc_pan_of hpan, svc_bad_of, managed]

protected theorem Gives.ff1Work (enc : Bool) (m : List Nat) :
    Gives (ff1Work id it enc pan) [.nums m] (withMiddle pan (it.f 1 1) (it.f 2 1) m) :=
  (Gives.engine_nums .sye id it _ _ _ _ m).map _

protected theorem Asks.ff1Work (enc : Bool) :
    Asks (ff1Work id it enc pan) [] (askEngine .sye id (itemRequest id it [keyNeed it (it.f 4 4) aesTypes uTOKEN] []
      (.ff1 enc (ff1Tweak pan (it.f 1 1) (it.f 2 1) (it.b 20 (it.f 3 1))) (middle pan (it.f 1 1) (it.f 2 1))) none)) :=
  (Asks.engine ..).bind _

end Payloads

/-! ## EXPORT_NEXT and VAULT_QUERY (R230, R231) -/

/-- On these answers the service replies `r` and leaves the state changed by `f`. -/
structure Leaves (x : Svc Reply) (l : List Answer) (r : Reply) (f : State → State) : Prop where
  runs : ∀ s, x ⟨l, s⟩ = .ok (r, ⟨[], f s⟩)

protected theorem Leaves.update (f : State → State) (b : Bytes) :
    Leaves (Svc.update f >>= fun _ => done b) [] (.done b) f :=
  ⟨fun _ => rfl⟩

protected theorem Gives.leaves {α : Type} {x : Svc α} {k : α → Svc Reply} {l m : List Answer} {a : α} {r : Reply}
    {f : State → State} (hx : Gives x l a) (hk : Leaves (k a) m r f) : Leaves (x >>= k) (l ++ m) r f :=
  ⟨fun s => by rw [svc_bind, hx.runs]; exact hk.runs s⟩

/-- A chunk's reply, once the engine has enciphered it; the session moves on with it. -/
protected theorem Leaves.exportHere {it : Item} (id k g : Nat) (iv chunk out : Bytes) (hcursor : it.f 0 8 ≠ lastCursor) :
    Leaves (exportHere id it) [.nums [k, g], .ok iv, .ok [], .nums [0], .ok chunk, .ok out]
      (.done (iv ++ zeros 4 ++ (toBE 8 (it.f 0 8) ++ chunk.take 12 ++ zeros 12) ++ out.drop 16))
      (exportMove it.tenant (it.f 0 8) (fld chunk 0 8)) := by
  have hmore : (it.f 0 8 != lastCursor) = true := by simpa using hcursor
  have hcopied : ¬((Answer.nums [0]).nat != 0) = true := by decide
  simp only [Machine.exportHere, hmore, if_true]
  refine (Gives.decideOk_nums id _ [k, g]).leaves ((Gives.draw id it 12 iv).leaves ((Gives.pages id _ _ []).leaves
    ((Gives.decide id _ (.nums [0])).leaves ?_)))
  rw [if_neg hcopied]
  exact (Gives.decideOk_ok id _ chunk).leaves ((Gives.engine_ok _ id it _ _ _ _ out).leaves (.update _ _))

theorem Leaves.managed_here {id : Nat} (it : Item) {x : Svc Reply} {l : List Answer} {r : Reply} {f : State → State}
    (h : Leaves x l r f) : Leaves (managed id it x) ([.nums [1]] ++ l) r f :=
  (Gives.here id it 1).leaves h

theorem svcExportNext_eq {it : Item} (id : Nat) (h : it.payload.length = 8) :
    svcExportNext id it = managed id it (exportHere id it) := by
  simp [svcExportNext, h, svc_len_of, managed]

/-- A chunk taken at the session's cursor moves the session on; one taken again leaves it. -/
theorem exportMove_session {s : State} {t cursor : Nat} {v : Session} (next : Nat) (hcursor : cursor ≠ lastCursor)
    (hv : tfind s.clc.sessions t = some v) :
    tfind (exportMove t cursor next s).clc.sessions t =
      some (if cursor = v.cursor then { v with cursor := next, prev := cursor } else v) := by
  by_cases hfresh : cursor = v.cursor
  · have hmore : v.cursor ≠ lastCursor := hfresh ▸ hcursor
    simp [exportMove, hv, hfresh, hmore, setSession]
  · simp [exportMove, hv, hfresh, hcursor]

/-- VAULT_QUERY reads the tenant's share, records and session as they stand. -/
theorem svcVaultQuery_reply {it : Item} (id : Nat) (s : State) (h : it.payload = []) :
    let recs := recordsOf s it.tenant
    svcVaultQuery id it ⟨[.nums [1]], s⟩ = .ok (.done (toBE 4 (((getTenant s it.tenant).map (·.share)).getD 0) ++ zeros 4 ++
      toBE 8 (recs.countP (·.2.live)) ++ toBE 8 (recs.countP (·.2.tomb)) ++ toBE 8 (getShare s it.tenant).serial ++
      toBE 4 (b2n (tfind s.clc.sessions it.tenant).isSome + 2 * b2n (s.clc.st == .opened)) ++ zeros 4), ⟨[], s⟩) := by
  rw [svcVaultQuery, svc_len_isEmpty h]
  rfl

/-- Settles O44: under FF1 an operation is one request of the SYE; in random mode it is read off from its turn, its lookups and
the copy of its batch. -/
theorem tokenServicesReply : Obligations.TokenServicesReply := by
  intro s id it pan m dig out
  refine ⟨?_, ?_, ?_, ?_⟩
  · intro hpan hlead htrail lead trail tl ff1 key
    have hfields : TokenFields it pan := ⟨hpan, hlead, htrail⟩
    refine ⟨?_, ?_⟩
    · intro hmode htweak hkey htail hdigits
      have hf : Ff1Fields it pan := ⟨hfields, hmode, htweak, hkey, htail, hdigits⟩
      refine ⟨fun hlaid hattr => ?_, fun hlaid h => ?_⟩
      · have heq := hf.svcTokenise_eq id hlaid hattr
        exact ⟨fun h => runSigned_asks h (heq ▸ (Asks.ff1Work id true).bind _),
          fun h => runSigned_gives h (heq ▸ (Gives.ff1Work id true m).last (.done _))⟩
      · exact runSigned_gives h (hf.svcDetokenise_eq id hlaid ▸ (Gives.ff1Work id false m).last (.done _))
    · intro hmode htweak hkey htail
      have hf : RandomModeFields it pan := ⟨hfields, hmode, htweak, hkey, htail⟩
      refine ⟨fun hlaid hdigits => ?_, fun hlaid h0 h1 => ?_⟩
      · have heq := hf.svcTokenise_eq id hlaid hdigits
        refine ⟨fun place r _ h => ?_, ?_, fun h => ?_⟩
        · exact runSigned_gives h (heq ▸ (Gives.tokeniseRandom_known dig place r).managed_here)
        · intro draws b serial n hdraw c hne h
          have hmid : 0 < pan.length - it.f 1 1 - it.f 2 1 := by omega
          simp only [List.append_assoc] at h
          exact runSigned_gives h (heq ▸ (Gives.tokeniseRandom_new dig serial n hmid hdraw hne).managed_here)
        · have hop : it.opcode ≠ 0x0101 := by
            obtain ⟨-, -, hop, -⟩ := h
            simp [hop]
          exact runSigned_gives h (heq ▸ Gives.managed_forwarded out hop)
      · have heq := hf.svcDetokenise_eq id hlaid h0 h1
        exact ⟨fun place r _ h => runSigned_gives h (heq ▸ (Gives.detokeniseRandom_known dig place r).managed_here),
          fun h => runSigned_ends h (heq ▸ (Refuses.detokeniseRandom_unknown dig).managed_here)⟩
  · intro p q r1 r2 n hlaid hmode hpan _ _ h
    have heq := svcDelete_eq id hlaid hmode hpan
    simp only [List.append_assoc] at h
    exact runSigned_gives h (heq ▸ (Gives.deleteRandom dig p q n r1 r2).managed_here)
  · intro v iv chunk k g hlen cursor hcursor hv hchunk next head h
    have hhead : chunk.take 12 = chunk := List.take_of_length_le (Nat.le_of_eq hchunk)
    have hruns := (Leaves.exportHere id k g iv chunk out hcursor).managed_here (id := id) it
    rw [hhead] at hruns
    exact ⟨_, congrArg _ (runOpcode_reply h (svcExportNext_eq id hlen ▸ hruns.runs s)), exportMove_session next hcursor hv⟩
  · intro hpay h recs
    exact congrArg _ (runOpcode_reply h (svcVaultQuery_reply id s hpay))

end Sys2Proof.Machine

/-! # The cellar's own commands (08 R205, R211, R215, R222) -/

namespace Sys2Proof.Machine

set_option Elab.async false

/-! ## Commits (R215) -/

/-- The durable point of batch `n`, copied as `c`, whose log takes `pages` pages: its writes are in place and the pending root is
the next one. -/
def batchDurable (n pages : Nat) (c : Copying) (r : RootRec) (s : State) : State :=
  { countN 0xB1 pages none s with
    bk := { s.bk with root := some { r with
      pserial := r.cserial + 1, proot := Config.cellarDigest (2 * n), logdig := Config.cellarDigest (2 * n + 1),
      crcOk := true } }
    clc := { s.clc with
      vault := c.batch.writes.foldl putRec s.clc.vault
      copies := s.clc.copies.map (fun x => if x.batch.num = n then { x with durable := true } else x) } }

/-- The commit that closes: its pages are in place and the pending root is the committed one. -/
def commitClosed (pages : Nat) (r : RootRec) (s : State) : State :=
  { count 0xB5 none (countN 0xB1 pages none s) with
    bk := { s.bk with root := some { r with cserial := r.pserial, croot := r.proot, crcOk := true } }
    clc := { s.clc with closing := none } }

section Commits

variable {s : State} {n pages : Nat} {r : RootRec} (hclosing : s.clc.closing = some (n, pages)) (hroot : s.bk.root = some r)
  (hopen : s.clc.st = .opened)

include hclosing hroot hopen

theorem exec_commitLogWritten {c : Copying} (hc : s.clc.copies.find? (fun c => c.batch.num == n && !c.durable) = some c) :
    exec .commitLogWritten s = .next (finishCopies (batchDurable n pages c r s)) := by
  show execCommitLogWritten s = _
  simp [execCommitLogWritten, hclosing, hroot, hopen, hc, batchDurable]

theorem exec_commitFlushDone (hdurable : ∀ c ∈ s.clc.copies, c.batch.num = n → c.durable = true) :
    exec .commitFlushDone s = .next (commitClosed pages r s) := by
  have hnone : s.clc.copies.any (fun c => c.batch.num == n && !c.durable) = false := by
    simpa using hdurable
  show execCommitFlushDone s = _
  simp [execCommitFlushDone, hclosing, hroot, hopen, hnone, commitClosed]

end Commits

/-! ## Page reads and repairs (R211) -/

@[simp] theorem takeFree_clc (n : Nat) (s : State) : (takeFree n s).2.clc = s.clc := rfl

/-- Neither a record nor its counts touch work items, the cellar or the hierarchy. -/
theorem record_frame (sev source code : Nat) (data : Bytes) (tenant : Nat) (late : Bool) (s : State) :
    (record sev source code data tenant late s).dsp = s.dsp ∧ (record sev source code data tenant late s).clc = s.clc ∧
      (record sev source code data tenant late s).hier = s.hier := by
  unfold record
  dsimp only
  split <;> simp [eachCopy]

@[simp] theorem cellarRecord_dsp (sev page : Nat) (s : State) : (cellarRecord sev page s).dsp = s.dsp :=
  (record_frame ..).1

@[simp] theorem cellarRecord_clc (sev page : Nat) (s : State) : (cellarRecord sev page s).clc = s.clc :=
  (record_frame ..).2.1

@[simp] theorem cellarRecord_hier (sev page : Nat) (s : State) : (cellarRecord sev page s).hier = s.hier :=
  (record_frame ..).2.2

/-- The read of an item's page has come back. -/
def readTaken (n : Nat) (s : State) : State := count 0xB0 none { s with clc := { s.clc with reads := terase s.clc.reads n } }

/-- A page is marked bad, recorded and counted. -/
def pageMarked (page : Nat) (s : State) : State :=
  eachCopy (fun c => { c with badpg := satAdd max32 c.badpg 1 }) (count 0xB4 none (cellarRecord 2 page
    { s with clc := { s.clc with bad := if s.clc.bad.contains page then s.clc.bad else s.clc.bad ++ [page] } }))

theorem pageMarked_clc (page : Nat) (s : State) : (pageMarked page s).clc =
    { s.clc with bad := if s.clc.bad.contains page then s.clc.bad else s.clc.bad ++ [page] } := by
  simp [pageMarked, eachCopy]

theorem pageMarked_dsp (page : Nat) (s : State) : (pageMarked page s).dsp = s.dsp := by
  simp [pageMarked, eachCopy]

theorem pageMarked_hier (page : Nat) (s : State) : (pageMarked page s).hier = s.hier := by
  simp [pageMarked, eachCopy]

theorem pageMarked_contains (page : Nat) (s : State) : (pageMarked page s).clc.bad.contains page = true := by
  rw [pageMarked_clc]
  by_cases h : s.clc.bad.contains page <;> simp_all

/-- With room among the bad pages and no standby to ask, the page is marked and the item ends CELLAR. -/
theorem pageBad_alone {s : State} (n page : Nat) (hroom : s.clc.bad.length < 256) (hstandby : hasStandby s = false) :
    pageBad n page s = itemEnd n 0x0802 1 (pageMarked page s) := by
  have hstill : hasStandby (pageMarked page s) = false := by
    simpa only [hasStandby, isActive, pageMarked_hier] using hstandby
  have hfree : ¬(256 ≤ s.clc.bad.length && !s.clc.bad.contains page) = true := by simp [Nat.not_le.2 hroom]
  rw [pageBad, if_neg hfree]
  show itemEnd n 0x0802 1 (if hasStandby (pageMarked page s) then _ else pageMarked page s) = _
  rw [hstill]
  rfl

section Reads

variable {s : State} {n page : Nat} (hread : tfind s.clc.reads n = some page) (hwait : waitsFor s n .page = true)

include hread hwait

theorem cellarRead_waiting (good : Bool) : cellarRead n good s =
    if good && !s.clc.bad.contains page then itemAnswer n (.ok []) (readTaken n s) else pageBad n page (readTaken n s) := by
  have hstill : waitsFor (readTaken n s) n .page = true := (waitsFor_congr (by simp [readTaken]) n _).trans hwait
  have hbad : (readTaken n s).clc.bad = s.clc.bad := by simp [readTaken]
  have hstep : cellarRead n good s = if !waitsFor (readTaken n s) n .page then readTaken n s
      else if good && !(readTaken n s).clc.bad.contains page then itemAnswer n (.ok []) (readTaken n s)
      else pageBad n page (readTaken n s) := by
    rw [cellarRead, hread]
    rfl
  rw [hstep, hstill, hbad]
  rfl

theorem exec_cellarReadComplete_good (hgood : s.clc.bad.contains page = false) :
    exec (.cellarReadComplete n true) s = .next (selfCheck s (itemAnswer n (.ok []) (readTaken n s))) := by
  show execCellarReadComplete n true s = _
  rw [execCellarReadComplete, cellarRead_waiting hread hwait, hgood]
  rfl

theorem exec_cellarReadComplete_failed (hroom : s.clc.bad.length < 256) (hstandby : hasStandby s = false) :
    exec (.cellarReadComplete n false) s =
      .next (selfCheck s (itemEnd n 0x0802 1 (pageMarked page (readTaken n s)))) := by
  have hroom' : (readTaken n s).clc.bad.length < 256 := by simpa [readTaken] using hroom
  have hstandby' : hasStandby (readTaken n s) = false := by simpa [hasStandby, isActive, readTaken] using hstandby
  show execCellarReadComplete n false s = _
  rw [execCellarReadComplete, cellarRead_waiting hread hwait, Bool.false_and, if_neg Bool.false_ne_true,
    pageBad_alone n page hroom' hstandby']

end Reads

/-- The standby's copy of a page, whose digest matched: the page is good again and asked for no longer. -/
def pageRepaired (page : Nat) (s : State) : State :=
  { received 4 s with clc := { s.clc with
    repairs := removeFirst (· == page) s.clc.repairs, bad := s.clc.bad.filter (· != page) } }

theorem exec_pageMessage_good {s : State} {page : Nat} (h : s.clc.repairs.contains page = true) :
    exec (.pageMessage page true) s = .next (pageRepaired page s) := by
  show execPageMessage page true s = _
  simp only [execPageMessage, if_pos h, pageRepaired, received, count_clc, if_true]

/-! ## Drives (R205) -/

section Drives

variable {s : State} {n : Nat} (husable : (if n = 0 then s.clc.drive0 else s.clc.drive1).usable = true)

include husable

theorem exec_smartWarning : exec (.smartWarning n) s = .next (cellarRecord 1 n s) := by
  show execSmartWarning n s = _
  simp only [execSmartWarning, beq_iff_eq, husable, if_true]

theorem exec_nvmePortFailure (hcollecting : collecting s = true) (hon : (if n = 0 then s.clc.off0 else s.clc.off1) = false) :
    exec (.nvmePortFailure n) s = .next (selfCheck s (driveOffline n (setFsrc (0x0900 + n) (fun f => { f with isol := true })
      (containedReport (0x0900 + n) causeError 0 0 false false
        (eachCopy (fun c => { c with nverr := satAdd max32 c.nverr 1 }) s))))) := by
  show execNvmePortFailure n s = _
  simp only [execNvmePortFailure, beq_iff_eq, husable, hcollecting, hon, Bool.not_false, Bool.and_self, if_true]

end Drives

/-! ## The vault sweeper (R222) -/

theorem exec_vaultSweeperStep {s : State} {k page : Nat} (hactive : isActive s = true) (hopen : s.clc.st = .opened)
    (hpage : page < sharePages s k) (hdead : (recordsOf s k).filter (fun e => e.1 / 32 == page && e.2.tomb) ≠ [])
    (hpath : pathThrough (sharePages s k) page (recordsOf s k) = false) :
    exec (.vaultSweeperStep k page) s = .next (joinBatch
      (((recordsOf s k).filter (fun e => e.1 / 32 == page && e.2.tomb)).map
        (fun e => { tenant := k, page := page, place := e.1 % 32, val := { e.2 with kind := 0 } })) s).2 := by
  have hsome : ((recordsOf s k).filter (fun e => e.1 / 32 == page && e.2.tomb)).isEmpty = false := by
    rwa [List.isEmpty_eq_false_iff]
  have hin : decide (sharePages s k ≤ page) = false := decide_eq_false (Nat.not_le.2 hpage)
  have hruns : (!isActive s || s.clc.st != .opened || decide (sharePages s k ≤ page) ||
      ((recordsOf s k).filter (fun e => e.1 / 32 == page && e.2.tomb)).isEmpty ||
      pathThrough (sharePages s k) page (recordsOf s k)) = false := by
    rw [hactive, hopen, hin, hsome, hpath]
    rfl
  show execVaultSweeperStep k page s = _
  rw [execVaultSweeperStep, hruns]
  rfl

/-- Settles O50, each clause from what its command makes of the state. -/
theorem cellarCommandsWork : Obligations.CellarCommandsWork := by
  intro s n pages page k c r
  refine ⟨fun hclosing hroot hopen => ⟨fun hc => ?_, fun hdurable => ?_⟩,
    fun hread hwait => ⟨fun hgood => ?_, fun hroom hstandby => ?_⟩,
    fun husable => ⟨exec_smartWarning husable, exec_nvmePortFailure husable⟩, fun h => ?_, exec_vaultSweeperStep⟩
  · exact ⟨_, exec_commitLogWritten hclosing hroot hopen hc, rfl, rfl, rfl, by simp [batchDurable]⟩
  · exact ⟨_, exec_commitFlushDone hclosing hroot hopen hdurable, rfl, rfl, rfl⟩
  · exact ⟨_, exec_cellarReadComplete_good hread hwait hgood, by simp [readTaken], by simp [readTaken]⟩
  · exact ⟨_, exec_cellarReadComplete_failed hread hwait hroom hstandby, pageMarked_contains ..,
      by simp [pageMarked_dsp, readTaken]⟩
  · exact ⟨_, exec_pageMessage_good h, rfl, rfl, rfl⟩

end Sys2Proof.Machine

/-! # The slots of the vine key store (09 R236-R266)

The opcodes that act on this part's own slots write one slot each, with its tag; what such a write leaves of the table is said
once, and of each opcode the record that it writes. -/

namespace Sys2Proof.Machine

set_option Elab.async false

/-! ## Reading the slot table (R236, R239) -/

/-- What the table reads as depends on its records and, for a slot that nothing has written, on when it was last lost. -/
theorem getSlot_congr {s t : State} (hslots : t.vks.slots = s.vks.slots) (hepoch : t.vks.epoch = s.vks.epoch) (i : Nat) :
    getSlot t i = getSlot s i := by
  simp [getSlot, freshSlot, hslots, hepoch]

@[simp] theorem getSlot_count (ev : Nat) (ten : Option Nat) (s : State) (i : Nat) : getSlot (count ev ten s) i = getSlot s i :=
  getSlot_congr (by simp) (by simp) i

/-- Slot `i` has been written with the record `p` and its tag, and no other slot (R239, R248). -/
structure SlotWritten (i : Nat) (p : Slot) (s t : State) : Prop where
  here : getSlot t i = { p with tag := slotTag i p }
  others : ∀ j, j ≠ i → getSlot t j = getSlot s j

theorem putSlot_written (i : Nat) (p : Slot) (s : State) : SlotWritten i p s (putSlot i p s) := by
  refine ⟨?_, fun j hj => ?_⟩
  · simp [getSlot, putSlot]
  · simp [getSlot, putSlot, freshSlot, tfind_tput_ne _ _ hj]

/-- What precedes the write and what follows it touch no slot. -/
theorem SlotWritten.around {i : Nat} {p : Slot} {r s t u : State} (h : SlotWritten i p s t) (hbefore : s.vks = r.vks)
    (hslots : u.vks.slots = t.vks.slots) (hepoch : u.vks.epoch = t.vks.epoch) : SlotWritten i p r u := by
  refine ⟨(getSlot_congr hslots hepoch i).trans h.here, fun j hj => ?_⟩
  rw [getSlot_congr hslots hepoch, h.others j hj]
  exact getSlot_congr (congrArg _ hbefore) (congrArg _ hbefore) j

section Written

variable {i : Nat} {p : Slot} {s t : State} (h : SlotWritten i p s t)

include h

theorem SlotWritten.type : (getSlot t i).type = p.type := by rw [h.here]

theorem SlotWritten.key : (getSlot t i).key = p.key := by rw [h.here]

theorem SlotWritten.gen : (getSlot t i).gen = p.gen := by rw [h.here]

theorem SlotWritten.held : (getSlot t i).held = p.held := by rw [h.here]

/-- The tag covers the record without itself (R239). -/
theorem SlotWritten.tag : (getSlot t i).tag = slotTag i (getSlot t i) := by
  rw [h.here]
  rfl

end Written

/-! ## What a slot holds beside its record (08 R208, 11 R304) -/

@[simp] theorem freeEntry_vks (p : Slot) (s : State) : (freeEntry p s).vks = s.vks := by
  unfold freeEntry
  split <;> rfl

@[simp] theorem freeEntry_hier (p : Slot) (s : State) : (freeEntry p s).hier = s.hier := by
  unfold freeEntry
  split <;> rfl

@[simp] theorem freeEntry_out (p : Slot) (s : State) : (freeEntry p s).out = s.out := by
  unfold freeEntry
  split <;> rfl

@[simp] theorem freeObject_vks (p : Slot) (s : State) : (freeObject p s).vks = s.vks := by
  unfold freeObject
  split <;> rfl

@[simp] theorem freeObject_hier (p : Slot) (s : State) : (freeObject p s).hier = s.hier := by
  unfold freeObject
  split <;> rfl

@[simp] theorem freeObject_out (p : Slot) (s : State) : (freeObject p s).out = s.out := by
  unfold freeObject
  split <;> rfl

/-! ## Prune and scrub (R260, R261) -/

/-- The record that a prune leaves. -/
def prunedSlot (p : Slot) : Slot :=
  { Slot.empty (nextGen p.gen) with key := zeros p.klen, owner := p.owner, parent := p.parent, stamp := p.stamp, tag := p.tag }

/-- The record that a scrub leaves. -/
def scrubbedSlot (p : Slot) : Slot :=
  { p with
    key := zeros p.klen, type := 0, ucnt := false, expo := false, hcache := false, ovfl := false, held := true, usage := 0,
    ucount := 0, expiry := 0, entry := none, unleased := 0 }

theorem pruneSlot_written (i : Nat) (s : State) : SlotWritten i (prunedSlot (getSlot s i)) s (pruneSlot i s) := by
  refine (putSlot_written i _ (freeObject (getSlot s i) (freeEntry (getSlot s i) s))).around (by simp) ?_ ?_ <;>
    simp [pruneSlot, freeSlot, prunedSlot, Slot.empty]

theorem scrubSlot_written (i : Nat) (s : State) : SlotWritten i (scrubbedSlot (getSlot s i)) s (scrubSlot i s) := by
  refine (putSlot_written i _ (freeObject (getSlot s i) (freeEntry (getSlot s i) s))).around (by simp) ?_ ?_ <;>
    simp [scrubSlot, scrubbedSlot]

theorem isZero_zeros (n : Nat) : isZero (zeros n) = true := by
  simp [isZero, zeros]

/-- One slot write that leaves the slot without a key, as `clear` of its record, and sends nothing (R264). -/
structure Empties (f : Nat → State → State) (clear : Slot → Slot) : Prop where
  written : ∀ i s, SlotWritten i (clear (getSlot s i)) s (f i s)
  type : ∀ p, (clear p).type = 0
  key : ∀ p, isZero (clear p).key = true
  hier : ∀ i s, (f i s).hier = s.hier
  out : ∀ i s, (f i s).out = s.out

theorem pruneSlot_empties : Empties pruneSlot prunedSlot where
  written := pruneSlot_written
  type _ := rfl
  key _ := isZero_zeros _
  hier i s := by simp [pruneSlot, freeSlot, putSlot]
  out i s := by simp [pruneSlot, freeSlot, putSlot]

theorem scrubSlot_empties : Empties scrubSlot scrubbedSlot where
  written := scrubSlot_written
  type _ := rfl
  key _ := isZero_zeros _
  hier i s := by simp [scrubSlot, putSlot]
  out i s := by simp [scrubSlot, putSlot]

/-! ## KEY of a local opcode (R240, R241, R263) -/

theorem eq_getSlot_of_findBare {s : State} {i gen tenant : Nat} {p : Slot} (h : findBare s i gen tenant = .pass p) :
    p = getSlot s i := by
  unfold findBare at h
  dsimp only at h
  split at h
  · cases h
  split at h
  · cases h
  split at h
  · cases h
  split at h
  · cases h
  exact (Found.pass.inj h).symm

theorem svc_shut_of {s : State} (l : List Answer) (h : keysShut s = false) : Svc.shut ⟨l, s⟩ = .ok ((), ⟨l, s⟩) := by
  simp only [Svc.shut, svc_bind, svc_state, h, Bool.not_false, svc_check_true, svc_pure]

theorem lineage_count (ev : Nat) (ten : Option Nat) (s : State) (p : Slot) : lineage (count ev ten s) p = lineage s p := by
  have hgen (i : Nat) : genOf (count ev ten s) i = genOf s i := by simp [genOf]
  have hgo (l : List Nat) (a j : Nat) : lineageGo (count ev ten s) l a j = lineageGo s l a j := by
    induction l generalizing a j with
    | nil => rfl
    | cons g l ih => simp [lineageGo, hgen, ih]
  exact hgo ..

theorem queryState_count (ev : Nat) (ten : Option Nat) (s : State) (p : Slot) :
    queryState (count ev ten s) p = queryState s p := by
  simp [queryState, State.cycle]

section Key

variable {s : State} {it : Item} {p : Slot} (h : findBare s (it.key / 65536) (it.key % 65536) it.tenant = .pass p)

include h

/-- A lookup that charges nothing is counted. -/
theorem svc_bareKey_of (l : List Answer) : Svc.bareKey it ⟨l, s⟩ = .ok (p, ⟨l, count 0xA0 (some it.tenant) s⟩) := by
  simp only [Svc.bareKey, svc_bind, svc_state, h, svc_update, svc_pure]

/-- PRUNE and SCRUB of an ephemeral slot (R264). -/
theorem Empties.runs {f : Nat → State → State} {clear : Slot → Slot} {id op : Nat} (hf : Empties f clear)
    (hopen : keysShut s = false) (hpay : it.payload = []) (hpersist : p.persist = false) (hrun : Running s id op it []) :
    let i := it.key / 65536
    ∃ t, (.next (runOpcode op id (pruneService f) s) : Host.Outcome State Fault Refusal) = .next (itemDone id (.done []) t) ∧
      (getSlot t i).type = 0 ∧ (getSlot t i).gen = (clear p).gen ∧ (getSlot t i).held = (clear p).held ∧
      isZero (getSlot t i).key = true ∧ (getSlot t i).tag = slotTag i (getSlot t i) ∧
      (∀ j, j ≠ i → getSlot t j = getSlot s j) ∧ t.hier = s.hier ∧ t.out = s.out := by
  intro i
  obtain rfl := eq_getSlot_of_findBare h
  have hreply : pruneService f it ⟨[], s⟩ = .ok (.done [], ⟨[], f i (count 0xA0 (some it.tenant) s)⟩) := by
    simp only [pruneService, svc_bind, svc_shut_of [] hopen, svc_len_isEmpty hpay, svc_pure, svc_bareKey_of h, hpersist,
      Bool.not_false, svc_bad_of, svc_update]
    rfl
  have hw := (hf.written i (count 0xA0 (some it.tenant) s)).around (r := s) (by simp) rfl rfl
  rw [getSlot_count] at hw
  exact ⟨_, congrArg _ (runOpcode_reply hrun hreply), hw.type.trans (hf.type _), hw.gen, hw.held, by rw [hw.key, hf.key],
    hw.tag, hw.others, by rw [hf.hier, count_hier], by rw [hf.out, count_out]⟩

/-- PRUNE and SCRUB refuse a persistent slot (R264). -/
theorem exec_pruneService_persistent (f : Nat → State → State) {id op : Nat} (hopen : keysShut s = false)
    (hpay : it.payload = []) (hpersist : p.persist = true) (hrun : Running s id op it []) :
    ∃ t, (.next (runOpcode op id (pruneService f) s) : Host.Outcome State Fault Refusal) =
      .next (itemEnd id 0x0105 0x01BE t) ∧ t.vks = s.vks := by
  have hrefuses : pruneService f it ⟨[], s⟩ = .error (.reply (.bare 0x0105 0x01BE) (count 0xA0 (some it.tenant) s)) := by
    simp only [pruneService, svc_bind, svc_shut_of [] hopen, svc_len_isEmpty hpay, svc_pure, svc_bareKey_of h, hpersist]
    rfl
  exact ⟨_, congrArg _ (runOpcode_refuses hrun hrefuses), by simp⟩

/-! ## QUERY (Table 9.9) -/

theorem svcQuery_reply (hpay : it.payload = []) :
    svcQuery it ⟨[], s⟩ = .ok (.done (toBE 1 p.type ++ toBE 1 p.flags ++ toBE 2 p.usage.toNat ++ toBE 1 p.depth ++
      toBE 1 (lineage s p) ++ toBE 1 p.klen ++ toBE 1 (queryState s p) ++
      (if p.type = 0x7E then zeros 4 else toBE 2 p.parent ++ toBE 2 (p.stamp.headD 0)) ++
      toBE 4 (if p.ucnt then p.ucount else max32) ++ toBE 6 p.expiry ++ zeros 2 ++ toBE 8 p.gctr),
      ⟨[], count 0xA0 (some it.tenant) s⟩) := by
  simp only [svcQuery, svc_bind, svc_len_isEmpty hpay, svc_pure, svc_bareKey_of h, svc_state, lineage_count, queryState_count,
    beq_iff_eq]
  rfl

end Key

/-! ## DERIVE (R265) -/

/-- The new-slot block of a local opcode keeps to its ranges (07 R167). -/
structure NewSlotFields (b : SlotBlock) : Prop where
  xrst : b.xrst ≤ 1
  block : b.ok symTypes = true
  uses : b.ucnt ≠ 0 ∨ b.xrst = 1

/-- With its slot reserved DERIVE is one request, whose answer is its reply. -/
theorem svcDerive_checked {s : State} {it : Item} (id slot : Nat) (l : List Answer) (hopen : keysShut s = false)
    (h : NewSlotFields (slotBlock (it.b 0 12))) (hlaid : Laid it (16 + it.f 12 2) (blockRsvd 0 ++ [(14, 2)]))
    (hlabel : it.f 12 2 ≤ 256) :
    svcDerive id it ⟨.nums [slot] :: l, s⟩ =
      (Svc.engine (deriveEngine s it.key) id it [keyNeed it it.key [3, 4, 5, 8] uDERIVE] []
        (.kdf (it.b 16 (it.f 12 2)) (typeLen (slotBlock (it.b 0 12)).type))
        (some ((slotBlock (it.b 0 12)).new slot it.tenant true)) >>= fun a => done a.bytes) ⟨l, s⟩ := by
  have hrange : ((slotBlock (it.b 0 12)).xrst ≤ 1 && it.f 12 2 ≤ 256) = true := by simp [h.xrst, hlabel]
  have hslot := (Gives.newSlot id it true slot h.uses).runs l s
  rw [List.singleton_append] at hslot
  simp only [svcDerive, svc_bind, svc_shut_of _ hopen, hlaid.lenFrom, hlaid.zero, svc_range_of hrange, svc_bad_of _ h.block,
    svc_pure, hslot, svc_state]

/-! ## GENERATE (R266) -/

/-- The record of a drawn key, under the tenant's root. -/
def generatedSlot (id : Nat) (d : NewSlot) (expiry : Nat) (s : State) : Slot :=
  { key := asType d.type (padTo (typeLen d.type) (((getItem s id).map (·.holding)).getD [])), type := d.type, persist := false,
    xrst := d.xrst, ucnt := d.ucnt != 0, expo := false, hcache := false, ovfl := false, held := false, usage := d.usage,
    owner := d.tenant, parent := tenantRoot s d.tenant, gen := (getSlot s d.idx).gen,
    stamp := stampUnder s (tenantRoot s d.tenant), ucount := d.ucnt, expiry := expiry, tag := 0, entry := none,
    unleased := 0, gctr := 0 }

/-- The expiry of a slot that lives `life` cycles from now on (06 R159). -/
def expiryAfter (s : State) (life : Nat) : Nat := if life = 0 then never else s.cycle.getD 0 + life

theorem generateSlot_written {s : State} {d : NewSlot} (id : Nat) (hlife : d.life = 0 ∨ s.cycle.isSome = true) :
    ∃ t, generateSlot id d s = some t ∧ SlotWritten d.idx (generatedSlot id d (expiryAfter s d.life) s) s t := by
  have hexpiry : (if d.life == 0 then some never else s.cycle.map (· + d.life)) = some (expiryAfter s d.life) := by
    by_cases hzero : d.life = 0
    · simp [expiryAfter, hzero]
    · obtain ⟨c, hc⟩ := Option.isSome_iff_exists.1 (hlife.resolve_left hzero)
      simp [expiryAfter, hzero, hc]
  have hw := putSlot_written d.idx (generatedSlot id d (expiryAfter s d.life) s) s
  refine ⟨_, by rw [generateSlot, hexpiry], hw.around rfl ?_ ?_⟩ <;> rfl

theorem svcGenerate_reply {s t : State} {it : Item} (id slot : Nat) (sec : Bytes) (hopen : keysShut s = false)
    (h : NewSlotFields (slotBlock (it.b 0 12))) (hlaid : Laid it 12 (blockRsvd 0))
    (ht : generateSlot id ((slotBlock (it.b 0 12)).new slot it.tenant false) s = some t) :
    svcGenerate id it ⟨[.nums [slot], .ok sec], s⟩ =
      .ok (.done (handleBytes slot (getSlot t slot).gen ++ zeros 4), ⟨[], t⟩) := by
  have hslot := (Gives.newSlot id it false slot h.uses).runs [.ok sec] s
  have hdraw := (Gives.drawSecret id it (typeLen (slotBlock (it.b 0 12)).type) sec).runs [] s
  rw [List.singleton_append] at hslot
  rw [List.append_nil] at hdraw
  simp only [svcGenerate, svc_bind, svc_shut_of _ hopen, hlaid.len, hlaid.zero, svc_range_of (decide_eq_true h.xrst),
    svc_bad_of _ h.block, svc_pure, hslot, hdraw, svc_state, ht, svc_update]
  rfl

/-! ## VINE_STATUS (Table 9.10) -/

theorem svcVineStatus_reply {s : State} {it : Item} {d : Tenant} (hpay : it.payload = []) (hd : getTenant s it.tenant = some d) :
    svcVineStatus it ⟨[], s⟩ = .ok (.done (toBE 8 d.ctr ++ toBE 1 ((d.officers.map (·.k)).getD 0) ++
      toBE 1 ((d.officers.map (·.keys.length)).getD 0) ++ zeros 2 ++ handleBytes d.root.1 d.root.2 ++
      toBE 2 (tenantSlots s it.tenant true) ++ toBE 2 (tenantSlots s it.tenant false) ++ zeros 4 ++
      ((d.officers.map (fun o => sha256 o.raw)).getD (zeros 32)) ++ zeros 8), ⟨[], s⟩) := by
  simp only [svcVineStatus, svc_bind, svc_len_isEmpty hpay, svc_pure, svc_state, hd]
  rfl

/-- Settles O41: each service is read off from its recorded answers; the one slot that it writes is given by its record. -/
theorem localKeyServices : Obligations.LocalKeyServices := by
  intro s id it hopen
  refine ⟨?_, ?_, ?_⟩
  · intro i p hpay hfind
    refine ⟨fun hpersist => ⟨?_, ?_⟩, fun hpersist => ⟨?_, ?_⟩, fun h => ?_⟩
    · exact pruneSlot_empties.runs hfind hopen hpay hpersist
    · exact scrubSlot_empties.runs hfind hopen hpay hpersist
    · exact exec_pruneService_persistent hfind pruneSlot hopen hpay hpersist
    · exact exec_pruneService_persistent hfind scrubSlot hopen hpay hpersist
    · exact ⟨_, by simp, congrArg _ (runOpcode_reply h (svcQuery_reply hfind hpay))⟩
  · intro b slot hxrst hblock huses
    have hb : NewSlotFields b := ⟨hxrst, hblock, huses⟩
    refine ⟨?_, fun sec h hlaid hlife => ?_⟩
    · intro out ll hlaid hlabel
      have hrun := fun l => svcDerive_checked id slot l hopen hb hlaid hlabel
      exact ⟨fun h => congrArg _ (runOpcode_wait h (hrun [])), fun h => congrArg _ (runOpcode_reply h (hrun [.ok out]))⟩
    · obtain ⟨t, ht, hw⟩ := generateSlot_written (d := b.new slot it.tenant false) id hlife
      refine ⟨t, congrArg _ (runOpcode_reply h (svcGenerate_reply id slot sec hopen hb hlaid ht)), ?_⟩
      have hhere : getSlot t slot = _ := hw.here
      rw [hhere]
      exact ⟨rfl, rfl, rfl, rfl, rfl, rfl, rfl, rfl, rfl, rfl, hw.others⟩
  · intro d hpay h hd
    exact congrArg _ (runOpcode_reply h (svcVineStatus_reply hpay hd))

end Sys2Proof.Machine

/-! # Signed messages of and about a tenant (09 R252-R259, R493; 03 R64; 08 R229; 13 R341-R343)

A message runs on the answers recorded for it: its turn, its checks, its signatures. Those of its rule that read the state do so
again when it is applied; what it then makes of the state is what its opcode's change makes. -/

namespace Sys2Proof.Machine

set_option Elab.async false

/-! ## Services that read the state in which they run -/

section Applies

variable {α β : Type} {id op : Nat} {s : State} {it : Item}

/-- In the state `s` the service takes these answers, no more, gives `a` and leaves the state. -/
structure GivesIn (s : State) (x : Svc α) (l : List Answer) (a : α) : Prop where
  runs : ∀ m, x ⟨l ++ m, s⟩ = .ok (a, ⟨m, s⟩)

theorem Gives.inState {x : Svc α} {l : List Answer} {a : α} (h : Gives x l a) (s : State) : GivesIn s x l a :=
  ⟨fun m => h.runs m s⟩

protected theorem GivesIn.bind {x : Svc α} {f : α → Svc β} {l m : List Answer} {a : α} {b : β} (hx : GivesIn s x l a)
    (hf : GivesIn s (f a) m b) : GivesIn s (x >>= f) (l ++ m) b := by
  refine ⟨fun n => ?_⟩
  rw [List.append_assoc, svc_bind, hx.runs]
  exact hf.runs n

protected theorem GivesIn.state {f : State → Svc β} {l : List Answer} {b : β} (h : GivesIn s (f s) l b) :
    GivesIn s (Svc.state >>= f) l b :=
  ⟨fun m => by rw [svc_bind, svc_state]; exact h.runs m⟩

/-- In the state `s` the service takes these answers, no more, and applies a message: `u` is what it owes and the state it
leaves (09 R254). -/
structure Applies (id : Nat) (s : State) (x : Svc Reply) (l : List Answer) (u : Apply × State) : Prop where
  runs : x ⟨l, s⟩ = Svc.apply id (fun _ => .ok u) ⟨[], s⟩

protected theorem Applies.apply {f : State → Except (Nat × Nat) (Apply × State)} {u : Apply × State} (h : f s = .ok u) :
    Applies id s (Svc.apply id f) [] u :=
  ⟨by simp only [Svc.apply, h]⟩

theorem GivesIn.applies {x : Svc α} {k : α → Svc Reply} {l m : List Answer} {a : α} {u : Apply × State}
    (hx : GivesIn s x l a) (hk : Applies id s (k a) m u) : Applies id s (x >>= k) (l ++ m) u :=
  ⟨by rw [svc_bind, hx.runs]; exact hk.runs⟩

theorem Gives.applies {x : Svc α} {k : α → Svc Reply} {l m : List Answer} {a : α} {u : Apply × State} (hx : Gives x l a)
    (hk : Applies id s (k a) m u) : Applies id s (x >>= k) (l ++ m) u :=
  (hx.inState s).applies hk

theorem runSigned_applied {svc : Item → Svc Reply} {l : List Answer} {u : Apply × State} (h : Running s id op it l)
    (hs : Applies id s (svc it) l u) : runSigned op id svc s = applied id it.gate u := by
  rw [runSigned_running h, runOpcode_running svc h, hs.runs, applied]
  simp only [Svc.apply]
  cases u.1.over <;> rfl

/-! ## The checks of an envelope (R252) -/

/-- An officer's entry joins the distinct ones. -/
def addOfficer (acc : List Nat) (x : SigEntry) : List Nat := if acc.contains x.officer then acc else acc ++ [x.officer]

/-- Entries of known officers, each found valid by the BNE, give the distinct officers. -/
protected theorem GivesIn.sigGo {ctx m : Bytes} {officer : Nat → Option (Nat × Bytes)} (hphase : s.boot.phase ≠ 6)
    {l : List SigEntry} (hl : ∀ x ∈ l, ∃ k, officer x.officer = some k ∧ k.1 = x.alg) (i : Nat) (acc : List Nat) :
    GivesIn s (sigGo id it ctx m officer i l acc) (l.map fun _ => Answer.ok []) (l.foldl addOfficer acc) := by
  induction l generalizing i acc with
  | nil => exact (Gives.pure _).inState s
  | cons x l ih =>
    obtain ⟨k, hk, halg⟩ := hl x (List.mem_cons_self ..)
    have hsame : ¬(k.1 != x.alg) = true := by simp [halg]
    have hrunning : ¬(s.boot.phase == 6) = true := by simpa using hphase
    have hvalid : GivesIn s (Svc.sigOk id it ctx k.1 k.2 x.sig m) [.ok []] true := by
      refine .state ?_
      simp only [if_neg hrunning]
      exact ⟨fun _ => rfl⟩
    simp only [sigGo, hk, if_neg hsame]
    exact hvalid.bind (ih (fun y hy => hl y (List.mem_cons_of_mem x hy)) (i + 1) (addOfficer acc x))

/-- A message that has passed steps 1 to 4 passes step 5 where its officers are a quorum. -/
protected theorem GivesIn.envelope {rule : State → EnvRule} (hq : Quorate (rule s) (envelopeOf it.payload))
    (hphase : s.boot.phase ≠ 6) :
    GivesIn s (Svc.envelope id it rule) (.nums [] :: (envelopeOf it.payload).sigs.map fun _ => Answer.ok [])
      (envelopeOf it.payload) := by
  obtain ⟨hheld, hsigs, hshort⟩ := hq
  have hstart : GivesIn s (Svc.envStart id it (envelopeOf it.payload) rule) [.nums []] () := ⟨fun _ => rfl⟩
  refine hstart.bind (.state ?_)
  dsimp only
  rw [hheld, svc_check_true, pure_bind, ← List.append_nil (List.map _ _)]
  refine (GivesIn.sigGo hphase hsigs 0 []).bind ?_
  have hquorum : (rule s).short ((envelopeOf it.payload).sigs.foldl addOfficer []) = none := hshort
  rw [hquorum]
  exact (Gives.pure _).inState s

/-- The command of a message whose turn has come and whose signatures are verified applies it. -/
theorem runSigned_message {svc : Item → Svc Reply} {all : Bool} {rule : State → EnvRule} {k : Envelope → Svc Reply}
    {l : List Answer} {u : Apply × State} (h : Running s id op it (verifiedAnswers (envelopeOf it.payload) ++ l))
    (hsvc : svc it = Svc.signed id it all (Svc.envelope id it rule >>= k)) (hq : Quorate (rule s) (envelopeOf it.payload))
    (hphase : s.boot.phase ≠ 6) (hk : Applies id s (k (envelopeOf it.payload)) l u) :
    runSigned op id svc s = applied id it.gate u := by
  have hhere : GivesIn s (Svc.here id it all) [.nums [1]] true := ⟨fun _ => rfl⟩
  have hrun := hhere.applies (k := fun b => if b = true then Svc.gate id it >>= fun _ => Svc.envelope id it rule >>= k
    else Svc.forwarded id it) ((Gives.gate id it (.nums [])).applies ((GivesIn.envelope hq hphase).applies hk))
  have hanswers : verifiedAnswers (envelopeOf it.payload) ++ l =
      [.nums [1]] ++ ([.nums []] ++ (.nums [] :: ((envelopeOf it.payload).sigs.map fun _ => Answer.ok []) ++ l)) := by
    simp [verifiedAnswers]
  rw [hanswers] at h
  exact runSigned_applied h (hsvc ▸ hrun)

/-- The same for a message that its opcode applies at once. -/
theorem runSigned_direct {svc : Item → Svc Reply} {all : Bool} {rule : State → EnvRule}
    {f : Envelope → State → Except (Nat × Nat) (Apply × State)} {u : Apply × State}
    (h : Running s id op it (verifiedAnswers (envelopeOf it.payload)))
    (hsvc : svc it = Svc.signed id it all (Svc.envelope id it rule >>= fun e => Svc.apply id (f e)))
    (hq : Quorate (rule s) (envelopeOf it.payload)) (hphase : s.boot.phase ≠ 6) (hf : f (envelopeOf it.payload) s = .ok u) :
    runSigned op id svc s = applied id it.gate u :=
  runSigned_message (l := []) (by rwa [List.append_nil]) hsvc hq hphase (.apply hf)

end Applies

/-! ## What an applied message leaves of the slot table (R254, R271) -/

@[simp] theorem noteDelta_vks (f : DeltaContent → DeltaContent) (s : State) : (noteDelta f s).vks = s.vks := by
  unfold noteDelta
  split <;> rfl

@[simp] theorem noteTenant_vks (t : Nat) (s : State) : (noteTenant t s).vks = s.vks := by
  unfold noteTenant
  split <;> exact noteDelta_vks ..

theorem imgAppend_table (f : VineImage → VineImage) (s : State) :
    (imgAppend f s).vks.slots = s.vks.slots ∧ (imgAppend f s).vks.epoch = s.vks.epoch := by
  unfold imgAppend
  dsimp only
  split <;> exact ⟨rfl, rfl⟩

@[simp] theorem getSlot_imgSync (t : Nat) (l : List Nat) (s : State) (i : Nat) : getSlot (imgSync t l s) i = getSlot s i := by
  obtain ⟨hslots, hepoch⟩ := imgAppend_table _ s
  exact getSlot_congr hslots hepoch i

@[simp] theorem getSlot_noteTenant (t : Nat) (s : State) (i : Nat) : getSlot (noteTenant t s) i = getSlot s i :=
  getSlot_congr (by simp) (by simp) i

@[simp] theorem getSlot_noteSlots (l : List Nat) (s : State) (i : Nat) : getSlot (noteSlots l s) i = getSlot s i :=
  getSlot_congr (by simp [noteSlots]) (by simp [noteSlots]) i

@[simp] theorem getSlot_applyTenant (t : Nat) (e : Envelope) (l : List Nat) (s : State) (i : Nat) :
    getSlot (applyTenant t e l s) i = getSlot s i := by
  simp only [applyTenant, getSlot_noteTenant, getSlot_noteSlots, getSlot_imgSync]
  exact getSlot_congr rfl rfl i

/-! ## Key grafts (R255-R257, R493) -/

/-- A WRITE of a new slot at the index that its handle names, of a type that lies in the slot: its key comes wrapped (R256). -/
structure GraftWrites (it : Item) (g : GraftBody) (par : Nat) (s : State) : Prop where
  op : g.op = 1
  wmode : g.wmode = 1
  new : g.new = true
  hcache : g.hcache = false
  inSlot : g.type ≠ 0x12 ∧ g.type ≠ 0x50 ∧ ¬(0x20 ≤ g.type ∧ g.type ≤ 0x3F)
  parent : graftParent it.tenant g s = .ok par
  index : g.handle ≠ 0 ∧ takable s g.idx = true
  alone : placedIds s it.tenant = []

/-- A slot without HCACHE takes no entry of the cache (11 R305). -/
theorem giveEntry_plain {i : Nat} {s : State} (h : (getSlot s i).hcache = false) : giveEntry i s = s := by
  simp [giveEntry, h]

section Graft

variable {s : State} {id : Nat} {it : Item} {e : Envelope} {g : GraftBody} {par : Nat}

/-- A graft whose turn, checks and signatures are recorded is applied once its material has come. -/
theorem exec_graft {l : List Answer} {u : Apply × State}
    (h : Running s id 0x0101 it (verifiedAnswers (envelopeOf it.payload) ++ ([.nums []] ++ (l ++ []))))
    (hq : Quorate (tenantRule it 1 graftLen s) (envelopeOf it.payload)) (hphase : s.boot.phase ≠ 6)
    (hmaterial : Gives (graftMaterial id it (graftBody (envelopeOf it.payload).body)) l ())
    (happly : graftApply id it (envelopeOf it.payload) (graftBody (envelopeOf it.payload).body) s = .ok u) :
    exec (.graft id) s = .next (applied id it.gate u) :=
  congrArg _ (runSigned_message h rfl hq hphase ((Gives.decideOk_nums id _ []).applies (hmaterial.applies (.apply happly))))

/-- The last check passed, the change is applied and its slot sent to the parts on which the tenant is placed. -/
theorem graftCommit_ok {i : Nat} {handle : State → Bytes} {change : State → State} {u t : State}
    (hu : applyTenant it.tenant e [i] (change s) = u) (hsmall : baseTooBig u = false)
    (ht : sendSlots it.tenant u.hier.refs (linkedPlaced u it.tenant) [i] false u = t) :
    graftCommit id it e i handle change s = .ok (newApply id it e (handle t ++ zeros 4) (linkedPlaced u it.tenant) t, t) := by
  subst hu ht
  simp only [graftCommit, hsmall]
  rfl

theorem Gives.graftMaterial_removes (h : g.op ≠ 1) : Gives (graftMaterial id it g) [] () := by
  have hop : ¬(g.op == 1) = true := by simpa using h
  rw [graftMaterial, if_neg hop]
  exact .pure ()

/-- Prune and scrub by a graft are those of the slot (R260, R261). -/
theorem graftApply_removes {f : State → State} (h : g.op = 3 ∧ f = pruneSlot g.idx ∨ g.op = 4 ∧ f = scrubSlot g.idx) :
    graftApply id it e g s = graftCommit id it e g.idx (fun _ => toBE 4 g.handle) f s := by
  obtain ⟨hop, rfl⟩ | ⟨hop, rfl⟩ := h <;> simp [graftApply, hop]

theorem type_removed {f : State → State} (h : g.op = 3 ∧ f = pruneSlot g.idx ∨ g.op = 4 ∧ f = scrubSlot g.idx) :
    (getSlot (f s) g.idx).type = 0 := by
  obtain ⟨-, rfl⟩ | ⟨-, rfl⟩ := h
  · exact (pruneSlot_written g.idx s).type
  · exact (scrubSlot_written g.idx s).type

theorem Gives.graftMaterial_wrapped (k : Bytes) (hop : g.op = 1) (hwmode : g.wmode = 1) :
    Gives (graftMaterial id it g) [.ok k] () := by
  simp only [graftMaterial, hop, hwmode]
  exact ⟨fun _ _ => rfl⟩

theorem GraftWrites.stays (h : GraftWrites it g par s) (key : Bytes) : overflows g.type key = false := by
  obtain ⟨hp521, hrsa, hcurve⟩ := h.inSlot
  have hcurve : (decide (0x20 ≤ g.type) && decide (g.type ≤ 0x3F)) = false := by simpa using hcurve
  simp [overflows, hp521, hrsa, hcurve]

theorem GraftWrites.graftApply_eq (h : GraftWrites it g par s) (hget : getItem s id = some it) :
    graftApply id it e g s = graftCommit id it e g.idx (fun s => handleBytes g.idx (getSlot s g.idx).gen)
      (graftWrite it.tenant g.idx par g e.counter it.holding) s := by
  obtain ⟨hhandle, htake⟩ := h.index
  have hkey : graftKey id it g s = it.holding := by simp [graftKey, h.op, hget]
  have hindex : graftIndex it.tenant g s = (.ok g.idx, s) := by simp [graftIndex, hhandle, htake, remoteOk, h.alone]
  have hcellar : cellarFor it.tenant g.type it.holding s = (true, s) := by simp [cellarFor, h.stays]
  simp [graftApply, h.op, hkey, hcellar, h.new, h.parent, hindex, h.hcache, graftApply.id_]

/-- The record that a WRITE leaves: its uses are the active manager's to lease (R243, R248). -/
def writtenSlot (it : Item) (g : GraftBody) (par counter : Nat) (s : State) : Slot :=
  { key := it.holding, type := g.type, persist := true, xrst := false, ucnt := g.ucnt != 0, expo := g.expo, hcache := false,
    ovfl := false, held := false, usage := g.usage, owner := it.tenant, parent := par, gen := (getSlot s g.idx).gen,
    stamp := stampUnder s par, ucount := 0, expiry := g.expiry, tag := 0, entry := none, unleased := g.ucnt, gctr := counter }

theorem GraftWrites.written (h : GraftWrites it g par s) (counter : Nat) :
    SlotWritten g.idx (writtenSlot it g par counter s) s (graftWrite it.tenant g.idx par g counter it.holding s) := by
  let u := freeObject (getSlot s g.idx) (freeEntry (getSlot s g.idx) s)
  have hw := (putSlot_written g.idx (writtenSlot it g par counter s) u).around (r := s)
    (u := unfree g.idx (putSlot g.idx (writtenSlot it g par counter s) u)) (by simp [u]) rfl rfl
  have hplain : (getSlot (unfree g.idx (putSlot g.idx (writtenSlot it g par counter s) u)) g.idx).hcache = false := by
    rw [hw.here]
    rfl
  have hwrite : graftWrite it.tenant g.idx par g counter it.holding s =
      giveEntry g.idx (unfree g.idx (putSlot g.idx (writtenSlot it g par counter s) u)) := by
    simp [graftWrite, h.new, newGen, h.alone, putPersistent, h.hcache, storeKey, h.stays, writtenSlot, u]
  rw [hwrite, giveEntry_plain hplain]
  exact hw

end Graft

/-! ## The other messages -/

section Others

variable {s : State} {id : Nat} {it : Item} {e : Envelope}

theorem officerApply_ok {o : OfficerSet} {d : Tenant} (ho : officerCheck e.body = .ok o) :
    let u := applyTenant it.tenant e [] (modTenant it.tenant (fun t => { t with officers := some o }) s)
    baseTooBig u = false → getTenant u it.tenant = some d →
    let ids := linkedPlaced u it.tenant
    officerApply id it e s = .ok (newApply id it e [] ids u, sendPlacement u.hier.refs ids (.entry it.tenant d) u) := by
  intro u hsmall hd ids
  simp only [u] at hsmall hd
  simp only [officerApply, ho, hsmall, hd]
  rfl

theorem mapApply_ok {d : Tenant} (hbody : mapCheck e.body = none) :
    let m := if mapNtypes e.body = 0 then none else some { body := e.body, counter := e.counter }
    let u := applyTenant it.tenant e [] (modTenant it.tenant (fun t => { t with map := m }) s)
    getTenant u it.tenant = some d →
    let ids := linkedPlaced u it.tenant
    mapApply id it e s = .ok (newApply id it e [] ids u, sendPlacement u.hier.refs ids (.entry it.tenant d) u) := by
  intro m u hd ids
  simp only [u, m] at hd
  simp only [mapApply, hbody, beq_iff_eq, hd]
  rfl

/-- An index of a slot that TENANT_CREATE made, with its generation. -/
def madeHandle (s : State) (i : Nat) : Nat × Nat := (i, if i = 0 then 0 else (getSlot s i).gen)

theorem createApply_ok {i j : Nat} {v w : State} (hget : getItem s id = some it) (hnew : isKnown s it.tenant = false)
    (hroot : createSlot it.tenant 0x7E 0 false 0 (it.holding.take 32) s = (some i, v))
    (hvik : if fld e.body 0 2 = 0 then j = 0 ∧ w = v
      else createSlot it.tenant 8 uTOKEN true i (it.holding.drop 32) v = (some j, w)) :
    let d := newTenant (getTenant w it.tenant) e.body (madeHandle w i) (madeHandle w j)
    let slots := if j = 0 then [i] else [i, j]
    let u := applyHier e (noteTenant it.tenant (noteSlots slots (imgSync it.tenant slots (adoptEntry it.tenant d w))))
    createApply id it e s = .ok (newApply id it e [] [] u, u) := by
  have hkey : ((getItem s id).map (·.holding)).getD [] = it.holding := by rw [hget]; rfl
  have hsecond : (if fld e.body 0 2 = 0 then (some 0, v) else createSlot it.tenant 8 uTOKEN true i (it.holding.drop 32) v) =
      (some j, w) := by
    by_cases hnone : fld e.body 0 2 = 0
    · rw [if_pos hnone] at hvik ⊢
      obtain ⟨rfl, rfl⟩ := hvik
      rfl
    · rwa [if_neg hnone] at hvik ⊢
  simp only [createApply, hnew, hkey, hroot, beq_iff_eq, hsecond, Bool.false_eq_true, if_false]
  rfl

theorem deleteApply_ok {d : Tenant} (hd : getTenant s it.tenant = some d) (hknown : d.known = true) :
    let ids := linkedPlaced s it.tenant
    let u := applyHier e (modTenant it.tenant (fun _ => deletedTenant d) (deleteVault it.tenant s))
    let v := adoptEntry it.tenant (deletedTenant d) (noteTenant it.tenant (imgSync it.tenant [] u))
    let w := sendPlacement u.hier.refs ids (.entry it.tenant (deletedTenant d)) v
    deleteApply id it e s = .ok (newApply id it e [] ids w, w) := by
  simp only [deleteApply, hd, hknown]
  rfl

theorem placeApply_ok {ids : List Nat} {d : Tenant} {u : State} (hrsvd : fld e.body 1 3 = 0) (hids : placeIds e.body = some ids)
    (hd : getTenant s it.tenant = some d) (hknown : d.known = true) (hmay : placeRefusal it.tenant ids s = (none, u)) :
    let new := ids.filter (fun i => i != 0 && !d.ids.contains i)
    let v := applyHier e (modTenant it.tenant (fun x => { x with epoch := x.epoch + 1, ids := ids }) u)
    let w := sendSlots it.tenant v.hier.refs new (persistentOf v it.tenant) true (noteTenant it.tenant (imgSync it.tenant [] v))
    placeApply id it e s = .ok (applyNext { newApply id it e [] new w with
      after := some ((d.ids ++ new).filter (· != 0), it.tenant) } w) := by
  simp only [placeApply, hrsvd, hids, hd, hknown, hmay]
  rfl

end Others

/-- Settles O42: the recorded answers take each message to its application, which is its opcode's change. -/
theorem tenantMessagesApply : Obligations.TenantMessagesApply := by
  intro s id it e l he hl hphase
  subst hl
  subst he
  refine ⟨?_, ?_, ?_, ?_, ?_, ?_, ?_⟩
  · intro hq g
    refine ⟨?_, ?_⟩
    · intro f hf h u hsmall ids t
      have hop : g.op ≠ 1 := by
        obtain ⟨hop, -⟩ | ⟨hop, -⟩ := hf <;> simp [hop]
      have happly := (graftApply_removes (id := id) (it := it) (e := envelopeOf it.payload) (s := s) hf).trans
        (graftCommit_ok rfl hsmall rfl)
      exact ⟨exec_graft h hq hphase (.graftMaterial_removes hop) happly, by rw [getSlot_applyTenant, type_removed hf]⟩
    · intro par k hop hwmode hnew hcache hp521 hrsa hcurve hpar hhandle htake halone h w u hsmall ids t
      have hw : GraftWrites it g par s :=
        ⟨hop, hwmode, hnew, hcache, ⟨hp521, hrsa, hcurve⟩, hpar, ⟨hhandle, htake⟩, halone⟩
      have hget : getItem s id = some it := h.1
      have happly : graftApply id it (envelopeOf it.payload) g s =
          .ok (newApply id it (envelopeOf it.payload) (handleBytes g.idx (getSlot t g.idx).gen ++ zeros 4) ids t, t) :=
        (hw.graftApply_eq hget).trans (graftCommit_ok rfl hsmall rfl)
      exact ⟨exec_graft h hq hphase (.graftMaterial_wrapped k hop hwmode) happly, _, (hw.written _).here,
        rfl, rfl, rfl, rfl, rfl, rfl, rfl, rfl, rfl, rfl, rfl, rfl⟩
  · intro o d hq ho h u hsmall hd ids
    exact congrArg _ (runSigned_direct h rfl hq hphase (officerApply_ok ho hsmall hd))
  · intro d hq hbody h m u hd ids
    exact congrArg _ (runSigned_direct h rfl hq hphase (mapApply_ok hbody hd))
  · intro k hq h b v u
    refine ⟨congrArg _ (runSigned_message h rfl hq hphase ?_), ?_⟩
    · exact (Gives.decideOk_nums id _ []).applies ((Gives.engine_ok _ id it _ _ _ _ k).applies (.apply rfl))
    · simp [setSession]
  · intro i j v w hq h hnew hroot hvik d slots u
    have hget : getItem s id = some it := h.1
    refine congrArg _ (runSigned_message h rfl hq hphase ?_)
    exact (Gives.decideOk_nums id _ []).applies
      ((Gives.awaitOk_ok _ []).applies (.apply (createApply_ok hget hnew hroot hvik)))
  · intro d hq h hd hknown ids u v
    exact congrArg _ (runSigned_direct h rfl hq hphase (deleteApply_ok hd hknown))
  · intro ids d u hq h hrsvd hids hd hknown hmay new v w
    exact congrArg _ (runSigned_direct h rfl hq hphase (placeApply_ok hrsvd hids hd hknown hmay))

end Sys2Proof.Machine

/-! # Units and lanes under test, the sweeper, the base rewrite and lease blocks (09 R243, R244, R262, R271; 10 R295; 11 R313-R315)

Each of these commands is one operation of the model where its guard holds. The sections say so of each command; what is left to
show is that a free slot stands where the sweeper stood, and that a message's arrival leaves what the lease rules read. -/

namespace Sys2Proof.Machine

set_option Elab.async false

/-! ## Suites of lanes and units (10 R295, Table 10.9; 11 R313-R315) -/

/-- A lane that loads its image, or whose last operation has ended, goes to TESTING. -/
theorem exec_laneDrainComplete {s : State} {n : Nat} {x : Lane} (hx : tfind s.bne.lanes n = some x)
    (h : x.st = .loading ∨ x.st = .draining ∧ x.ops = []) :
    exec (.laneDrainComplete n) s = .next (modLane n (fun x => { x with st := .testing, mode := .idle }) s) := by
  show execLaneDrainComplete n s = _
  rcases h with hst | ⟨hst, hops⟩
  · simp only [execLaneDrainComplete, hx, hst]
  · simp only [execLaneDrainComplete, hx, hst, hops, List.isEmpty_nil, if_true]

theorem suiteDone_of_none {s : State} {n : Nat} (failed : Nat) (h : suiteOn s n = none) : suiteDone n failed s = s := by
  simp only [suiteDone, h]

/-- The suite of a TESTING lane that no LANE_TEST asked for ends by its number of failed vectors. -/
theorem exec_laneKatComplete {s : State} {n : Nat} {x : Lane} (failed : Nat) (hx : tfind s.bne.lanes n = some x)
    (hst : x.st = .testing) (hsuite : suiteOn s n = none) :
    exec (.laneKatComplete n failed) s = .next (selfCheck s (if failed = 0 then lanePassed n s else laneFailed n s)) := by
  show execLaneKatComplete n failed s = _
  simp only [execLaneKatComplete, hx, hst, suiteDone_of_none failed hsuite, beq_iff_eq]

theorem lanePassed_of_not_rolled {s : State} {n : Nat} (h : laneRolled s n = false) :
    lanePassed n s = modLane n (fun x => { x with
      st := .online, ver := s.flash.bne.current.ver, uctr := s.flash.bne.current.u, katfail := false }) s := by
  simp only [lanePassed, h, Bool.false_eq_true, if_false]

/-- The suite of a TESTING unit ends, and with it every UNIT_TEST that waits for it (R315; log 66). -/
theorem exec_unitKatComplete {s : State} {n : Nat} {u : EngineUnit} (failed : Nat) (hu : tfind s.eng.units n = some u)
    (hst : u.st = .testing) : exec (.unitKatComplete n failed) s = .next (selfCheck s (unitTested n failed s)) := by
  show execUnitKatComplete n failed s = _
  simp only [execUnitKatComplete, hu, hst]

theorem unitTested_of_ne_zero {n failed : Nat} (s : State) (h : failed ≠ 0) :
    unitTested n failed s = unitOffline n (answerTesters n failed (armatureRecord 2 (unitSrc n) s)) := by
  simp [unitTested, h]

/-! ## The sweeper (R262) -/

/-- The sweeper goes on to the next of its places, the first after the last. -/
def sweepOn (s : State) : State :=
  { s with vks := { s.vks with sweep := if s.vks.sweep + 1 < 65536 then s.vks.sweep + 1 else 256 } }

/-- The slot at the sweeper's place is reclaimed where it may be. -/
def sweepHere (s : State) : State :=
  if reclaimable s s.vks.sweep (getSlot s s.vks.sweep) then reclaimSlot s.vks.sweep s else s

theorem reclaimSlot_sweep (i : Nat) (s : State) : (reclaimSlot i s).vks.sweep = s.vks.sweep := by
  simp [reclaimSlot, freeSlot, putSlot]

theorem sweepHere_sweep (s : State) : (sweepHere s).vks.sweep = s.vks.sweep := by
  unfold sweepHere
  split
  · exact reclaimSlot_sweep _ s
  · rfl

theorem exec_sweeperStep {s : State} (h : reclaimables s ≠ 0) : exec .sweeperStep s = .next (sweepOn (sweepHere s)) := by
  show execSweeperStep s = _
  simp only [execSweeperStep, beq_iff_eq, h, if_false, sweepOn, sweepHere_sweep]
  rfl

theorem reclaimSlot_written (i : Nat) (s : State) :
    SlotWritten i (Slot.empty (nextGen (getSlot s i).gen)) s (reclaimSlot i s) := by
  refine (putSlot_written i _ (freeObject (getSlot s i) (freeEntry (getSlot s i) s))).around (by simp) ?_ ?_ <;>
    simp [reclaimSlot, freeSlot, Slot.empty]

@[simp] theorem getSlot_sweepOn (s : State) (i : Nat) : getSlot (sweepOn s) i = getSlot s i := getSlot_congr rfl rfl i

/-- A slot that may be reclaimed is free and without a key when the sweeper has passed. -/
theorem getSlot_sweepHere_free {s : State} (h : reclaimable s s.vks.sweep (getSlot s s.vks.sweep) = true) :
    (getSlot (sweepHere s) s.vks.sweep).free = true ∧ (getSlot (sweepHere s) s.vks.sweep).key = [] := by
  rw [sweepHere, if_pos h, (reclaimSlot_written s.vks.sweep s).here]
  exact ⟨rfl, rfl⟩

theorem getSlot_sweepHere_ne {s : State} {j : Nat} (h : j ≠ s.vks.sweep) : getSlot (sweepHere s) j = getSlot s j := by
  unfold sweepHere
  split
  · exact (reclaimSlot_written _ s).others j h
  · rfl

/-! ## The base rewrite (R271) -/

theorem exec_vineBaseRewrite {s : State} (hfull : logFull s = true) (himg : s.vks.img ≠ none) :
    exec .vineBaseRewrite s = .next (rewriteBase s) := by
  show execVineBaseRewrite s = _
  simp [execVineBaseRewrite, hfull, Option.isSome_iff_ne_none.2 himg]

/-! ## What a message's arrival and a slot's way into the image leave alone -/

theorem receivedFrom_frame (id : Nat) (s : State) : ∃ p, receivedFrom id s = { s with pmu := p } := by
  unfold receivedFrom
  split
  · exact ⟨_, rfl⟩
  · exact count_frame _ _ s

@[simp] theorem receivedFrom_vks (id : Nat) (s : State) : (receivedFrom id s).vks = s.vks := by
  obtain ⟨p, hp⟩ := receivedFrom_frame id s
  rw [hp]

@[simp] theorem receivedFrom_hier (id : Nat) (s : State) : (receivedFrom id s).hier = s.hier := by
  obtain ⟨p, hp⟩ := receivedFrom_frame id s
  rw [hp]

@[simp] theorem getSlot_receivedFrom (id : Nat) (s : State) (i : Nat) : getSlot (receivedFrom id s) i = getSlot s i :=
  getSlot_congr (by simp) (by simp) i

@[simp] theorem getSlot_receivedManager (s : State) (i : Nat) : getSlot (receivedManager s) i = getSlot s i := by
  obtain ⟨p, hp⟩ := receivedManager_frame s
  rw [hp]
  exact getSlot_congr rfl rfl i

@[simp] theorem imgAppend_hier (f : VineImage → VineImage) (s : State) : (imgAppend f s).hier = s.hier := by
  unfold imgAppend
  dsimp only
  split <;> rfl

theorem hasStandby_congr {s t : State} (hmst : t.hier.mst = s.hier.mst) (hsynced : t.hier.synced = s.hier.synced) :
    hasStandby t = hasStandby s := by
  simp only [hasStandby, isActive, hmst, hsynced]

@[simp] theorem hasStandby_receivedFrom (id : Nat) (s : State) : hasStandby (receivedFrom id s) = hasStandby s :=
  hasStandby_congr (by simp) (by simp)

@[simp] theorem hasStandby_noteSlots (l : List Nat) (s : State) : hasStandby (noteSlots l s) = hasStandby s := by
  unfold noteSlots noteDelta
  split <;> rfl

/-! ## Lease blocks at the active manager (R243, R244) -/

/-- The state in which a block of `k` uses of slot `i` counts as leased, in the table, the image and the twin's delta. -/
def leaseTaken (i k : Nat) (s : State) : State :=
  noteSlots [i] (imgPutSlot i (putSlot i { getSlot s i with unleased := (getSlot s i).unleased - k } s))

theorem hasStandby_leaseTaken (i k : Nat) (s : State) : hasStandby (leaseTaken i k s) = hasStandby s := by
  rw [leaseTaken, hasStandby_noteSlots]
  exact hasStandby_congr (by simp [imgPutSlot, putSlot]) (by simp [imgPutSlot, putSlot])

theorem exec_leaseBlockRequest {s : State} {m : LeaseRequest} (hlive : peerLive s = true) (hactive : isActive s = true)
    (hroute : (routeTo s m.fromId).isSome = true) (hepoch : m.epoch = epochOf s m.tenant) :
    exec (.leaseBlockRequest m) s = .next (leaseAsked m (receivedFrom m.fromId s)) := by
  have hsame : epochOf (receivedFrom m.fromId s) m.tenant = m.epoch := by simp [epochOf, hepoch]
  show execLeaseBlockRequest m s = _
  simp [execLeaseBlockRequest, hlive, hactive, hroute, leaseIn, hsame]

/-- With no standby to acknowledge it, a block of up to 256 uses goes out at once. -/
theorem leaseAsked_grants {s : State} {m : LeaseRequest} (hpersist : (getSlot s m.slot).persist = true)
    (hucnt : (getSlot s m.slot).ucnt = true) (hleft : 0 < (getSlot s m.slot).unleased) (halone : hasStandby s = false) :
    leaseAsked m s = grantTo m (min 256 (getSlot s m.slot).unleased)
      (leaseTaken m.slot (min 256 (getSlot s m.slot).unleased) s) := by
  have hasked : ¬(!(getSlot s m.slot).persist || !(getSlot s m.slot).ucnt || min 256 (getSlot s m.slot).unleased == 0) := by
    have hblock : min 256 (getSlot s m.slot).unleased ≠ 0 := by omega
    simp [hpersist, hucnt, hblock]
  have hgoes : ¬hasStandby (leaseTaken m.slot (min 256 (getSlot s m.slot).unleased) s) := by
    simp [hasStandby_leaseTaken, halone]
  exact (if_neg hasked).trans (if_neg hgoes)

theorem leaseAsked_refuses {s : State} {m : LeaseRequest} (h : (getSlot s m.slot).unleased = 0) :
    leaseAsked m s = grantTo m 0 s := by
  simp [leaseAsked, h]

/-! ## Lease blocks that arrive (R244; log 35) -/

section Grant

variable {s : State} {m : LeaseGrant} (hlive : peerLive s = true) (hterm : s.hier.mterm ≤ m.mterm)

include hlive hterm

theorem exec_leaseBlockGrant_active (hactive : isActive s = true) :
    exec (.leaseBlockGrant m) s = .next (leaseAcked m.slot (received 4 s)) := by
  show execLeaseBlockGrant m s = _
  simp [execLeaseBlockGrant, hlive, Nat.not_lt.2 hterm, hactive]

theorem exec_leaseBlockGrant_worker (hactive : isActive s = false) (hport : (managerPort s).isSome = true)
    (hrole : roleOf s = .worker) : exec (.leaseBlockGrant m) s = .next (leaseGranted m (receivedManager s)) := by
  show execLeaseBlockGrant m s = _
  simp [execLeaseBlockGrant, hlive, Nat.not_lt.2 hterm, hactive, Option.isNone_eq_false_iff.2 hport, hrole]

theorem exec_leaseBlockGrant_standby (hactive : isActive s = false) (hport : (managerPort s).isSome = true)
    (hrole : roleOf s ≠ .worker) : exec (.leaseBlockGrant m) s = .next (leaseRecorded m (receivedManager s)) := by
  show execLeaseBlockGrant m s = _
  simp [execLeaseBlockGrant, hlive, Nat.not_lt.2 hterm, hactive, Option.isNone_eq_false_iff.2 hport, hrole]

end Grant

/-- The acknowledged block of the part's own request joins its slot. -/
theorem leaseAcked_own {s : State} {i k : Nat} (h : s.vks.leaseP.find? (fun e => e.1 == i) = some (i, myId s, k)) :
    leaseAcked i s = resumeLease i (putSlot i { getSlot s i with ucount := (getSlot s i).ucount + k }
      { s with vks := { s.vks with leaseP := removeFirst (fun x => x.1 == i) s.vks.leaseP } }) := by
  simp only [leaseAcked, h]
  exact if_pos (beq_self_eq_true (myId s))

theorem leaseGranted_of_gen {s : State} {m : LeaseGrant} (hgen : (getSlot s m.slot).gen = m.gen) (huses : m.uses ≠ 0) :
    leaseGranted m s = resumeLease m.slot (putSlot m.slot
      { getSlot s m.slot with ucount := (getSlot s m.slot).ucount + m.uses, unleased := m.unleased } s) := by
  simp [leaseGranted, hgen, huses]

/-- Settles O48, each clause from what its command makes of the state. -/
theorem unitAndSlotCommandsWork : Obligations.UnitAndSlotCommandsWork := by
  intro s n failed
  refine ⟨fun x hx => ⟨exec_laneDrainComplete hx, fun hst hsuite => ⟨fun hroll => ?_, fun hfailed => ?_⟩⟩,
    fun u hu hst => ⟨exec_unitKatComplete 0 hu hst, fun hfailed => ?_⟩, fun hsweep => ?_, fun hfull himg => ?_,
    fun m hlive hactive hroute hepoch => ⟨fun hpersist hucnt hleft halone => ?_, fun hnone => ?_⟩,
    fun m hlive hterm => ⟨fun hactive k hasked => ?_,
      fun hactive hport => ⟨fun hrole hgen huses => ?_, fun hrole => ?_⟩⟩⟩
  · rw [exec_laneKatComplete 0 hx hst hsuite, if_pos rfl, lanePassed_of_not_rolled hroll]
  · rw [exec_laneKatComplete failed hx hst hsuite, if_neg hfailed]
  · rw [exec_unitKatComplete failed hu hst, unitTested_of_ne_zero s hfailed]
  · refine ⟨_, exec_sweeperStep hsweep, by simp [sweepOn, sweepHere_sweep], fun hfree => ?_, fun j hj => ?_⟩
    · simpa using getSlot_sweepHere_free hfree
    · simpa using getSlot_sweepHere_ne hj
  · exact ⟨_, exec_vineBaseRewrite hfull himg, rfl, rfl, rfl, rfl, rfl⟩
  · rw [exec_leaseBlockRequest hlive hactive hroute hepoch, leaseAsked_grants (by simpa) (by simpa) (by simpa) (by simpa)]
    simp [leaseTaken]
  · rw [exec_leaseBlockRequest hlive hactive hroute hepoch, leaseAsked_refuses (by simpa using hnone)]
  · rw [exec_leaseBlockGrant_active hlive hterm hactive]
    obtain ⟨p, hp⟩ := count_frame (0xD8 + 4 % 8) none s
    rw [received, hp]
    exact congrArg _ (leaseAcked_own (s := { s with pmu := p }) hasked)
  · rw [exec_leaseBlockGrant_worker hlive hterm hactive hport hrole, leaseGranted_of_gen (by simpa) huses,
      getSlot_receivedManager]
  · rw [exec_leaseBlockGrant_standby hlive hterm hactive hport hrole, leaseRecorded, getSlot_receivedManager]

end Sys2Proof.Machine

/-! # Noise sources, the conditioner, draws and their timeout (12 R317-R325, R328, R329)

Records, faults and refused draws leave the entropy unit as it is, and the conditioner's look at its sources changes neither
sources nor instances: so what a test makes of its source is all that happens to it. A draw within the limits of its DRBG is
one generate request, which yields as many bytes as it was asked for. -/

namespace Sys2Proof.Machine

set_option Elab.async false

/-! ## What leaves the entropy unit alone -/

@[simp] theorem eachCopy_ent (f : Copies → Copies) (s : State) : (eachCopy f s).ent = s.ent := rfl

@[simp] theorem setFsrc_ent (n : Nat) (f : FaultSrc → FaultSrc) (s : State) : (setFsrc n f s).ent = s.ent := rfl

@[simp] theorem record_ent (sev source code : Nat) (data : Bytes) (tenant : Nat) (late : Bool) (s : State) :
    (record sev source code data tenant late s).ent = s.ent := by
  unfold record
  dsimp only
  split <;> simp

@[simp] theorem armatureRecord_ent (sev source : Nat) (s : State) : (armatureRecord sev source s).ent = s.ent :=
  record_ent ..

@[simp] theorem errPulse_ent (s : State) : (errPulse s).ent = s.ent := by
  unfold errPulse
  split <;> rfl

@[simp] theorem containedReport_ent (src cause addr items : Nat) (wire rep : Bool) (s : State) :
    (containedReport src cause addr items wire rep s).ent = s.ent := by
  unfold containedReport
  dsimp only
  split <;> simp

@[simp] theorem refuseDraw_ent (d : Draw) (status detail : Nat) (s : State) : (refuseDraw d status detail s).ent = s.ent := by
  simp [refuseDraw]

theorem refuseDraws_ent (status detail : Nat) (l : List Draw) (s : State) :
    (l.foldl (fun (s : State) (d : Draw) => refuseDraw d status detail s) s).ent = s.ent := by
  induction l generalizing s with
  | nil => rfl
  | cons d l ih => exact (ih _).trans (refuseDraw_ent d status detail s)

/-! ## The conditioner sees its sources (R324, Table 12.3) -/

theorem condStop_keeps (s : State) : (condStop s).ent.src = s.ent.src ∧ (condStop s).ent.insts = s.ent.insts := by
  simp only [condStop, refuseDraws_ent, and_self]

/-- Whatever state the conditioner goes to, sources and instances stand. -/
theorem condCheck_keeps (s : State) : (condCheck s).ent.src = s.ent.src ∧ (condCheck s).ent.insts = s.ent.insts := by
  unfold condCheck
  dsimp only
  split
  case h_1 =>
    split
    · exact ⟨rfl, rfl⟩
    · split
      · exact condStop_keeps s
      · exact ⟨rfl, rfl⟩
  case h_2 | h_3 =>
    split
    · exact condStop_keeps s
    · exact ⟨rfl, rfl⟩
  case h_4 => split <;> exact ⟨rfl, rfl⟩

@[simp] theorem condCheck_src (s : State) : (condCheck s).ent.src = s.ent.src := (condCheck_keeps s).1

@[simp] theorem condCheck_insts (s : State) : (condCheck s).ent.insts = s.ent.insts := (condCheck_keeps s).2

/-! ## Noise sources (R319, R320, Table 12.1) -/

section Sources

variable {s : State} {n : Nat} {x : Noise} (hx : tfind s.ent.src n = some x)

include hx

theorem tfind_modSource (f : Noise → Noise) : tfind (modSource n f s).ent.src n = some (f x) := by
  simp [modSource, hx]

/-- A failed test is counted and noted on its source; the third in a row makes it FAILED. -/
theorem tfind_sourceFail (apt : Bool) : tfind (sourceFail n apt s).ent.src n =
    some { x with fails := x.fails + 1, apt := apt, st := if 3 ≤ x.fails + 1 then .failed else .retest } := by
  simp only [sourceFail, hx, condCheck_src]
  split <;> simp [modSource, hx]

theorem exec_startupTestPass (apt : Bool) (hst : x.st = .startup ∨ x.st = .retest) :
    exec (.startupTestComplete n true apt) s = .next (condCheck (modSource n (fun x => { x with st := .healthy }) s)) := by
  show execStartupTestComplete n true apt s = _
  simp [execStartupTestComplete, hx, hst]

theorem exec_startupTestFail (apt : Bool) (hst : x.st = .startup ∨ x.st = .retest) :
    exec (.startupTestComplete n false apt) s = .next (sourceFail n apt s) := by
  show execStartupTestComplete n false apt s = _
  simp [execStartupTestComplete, hx, hst]

theorem exec_healthTestFail (apt : Bool) (hst : x.st = .healthy) :
    exec (.healthTestFail n apt) s = .next (sourceFail n apt s) := by
  show execHealthTestFail n apt s = _
  simp [execHealthTestFail, hx, hst]

theorem exec_healthyRunCount (hst : x.st = .healthy) :
    exec (.healthyRunCount n) s = .next (modSource n (fun x => { x with fails := 0 }) s) := by
  show execHealthyRunCount n s = _
  simp [execHealthyRunCount, hx, hst]

end Sources

/-! ## The conditioner's output (R323) -/

theorem exec_conditionerBlockClose {s : State} {b : Bytes} (hlen : b.length = 128)
    (hcond : s.ent.cond = .seeding ∨ s.ent.cond = .running) :
    exec (.conditionerBlockClose b) s = .next (condOutput (sha256 b) s) := by
  show execConditionerBlockClose b s = _
  simp [execConditionerBlockClose, hlen, hcond]

/-- The first output is the engine context key (R309). -/
theorem condOutput_first {s : State} (b : Bytes) (h : s.ent.ekey = false) :
    condOutput b s = { s with ent := { s.ent with ekey := true }, eng := { s.eng with ekey := some b } } := by
  simp [condOutput, h]

/-! ## One generate request (R326, R328) -/

@[simp] theorem length_slice (b : Bytes) (off n : Nat) : (slice b off n).length = n := by
  simp only [slice, List.length_append, List.length_replicate, List.length_take]
  omega

@[simp] theorem length_drbgBlocks (key v : Bytes) (n : Nat) : (drbgBlocks key n v).1.length = 16 * n := by
  induction n generalizing v with
  | zero => rfl
  | succ n ih =>
    simp only [drbgBlocks, padTo, List.length_append, length_slice, ih]
    omega

/-- The blocks generated cover the bytes asked for. -/
theorem length_drbgGenerate (key v adata : Bytes) (n : Nat) : (drbgGenerate key v adata n).1.length = n := by
  simp only [drbgGenerate, List.length_take, length_drbgBlocks]
  omega

theorem length_genPart (i n : Nat) (adata : Bytes) (s : State) : (genPart i n adata s).1.length = n :=
  length_drbgGenerate ..

/-! ## Draws (R329, Table 12.6) -/

/-- A draw that has its bytes is answered. -/
theorem drawGo_of_complete {d : Draw} (f : Nat) (s : State) (h : d.n ≤ d.got.length) : drawGo f d s = (none, answerDraw d s) := by
  cases f with
  | zero => rfl
  | succ f => simp only [drawGo, h, if_true]

/-- Row 4 of Table 12.6: a RUNNING conditioner, a DRBG below its hard limit and no prediction resistance. -/
theorem drawGo_of_within {d : Draw} {s : State} (f : Nat) (hn : d.got.length < d.n) (hcond : s.ent.cond = .running)
    (hpr : d.pr = false) (hhard : (getInst s d.inst).hard = false) :
    drawGo (f + 1) d s =
      drawGo f { d with got := d.got ++ (genPart d.inst (min 65536 (d.n - d.got.length)) d.adata s).1 }
        (genPart d.inst (min 65536 (d.n - d.got.length)) d.adata s).2 := by
  simp [drawGo, Nat.not_le.2 hn, hcond, hpr, hhard]

/-- A draw of one generate request, served by row 4, is answered with that request's bytes. -/
theorem tryDraw_of_within {d : Draw} {s : State} (hcond : s.ent.cond = .running) (hpr : d.pr = false)
    (hhard : (getInst s d.inst).hard = false) (hgot : d.got = []) (hpos : 0 < d.n) (hmax : d.n ≤ 65536) :
    tryDraw d s = (none, answerDraw { d with got := (genPart d.inst d.n d.adata s).1 } (genPart d.inst d.n d.adata s).2) := by
  have hpart : min 65536 (d.n - d.got.length) = d.n := by
    rw [hgot]
    exact Nat.min_eq_right hmax
  rw [tryDraw, drawGo_of_within (d.n / 65536 + 1) (by simpa [hgot]) hcond hpr hhard, hpart, hgot, List.nil_append]
  exact drawGo_of_complete _ _ (length_genPart ..).ge

/-- The oldest draw asked is taken and counted; one that is answered leaves nothing to wait for. -/
theorem exec_drbgDraw_answered {s t : State} {d : Draw} {r : List Draw} (hasked : s.ent.asked = d :: r)
    (h : tryDraw d (count 0xC1 ((getItem s d.item).bind (·.owner)) { s with ent := { s.ent with asked := r } }) = (none, t)) :
    exec .drbgDraw s = .next t := by
  show execDrbgDraw s = _
  simp only [execDrbgDraw, hasked, h]

/-- The oldest waiting draw is refused at the end of its 50 ms. -/
theorem exec_drawTimeout {s : State} {d : Draw} {r : List Draw} (h : s.ent.waiting = d :: r) :
    exec .drawTimeout s = .next (refuseDraw d 0x0602 2 { s.at_ (d.since + drawLimit) with
      ent := { s.ent with waiting := r, urgent := s.ent.urgent.filter (· != .fresh d.id) } }) := by
  show execDrawTimeout s = _
  simp only [execDrawTimeout, h]
  rfl

/-- Settles O49: each clause from what its command makes of the state. -/
theorem entropyCommandsWork : Obligations.EntropyCommandsWork := by
  intro s n x apt d r b
  refine ⟨fun hx => ⟨fun hst => ?_, fun c hc => ?_, fun hst => ?_⟩, fun hlen hcond => ⟨fun hfirst => ?_, fun _ => ?_⟩,
    fun hasked hcond hhard hpr hgot hpos hmax => ⟨?_, length_genPart ..⟩, exec_drawTimeout⟩
  · refine ⟨_, exec_startupTestPass hx apt hst, ?_, condCheck_insts _⟩
    rw [condCheck_src, tfind_modSource hx]
  · obtain ⟨rfl, hst⟩ | ⟨rfl, hst⟩ := hc
    · exact ⟨_, exec_startupTestFail hx apt hst, tfind_sourceFail hx apt⟩
    · exact ⟨_, exec_healthTestFail hx apt hst, tfind_sourceFail hx apt⟩
  · exact ⟨_, exec_healthyRunCount hx hst, tfind_modSource hx _, rfl⟩
  · rw [exec_conditionerBlockClose hlen hcond, condOutput_first _ hfirst]
    exact ⟨_, rfl, rfl, rfl, rfl⟩
  · exact exec_conditionerBlockClose hlen hcond
  · refine exec_drbgDraw_answered hasked (tryDraw_of_within ?_ hpr ?_ hgot hpos hmax)
    · simpa using hcond
    · simpa [getInst] using hhard

end Sys2Proof.Machine

/-! # Signed messages of the officers of the part (13 R338, R340, R355; 14 R371; 15 R388-R394; 17 R443-R450)

What is recorded of a message up to its last signature leads to the part of its service that is its opcode's own. That part
applies the message as those of a tenant are applied, or changes the state and replies, or begins work and waits for its end. -/

namespace Sys2Proof.Machine

set_option Elab.async false

/-! ## From the signatures on (09 R252-R254) -/

section Verified

variable {α : Type} {s t : State} {id op : Nat} {it : Item} {l : List Answer} {svc : Item → Svc Reply}

/-- A service goes on where a part of it has taken its answers. -/
theorem GivesIn.run {β : Type} {x : Svc α} {a : α} (hx : GivesIn s x l a) (k : α → Svc β) (m : List Answer) :
    (x >>= k) ⟨l ++ m, s⟩ = k a ⟨m, s⟩ := by
  rw [svc_bind, hx.runs]

theorem Gives.run {β : Type} {x : Svc α} {a : α} (hx : Gives x l a) (k : α → Svc β) (m : List Answer) (s : State) :
    (x >>= k) ⟨l ++ m, s⟩ = k a ⟨m, s⟩ :=
  (hx.inState s).run k m

/-- A signature that the BNE has found valid. -/
protected theorem GivesIn.sigOk {alg : Nat} {ctx key sig m : Bytes} (hphase : s.boot.phase ≠ 6) :
    GivesIn s (Svc.sigOk id it ctx alg key sig m) [.ok []] true := by
  have hrunning : ¬(s.boot.phase == 6) = true := by simpa using hphase
  refine .state ?_
  simp only [if_neg hrunning]
  exact ⟨fun _ => rfl⟩

/-- A service goes on in a life-cycle state in which its opcode is allowed. -/
theorem svc_lifeCycle_of {β : Type} {ok : LifeCycle → Bool} (k : Unit → Svc β) (l : List Answer) (h : ok s.otp.force = true) :
    (Svc.lifeCycle ok >>= k) ⟨l, s⟩ = k () ⟨l, s⟩ := by
  have hallowed : Svc.lifeCycle ok ⟨l, s⟩ = .ok ((), ⟨l, s⟩) := by
    rw [Svc.lifeCycle, svc_bind, svc_state]
    dsimp only
    rw [h]
    rfl
  rw [svc_bind, hallowed]

/-- A message whose turn has come and whose signatures are verified goes on with what its opcode makes of it. -/
theorem svc_signed_verified {all : Bool} {rule : State → EnvRule} (hq : Quorate (rule s) (envelopeOf it.payload))
    (hphase : s.boot.phase ≠ 6) (k : Envelope → Svc Reply) (l : List Answer) :
    Svc.signed id it all (Svc.envelope id it rule >>= k) ⟨verifiedAnswers (envelopeOf it.payload) ++ l, s⟩ =
      k (envelopeOf it.payload) ⟨l, s⟩ := by
  have hhere : GivesIn s (Svc.here id it all) [.nums [1]] true := ⟨fun _ => rfl⟩
  have hsplit : verifiedAnswers (envelopeOf it.payload) ++ l =
      [.nums [1]] ++ ([.nums []] ++ ((.nums [] :: (envelopeOf it.payload).sigs.map fun _ => Answer.ok []) ++ l)) := by
    simp [verifiedAnswers]
  rw [hsplit, Svc.signed, hhere.run, if_pos rfl, (Gives.gate id it _).run, (GivesIn.envelope hq hphase).run]

theorem svc_signed_verified_alone {all : Bool} {rule : State → EnvRule} (hq : Quorate (rule s) (envelopeOf it.payload))
    (hphase : s.boot.phase ≠ 6) (k : Envelope → Svc Reply) :
    Svc.signed id it all (Svc.envelope id it rule >>= k) ⟨verifiedAnswers (envelopeOf it.payload), s⟩ =
      k (envelopeOf it.payload) ⟨[], s⟩ := by
  rw [← List.append_nil (verifiedAnswers _), svc_signed_verified hq hphase]

theorem runSigned_reply {r : Reply} (h : Running s id op it l) (hs : svc it ⟨l, s⟩ = .ok (r, ⟨[], t⟩)) :
    runSigned op id svc s = wakeGate it.gate (itemDone id r t) := by
  rw [runSigned_running h, runOpcode_reply h hs]

theorem runSigned_wait (h : Running s id op it l) (hs : svc it ⟨l, s⟩ = .error (.wait t)) :
    runSigned op id svc s = wakeGate it.gate t := by
  rw [runSigned_running h, runOpcode_wait h hs]

end Verified

/-! ## The hierarchy's own messages (13 R338, R340, R355; 02 R24) -/

@[simp] theorem noteDelta_otp (f : DeltaContent → DeltaContent) (s : State) : (noteDelta f s).otp = s.otp := by
  unfold noteDelta
  split <;> rfl

@[simp] theorem noteDelta_hctr (f : DeltaContent → DeltaContent) (s : State) : (noteDelta f s).hier.hctr = s.hier.hctr := by
  unfold noteDelta
  split <;> rfl

@[simp] theorem applyHier_otp (e : Envelope) (s : State) : (applyHier e s).otp = s.otp := noteDelta_otp ..

@[simp] theorem applyHier_cyu (e : Envelope) (s : State) : (applyHier e s).cyu = s.cyu := (noteDelta_sameCycle ..).2

@[simp] theorem applyHier_hctr (e : Envelope) (s : State) : (applyHier e s).hier.hctr = e.counter := noteDelta_hctr ..

section Hierarchy

variable {s : State} {id : Nat} {it : Item} {e : Envelope}

theorem rosterChange_ok (hrsvd : rosterRsvd e.body = false) (hform : rosterForm s e.body = true)
    (hkeeps : rosterKeeps s (rosterOf e.body) = true) :
    rosterChange e s = .ok (applyHier e (rosterApply (rosterOf e.body) s)) := by
  simp [rosterChange, hrsvd, hform, hkeeps]

theorem officersChange_ok {o : OfficerSet} (ho : officerCheck e.body = .ok o) :
    officersChange e s = .ok (applyHier e { s with hier := { s.hier with hoff := some o } }) := by
  simp only [officersChange, ho]

/-- A message that every part applies is applied here and spread (R338). -/
theorem runSigned_everyPart {op : Nat} {t : State} {rule : State → EnvRule} {change : Envelope → State → Except (Nat × Nat) State}
    (h : Running s id op it (verifiedAnswers (envelopeOf it.payload))) (hq : Quorate (rule s) (envelopeOf it.payload))
    (hphase : s.boot.phase ≠ 6) (hchange : change (envelopeOf it.payload) s = .ok t) :
    runSigned op id (svcEveryPart id rule change) s = applied id it.gate (spread id it (envelopeOf it.payload) t) := by
  refine runSigned_direct h rfl hq hphase ?_
  simp only [hchange]

/-- A number later than the current one, at least the high-water mark, is set for the next boundary; the message's device serial
is that of the active manager (log 98). -/
theorem cycleSetApply_ok {c : Nat} (hrsvd : fld e.body 6 2 = 0) (hactive : isActive s = true) (hfirst : s.cyu.setDone = false)
    (hcycle : s.cycle = some c) (hlater : c < fld e.body 0 6) (hmark : s.vks.hwm ≤ fld e.body 0 6)
    (hmax : fld e.body 0 6 ≤ cycMax) :
    let u := applyHier e { s with cyu := { s.cyu with setN := some (fld e.body 0 6), setDone := true } }
    cycleSetApply id it e s = .ok (newApply id it e [] [] u, u) := by
  have hrange : ¬(fld e.body 0 6 ≤ c ∨ fld e.body 0 6 < s.vks.hwm ∨ cycMax < fld e.body 0 6) := by omega
  simp [cycleSetApply, hrsvd, hactive, hfirst, hcycle, or_assoc, if_neg hrange]

/-- The serial in the body of FORCE_ACTIVE is signed and not compared (log 77). -/
theorem forceApply_ok (hst : s.hier.mst = .standbyUnsync) (hlong : longUndriven s = true) :
    let u := applyHier e (armatureRecord 3 srcLnk (becomeActive false s))
    forceApply id it e s = .ok (newApply id it e [] [] u, u) := by
  simp [forceApply, hst, hlong]

end Hierarchy

/-! ## Personalisation and life-cycle transitions (15 R388-R394) -/

section LifeCycle

variable {s : State} {id : Nat} {it : Item}

theorem svcKrootSet_reply (hphase : s.boot.phase ≠ 6) (hperso : s.otp.force = .perso)
    (hq : Quorate (hierRule 0x19 0 (fun e => e.blen == 4) (fun s e => e.dserial == s.fab.serial) s) (envelopeOf it.payload))
    (hrsvd : fld (envelopeOf it.payload).body 1 3 = 0) (hmode : fld (envelopeOf it.payload).body 0 1 ≤ 1) :
    svcKrootSet id it ⟨verifiedAnswers (envelopeOf it.payload), s⟩ = .ok (.done [], ⟨[], krootApply (envelopeOf it.payload) s⟩) := by
  have hallowed : (s.otp.force == LifeCycle.perso) = true := by simp [hperso]
  rw [svcKrootSet, svc_lifeCycle_of _ _ hallowed, svc_signed_verified_alone hq hphase, hrsvd,
    svc_range_of (decide_eq_true hmode)]
  rfl

theorem svcHoffInstall_reply (hphase : s.boot.phase ≠ 6) (hperso : s.otp.force = .perso)
    (hq : Quorate (hoffRule it s) (envelopeOf it.payload)) :
    svcHoffInstall id it ⟨verifiedAnswers (envelopeOf it.payload), s⟩ = .ok (.done [], ⟨[], hoffApply (envelopeOf it.payload) s⟩) := by
  have hallowed : (s.otp.force == LifeCycle.perso) = true := by simp [hperso]
  rw [svcHoffInstall, svc_lifeCycle_of _ _ hallowed, svc_signed_verified_alone hq hphase]
  rfl

theorem svcLcTransition_wait {target : LifeCycle} (hphase : s.boot.phase ≠ 6)
    (hq : Quorate (lcRule it s) (envelopeOf it.payload)) (htarget : envTarget (envelopeOf it.payload) = some target)
    (hmay : lcPrerequisites s (envelopeOf it.payload) = none) :
    svcLcTransition id it ⟨verifiedAnswers (envelopeOf it.payload), s⟩ = .error (.wait (itemWait id .event (lcBegin target s))) := by
  rw [svcLcTransition, svc_signed_verified_alone hq hphase, svc_bind, svc_state]
  simp only [hmay, htarget]
  rfl

/-- The intent row is all that the beginning of a transition programs (R390 step 1). -/
theorem lcBegin_otp (target : LifeCycle) (s : State) :
    (lcBegin target s).otp = { s.otp with intent := s.otp.intent ++ [lcRow target] } := by
  unfold lcBegin
  dsimp only
  split
  · rfl
  · split <;> rfl

end LifeCycle

/-! ## TAMPER_CLEAR and CELLAR_FORMAT (14 R371, 17 R449, R450) -/

section Clear

variable {s : State} {id : Nat} {it : Item}

theorem svcTamperClear_reply (hphase : s.boot.phase ≠ 6) (hq : Quorate (tamperRule s) (envelopeOf it.payload))
    (hrsvd : fld (envelopeOf it.payload).body 4 4 = 0) (hmask : fld (envelopeOf it.payload).body 0 4 < 2 ^ 20) :
    let t := tamperClear (envelopeOf it.payload) s
    svcTamperClear id it ⟨verifiedAnswers (envelopeOf it.payload), s⟩ = .ok (.done (toBE 4 t.bk.flags.toNat), ⟨[], t⟩) := by
  intro t
  rw [svcTamperClear, svc_signed_verified_alone hq hphase, hrsvd, svc_bad_of _ (decide_eq_true hmask)]
  rfl

theorem svcCellarFormat_reply (b : Bytes) (hphase : s.boot.phase ≠ 6) (hq : Quorate (formatRule s) (envelopeOf it.payload)) :
    svcCellarFormat id it ⟨verifiedAnswers (envelopeOf it.payload) ++ [.nums [], .ok b], s⟩ =
      .ok (.done [], ⟨[], takeCounter (envelopeOf it.payload) (formatted (beNat b) s)⟩) := by
  rw [svcCellarFormat, svc_signed_verified hq hphase]
  rfl

end Clear

/-! ## UPDATE (17 R443-R446) -/

/-- What UPDATE does once it runs, by UTYPE. -/
def updateWork (id : Nat) (it : Item) (e : Envelope) (utype : Nat) : Svc Reply :=
  match utype with
  | 4 => curveUpdate id it e (e.body.drop 8)
  | 5 => cutoffUpdate (fld e.body 1 1) e (e.body.drop 8)
  | 6 => classUpdate e (e.body.drop 8)
  | kind => imageUpdate id it kind (e.body.drop 8)

section Update

variable {s : State} {id : Nat} {it : Item} {e : Envelope} {c : Bytes}

/-- An UPDATE whose signatures are verified and whose body has its form (R443). -/
structure VerifiedUpdate (s : State) (it : Item) : Prop where
  phase : s.boot.phase ≠ 6
  signed : Quorate (updateRule s) (envelopeOf it.payload)
  unreserved : updateRsvd (envelopeOf it.payload).body = false
  form : updateForm (envelopeOf it.payload).body = true

/-- One that no other UPDATE stopped does its work. -/
theorem VerifiedUpdate.svcUpdate_run (h : VerifiedUpdate s it) {utype : Nat} (hkind : fld (envelopeOf it.payload).body 0 1 = utype)
    (l : List Answer) :
    svcUpdate id it ⟨verifiedAnswers (envelopeOf it.payload) ++ ([.nums []] ++ l), s⟩ =
      updateWork id it (envelopeOf it.payload) utype ⟨l, s⟩ := by
  subst hkind
  rw [svcUpdate, svc_signed_verified h.signed h.phase, h.unreserved, Bool.not_false, svc_check_true, pure_bind,
    svc_bad_of _ h.form, pure_bind]
  exact (Gives.decideOk_nums id _ []).run _ l s

theorem VerifiedUpdate.exec_reply {utype : Nat} {l : List Answer} {r : Reply} {t : State} (h : VerifiedUpdate s it)
    (hkind : fld (envelopeOf it.payload).body 0 1 = utype)
    (hrunning : Running s id 0x0F10 it (verifiedAnswers (envelopeOf it.payload) ++ ([.nums []] ++ l)))
    (hwork : updateWork id it (envelopeOf it.payload) utype ⟨l, s⟩ = .ok (r, ⟨[], t⟩)) :
    exec (.update id) s = .next (wakeGate it.gate (itemDone id r t)) :=
  congrArg _ (runSigned_reply hrunning ((h.svcUpdate_run hkind l).trans hwork))

theorem VerifiedUpdate.exec_wait {utype : Nat} {l : List Answer} {t : State} (h : VerifiedUpdate s it)
    (hkind : fld (envelopeOf it.payload).body 0 1 = utype)
    (hrunning : Running s id 0x0F10 it (verifiedAnswers (envelopeOf it.payload) ++ ([.nums []] ++ l)))
    (hwork : updateWork id it (envelopeOf it.payload) utype ⟨l, s⟩ = .error (.wait t)) :
    exec (.update id) s = .next (wakeGate it.gate t) :=
  congrArg _ (runSigned_wait hrunning ((h.svcUpdate_run hkind l).trans hwork))

theorem updateWork_image {kind : Nat} (hlo : 1 ≤ kind) (hhi : kind ≤ 3) :
    updateWork id it e kind = imageUpdate id it kind (e.body.drop 8) := by
  obtain rfl | rfl | rfl : kind = 1 ∨ kind = 2 ∨ kind = 3 := by omega
  all_goals rfl

/-- Signatures of the Moante set that the BNE has found valid. -/
protected theorem GivesIn.imageSigned (hphase : s.boot.phase ≠ 6) (l : List SigEntry) :
    GivesIn s (Svc.imageSigned id it c l) (l.map fun _ => Answer.ok []) () := by
  induction l with
  | nil => exact (Gives.pure ()).inState s
  | cons x l ih =>
    refine .state ?_
    dsimp only
    exact (GivesIn.sigOk hphase).bind ih

/-- An image that passes its checks begins to be written (R444). -/
theorem imageUpdate_wait {kind : Nat} (hphase : s.boot.phase ≠ 6) (hform : imageForm kind c = true)
    (hsealed : imageSealed c = true) (hfloor : floorOf s kind ≤ imageSvn c) :
    imageUpdate id it kind c ⟨[.ok [], .ok []], s⟩ = .error (.wait (itemWait id .event (startWriting s))) := by
  have hsigned : GivesIn s (Svc.imageSigned id it c (imageSigs c)) [.ok [], .ok []] () := GivesIn.imageSigned hphase (imageSigs c)
  rw [imageUpdate, svc_bad_of _ hform, svc_bad_of _ hsealed, pure_bind, pure_bind, ← List.append_nil [Answer.ok [], .ok []],
    hsigned.run, svc_bind, svc_state]
  dsimp only
  rw [svc_bad_of _ (decide_eq_true hfloor)]
  rfl

/-- The answers behind the check of a curve that is loaded: the bases drawn, the entry found in order; none for one that is
cleared (10 R289, R290). -/
def CurveAnswers (c : Bytes) (drawn : List Answer) : Prop :=
  if fld c 2 1 = 1 then ∃ b, drawn = [Answer.ok b, .ok []] else drawn = []

theorem curveUpdate_reply {drawn : List Answer} (hform : curveForm c = true) (hdrawn : CurveAnswers c drawn) :
    curveUpdate id it e c ⟨[.nums []] ++ drawn, s⟩ = .ok (.done [], ⟨[], takeCounter e (putCurve c s)⟩) := by
  rw [curveUpdate, hform, svc_check_true, pure_bind, (Gives.decideOk_nums id _ []).run]
  unfold CurveAnswers at hdrawn
  by_cases hload : fld c 2 1 = 1
  · rw [if_pos hload] at hdrawn
    obtain ⟨b, rfl⟩ := hdrawn
    rw [if_pos (by simpa using hload)]
    rfl
  · rw [if_neg hload] at hdrawn
    subst hdrawn
    rw [if_neg (by simpa using hload)]
    rfl

theorem cutoffUpdate_reply (n : Nat) (hcr : 33 ≤ fld c 0 1 ∧ fld c 0 1 ≤ 49) (hca : 775 ≤ fld c 2 2 ∧ fld c 2 2 ≤ 815) :
    cutoffUpdate n e c ⟨[], s⟩ = .ok (.done [], ⟨[], takeCounter e (putCutoffs n (fld c 0 1) (fld c 2 2) s)⟩) := by
  have hrange : (decide (33 ≤ fld c 0 1) && decide (fld c 0 1 ≤ 49) && decide (775 ≤ fld c 2 2) && decide (fld c 2 2 ≤ 815)) = true := by
    simp [hcr, hca]
  rw [cutoffUpdate, svc_bad_of _ hrange]
  rfl

/-- A raised class is burnt in the step that takes it (14 R364; log 128). -/
theorem classUpdate_reply {i : Nat} (hlc : s.otp.force ∈ [LifeCycle.test, .perso, .field]) (hsource : tamperBit (fld c 0 1) = some i)
    (hclass : fld c 1 1 = 2 ∨ fld c 1 1 = 3) (hraise : tamperClass s i < fld c 1 1) :
    classUpdate e c ⟨[], s⟩ = .ok (.done [], ⟨[], takeCounter e (raiseClass i (fld c 1 1) s)⟩) := by
  have hallowed : [LifeCycle.test, .perso, .field].contains s.otp.force = true := List.contains_iff_mem.2 hlc
  have hknown : (fld c 1 1 == 2 || fld c 1 1 == 3) = true := by simpa using hclass
  have hdiffers : ¬(fld c 1 1 == tamperClass s i) = true := by simpa using hraise.ne'
  rw [classUpdate, svc_bind, svc_state]
  simp only [hallowed, hsource, svc_check_true, svc_bad_of _ hknown, svc_bad_of _ (decide_eq_true hraise.le), pure_bind]
  rw [svc_bind, svc_update]
  dsimp only
  rw [if_neg hdiffers]
  rfl

end Update

/-- Settles O43: the recorded answers take each message to its opcode's own part, which applies it, makes its change or begins
its work. -/
theorem partMessagesApply : Obligations.PartMessagesApply := by
  intro s id it e l he hl hphase
  subst hl
  subst he
  refine ⟨?_, ?_, ?_, ?_, ?_, ?_, ?_, ?_, ?_⟩
  · intro hq hrsvd hform hkeeps h
    exact congrArg _ (runSigned_everyPart h hq hphase (rosterChange_ok hrsvd hform hkeeps))
  · intro o hq ho h
    exact congrArg _ (runSigned_everyPart h hq hphase (officersChange_ok ho))
  · intro c hq n hrsvd hactive hfirst hcycle hlater hmark hmax h u
    have happly := cycleSetApply_ok (id := id) (it := it) hrsvd hactive hfirst hcycle hlater hmark hmax
    exact ⟨congrArg _ (runSigned_direct h rfl hq hphase happly), by simp [u], by simp [u]⟩
  · intro hq hst hlong h
    exact congrArg _ (runSigned_direct h rfl hq hphase (forceApply_ok hst hlong))
  · intro hperso
    refine ⟨fun hq hrsvd hmode h => ?_, fun hq h => ?_⟩
    · refine ⟨_, congrArg _ (runSigned_reply h (svcKrootSet_reply hphase hperso hq hrsvd hmode)), ?_, ?_⟩ <;> simp [krootApply]
    · exact congrArg _ (runSigned_reply h (svcHoffInstall_reply hphase hperso hq))
  · intro target hq htarget hmay h
    exact ⟨congrArg _ (runSigned_wait h (svcLcTransition_wait hphase hq htarget hmay)), lcBegin_otp target s⟩
  · intro hq hrsvd hmask h keep
    exact congrArg _ (runSigned_reply h (svcTamperClear_reply hphase hq hrsvd hmask))
  · intro b hq h
    exact congrArg _ (runSigned_reply h (svcCellarFormat_reply b hphase hq))
  · intro hq hrsvd hform k n c
    have hu : VerifiedUpdate s it := ⟨hphase, hq, hrsvd, hform⟩
    refine ⟨?_, ?_, ?_, ?_⟩
    · intro hlo hhi himage hsealed hfloor h
      refine hu.exec_wait rfl h ?_
      rw [updateWork_image hlo hhi]
      exact imageUpdate_wait hphase himage hsealed hfloor
    · intro drawn hk hcurve hdrawn h
      rw [List.append_assoc] at h
      exact hu.exec_reply (l := [Answer.nums []] ++ drawn) hk h (curveUpdate_reply hcurve hdrawn)
    · intro hk hcrlo hcrhi hcalo hcahi h
      exact hu.exec_reply hk h (cutoffUpdate_reply n ⟨hcrlo, hcrhi⟩ ⟨hcalo, hcahi⟩)
    · intro i hk hlc hsource hclass hraise h
      exact hu.exec_reply hk h (classUpdate_reply hlc hsource hclass hraise)

end Sys2Proof.Machine

/-! # Handover, queries, power, debug and the end of an erasure (13 R353, R354, Tables 13.7-13.12; 15 R390, R396-R401)

The queries reply what they read of the state as it stands. DEBUG_OPEN is read off from its recorded answers as a signed message
is: the certificate checked, Moante's signature valid, then those of the officers where the part asks for them. -/

namespace Sys2Proof.Machine

set_option Elab.async false

/-! ## HANDOVER and the queries (13 R339, R353, R354; 15 Table 15.10) -/

section Queries

variable {s : State} {it : Item} (hpay : it.payload = [])

include hpay

theorem svcHandover_wait (id : Nat) (hactive : isActive s = true) (hsynced : s.hier.synced = true) (hfree : s.hier.handover = none) :
    svcHandover id it ⟨[], s⟩ =
      .error (.wait (itemWait id .event (handoverStep { s with hier := { s.hier with handover := some (id, none) } }))) := by
  rw [svcHandover, svc_len_isEmpty hpay, pure_bind, svc_bind, svc_state]
  dsimp only
  rw [svc_bad_of _ (by simp [hactive, hsynced, hfree])]
  rfl

theorem svcHandover_refuses (id : Nat) (hactive : isActive s = false) :
    svcHandover id it ⟨[], s⟩ = .error (.reply (.bare 0x0105 0x01E6) s) := by
  rw [svcHandover, svc_len_isEmpty hpay, pure_bind, svc_bind, svc_state]
  dsimp only
  rw [hactive]
  rfl

theorem svcHierQuery_reply : svcHierQuery it ⟨[], s⟩ = .ok (.done (hierBytes s), ⟨[], s⟩) := by
  rw [svcHierQuery, svc_len_isEmpty hpay]
  rfl

theorem svcDirQuery_reply : svcDirQuery it ⟨[], s⟩ = .ok (.done (dirBytes s it.tenant), ⟨[], s⟩) := by
  rw [svcDirQuery, svc_len_isEmpty hpay]
  rfl

theorem svcTkeyRead_reply (hactive : isActive s = true) :
    svcTkeyRead it ⟨[], s⟩ = .ok (.done ((publicOf s.flash.curves 0x42 s.hier.gseed).getD []), ⟨[], s⟩) := by
  rw [svcTkeyRead, svc_len_isEmpty hpay, pure_bind, svc_bind, svc_state]
  dsimp only
  rw [svc_bad_of _ hactive]
  rfl

theorem svcLcStatus_reply : svcLcStatus it ⟨[], s⟩ = .ok (.done (lcStatusBytes s), ⟨[], s⟩) := by
  rw [svcLcStatus, svc_len_isEmpty hpay]
  rfl

end Queries

/-! ## POWER_CTL (15 R401) -/

/-- The state after POWER_CTL: P1 as its payload sets it, P2 asked for where REQ is 2. -/
def powerSet (id : Nat) (it : Item) (s : State) : State :=
  { s with grd := { s.grd with p1en := it.f 0 1 == 1, p1idle := it.f 1 1, p2item := if it.f 2 1 = 2 then some id else s.grd.p2item } }

theorem svcPowerCtl_reply {s : State} {it : Item} (id : Nat) (hlaid : Laid it 4 [(3, 1)]) (hp1 : it.f 0 1 ≤ 1) (hidle : 1 ≤ it.f 1 1)
    (hlc : s.otp.force ≠ .void)
    (hreq : it.f 2 1 = 0 ∨ it.f 2 1 = 2 ∧ (s.otp.force = .perso ∨ s.otp.force = .field) ∧ p2Refused s = false) :
    svcPowerCtl id it ⟨[], s⟩ = .ok (.done [], ⟨[], powerSet id it s⟩) := by
  have hallowed : (s.otp.force != LifeCycle.void) = true := by simpa using hlc
  rw [svcPowerCtl, svc_lifeCycle_of _ _ hallowed, hlaid.len, hlaid.zero, pure_bind, pure_bind]
  have hrange : (decide (it.f 0 1 ≤ 1) && decide (1 ≤ it.f 1 1) && (it.f 2 1 == 0 || it.f 2 1 == 2)) = true := by
    obtain hnone | ⟨hp2, -⟩ := hreq
    · simp [hp1, hidle, hnone]
    · simp [hp1, hidle, hp2]
  rw [svc_range_of hrange, pure_bind, powerSet]
  obtain hnone | ⟨hp2, hstate, hmay⟩ := hreq
  · have hstays : ¬(it.f 2 1 == 2) = true := by simp [hnone]
    rw [if_neg hstays, hnone]
    rfl
  · have hallowed2 : (s.otp.force == LifeCycle.perso || s.otp.force == LifeCycle.field) = true := by simpa using hstate
    have hasks : (it.f 2 1 == 2) = true := by simp [hp2]
    rw [if_pos hasks, svc_lifeCycle_of _ _ hallowed2, hp2]
    dsimp only
    rw [svc_bind, svc_state]
    dsimp only
    rw [hmay]
    rfl

/-! ## DEBUG_OPEN (15 R396-R398) -/

section Debug

variable {s : State} {it : Item} {l : List SigEntry}

/-- The co-signatures that the part asks for: known officers, enough of them; none where it asks for none (R397 step 6). -/
def Cosigned (s : State) (l : List SigEntry) : Prop :=
  if needsCosigs s then
    (∀ x ∈ l, ∃ k, setOfficer s.hier.hoff x.officer = some k ∧ k.1 = x.alg) ∧ setShort s.hier.hoff (l.foldl addOfficer []) = none
  else l = []

protected theorem GivesIn.debugQuorum (id : Nat) (hphase : s.boot.phase ≠ 6) (h : Cosigned s l) :
    GivesIn s (debugQuorum id it l) (l.map fun _ => Answer.ok []) () := by
  refine .state ?_
  unfold Cosigned at h
  by_cases hneeds : needsCosigs s = true
  · rw [if_pos hneeds] at h ⊢
    obtain ⟨hofficers, hquorum⟩ := h
    rw [← List.append_nil (l.map _)]
    refine (GivesIn.sigGo hphase hofficers 1 []).bind ?_
    rw [hquorum]
    exact (Gives.pure ()).inState s
  · rw [if_neg hneeds] at h ⊢
    subst h
    exact (Gives.pure ()).inState s

/-- A certificate passes its checks only while debug is closed (R397 step 3). -/
theorem dbgOpen_of_certChecks {b : Bytes} (h : certChecks b s = none) : s.grd.dbgOpen = false := by
  unfold certChecks at h
  dsimp only at h
  split_ifs at h with _ _ hopen
  simpa using hopen

theorem svcDebugOpen_reply (id : Nat) (hlen : 132 ≤ it.payload.length) (hl : cosigs it.payload = some (l, []))
    (hlc : s.otp.force ≠ .void) (hphase : s.boot.phase ≠ 6) (hcert : certChecks it.payload s = none) (hfree : serving s = false)
    (hright : rightRefused s (fld it.payload 2 2) = false) (hcosigned : Cosigned s l) :
    svcDebugOpen id it ⟨[.nums [], .ok []] ++ l.map fun _ => Answer.ok [], s⟩ =
      .ok (.done [], ⟨[], debugOpens (fld it.payload 2 2) s⟩) := by
  have hallowed : (s.otp.force != LifeCycle.void) = true := by simpa using hlc
  have hclosed := dbgOpen_of_certChecks hcert
  have hanswers : [Answer.nums [], .ok []] ++ l.map (fun _ => Answer.ok []) =
      [.nums []] ++ ([.ok []] ++ (l.map (fun _ => Answer.ok []) ++ [])) := by simp
  rw [svcDebugOpen, svc_lifeCycle_of _ _ hallowed, hl, svc_len_of (by simpa using hlen), pure_bind, hanswers,
    (Gives.decideOk_nums id _ []).run, svc_bind, svc_state]
  dsimp only
  rw [(GivesIn.sigOk hphase).run, svc_check_true, pure_bind]
  refine ((GivesIn.debugQuorum id hphase hcosigned).run _ []).trans ?_
  rw [svc_bind, svc_state]
  dsimp only
  rw [hright, hfree, hclosed]
  rfl

end Debug

/-- Debug is open after DEBUG_OPEN, whatever the same step had to erase before (R398 step 6; logs 85, 86). -/
theorem debugOpens_dbgOpen (rights : Nat) (s : State) : (debugOpens rights s).grd.dbgOpen = true := by
  unfold debugOpens
  dsimp only
  split
  · split <;> rfl
  · rfl

/-! ## The end of an erasure (15 R390) -/

theorem exec_lcEraseComplete {s : State} {id : Nat} {t : LifeCycle} (hitem : lcItem s = some id) (hinto : rollInto s.otp = some t) :
    exec .lcEraseComplete s = .next (restart .lifecycle .nothing 0x0701 0
      (replyNow id (.bare 0 0) (completeCopies t (transitionEffects s.otp.force t s)))) := by
  show execLcEraseComplete s = _
  simp only [execLcEraseComplete, hitem, hinto]

/-- Settles O45: each service from what its recorded answers make of the state. -/
theorem hierarchyServicesReply : Obligations.HierarchyServicesReply := by
  intro s id it
  refine ⟨fun hpay => ⟨?_, ?_, ?_, ?_, ?_, ?_⟩, ?_, ?_, ?_⟩
  · intro h hactive hsynced hfree
    exact congrArg _ (runOpcode_wait h (svcHandover_wait hpay id hactive hsynced hfree))
  · intro h hactive
    exact congrArg _ (runOpcode_refuses h (svcHandover_refuses hpay id hactive))
  · intro h
    exact congrArg _ (runOpcode_reply h (svcHierQuery_reply hpay))
  · intro h
    exact congrArg _ (runOpcode_reply h (svcDirQuery_reply hpay))
  · intro h hactive
    exact congrArg _ (runOpcode_reply h (svcTkeyRead_reply hpay hactive))
  · intro h
    exact congrArg _ (runOpcode_reply h (svcLcStatus_reply hpay))
  · intro req h hlaid hp1 hidle hlc hreq
    exact congrArg _ (runOpcode_reply h (svcPowerCtl_reply id hlaid hp1 hidle hlc hreq))
  · intro l b hlen hl hlc hphase hcert hfree hright hcosigned h
    exact ⟨congrArg _ (runOpcode_reply h (svcDebugOpen_reply id hlen hl hlc hphase hcert hfree hright hcosigned)),
      debugOpens_dbgOpen _ s⟩
  · intro t hitem hinto u
    exact ⟨exec_lcEraseComplete hitem hinto, rfl⟩

end Sys2Proof.Machine

/-! # Messages between the parts of a hierarchy (13 R343-R349, R356; 09 R254)

A message of the manager is taken by a worker that follows it and by a standby that copies it: it brings its MTERM and the instant
at which the manager was heard, and then does what its kind does. The epoch held decides about a message of a tenant (R345). -/

namespace Sys2Proof.Machine

set_option Elab.async false

/-! ## Messages that a manager originated (R346) -/

/-- A part that follows or copies its manager takes a message of the manager's MTERM or a higher one. -/
theorem fromManager_of_bound {s : State} {mterm : Nat} (f : State → State) (hterm : s.hier.mterm ≤ mterm)
    (hbound : following s = true ∨ copies s = true) :
    fromManager mterm f s = f { s with hier := { s.hier with mterm := mterm, heard := s.now } } := by
  have hst : s.hier.mst = .serving ∨ s.hier.mst = .resync ∨ s.hier.mst = .standbySync ∨ s.hier.mst = .standbyResync := by
    simpa [following, copies, or_assoc] using hbound
  obtain ⟨hactive, hhold⟩ : isActive s = false ∧ (s.hier.mst == .hold || s.hier.mst == .purged) = false := by
    obtain h | h | h | h := hst <;> simp [isActive, h]
  simp [fromManager, Nat.not_lt.2 hterm, hactive, leaveHold, hhold]

/-- The state in which a message that arrives from the manager at `t`, under MTERM `mterm`, does its work. -/
def heardAt (t mterm : Nat) (s : State) : State :=
  { receivedManager (s.at_ t) with hier := { s.hier with mterm := mterm, heard := max s.now t } }

theorem heardAt_frame (t mterm : Nat) (s : State) : ∃ p, heardAt t mterm s =
    { s with now := max s.now t, pmu := p, hier := { s.hier with mterm := mterm, heard := max s.now t } } := by
  obtain ⟨p, hp⟩ := receivedManager_frame (s.at_ t)
  exact ⟨p, by rw [heardAt, hp]; rfl⟩

@[simp] theorem heardAt_dsp (t mterm : Nat) (s : State) : (heardAt t mterm s).dsp = s.dsp := by
  obtain ⟨p, hp⟩ := heardAt_frame t mterm s
  rw [hp]

@[simp] theorem epochOf_heardAt (t mterm : Nat) (s : State) (k : Nat) : epochOf (heardAt t mterm s) k = epochOf s k := rfl

@[simp] theorem getItem_heardAt (t mterm : Nat) (s : State) (id : Nat) : getItem (heardAt t mterm s) id = getItem s id := by
  rw [getItem, heardAt_dsp, getItem]

@[simp] theorem awaitsAnswer_heardAt (t mterm : Nat) (s : State) (id : Nat) :
    awaitsAnswer (heardAt t mterm s) id = awaitsAnswer s id := by
  rw [awaitsAnswer, waitsFor_congr (heardAt_dsp t mterm s), awaitsAnswer]
  rfl

/-! ## A bound worker (R343-R346; 09 R254) -/

theorem managerMessage_following {s : State} {mterm : Nat} (t : Nat) (f : State → State) (hlive : peerLive s = true)
    (hbound : following s = true) (hport : (managerPort s).isSome = true) (hterm : s.hier.mterm ≤ mterm) :
    managerMessage mterm f (s.at_ t) = .next (f (heardAt t mterm s)) := by
  obtain ⟨p, hp⟩ := receivedManager_frame (s.at_ t)
  have htakes : (peerLive (s.at_ t) && (isActive (s.at_ t) || (managerPort (s.at_ t)).isSome)) = true := by
    rw [show peerLive (s.at_ t) = true from hlive, show (managerPort (s.at_ t)).isSome = true from hport]
    simp
  rw [managerMessage, if_pos htakes, fromManager_of_bound f (by rw [hp]; exact hterm) (.inl (by rw [hp]; exact hbound)), heardAt]
  simp [hp]

section Epochs

variable {s : State}

theorem byEpoch_same {t epoch : Nat} (held : HeldMsg) (reject take : State → State) (h : epoch = epochOf s t) :
    byEpoch t epoch held reject take s = take s := by
  simp [byEpoch, h]

theorem byEpoch_lower {t epoch : Nat} (held : HeldMsg) (reject take : State → State) (h : epoch < epochOf s t) :
    byEpoch t epoch held reject take s = reject s := by
  simp [byEpoch, h]

theorem byEpoch_higher {t epoch : Nat} (held : HeldMsg) (reject take : State → State) (h : epochOf s t < epoch) :
    byEpoch t epoch held reject take s = holdMessage held s := by
  simp [byEpoch, h, Nat.lt_asymm h]

/-- Changed slots, unlike a complete set (log 74), go by the epoch alone (R345). -/
theorem keydistIn_changes {m : KeydistMsg} (h : m.complete = false) :
    keydistIn m s = byEpoch m.tenant m.epoch (.keydist m) (rejectToManager m.ref m.tenant) (keydistTake m) s := by
  simp [keydistIn, h]

theorem entryIn_taken {ref t : Nat} {e : Tenant} (h : epochOf s t ≤ e.epoch) :
    entryIn ref t e s = releaseHeld t (sendManager (.keydistAck ref) (imgSync t [] (adoptEntry t e s))) :=
  if_neg (Nat.not_lt.2 h)

theorem entryIn_stale {ref t : Nat} {e : Tenant} (h : e.epoch < epochOf s t) : entryIn ref t e s = rejectToManager ref t s :=
  if_pos h

/-- An answer under the epoch held, to an item of its tenant that waits for it, is that item's answer. -/
theorem answerIn_reply {m : AnswerMsg} {b : Bytes} (hepoch : m.epoch = epochOf s m.tenant) (hwaits : awaitsAnswer s m.item = true)
    (htenant : (getItem s m.item).map (·.tenant) = some m.tenant) (hbody : m.body = .reply 0 0 b) :
    answerIn m s = itemAnswer m.item (.ok b) s := by
  have htake : answerTake m s = itemAnswer m.item (.ok b) s := by simp [answerTake, hwaits, htenant, hbody]
  rw [answerIn, byEpoch_same _ _ _ hepoch, htake, ite_self]

/-- Forwarded work under the epoch held becomes an item, as the hierarchy's own does under any (09 R254; log 81). -/
theorem forwardIn_same {m : ForwardMsg} (h : m.epoch = epochOf s m.tenant) : forwardIn m s = forwardTake m s := by
  rw [forwardIn, byEpoch_same _ _ _ h, ite_self]

end Epochs

/-! ## The active manager (R348, R349) -/

section Manager

variable {s : State}

theorem exec_keydistAck {id : Nat} (ref : Nat) (h : heardFrom s id = true) : exec (.keydistAck id ref) s =
    .next (modApplies (fun a => if a.ref == ref then { a with await := a.await.filter (· != id) } else a) (receivedFrom id s)) :=
  if_pos h

theorem exec_forwardMessage {m : ForwardMsg} (t : Nat) (h : heardFrom s m.fromId = true) :
    exec (.forwardMessage t m) s = .next (forwardIn m (receivedFrom m.fromId (s.at_ t))) :=
  if_pos h

theorem exec_dackMessage (cseq : Nat) (hlive : peerLive s = true) (hport : portUp s 4 = true) (hactive : isActive s = true) :
    exec (.dackMessage cseq s.hier.mterm) s = .next (dackIn cseq (received 4 s)) := by
  show execDackMessage cseq s.hier.mterm s = _
  simp [execDackMessage, hlive, hport, hactive]

end Manager

/-! ## The standby (R347, R356) -/

section Standby

variable {s : State} (hlive : peerLive s = true) (hport : portUp s 4 = true) (hrole : roleOf s = .manager)

include hlive hport hrole

/-- The next delta is applied whole and acknowledged (R347). -/
theorem exec_deltaMessage {m : DeltaMsg} (t : Nat) (hcopies : copies s = true) (hterm : m.content.mterm = s.hier.mterm)
    (hdigest : m.digestOk = true) (hnext : m.cseq = s.hier.cseq + 1) :
    ∃ u, exec (.deltaMessage t m) s = .next (sendOn 4 (.dack m.cseq) u) ∧ u.hier.cseq = m.cseq := by
  obtain ⟨p, hp⟩ := count_frame (0xD8 + 4 % 8) none (s.at_ t)
  have htakes : (peerLive s && portUp s 4 && roleOf s == .manager) = true := by simp [hlive, hport, hrole]
  let v : State := { received 4 (s.at_ t) with hier := { s.hier with mterm := m.content.mterm, heard := max s.now t } }
  have htake : deltaTake m v = sendOn 4 (.dack m.cseq)
      { deltaIn m.content v with hier := { (deltaIn m.content v).hier with cseq := m.cseq } } := by
    have hv : copies v = true := hcopies
    have hseq : v.hier.cseq + 1 = m.cseq := hnext.symm
    simp [deltaTake, hv, hdigest, ← hseq]
  have hmessage : exec (.deltaMessage t m) s = .next (fromManager m.content.mterm (deltaTake m) (received 4 (s.at_ t))) :=
    if_pos htakes
  have hbound : fromManager m.content.mterm (deltaTake m) (received 4 (s.at_ t)) = deltaTake m v := by
    rw [received, fromManager_of_bound _ (by rw [hp]; exact hterm.ge) (.inr (by rw [hp]; exact hcopies))]
    simp [v, received]
  exact ⟨_, by rw [hmessage, hbound, htake], rfl⟩

/-- At the end of the bulk copy the standby is synchronised, which it acknowledges (R356 step 4). -/
theorem exec_bulkDone (hst : s.hier.mst = .standbyResync) : ∃ u, exec (.bulkMessage .done) s = .next (sendOn 4 (.dack s.hier.cseq) u) ∧
    u.hier = { s.hier with mst := .standbySync, heard := s.now } := by
  obtain ⟨p, hp⟩ := count_frame (0xD8 + 4 % 8) none s
  have hcopies : copies s = true := by simp [copies, hst]
  have htakes : (peerLive s && portUp s 4 && roleOf s == .manager && (copies s || isActive s)) = true := by
    simp [hlive, hport, hrole, hcopies]
  have hmessage : exec (.bulkMessage .done) s = .next (fromManager s.hier.mterm (bulkIn .done) (received 4 s)) := if_pos htakes
  have hbound := fromManager_of_bound (s := received 4 s) (mterm := s.hier.mterm) (bulkIn .done) (by rw [received, hp])
    (.inr (by rw [received, hp]; exact hcopies))
  rw [hmessage, hbound, received, hp]
  exact ⟨{ s with pmu := p, hier := { s.hier with mst := .standbySync, heard := s.now } }, by simp [bulkIn, hst], rfl⟩

end Standby

/-- Settles O52: each message by its receiver's state and, where it is about a tenant, by the epoch held. -/
theorem hierarchyMessagesWork : Obligations.HierarchyMessagesWork := by
  intro s t mt k serial
  refine ⟨?_, ?_, ?_, ?_⟩
  · intro hlive hbound hport hterm r u
    have htaken (f : State → State) : managerMessage mt f (s.at_ t) = .next (f u) :=
      managerMessage_following t f hlive hbound hport hterm
    refine ⟨htaken _, fun ref keys => htaken _, fun ref e => ⟨fun h => ?_, fun h => ?_⟩, ?_, ?_⟩
    · exact (htaken _).trans (congrArg _ (entryIn_taken (s := heardAt t mt s) h))
    · exact (htaken _).trans (congrArg _ (entryIn_stale (s := heardAt t mt s) h))
    · rintro m rfl hchanges
      have hkeys : exec (.keydistMessage t m) s = _ := (htaken _).trans (congrArg _ (keydistIn_changes hchanges))
      exact ⟨fun h => hkeys.trans (congrArg _ (byEpoch_same _ _ _ h)), fun h => hkeys.trans (congrArg _ (byEpoch_lower _ _ _ h)),
        fun h => hkeys.trans (congrArg _ (byEpoch_higher _ _ _ h))⟩
    · rintro m rfl hepoch hwaits htenant b hbody
      exact (htaken _).trans (congrArg _
        (answerIn_reply (s := heardAt t m.mterm s) hepoch (by simpa using hwaits) (by simpa using htenant) hbody))
  · intro m l hmsgs
    show execEpochHoldTimeout s = _
    simp only [execEpochHoldTimeout, hmsgs]
  · intro hheard
    refine ⟨exec_keydistAck mt hheard, fun m hfrom hepoch => ?_⟩
    subst hfrom
    have hsame : m.epoch = epochOf (receivedFrom m.fromId (s.at_ t)) m.tenant := by simp [epochOf, hepoch]
    rw [exec_forwardMessage t hheard, forwardIn_same hsame]
  · intro hlive hport
    refine ⟨exec_dackMessage k hlive hport, fun hrole hcopies => ⟨fun m hterm hdigest hnext => ?_, fun hst => ?_⟩⟩
    · exact exec_deltaMessage hlive hport hrole t hcopies hterm hdigest hnext
    · exact exec_bulkDone hlive hport hrole hst

end Sys2Proof.Machine

/-! # What no step undoes

Each meaning by itself undoes nothing (`since_exec…` of the laws); a step runs the meaning of one command, so the whole invariant is
the case split over the commands, once. -/

namespace Sys2Proof.Machine

set_option Elab.async false

/-- A command, whatever it is, undoes nothing. -/
theorem since_exec (c : Instr) (s : State) {r : State} (h : Since r s) : SinceOut r (exec c s) :=
  match c with
  | .sqTailWrite fn q v => since_execSqTailWrite fn q v s h
  | .cqHeadWrite fn q v => since_execCqHeadWrite fn q v s h
  | .submissionEntryFetch entry segs => since_execSubmissionEntryFetch entry segs s h
  | .packetAdmission pkt => since_execPacketAdmission pkt s h
  | .hostDmaError e => since_execHostDmaError e s h
  | .itemHandoff => since_execItemHandoff s h
  | .itemResume core => since_execItemResume core s h
  | .windowGrant item base len => since_execWindowGrant item base len s h
  | .decanterRelease item => since_execDecanterRelease item s h
  | .ctimExpiry fn q => since_execCtimExpiry fn q s h
  | .vfFlr vf => since_execVfFlr vf s h
  | .pfFlr => since_execPfFlr s h
  | .tenantResetComplete tenant => since_execTenantResetComplete tenant s h
  | .freezeComplete tenant => since_execFreezeComplete tenant s h
  | .deleteQueueComplete fn q => since_execDeleteQueueComplete fn q s h
  | .cycinEdge at_ low high => since_execCycinEdge at_ low high s h
  | .windowEnd => since_execWindowEnd s h
  | .cycleLostTimeout => since_execCycleLostTimeout s h
  | .acquireTimeout => since_execAcquireTimeout s h
  | .localBoundary => since_execLocalBoundary s h
  | .edgeMessage at_ m => since_execEdgeMessage at_ m s h
  | .edgeApply => since_execEdgeApply s h
  | .cycleSet item => since_execCycleSet item s h
  | .attach item => since_execAttach item s h
  | .detach item => since_execDetach item s h
  | .createQueue item => since_execCreateQueue item s h
  | .tenantReset item => since_execTenantReset item s h
  | .deleteQueue item => since_execDeleteQueue item s h
  | .setQuota item => since_execSetQuota item s h
  | .quarantine item => since_execQuarantine item s h
  | .queryTenant item => since_execQueryTenant item s h
  | .freeze item => since_execFreeze item s h
  | .save item => since_execSave item s h
  | .restore item => since_execRestore item s h
  | .thaw item => since_execThaw item s h
  | .graft item => since_execGraft item s h
  | .prune item => since_execPrune item s h
  | .scrub item => since_execScrub item s h
  | .query item => since_execQuery item s h
  | .derive item => since_execDerive item s h
  | .generate item => since_execGenerate item s h
  | .officerSet item => since_execOfficerSet item s h
  | .vineStatus item => since_execVineStatus item s h
  | .pinTranslate item => since_execPinTranslate item s h
  | .pinVerify item => since_execPinVerify item s h
  | .pinChange item => since_execPinChange item s h
  | .pinGenerate item => since_execPinGenerate item s h
  | .cvvGenerate item => since_execCvvGenerate item s h
  | .cvvVerify item => since_execCvvVerify item s h
  | .arqcVerify item => since_execArqcVerify item s h
  | .scriptMac item => since_execScriptMac item s h
  | .scriptEncrypt item => since_execScriptEncrypt item s h
  | .dukptDerive item => since_execDukptDerive item s h
  | .dukptPinTranslate item => since_execDukptPinTranslate item s h
  | .dukptCipher item => since_execDukptCipher item s h
  | .dukptMac item => since_execDukptMac item s h
  | .macGenerate item => since_execMacGenerate item s h
  | .macVerify item => since_execMacVerify item s h
  | .encrypt item => since_execEncrypt item s h
  | .decrypt item => since_execDecrypt item s h
  | .keyWrap item => since_execKeyWrap item s h
  | .keyUnwrap item => since_execKeyUnwrap item s h
  | .digest item => since_execDigest item s h
  | .streamStart item => since_execStreamStart item s h
  | .streamUpdate item => since_execStreamUpdate item s h
  | .streamFinish item => since_execStreamFinish item s h
  | .rsaSign item => since_execRsaSign item s h
  | .rsaVerify item => since_execRsaVerify item s h
  | .rsaDecrypt item => since_execRsaDecrypt item s h
  | .ecdsaSign item => since_execEcdsaSign item s h
  | .ecdsaVerify item => since_execEcdsaVerify item s h
  | .ecdh item => since_execEcdh item s h
  | .eddsaSign item => since_execEddsaSign item s h
  | .eddsaVerify item => since_execEddsaVerify item s h
  | .mlkemEncaps item => since_execMlkemEncaps item s h
  | .mlkemDecaps item => since_execMlkemDecaps item s h
  | .mldsaSign item => since_execMldsaSign item s h
  | .mldsaVerify item => since_execMldsaVerify item s h
  | .keygen item => since_execKeygen item s h
  | .pubkeyRead item => since_execPubkeyRead item s h
  | .kbImport item => since_execKbImport item s h
  | .kbExport item => since_execKbExport item s h
  | .tokenise item => since_execTokenise item s h
  | .detokenise item => since_execDetokenise item s h
  | .delete item => since_execDelete item s h
  | .exportOpen item => since_execExportOpen item s h
  | .exportNext item => since_execExportNext item s h
  | .vaultQuery item => since_execVaultQuery item s h
  | .random item => since_execRandom item s h
  | .drbgStatus item => since_execDrbgStatus item s h
  | .hierConfig item => since_execHierConfig item s h
  | .hierOfficers item => since_execHierOfficers item s h
  | .tenantCreate item => since_execTenantCreate item s h
  | .tenantDelete item => since_execTenantDelete item s h
  | .place item => since_execPlace item s h
  | .handover item => since_execHandover item s h
  | .forceActive item => since_execForceActive item s h
  | .hierQuery item => since_execHierQuery item s h
  | .dirQuery item => since_execDirQuery item s h
  | .tkeyRead item => since_execTkeyRead item s h
  | .lcStatus item => since_execLcStatus item s h
  | .lcTransition item => since_execLcTransition item s h
  | .lcEraseComplete => since_execLcEraseComplete s h
  | .krootSet item => since_execKrootSet item s h
  | .hoffInstall item => since_execHoffInstall item s h
  | .debugOpen item => since_execDebugOpen item s h
  | .powerCtl item => since_execPowerCtl item s h
  | .adapterRecord item => since_execAdapterRecord item s h
  | .mapLoad item => since_execMapLoad item s h
  | .mapQuery item => since_execMapQuery item s h
  | .recRead item => since_execRecRead item s h
  | .recAck item => since_execRecAck item s h
  | .jrnlRead item => since_execJrnlRead item s h
  | .faultStatus item => since_execFaultStatus item s h
  | .update item => since_execUpdate item s h
  | .updateImageWritten good => since_execUpdateImageWritten good s h
  | .groupReloadComplete pass => since_execGroupReloadComplete pass s h
  | .restart item => since_execRestart item s h
  | .updateStatus item => since_execUpdateStatus item s h
  | .cellarFormat item => since_execCellarFormat item s h
  | .tamperClear item => since_execTamperClear item s h
  | .laneTest item => since_execLaneTest item s h
  | .curveQuery item => since_execCurveQuery item s h
  | .unitTest item => since_execUnitTest item s h
  | .engineRequestStart k => since_execEngineRequestStart k s h
  | .segmentEnd unit => since_execSegmentEnd unit s h
  | .engineRequestComplete src => since_execEngineRequestComplete src s h
  | .bneRequestStart => since_execBneRequestStart s h
  | .hcacheFillWriteback => since_execHcacheFillWriteback s h
  | .laneDrainComplete lane => since_execLaneDrainComplete lane s h
  | .laneKatComplete lane failed => since_execLaneKatComplete lane failed s h
  | .unitKatComplete unit failed => since_execUnitKatComplete unit failed s h
  | .groupDrainComplete group => since_execGroupDrainComplete group s h
  | .sweeperStep => since_execSweeperStep s h
  | .vineBaseRewrite => since_execVineBaseRewrite s h
  | .leaseBlockRequest m => since_execLeaseBlockRequest m s h
  | .leaseBlockGrant m => since_execLeaseBlockGrant m s h
  | .startupTestComplete src pass apt => since_execStartupTestComplete src pass apt s h
  | .healthTestFail src apt => since_execHealthTestFail src apt s h
  | .healthyRunCount src => since_execHealthyRunCount src s h
  | .conditionerBlockClose samples => since_execConditionerBlockClose samples s h
  | .drbgDraw => since_execDrbgDraw s h
  | .drawTimeout => since_execDrawTimeout s h
  | .cellarReadComplete item good => since_execCellarReadComplete item good s h
  | .commitLogWritten => since_execCommitLogWritten s h
  | .commitFlushDone => since_execCommitFlushDone s h
  | .nvmePortFailure port => since_execNvmePortFailure port s h
  | .smartWarning drive => since_execSmartWarning drive s h
  | .vaultSweeperStep tenant page => since_execVaultSweeperStep tenant page s h
  | .pageMessage page digestMatches => since_execPageMessage page digestMatches s h
  | .helloMessage port m => since_execHelloMessage port m s h
  | .finishMessage port m => since_execFinishMessage port m s h
  | .linkRetry port => since_execLinkRetry port s h
  | .frameTagFailure port at_ => since_execFrameTagFailure port at_ s h
  | .frameCounterLimit port => since_execFrameCounterLimit port s h
  | .pollTimer at_ m => since_execPollTimer at_ m s h
  | .managerLost => since_execManagerLost s h
  | .holdLimit => since_execHoldLimit s h
  | .resyncComplete => since_execResyncComplete s h
  | .placementMessage at_ m => since_execPlacementMessage at_ m s h
  | .keydistMessage at_ m => since_execKeydistMessage at_ m s h
  | .keydistAck fromId ref => since_execKeydistAck fromId ref s h
  | .epochHoldTimeout => since_execEpochHoldTimeout s h
  | .forwardMessage at_ m => since_execForwardMessage at_ m s h
  | .answerMessage at_ m => since_execAnswerMessage at_ m s h
  | .takeoverMessage at_ mterm serial => since_execTakeoverMessage at_ mterm serial s h
  | .deltaMessage at_ m => since_execDeltaMessage at_ m s h
  | .dackMessage cseq mterm => since_execDackMessage cseq mterm s h
  | .bulkMessage m => since_execBulkMessage m s h
  | .twinHoldToggle at_ p n => since_execTwinHoldToggle at_ p n s h
  | .missedToggles at_ => since_execMissedToggles at_ s h
  | .arbitrationTimeout => since_execArbitrationTimeout s h
  | .tamperDetect at_ src => since_execTamperDetect at_ src s h
  | .responseComplete stillActive => since_execResponseComplete stillActive s h
  | .heldTimeout => since_execHeldTimeout s h
  | .armingTimeout => since_execArmingTimeout s h
  | .mainPowerUp at_ => since_execMainPowerUp at_ s h
  | .mainPowerLoss at_ => since_execMainPowerLoss at_ s h
  | .batteryTamper at_ src => since_execBatteryTamper at_ src s h
  | .vbatColdStart at_ seeds => since_execVbatColdStart at_ seeds s h
  | .vbatWarning millivolts => since_execVbatWarning millivolts s h
  | .debugPortLockedAccess at_ addr right => since_execDebugPortLockedAccess at_ addr right s h
  | .faultReport at_ r more => since_execFaultReport at_ r more s h
  | .isolationTimeout src => since_execIsolationTimeout src s h
  | .errPulseEnd => since_execErrPulseEnd s h
  | .heartbeatWrite at_ pair => since_execHeartbeatWrite at_ pair s h
  | .heartbeatTimeout => since_execHeartbeatTimeout s h
  | .sequencerFlushDone => since_execSequencerFlushDone s h
  | .sequencerError => since_execSequencerError s h
  | .journalFlush => since_execJournalFlush s h
  | .pwrfailNAssert at_ => since_execPwrfailNAssert at_ s h
  | .perstNAssert at_ => since_execPerstNAssert at_ s h
  | .resetNAssert at_ => since_execResetNAssert at_ s h
  | .perstNRelease at_ env => since_execPerstNRelease at_ env s h
  | .bootReady => since_execBootReady s h
  | .p1Entry => since_execP1Entry s h
  | .p1Wake cause => since_execP1Wake cause s h
  | .p2Entry => since_execP2Entry s h
  | .p2Wake cause enough => since_execP2Wake cause enough s h
  | .healthGet => since_execHealthGet s h
  | .mctpControl msg => since_execMctpControl msg s h
  | .tapBypass bits => since_execTapBypass bits s h
  | .tapIdcode => since_execTapIdcode s h
  | .tapSamplePreload bits => since_execTapSamplePreload bits s h
  | .tapExtest bits => since_execTapExtest bits s h
  | .rcRegisterRead a r => since_execRcRegisterRead a r s h
  | .latchLowRead a r => since_execLatchLowRead a r s h
  | .pmuEvtWrite a be v => since_execPmuEvtWrite a be v s h
  | .pmuOvfClear a hi be v => since_execPmuOvfClear a hi be v s h
  | .pmuCounterWrap n => since_execPmuCounterWrap n s h
  | .errpinHoldWrite a be v => since_execErrpinHoldWrite a be v s h
  | .mpuRuleWrite a hi be v => since_execMpuRuleWrite a hi be v s h
  | .mpuSwapNow a => since_execMpuSwapNow a s h
  | .mpuSwapStaged a => since_execMpuSwapStaged a s h
  | .mpuCancel a => since_execMpuCancel a s h
  | .mpuCopyActive a => since_execMpuCopyActive a s h
  | .aqEnable a v => since_execAqEnable a v s h
  | .aqDisable a v => since_execAqDisable a v s h
  | .registerWrite a r v w => since_execRegisterWrite a r v w s h
  | .validToggles at_ partnerCseq => since_execValidToggles at_ partnerCseq s h
  | .controlThreadReady t => since_execControlThreadReady t s h
  | .configurationWrite w => since_execConfigurationWrite w s h
  | .pwrfailNRelease at_ => since_execPwrfailNRelease at_ s h
  | .announcedPowerDown at_ => since_execAnnouncedPowerDown at_ s h
  | .journalFlushComplete => since_execJournalFlushComplete s h
  | .flushResetTimeout => since_execFlushResetTimeout s h

theorem since_step {s t : State} (h : step s = .next t) : Since { s with pending := s.pending.tail } t := by
  unfold step at h
  split at h
  next hq =>
    have hst : s = t := Host.Outcome.next.inj h
    subst hst
    rw [hq, List.tail_nil, ← hq]
    exact .refl s
  next c rest hq =>
    have hrun := since_exec c _ (Since.refl { s with pending := rest })
    rw [h] at hrun
    rw [hq]
    exact hrun

theorem tamperClass_eq (s : State) (i : Nat) :
    tamperClass s i = max (tamperFloors.getD i 0) (max (otpClass s.otp i) (tget s.bk.classes i 0)) := rfl

/-- Where OTP holds every raise, a source is in the class of its floor and of OTP alone. -/
theorem tamperClass_of_burnt {s : State} (h : RaisesBurnt s) (i : Nat) :
    tamperClass s i = max (tamperFloors.getD i 0) (otpClass s.otp i) := by
  rw [tamperClass_eq, Nat.max_eq_left (h i)]

theorem tamperClass_mono {s t : State} (h : OtpGrown s.otp t.otp) (hs : RaisesBurnt s) (ht : RaisesBurnt t) (i : Nat) :
    tamperClass s i ≤ tamperClass t i := by
  rw [tamperClass_of_burnt hs, tamperClass_of_burnt ht]
  exact max_le_max_left _ (otpClass_mono h i)

/-- Settles O59: the step comes after the state with the queue's rest, from which the classes follow. -/
theorem stepsUndoNothing : Obligations.StepsUndoNothing := by
  intro s t hstep
  have h := since_step hstep
  exact ⟨h, fun hs => ⟨h.raised hs, tamperClass_mono h.otp hs (h.raised hs)⟩, h.sorted⟩

theorem raisesBurnt_reset : RaisesBurnt State.reset := fun _ => Nat.zero_le _

theorem otpClass_blank (i : Nat) : otpClass State.reset.otp i = 0 := by
  simp [otpClass, State.reset, Otp.reset]

/-- Settles O60: no raise is burnt at reset, none is copied, and no item is at work. -/
theorem resetMeetsInvariants : Obligations.ResetMeetsInvariants := by
  refine ⟨raisesBurnt_reset, fun i => ?_, rfl⟩
  rw [tamperClass_of_burnt raisesBurnt_reset, otpClass_blank, Nat.max_zero]

/-- Settles O1: a queue either has a front command, which runs with the queue's rest, or is empty. -/
theorem stepRunsFrontCommand : Obligations.StepRunsFrontCommand := by
  refine ⟨fun c rest s => rfl, fun s hq => ?_⟩
  simp [step, hq]

end Sys2Proof.Machine

/-! # Resets and Reset values (19 R477, R482, R489)

`partReset` writes every copy anew, so no reset by a pin or by a loss of power needs more than its own equation. A PF FLR resets
contexts and removes pairs one after the other; none of that reaches GEN_BOOT's registers or a copy. -/

namespace Sys2Proof.Machine

set_option Elab.async false

@[simp] theorem copiesOf_partReset (c : ResetCause) (k : Kept) (st d : Nat) (s : State) (a : Accessor) :
    copiesOf (partReset c k st d s) a = .reset := by
  cases a <;> rfl

@[simp] theorem copiesOf_powerOff (s : State) (a : Accessor) : copiesOf (powerOff s) a = .reset := by
  cases a <;> rfl

/-- PERST_N resets the part, where it was high and no flush holds the reset back (18 R468). -/
theorem exec_perstNAssert {s : State} (t : Nat) (hpow : s.powered = true) (hflush : pinFlush s = false)
    (hperst : s.boot.perst = false) : exec (.perstNAssert t) s =
      .next (partReset .perst .nothing 0x0701 0 { s.at_ t with boot := { s.boot with perst := true } }) := by
  have hnow : exec (.perstNAssert t) s = _ := if_neg (Bool.eq_false_iff.1 hperst)
  exact hnow.trans ((if_neg (by simpa [State.powered] using hpow)).trans (if_neg (Bool.eq_false_iff.1 hflush)))

/-- RESET_N resets the part, which starts again, where no flush holds the reset back (18 R466, R468). -/
theorem exec_resetNAssert {s : State} (t : Nat) (hpow : s.powered = true) (hflush : pinFlush s = false) :
    exec (.resetNAssert t) s = .next (restart .resetPin .nothing 0x0701 0 (s.at_ t)) := by
  have hnow : exec (.resetNAssert t) s = _ := if_neg (by simp [hpow])
  exact hnow.trans (if_neg (Bool.eq_false_iff.1 hflush))

/-! ## What a PF FLR leaves alone -/

/-- The start-up registers and the copies of every accessor but the host. -/
def innerRegs (s : State) : Boot × Copies × Copies × Copies := (s.boot, s.cp0, s.cp1, s.dbg)

theorem EndReaches.innerRegs {s t : State} (h : EndReaches s t) : innerRegs t = innerRegs s := by
  obtain ⟨d, g, v, n, f, p, rfl⟩ := h
  rfl

theorem itemEnd_innerRegs (id status detail : Nat) (s : State) : innerRegs (itemEnd id status detail s) = innerRegs s :=
  (itemDone_endReaches id _ s).innerRegs

theorem endItems_innerRegs (p : Nat → Item → Bool) (status detail : Nat) (s : State) :
    innerRegs (endItems p status detail s) = innerRegs s := by
  refine foldl_keeps innerRegs (fun s e => ?_) _ s
  split
  · exact itemEnd_innerRegs _ _ _ s
  · rfl

theorem ctxEvent_innerRegs (c : Ctx) (s : State) : innerRegs (ctxEvent c s) = innerRegs s := by
  obtain ⟨o, e, m, p, h⟩ := ctxEvent_frame c s
  rw [h]
  rfl

theorem beginReset_innerRegs (t detail : Nat) (waiter : Option Nat) (flr : Bool) (s : State) :
    innerRegs (beginReset t detail waiter flr s) = innerRegs s := by
  rcases beginReset_cases t detail waiter flr s with h | ⟨c, -, ⟨-, h⟩ | ⟨-, h⟩⟩ <;> rw [h]
  · rfl
  · exact (ctxEvent_innerRegs c _).trans (endItems_innerRegs _ _ _ s)

theorem removeQueues_innerRegs (fn : Nat) (s : State) : innerRegs (removeQueues fn s) = innerRegs s :=
  foldl_keeps innerRegs (fun s _ => foldl_keeps innerRegs (fun s i => itemEnd_innerRegs i 0 0 s) _ s) _ _

theorem removeAll_innerRegs (l : List Nat) (s : State) : innerRegs (removeAll l (flrAll s)) = innerRegs s :=
  (foldl_keeps innerRegs (fun s fn => removeQueues_innerRegs fn s) l _).trans
    (foldl_keeps innerRegs (fun s (e : Nat × Ctx) => beginReset_innerRegs e.1 2 none true s) _ s)

theorem pfCleared_innerRegs (l : List Nat) (s : State) :
    innerRegs (pfCleared l s) = ({ s.boot with aqcfg := s.boot.aqcfg &&& 0x7FFFFFFF }, s.cp0, s.cp1, s.dbg) :=
  congrArg (fun r : Boot × Copies × Copies × Copies => ({ r.1 with aqcfg := r.1.aqcfg &&& 0x7FFFFFFF }, r.2))
    (removeAll_innerRegs l s)

/-- Settles O11: `partReset` writes each copy; the PF's FLR writes the host's, and what it runs before reaches no other. -/
theorem resetsReturnCopies : Obligations.ResetsReturnCopies := by
  intro s
  have hregs := pfCleared_innerRegs (List.range 65) s
  simp only [innerRegs, Prod.mk.injEq] at hregs
  obtain ⟨hboot, hcp0, hcp1, hdbg⟩ := hregs
  exact ⟨fun a _ => ⟨fun c k st d => copiesOf_partReset c k st d s a, copiesOf_powerOff s a⟩,
    fun t hpow hflush => ⟨exec_resetNAssert t hpow hflush, exec_perstNAssert t hpow hflush⟩,
    _, exec_pfFlr s, rfl, hcp0, hcp1, hdbg, by rw [hboot]⟩

/-- Settles O58: the registers of the fabricated part are computed; a reset by PERST_N leaves each copy at its Reset value. -/
theorem resetLeavesResetValues : Obligations.ResetLeavesResetValues := by
  refine ⟨rfl, rfl, by decide, by decide, by decide, by decide, fun s t hpow hflush hperst => ?_⟩
  exact ⟨_, exec_perstNAssert t hpow hflush hperst, fun a _ => copiesOf_partReset .perst .nothing 0x0701 0 _ a⟩

end Sys2Proof.Machine

/-! # Registers (19 R473-R488)

A request that its accessor may make reaches one DWORD, and a DWORD of the blocks is stored, counted or ignored; the statements
then follow from what the one store does. -/

namespace Sys2Proof.Machine

set_option Elab.async false

/-! ## Requests of one DWORD (R475, R478) -/

/-- A VF reaches its own 64 KiB alone. -/
theorem ne_vf_of_reaches {s : State} {a : Accessor} {off : Nat} (h : reaches s a off = true) (hoff : 0x10000 ≤ off) (n : Nat) :
    a ≠ .vf n := by
  rintro rfl
  have hlt : off < 0x10000 := by
    simp only [reaches, Bool.and_eq_true, decide_eq_true_eq] at h
    exact h.2
  omega

section Dword

variable {s : State} {a : Accessor} {off : Nat} (hoff : off % 4 = 0) (hr : reaches s a off = true)

include hoff hr

theorem regWrite_dword (hl : lockedFor s a off true = false) (be : BitVec 4) (v w : Word) :
    regWrite a { off := off, len := 1, be := be, be2 := 0 } v w s = writeDword a off be v s := by
  simp [regWrite, hoff, hr, hl, takenRequest]

theorem regRead_dword (hl : lockedFor s a off false = false) (be : BitVec 4) :
    regRead a { off := off, len := 1, be := be, be2 := 0 } s =
      emit (.readData a [(readDword a off be s).1] false) (readDword a off be s).2 := by
  simp [regRead, hoff, hr, hl, takenRequest]

end Dword

theorem writeDword_partial {be : BitVec 4} (h : be ≠ 15) (a : Accessor) (off : Nat) (v : Word) (s : State) :
    writeDword a off be v s = accErr a s :=
  if_pos (bne_iff_ne.2 h)

theorem writeDword_block {a : Accessor} {off : Nat} (ha : ∀ n, a ≠ .vf n) (hend : off < blocksEnd) (v : Word) (s : State) :
    writeDword a off 15 v s = blockWrite a off v s := by
  cases a with
  | host => exact if_pos hend
  | cp0 | cp1 | dbg => rfl
  | vf n => exact absurd rfl (ha n)

theorem blockWrite_stored {a : Accessor} {off : Nat} (h : mayWrite a off = true) (v : Word) (s : State) :
    blockWrite a off v s = blockStore a off v s := if_pos h

theorem blockWrite_closed {a : Accessor} {off : Nat} (hdef : regDefined off = true) (h : mayWrite a off = false) (v : Word)
    (s : State) : blockWrite a off v s = accErr a s := by
  simp [blockWrite, h, hdef]

theorem blockWrite_undefined {a : Accessor} {off : Nat} (hdef : regDefined off = false) (h : mayWrite a off = false) (v : Word)
    (s : State) : blockWrite a off v s = s := by
  simp [blockWrite, h, hdef]

/-- A whole DWORD that its writer may write is stored. -/
theorem writeReg_stored {s : State} {a : Accessor} {off : Nat} (ha : ∀ n, a ≠ .vf n) (hoff : off % 4 = 0) (hend : off < blocksEnd)
    (hr : reaches s a off = true) (hl : lockedFor s a off true = false) (h : mayWrite a off = true) (v : Word) :
    writeReg a off 15 v s = blockStore a off v s :=
  (regWrite_dword hoff hr hl 15 v 0).trans ((writeDword_block ha hend v s).trans (blockWrite_stored h v s))

theorem mayWrite_shared {off : Nat} (a : Accessor) (h : sharedWritable.contains off = true) : mayWrite a off = true := if_pos h

/-! ## The MPU block (R485-R488) -/

section Pair

variable {s : State} {a : Accessor} (ha : a = .cp0 ∨ a = .cp1) (hr : reaches s a 0 = true)

include ha hr

/-- A control pair's write of an MPU register is stored. -/
theorem writeReg_mpu {off : Nat} (hoff : off ∈ [0x34008, 0x3400C, 0x34018]) (v : Word) :
    writeReg a off 15 v s = blockStore a off v s := by
  have hblock : off % 4 = 0 ∧ off < blocksEnd ∧ mayWrite .cp0 off = true ∧ mayWrite .cp1 off = true :=
    (by decide : ∀ o ∈ [0x34008, 0x3400C, 0x34018],
      o % 4 = 0 ∧ o < blocksEnd ∧ mayWrite .cp0 o = true ∧ mayWrite .cp1 o = true) off hoff
  obtain ⟨hoff4, hend, hmay0, hmay1⟩ := hblock
  have hblocks : (0 : Nat) < blocksEnd := by decide
  rcases ha with rfl | rfl
  · exact writeReg_stored (by simp) hoff4 hend (by simpa [reaches, hend, hblocks] using hr) rfl hmay0 v
  · exact writeReg_stored (by simp) hoff4 hend (by simpa [reaches, hend, hblocks] using hr) rfl hmay1 v

theorem exec_mpuRuleWrite (hi : Bool) (v : Word) : exec (.mpuRuleWrite a hi 15 v) s = .next (writeRule a hi v s) := by
  cases hi with
  | false => exact congrArg _ (writeReg_mpu ha hr (by simp) v)
  | true => exact congrArg _ (writeReg_mpu ha hr (by simp) v)

theorem exec_mpuSwapNow : exec (.mpuSwapNow a) s = .next (writeMpuCmd a 1 s) := congrArg _ (writeReg_mpu ha hr (by simp) 1)

theorem exec_mpuSwapStaged : exec (.mpuSwapStaged a) s = .next (writeMpuCmd a 2 s) := congrArg _ (writeReg_mpu ha hr (by simp) 2)

theorem exec_mpuCancel : exec (.mpuCancel a) s = .next (writeMpuCmd a 3 s) := congrArg _ (writeReg_mpu ha hr (by simp) 3)

theorem exec_mpuCopyActive : exec (.mpuCopyActive a) s = .next (writeMpuCmd a 4 s) := congrArg _ (writeReg_mpu ha hr (by simp) 4)

/-- A rule write and the commands 001b, 010b and 100b, all turned away and counted. -/
theorem exec_commits_counted {hi : Bool} {v : Word} (hrule : writeRule a hi v s = accErr a s)
    (hcmd : ∀ w ∈ [(1 : Word), 2, 4], writeMpuCmd a w s = accErr a s) :
    ∀ c ∈ [Instr.mpuSwapNow a, .mpuSwapStaged a, .mpuCopyActive a, .mpuRuleWrite a hi 15 v], exec c s = .next (accErr a s) := by
  simp only [List.forall_mem_cons, List.not_mem_nil, false_implies, implies_true, and_true] at hcmd ⊢
  obtain ⟨h1, h2, h4⟩ := hcmd
  exact ⟨(exec_mpuSwapNow ha hr).trans (congrArg _ h1), (exec_mpuSwapStaged ha hr).trans (congrArg _ h2),
    (exec_mpuCopyActive ha hr).trans (congrArg _ h4), (exec_mpuRuleWrite ha hr hi v).trans (congrArg _ hrule)⟩

end Pair

theorem ne_template_of_locked {m : Nat} (h : mpuLocked m = true) : m ≠ templateMaster := by
  rintro rfl
  exact absurd h (by decide)

theorem writeRule_locked {s : State} {a : Accessor} (h : mpuLocked (copiesOf s a).master = true) (hi : Bool) (v : Word) :
    writeRule a hi v s = accErr a s := by
  simp [writeRule, h, ne_template_of_locked h]

theorem writeMpuCmd_locked {s : State} {a : Accessor} (h : mpuLocked (copiesOf s a).master = true) (v : Word) :
    writeMpuCmd a v s = accErr a s := by
  simp [writeMpuCmd, h, ne_template_of_locked h]

theorem writeRule_master {s : State} {a : Accessor} (hopen : mpuLocked (copiesOf s a).master = false)
    (hm : (copiesOf s a).master ≤ 0x38) (hi : Bool) (v : Word) :
    writeRule a hi v s = writeMasterRule a (copiesOf s a).master (copiesOf s a).slot hi v s := by
  have hne : (copiesOf s a).master ≠ templateMaster := by simp only [templateMaster]; omega
  simp [writeRule, hopen, hne, Nat.not_lt.2 hm]

theorem writeMpuCmd_master {s : State} {a : Accessor} (hopen : mpuLocked (copiesOf s a).master = false)
    (hm : (copiesOf s a).master ≤ 0x38) (v : Word) :
    writeMpuCmd a v s = masterCmd a (copiesOf s a).master (v.toNat % 8) s := by
  have hne : (copiesOf s a).master ≠ templateMaster := by simp only [templateMaster]; omega
  simp [writeMpuCmd, hopen, hne, Nat.not_lt.2 hm]

theorem writeRule_template {s : State} {a : Accessor} (h : (copiesOf s a).master = templateMaster) (hi : Bool) (v : Word) :
    writeRule a hi v s = writeTemplateRule a (copiesOf s a).slot hi v s := by
  simp [writeRule, h]

theorem writeMpuCmd_template {s : State} {a : Accessor} (h : (copiesOf s a).master = templateMaster) (v : Word) :
    writeMpuCmd a v s = templateCmd a (v.toNat % 8) s := by
  simp [writeMpuCmd, h]

/-- While a swap is staged, a master takes the cancel alone (R486). -/
theorem masterCmd_pend {s : State} {a : Accessor} {m : Nat} (h : (getMpu s m).pend = true) :
    ∀ w ∈ [(1 : Word), 2, 4], masterCmd a m (w.toNat % 8) s = accErr a s := by
  simp [masterCmd, h]

theorem templateCmd_pend {s : State} {a : Accessor} (h : s.dsp.tpend = true) :
    ∀ w ∈ [(1 : Word), 2, 4], templateCmd a (w.toNat % 8) s = accErr a s := by
  simp [templateCmd, h]

/-! ## The active rules of a master (05 R125) -/

/-- The set of a master that is in force. -/
def Mpu.active (u : Mpu) : Table (BitVec 64) := if u.actB then u.b else u.a

theorem activeRule_eq (s : State) (m k : Nat) : activeRule s m k = tget (getMpu s m).active k 0 := by
  unfold activeRule getMpu tget
  split
  next h =>
    rw [h]
    rfl
  next h =>
    rw [h]
    rfl

theorem getMpu_setMpu_self (m : Nat) (f : Mpu → Mpu) (s : State) : getMpu (setMpu m f s) m = f (getMpu s m) := by
  simp [getMpu, setMpu, tget]

theorem getMpu_setMpu_ne {m i : Nat} (h : i ≠ m) (f : Mpu → Mpu) (s : State) : getMpu (setMpu m f s) i = getMpu s i := by
  simp [getMpu, setMpu, tget, tfind_tput_ne _ _ h]

/-- A change of a master that leaves its active set leaves every active rule. -/
theorem activeRule_setMpu {m : Nat} {f : Mpu → Mpu} (h : ∀ u, (f u).active = u.active) (s : State) (i j : Nat) :
    activeRule (setMpu m f s) i j = activeRule s i j := by
  rw [activeRule_eq, activeRule_eq]
  by_cases hi : i = m
  · subst hi
    rw [getMpu_setMpu_self, h]
  · rw [getMpu_setMpu_ne hi]

theorem active_modInactive (g : Table (BitVec 64) → Table (BitVec 64)) (u : Mpu) : (modInactive g u).active = u.active := by
  unfold modInactive Mpu.active
  split <;> simp [*]

/-- The inactive set made a copy of the active one. -/
def Mpu.copied (u : Mpu) : Mpu := if u.actB then { u with a := u.b } else { u with b := u.a }

theorem active_copied (u : Mpu) : u.copied.active = u.active := by
  unfold Mpu.copied Mpu.active
  split <;> simp [*]

theorem copied_sets (u : Mpu) : u.copied.a = u.copied.b := by
  unfold Mpu.copied
  split <;> rfl

/-- Settles O57: each clause is the one branch of the store that the state of the master, or of the template, leaves. -/
theorem mpuCommandsWork : Obligations.MpuCommandsWork := by
  intro s a hi v ha hr m k u commits
  refine ⟨fun hlock => ?_, fun hopen hm => ?_, fun hm => ?_⟩
  · have hcmd := writeMpuCmd_locked hlock
    exact List.forall_mem_cons.2 ⟨(exec_mpuCancel ha hr).trans (congrArg _ (hcmd 3)),
      exec_commits_counted ha hr (writeRule_locked hlock hi v) fun w _ => hcmd w⟩
  · have hrule := writeRule_master hopen hm hi v
    have hcmd := writeMpuCmd_master hopen hm
    refine ⟨fun hpend => exec_commits_counted ha hr (hrule.trans (if_pos hpend))
        fun w hw => (hcmd w).trans (masterCmd_pend hpend w hw),
      (exec_mpuCancel ha hr).trans (congrArg _ (hcmd 3)), fun hpend => ?_⟩
    have hfree : ¬ u.pend = true := Bool.eq_false_iff.1 hpend
    refine ⟨fun hk => ⟨_, (exec_mpuRuleWrite ha hr hi v).trans (congrArg _ ?_), activeRule_setMpu (active_modInactive _) s, rfl⟩,
      (exec_mpuSwapNow ha hr).trans (congrArg _ ((hcmd 1).trans (if_neg hfree))),
      (exec_mpuSwapStaged ha hr).trans (congrArg _ ((hcmd 2).trans (if_neg hfree))),
      setMpu m Mpu.copied s, (exec_mpuCopyActive ha hr).trans (congrArg _ ((hcmd 4).trans (if_neg hfree))),
      activeRule_setMpu active_copied s, ?_⟩
    · exact hrule.trans ((if_neg hfree).trans (if_neg (Nat.not_le.2 hk)))
    · rw [getMpu_setMpu_self]
      exact copied_sets _
  · have hrule := writeRule_template hm hi v
    have hcmd := writeMpuCmd_template hm
    refine ⟨fun hpend => exec_commits_counted ha hr (hrule.trans (if_pos hpend))
        fun w hw => (hcmd w).trans (templateCmd_pend hpend w hw),
      (exec_mpuCancel ha hr).trans (congrArg _ (hcmd 3)), fun hpend => ?_⟩
    have hfree : ¬ s.dsp.tpend = true := Bool.eq_false_iff.1 hpend
    refine ⟨fun hk hk' => (exec_mpuRuleWrite ha hr hi v).trans (congrArg _ ?_),
      fun hk => (exec_mpuRuleWrite ha hr hi v).trans (congrArg _ ?_),
      (exec_mpuSwapNow ha hr).trans (congrArg _ ((hcmd 1).trans (if_neg hfree))),
      (exec_mpuSwapStaged ha hr).trans (congrArg _ ((hcmd 2).trans (if_neg hfree))),
      (exec_mpuCopyActive ha hr).trans (congrArg _ ((hcmd 4).trans (if_neg hfree)))⟩
    · have hslot : ¬ (decide (k ≤ 16) || decide (54 ≤ k)) = true := by simp; omega
      exact hrule.trans ((if_neg hfree).trans (if_neg hslot))
    · have hslot : (decide (k ≤ 16) || decide (54 ≤ k)) = true := by simp [hk]
      exact hrule.trans ((if_neg hfree).trans (if_pos hslot))

end Sys2Proof.Machine

/-! # Reads, counters, HOLD and PF queue pair 0 (19 R473-R482, 16 R416, R428-R430, 17 R439) -/

namespace Sys2Proof.Machine

set_option Elab.async false

/-! ## Reads (R475, R476, R481) -/

theorem copiesOf_modCopies_ne {a b : Accessor} (h : b ≠ a) (f : Copies → Copies) (s : State) :
    copiesOf (modCopies a f s) b = copiesOf s b := by
  cases a <;> cases b <;> simp [modCopies, copiesOf] at h ⊢

theorem readDword_enabled {be : BitVec 4} (h : be ≠ 0) (a : Accessor) (off : Nat) (s : State) :
    readDword a off be s =
      (BitVec.ofNat 32 (valueOf s a off) &&& BitVec.ofNat 32 (byteMask be), readEffect a off s) :=
  if_neg (by simpa using h)

theorem readEffect_block {a : Accessor} {off : Nat} (h : eventAt a off = none) (hend : off < blocksEnd) (s : State) :
    readEffect a off s = modCopies a (fun c => rcClear off (latch s off c)) s := by
  simp [readEffect, h, hend]

/-- A read of a register of the blocks: its value under the byte enables, and what it clears and latches for the reader. -/
theorem regRead_block {s : State} {a : Accessor} {off : Nat} {be : BitVec 4} (hoff : off % 4 = 0) (hend : off < blocksEnd)
    (hr : reaches s a off = true) (hl : lockedFor s a off false = false) (hev : eventAt a off = none) (hbe : be ≠ 0) :
    regRead a { off := off, len := 1, be := be, be2 := 0 } s =
      emit (.readData a [BitVec.ofNat 32 (valueOf s a off) &&& BitVec.ofNat 32 (byteMask be)] false)
        (modCopies a (fun c => rcClear off (latch s off c)) s) := by
  rw [regRead_dword hoff hr hl, readDword_enabled hbe, readEffect_block hev hend]

/-! ## Performance counters (16 R428, R430) -/

/-- The state with counter `n` at `c`. -/
def setCounter (n : Nat) (c : Counter) (s : State) : State := { s with pmu := tput s.pmu n c }

theorem pmuCounter_setCounter_self (n : Nat) (c : Counter) (s : State) : pmuCounter (setCounter n c s) n = c := by
  simp [pmuCounter, setCounter, tget]

theorem pmuCounter_setCounter_ne {n k : Nat} (h : k ≠ n) (c : Counter) (s : State) :
    pmuCounter (setCounter n c s) k = pmuCounter s k := by
  simp [pmuCounter, setCounter, tget, tfind_tput_ne _ _ h]

theorem chained_eq (s : State) (n : Nat) : chained s n = (n % 2 == 0 && (pmuCounter s n).chain && s.fcr.st == .normal) := rfl

/-- The count of a counter does not bear on whether it chains. -/
theorem chained_setCounter (s : State) (n m : Nat) :
    chained (setCounter n { pmuCounter s n with cnt := m } s) n = chained s n := by
  rw [chained_eq, chained_eq, pmuCounter_setCounter_self]
  rfl

theorem even_of_chained {s : State} {n : Nat} (h : chained s n = true) : n % 2 = 0 := by
  simp only [chained_eq, Bool.and_eq_true, beq_iff_eq] at h
  obtain ⟨⟨heven, -⟩, -⟩ := h
  exact heven

theorem pmuWrapped_carries {s : State} {n : Nat} (h : chained s n = true) (hroom : (pmuCounter s (n + 1)).cnt + 1 < 2 ^ 48) :
    pmuWrapped n s = setCounter (n + 1) { pmuCounter s (n + 1) with cnt := (pmuCounter s (n + 1)).cnt + 1 } s := by
  have hroom' : (tget s.pmu (n + 1) .zero).cnt + 1 < 2 ^ 48 := hroom
  simp only [pmuWrapped, h, if_true, if_pos hroom', pmuCounter, setCounter]

theorem pmuWrapped_overflows {s : State} {n : Nat} (h : chained s n = false) :
    pmuWrapped n s = { s with pmu := tmod s.pmu n (fun c => { c with ovf := true }) } := if_neg (Bool.eq_false_iff.1 h)

/-- An even counter that stands before its wrap wraps at its next occurrence. -/
theorem exec_pmuCounterWrap {s : State} {n : Nat} (hen : (pmuCounter s n).en = true) (hcnt : (pmuCounter s n).cnt = 2 ^ 48 - 1)
    (heven : n % 2 = 0) :
    exec (.pmuCounterWrap n) s = .next (pmuWrapped n (setCounter n { pmuCounter s n with cnt := 0 } s)) := by
  show execPmuCounterWrap n s = _
  simp [execPmuCounterWrap, setCounter, hen, hcnt, heven]

theorem exec_pmuCounterWrap_overflows {s : State} {n : Nat} (hen : (pmuCounter s n).en = true)
    (hcnt : (pmuCounter s n).cnt = 2 ^ 48 - 1) (heven : n % 2 = 0) (h : chained s n = false) :
    ∃ u, exec (.pmuCounterWrap n) s = .next u ∧ u = { s with pmu := u.pmu } ∧
      pmuCounter u n = { pmuCounter s n with cnt := 0, ovf := true } ∧ ∀ k, k ≠ n → pmuCounter u k = pmuCounter s k := by
  refine ⟨_, (exec_pmuCounterWrap hen hcnt heven).trans
    (congrArg _ (pmuWrapped_overflows ((chained_setCounter s n 0).trans h))), rfl, ?_, fun k hk => ?_⟩
  · simp [pmuCounter, setCounter, tget]
  · simp [pmuCounter, setCounter, tget, tfind_tmod_ne _ _ hk, tfind_tput_ne _ _ hk]

theorem exec_pmuCounterWrap_carries {s : State} {n : Nat} (hen : (pmuCounter s n).en = true)
    (hcnt : (pmuCounter s n).cnt = 2 ^ 48 - 1) (h : chained s n = true) (hroom : (pmuCounter s (n + 1)).cnt + 1 < 2 ^ 48) :
    ∃ u, exec (.pmuCounterWrap n) s = .next u ∧ u = { s with pmu := u.pmu } ∧
      pmuCounter u n = { pmuCounter s n with cnt := 0 } ∧
      pmuCounter u (n + 1) = { pmuCounter s (n + 1) with cnt := (pmuCounter s (n + 1)).cnt + 1 } := by
  have hnext := pmuCounter_setCounter_ne (n.succ_ne_self) { pmuCounter s n with cnt := 0 } s
  have hcarry := pmuWrapped_carries ((chained_setCounter s n 0).trans h) (by rwa [hnext])
  rw [hnext] at hcarry
  refine ⟨_, (exec_pmuCounterWrap hen hcnt (even_of_chained h)).trans (congrArg _ hcarry), rfl, ?_, ?_⟩
  · exact (pmuCounter_setCounter_ne n.succ_ne_self.symm _ _).trans (pmuCounter_setCounter_self ..)
  · exact pmuCounter_setCounter_self ..

/-! ## Writes of a register of the blocks -/

/-- The select registers (19 Table 19.5). -/
def selectOffsets : List Nat := [0x04020, 0x08020, 0x14020, 0x24020, 0x28030, 0x2C040, 0x30000, 0x34000]

theorem blockWrite_select {off : Nat} (h : off ∈ selectOffsets) (a : Accessor) (v : Word) (s : State) :
    blockWrite a off v s = modCopies a (writeSelect off v.toNat) s := by
  revert off
  simp only [selectOffsets, List.forall_mem_cons]
  exact ⟨rfl, rfl, rfl, rfl, rfl, rfl, rfl, rfl, by simp⟩

section Block

variable {s : State} {a : Accessor} {off : Nat} (hoff : off % 4 = 0) (hend : off < blocksEnd) (hr : reaches s a off = true)
  (hl : lockedFor s a off true = false)

include hoff hr hl

theorem exec_registerWrite_partial {be : BitVec 4} (hbe : be ≠ 15) (v w : Word) :
    exec (.registerWrite a { off := off, len := 1, be := be, be2 := 0 } v w) s = .next (accErr a s) :=
  congrArg _ ((regWrite_dword hoff hr hl be v w).trans (writeDword_partial hbe a off v s))

include hend

theorem exec_registerWrite_block (ha : ∀ n, a ≠ .vf n) (v w : Word) :
    exec (.registerWrite a { off := off, len := 1, be := 15, be2 := 0 } v w) s = .next (blockWrite a off v s) :=
  congrArg _ ((regWrite_dword hoff hr hl 15 v w).trans (writeDword_block ha hend v s))

end Block

/-- A register that each accessor may write, beyond what a VF reaches, is stored. -/
theorem writeReg_shared {s : State} {a : Accessor} {off : Nat} (h : off ∈ [0x30004, 0x30010, 0x30014, 0x2C004])
    (hr : reaches s a off = true) (hl : lockedFor s a off true = false) (v : Word) :
    writeReg a off 15 v s = blockStore a off v s := by
  have hblock : off % 4 = 0 ∧ 0x10000 ≤ off ∧ off < blocksEnd ∧ sharedWritable.contains off = true :=
    (by decide : ∀ o ∈ [0x30004, 0x30010, 0x30014, 0x2C004],
      o % 4 = 0 ∧ 0x10000 ≤ o ∧ o < blocksEnd ∧ sharedWritable.contains o = true) off h
  obtain ⟨hoff, hvf, hend, hshared⟩ := hblock
  exact writeReg_stored (ne_vf_of_reaches hr hvf) hoff hend hr hl (mayWrite_shared a hshared) v

theorem exec_pmuOvfClear {s : State} {a : Accessor} {hi : Bool} (v : Word)
    (hr : reaches s a (if hi then 0x30014 else 0x30010) = true)
    (hl : lockedFor s a (if hi then 0x30014 else 0x30010) true = false) :
    exec (.pmuOvfClear a hi 15 v) s = .next (clearOvf (if hi then 32 else 0) v s) := by
  cases hi with
  | false => exact congrArg _ (writeReg_shared (by simp) hr hl v)
  | true => exact congrArg _ (writeReg_shared (by simp) hr hl v)

theorem tfind_clearOvf (lo : Nat) (v : Word) (s : State) (k : Nat) :
    tfind (clearOvf lo v s).pmu k = (tfind s.pmu k).map (fun c =>
      if lo ≤ k ∧ k < lo + 32 ∧ v.getLsbD (k - lo) = true then { c with ovf := false } else c) := by
  simp [clearOvf, and_assoc]

/-! ## PF queue pair 0 (17 R439) -/

theorem writeReg_aqcfg {s : State} (hlive : hostLive s = true) (v : Word) : writeReg .host 0x00030 15 v s = writeAqcfg v s :=
  writeReg_stored (by simp) rfl (by decide) (by simp [reaches, hlive]) rfl rfl v

theorem exec_aqEnable {s : State} {x : Word} (v : Word) (hlive : hostLive s = true) (hx : x = v ||| 0x80000000)
    (hoff : aqOn s = false) (hgood : aqGood x = true) (hnone : getQueue s 0 0 = none) :
    exec (.aqEnable .host v) s = .next (addQueue 0 0 (aqPair s x) (setAqcfg (x &&& 0x800FFF00) s)) := by
  subst hx
  have hen : (v ||| 0x80000000).getLsbD 31 = true := by simp
  have hwrite : exec (.aqEnable .host v) s = .next (writeAqcfg (v ||| 0x80000000) s) := congrArg _ (writeReg_aqcfg hlive _)
  rw [hwrite, writeAqcfg, hoff, hen, hgood, hnone]
  rfl

/-- VEC does not reach EN. -/
theorem aqVec_and_not_en (v : Word) : aqVec (v &&& 0x7FFFFFFF) = aqVec v := by
  have hones : ∀ i < 8, (0x7FFFFFFF : Word).getLsbD (8 + i) = true := by decide
  refine congrArg BitVec.toNat (BitVec.eq_of_getLsbD_eq fun i hi => ?_)
  have hi' : (0x7FFFFFFF#32).getLsbD (8 + i) = true := hones i hi
  simp [hi']

/-- GEN_AQCFG as a write with EN clear leaves it. -/
def aqCleared (v : Word) (s : State) : Word := (v &&& 0x7FFFFFFF &&& 0x8000FF00) ||| (s.boot.aqcfg &&& 0x000F0000)

theorem aqCleared_en (v : Word) (s : State) : (aqCleared v s).getLsbD 31 = false := by
  simp [aqCleared]

theorem exec_aqDisable {s : State} (v : Word) (hlive : hostLive s = true) (hon : aqOn s = true) :
    exec (.aqDisable .host v) s = .next (modQueue 0 0 (fun p => { p with del := true })
      (modQueue 0 0 (fun p => { p with vec := if aqVec v < 128 then aqVec v else 0xFF }) (setAqcfg (aqCleared v s) s))) := by
  have hen : (v &&& 0x7FFFFFFF).getLsbD 31 = false := by simp
  have hwrite : exec (.aqDisable .host v) s = .next (writeAqcfg (v &&& 0x7FFFFFFF) s) := congrArg _ (writeReg_aqcfg hlive _)
  rw [hwrite, writeAqcfg, if_pos hon, aqVec_and_not_en, hen]
  rfl

/-- Settles O56: each clause is one request that reaches one register, and what that register's store does. -/
theorem registerCommandsWork : Obligations.RegisterCommandsWork := by
  intro s a off n hi be v w r writes
  refine ⟨fun hoff hend hr hl hev hbe => ?_, fun ⟨hr, hl⟩ => congrArg _ (writeReg_shared (by simp) hr hl v),
    fun ⟨hr, hl⟩ => ⟨_, exec_pmuOvfClear v hr hl, rfl, fun k => tfind_clearOvf _ v s k⟩,
    fun hen hcnt => ⟨fun heven h => exec_pmuCounterWrap_overflows hen hcnt heven h,
      fun h hroom => exec_pmuCounterWrap_carries hen hcnt h hroom⟩,
    fun ⟨hr, hl⟩ => congrArg _ (writeReg_shared (by simp) hr hl v),
    fun hoff hend ⟨hr, hl⟩ ha => ⟨fun hbe => exec_registerWrite_partial hoff hr hl hbe v w, ?_, ?_, ?_⟩,
    fun ha hlive => ⟨fun x hx hoff hgood hnone => ?_, fun p hon hp => ?_⟩⟩
  · have hread := regRead_block hoff hend hr hl hev hbe
    refine ⟨_, congrArg Host.Outcome.next hread, congrArg Host.Outcome.next hread, rfl, fun b hb => copiesOf_modCopies_ne hb _ s, ?_, ?_⟩
    · rintro rfl rfl
      rfl
    · rintro rfl rfl
      rfl
  · rintro rfl hdef hmay
    exact (exec_registerWrite_block hoff hend hr hl ha v w).trans (congrArg _ (blockWrite_closed hdef hmay v s))
  · rintro rfl hdef hmay
    exact (exec_registerWrite_block hoff hend hr hl ha v w).trans (congrArg _ (blockWrite_undefined hdef hmay v s))
  · rintro rfl hsel
    exact (exec_registerWrite_block hoff hend hr hl ha v w).trans (congrArg _ (blockWrite_select hsel a v s))
  · subst ha
    exact exec_aqEnable v hlive hx hoff hgood hnone
  · subst ha
    refine ⟨_, exec_aqDisable v hlive hon, aqCleared_en v s,
      getQueue_modQueue_self _ (getQueue_modQueue_self (s := setAqcfg _ s) _ hp), fun f q hq hne => ?_⟩
    rw [getQueue_modQueue_ne _ _ (by decide) hq hne, getQueue_modQueue_ne _ _ (by decide) hq hne]
    rfl

end Sys2Proof.Machine

/-! # Guard, power and the debug port (14 R364-R381, 05 R128)

A detection, a response and the loss of main power are each one operation of the model; the lemmas here say when a command runs
which of them, and what a response leaves of the guard and the gates. -/

namespace Sys2Proof.Machine

set_option Elab.async false

/-! ## Detections and responses (R364-R371) -/

/-- A source has become active: flagged, counted and active. -/
def detected (i : Nat) (s : State) : State :=
  { detect i false s with grd := { (detect i false s).grd with active := (detect i false s).grd.active ||| bit20 i } }

/-- A detection moves no source to another class. -/
theorem tamperClass_detect (i k : Nat) (batt : Bool) (s : State) : tamperClass (detect i batt s) k = tamperClass s k := rfl

theorem count_detect (i : Nat) (batt : Bool) (s : State) :
    (tget (detect i batt s).bk.events i .zero).count = satAdd max32 (tget s.bk.events i .zero).count 1 := by
  simp [detect, tget]

theorem exec_tamperDetect {s : State} {src i : Nat} (t : Nat) (hi : tamperBit src = some i) (hpow : s.powered = true) :
    exec (.tamperDetect t src) s = .next (tamper src i (s.at_ t)) := by
  show execTamperDetect t src s = _
  simp [execTamperDetect, hi, hpow]

/-- What a detection leads to in each state of the guard (Table 14.3). -/
theorem tamper_eq (id i : Nat) (s : State) : tamper id i s = match s.grd.st with
    | .battery | .held => detected i s
    | .responding => if s.grd.cls < tamperClass s i then respond id (tamperClass s i) (detected i s) else detected i s
    | .arming | .watching | .dormant => respond id (tamperClass s i) (detected i s) := rfl

/-- A detection is responded to in every state that watches, and while a response of a lower class runs. -/
theorem tamper_responds {s : State} {id i : Nat} (h : s.grd.st = .watching ∨ s.grd.st = .dormant ∨ s.grd.st = .arming ∨
    s.grd.st = .responding ∧ s.grd.cls < tamperClass s i) : tamper id i s = respond id (tamperClass s i) (detected i s) := by
  rw [tamper_eq]
  rcases h with h | h | h | ⟨h, hcls⟩ <;> rw [h]
  exact if_pos hcls

/-- In HELD, and beside a response of its class or a higher one, a detection is recorded only. -/
theorem tamper_recorded {s : State} {id i : Nat} (h : s.grd.st = .held ∨ s.grd.st = .responding ∧ tamperClass s i ≤ s.grd.cls) :
    tamper id i s = detected i s := by
  rw [tamper_eq]
  rcases h with h | ⟨h, hcls⟩ <;> rw [h]
  exact if_neg (Nat.not_lt.2 hcls)

theorem respond_gates (id cls : Nat) (s : State) : (respond id cls s).boot.gates = true := by
  unfold respond
  dsimp only
  repeat' split
  all_goals rfl

/-! ## The guard's states (Table 14.3) -/

theorem exec_responseComplete {s : State} (a : BitVec 20) (hst : s.grd.st = .responding) (hflush : s.fcr.flushing = false) :
    exec (.responseComplete a) s =
      .next { s with grd := { s.grd with st := if a = 0 then .arming else .held, active := a, cls := 0 } } := by
  show execResponseComplete a s = _
  simp [execResponseComplete, hst, hflush]

theorem exec_heldTimeout {s : State} (hst : s.grd.st = .held) :
    exec .heldTimeout s = .next { s with grd := { s.grd with st := .arming, active := 0 } } := if_pos (by simp [hst])

theorem exec_armingTimeout {s : State} (hst : s.grd.st = .arming) :
    exec .armingTimeout s = .next (startUp { s with grd := { s.grd with st := .watching, active := 0 } }) := if_pos (by simp [hst])

theorem exec_mainPowerUp {s : State} (t : Nat) (hst : s.grd.st = .battery) :
    exec (.mainPowerUp t) s = .next { s.at_ t with
      bk := { s.bk with pwrcyc := (s.bk.pwrcyc + 1) % 2 ^ 32 }
      grd := { s.grd with st := .arming, active := 0, powerUpAt := max s.now t } } := if_pos (by simp [hst])

/-! ## Main power and battery (R375-R377) -/

theorem exec_mainPowerLoss {s : State} (t : Nat) (hpow : s.powered = true) :
    exec (.mainPowerLoss t) s = .next (powerOff (s.at_ t)) := if_pos hpow

/-- On battery a detection is flagged and stamped; one of class C clears sap. -/
theorem exec_batteryTamper {s : State} {src i : Nat} (t : Nat) (hi : tamperBit src = some i) (hpow : s.powered = false)
    (hbatt : onBattery src = true) : exec (.batteryTamper t src) s =
      .next (if tamperClass s i = 3 then clearSap (detect i true (s.at_ t)) else detect i true (s.at_ t)) := by
  have hclass : tamperClass (detect i true (s.at_ t)) i = tamperClass s i := tamperClass_detect i i true _
  show execBatteryTamper t src s = _
  simp [execBatteryTamper, hi, hpow, hbatt, hclass]

theorem exec_vbatWarning_recorded {s : State} (mv : Nat) (hpow : s.powered = true) (hphase : 2 ≤ s.boot.phase) :
    exec (.vbatWarning mv) s =
      .next (batCheck { s with grd := { s.grd with vbat := mv, batWarn := mv < 2600 } }) :=
  if_pos (Bool.and_eq_true_iff.2 ⟨hpow, decide_eq_true hphase⟩)

theorem exec_vbatWarning_battery {s : State} (mv : Nat) (hpow : s.powered = false) :
    exec (.vbatWarning mv) s = .next { s with grd := { s.grd with vbat := mv, batWarn := mv < 2600 } } :=
  if_neg fun h => absurd (Bool.and_eq_true_iff.1 h).1 (Bool.eq_false_iff.1 hpow)

/-! ## The debug port (05 R128) -/

theorem exec_debugPortLockedAccess {s : State} (t addr : Nat) (r : Right) (hst : s.grd.st = .watching) (hphase : s.boot.phase ≠ 0) :
    exec (.debugPortLockedAccess t addr r) s = .next (debugLocked addr r (s.at_ t)) := if_neg (by simp [hst, hphase])

/-- Settles O53: each clause is the command's branch in the state that its hypotheses name. -/
theorem guardCommandsWork : Obligations.GuardCommandsWork := by
  intro s t src i hi
  refine ⟨fun hpow => ⟨rfl, rfl, count_detect i false (s.at_ t), fun hst => ?_, fun hst => ?_⟩,
    fun a => exec_responseComplete a, exec_heldTimeout, exec_armingTimeout, exec_mainPowerUp t,
    fun hpow => ⟨_, exec_mainPowerLoss t hpow, rfl, rfl, rfl, rfl⟩,
    fun hpow hbatt => ⟨_, exec_batteryTamper t hi hpow hbatt, ?_⟩,
    fun seeds => ⟨_, rfl, rfl, rfl, rfl, rfl⟩,
    fun mv => ⟨exec_vbatWarning_recorded mv, exec_vbatWarning_battery mv⟩,
    fun a r hst hphase => (exec_debugPortLockedAccess t a r hst hphase).trans (congrArg _ ?_)⟩
  · exact ⟨_, (exec_tamperDetect t hi hpow).trans (congrArg _ (tamper_responds hst)), rfl, rfl, rfl, rfl, respond_gates ..⟩
  · exact (exec_tamperDetect t hi hpow).trans (congrArg _ (tamper_recorded hst))
  · split
    next h => exact ⟨rfl, fun _ => rfl, fun hne => absurd h hne, rfl⟩
    next h => exact ⟨rfl, fun h3 => absurd h3 h, fun _ => rfl, rfl⟩
  · exact if_neg (by simp [hst, hphase])

end Sys2Proof.Machine

/-! # Faults, flushes and the resets that wait for them (16 R411-R424, 13 R357, R358, 18 R468)

A record, with its counts, reaches the recorder's own fields, the performance counters and the copies; so neither the collector's
state, nor the gates, nor a reset that waits is lost in one. -/

namespace Sys2Proof.Machine

set_option Elab.async false

/-! ## What a record and a fault report leave alone -/

/-- `t` differs from `s` in the recorder's ring, index, checkpoint and unflushed set, in the performance counters and in the
accessors' copies, and in nothing else. -/
def RecordReaches (s t : State) : Prop :=
  ∃ ring ridx unfl ckpt p h c0 c1 g, t = { s with
    fcr := { s.fcr with ring := ring, ridx := ridx, unfl := unfl, ckpt := ckpt }
    pmu := p, host := h, cp0 := c0, cp1 := c1, dbg := g }

theorem RecordReaches.trans {s t u : State} (h : RecordReaches s t) (k : RecordReaches t u) : RecordReaches s u := by
  obtain ⟨_, _, _, _, _, _, _, _, _, rfl⟩ := h
  obtain ⟨_, _, _, _, _, _, _, _, _, rfl⟩ := k
  exact ⟨_, _, _, _, _, _, _, _, _, rfl⟩

theorem countN_recordReaches (ev k : Nat) (ten : Option Nat) (s : State) : RecordReaches s (countN ev k ten s) := by
  obtain ⟨p, h⟩ := countN_frame ev k ten s
  exact ⟨_, _, _, _, p, _, _, _, _, h⟩

theorem record_recordReaches (sev source code : Nat) (data : Bytes) (tenant : Nat) (late : Bool) (s : State) :
    RecordReaches s (record sev source code data tenant late s) := by
  unfold record
  dsimp only
  obtain ⟨p, hp⟩ := count_frame (0xE4 + sev) none
    { s with fcr := { s.fcr with ridx := (s.fcr.ridx + 1) % 2 ^ 32, ckpt := s.fcr.ckpt.modify sev (· + 1) } }
  rw [hp]
  split
  · exact .trans ⟨_, _, _, _, _, _, _, _, _, rfl⟩ (countN_recordReaches 0xE8 1 none _)
  · exact .trans ⟨_, _, _, _, _, _, _, _, _, rfl⟩ (countN_recordReaches 0xE9 _ none _)

/-- A record and its count. -/
theorem count_record_reaches (ev sev source code : Nat) (data : Bytes) (tenant : Nat) (late : Bool) (s : State) :
    RecordReaches s (count ev none (record sev source code data tenant late s)) :=
  (record_recordReaches ..).trans (countN_recordReaches ev 1 none _)

/-- A fatal fault closes the gates and starts the sequencer with its source in FCR_LASTF. -/
theorem fatalFault_starts (src cause addr : Nat) (wire escal : Bool) (s : State) :
    (fatalFault src cause addr wire escal s).fcr.st = .recovery ∧ (fatalFault src cause addr wire escal s).fcr.lastF = src ∧
      (fatalFault src cause addr wire escal s).boot.gates = true := by
  obtain ⟨_, _, _, _, _, _, _, _, _, h⟩ := count_record_reaches 0xE2 3 src 0x0012
    (faultData 2 wire escal false cause addr 0 0) noTenant false (setFsrc src (fun f => { f with last := 3 })
      { closeGates s with fcr := { (closeGates s).fcr with st := .recovery, lastF := src, seqRun := true, smbAlert := true } })
  unfold fatalFault
  dsimp only
  rw [h]
  unfold errPulse
  split <;> exact ⟨rfl, rfl, rfl⟩

/-- The sequencer has failed: the collector halts with ERR_N held, and the gates stay closed. -/
theorem sequencerError_halts (s : State) :
    (sequencerError s).fcr.st = .halted ∧ (sequencerError s).fcr.locked = true ∧ (sequencerError s).boot.gates = true ∧
      (sequencerError s).fcr.seqRun = false :=
  ⟨rfl, rfl, rfl, rfl⟩

/-! ## The journal (R422) -/

/-- The collector as a finished flush leaves it: the flushed records are out of the unflushed set and marked in the ring. -/
def Fcr.journalled (f : Fcr) (jpos : Nat) : Fcr :=
  let done := f.flush.map (·.index)
  { f with
    jpos := jpos, flush := [], flushing := false, pwrFlush := false
    unfl := f.unfl.filter (fun r => !done.contains r.index)
    ring := f.ring.map (fun r => if done.contains r.index then { r with flushed := true } else r) }

/-- A flush that ends reaches the journal, the committed root, the collector and the counters alone. -/
theorem journalWrite_frame (s : State) : ∃ jpos n b c l p, journalWrite s = { s with
    fcr := s.fcr.journalled jpos, free := n, bk := b, clc := c, flash := l, pmu := p } := by
  obtain ⟨n, b, hcommit⟩ : ∃ n b, journalCommit s = { s with free := n, bk := b } := by
    unfold journalCommit
    split <;> exact ⟨_, _, rfl⟩
  unfold journalWrite
  dsimp only
  rw [hcommit]
  rw [(countN_frame 0xEA _ none _).choose_spec]
  split <;> exact ⟨_, _, _, _, _, _, rfl⟩

theorem mem_journalled_unfl {f : Fcr} {jpos : Nat} {x : Record} (h : x ∈ (f.journalled jpos).unfl) :
    x ∈ f.unfl ∧ ∀ y ∈ f.flush, y.index ≠ x.index := by
  obtain ⟨hx, hdone⟩ := List.mem_filter.1 h
  exact ⟨hx, by simpa using hdone⟩

/-! ## The collector's commands -/

section Collecting

variable {s : State} (h : collecting s = true)

include h

theorem exec_faultReport_one (t : Nat) (r : ErrorReport) :
    exec (.faultReport t r []) s = .next (selfCheck (s.at_ t) (report r (s.at_ t))) := if_pos h

theorem exec_faultReport_more (t : Nat) (r q : ErrorReport) (l : List ErrorReport) :
    exec (.faultReport t r (q :: l)) s = .next (selfCheck (s.at_ t) (reports (r :: q :: l) (s.at_ t))) := if_pos h

theorem exec_isolationTimeout {n : Nat} (hlast : (fsrc s n).last = 2) (hst : s.fcr.st ≠ .recovery) :
    exec (.isolationTimeout n) s = .next (fatalFault n causeTimeout 0 (fsrc s n).wire true s) := if_pos (by simp [h, hlast, hst])

theorem exec_heartbeatWrite {t n : Nat} (hon : (if n = 0 then s.dsp.off0 else s.dsp.off1) = false) :
    exec (.heartbeatWrite t n) s = .next { s.at_ t with fcr := { s.fcr with beatAt := some (max s.now t) } } := by
  have hgo : (collecting (s.at_ t) && !(if n == 0 then (s.at_ t).dsp.off0 else (s.at_ t).dsp.off1)) = true := by
    rw [show collecting (s.at_ t) = true from h]
    simp [hon]
  exact congrArg _ (if_pos hgo)

theorem exec_heartbeatTimeout {n : Nat} (hbeat : s.fcr.beatAt = some n) (hst : s.grd.st = .watching) :
    exec .heartbeatTimeout s = .next (fatal 0x0F02 causeTimeout 0 (s.at_ (n + 4000000))) := by
  show execHeartbeatTimeout s = _
  simp [execHeartbeatTimeout, hbeat, h, hst]

theorem exec_journalFlush (hset : s.fcr.unfl ≠ []) (hidle : s.fcr.flushing = false) :
    exec .journalFlush s = .next { s with fcr := { s.fcr with flush := s.fcr.unfl, flushing := true } } :=
  if_pos (by simp [h, hset, hidle])

end Collecting

/-! ## What the wires of a source report (R411) -/

/-- The wires say error, and the error was corrected. -/
theorem report_corrected {s : State} {r : ErrorReport} (ht : r.t = true) (hc : r.c = false) (hcorr : r.corrected = true) :
    report r s = corrected r.src r.cause r.addr s := by
  simp [report, reportIn, ht, hc, hcorr]

/-- The wires say error, and nothing corrected it. -/
theorem report_uncorrected {s : State} {r : ErrorReport} (ht : r.t = true) (hc : r.c = false) (hcorr : r.corrected = false)
    (hcause : r.cause ≠ causeEcc1) :
    report r s = uncorrectable r r.cause false (setFsrc r.src (fun f => { f with wire := false }) s) := by
  simp [report, reportIn, uncorrectable, ht, hc, hcorr, hcause]

/-- The pair of wires is broken, and was not before. -/
theorem report_broken {s : State} {r : ErrorReport} (hwires : r.t = r.c) (hnew : (fsrc s r.src).wire = false) :
    report r s = uncorrectable r causeWire true (setFsrc r.src (fun f => { f with wire := true }) s) := by
  simp [report, reportIn, uncorrectable, hwires, hnew]

/-! ## The end of a flush (R422, R423, 13 R357) -/

theorem deferredReset_of_none {s : State} (h : s.boot.deferred = none) : deferredReset s = s := by
  simp [deferredReset, h]

section Flushing

variable {s : State} (hflush : s.fcr.flushing = true)

include hflush

/-- The recovery flush ends in the recovery reset, with the source of the fatal fault as its detail. -/
theorem exec_sequencerFlushDone_resets (hseq : s.fcr.seqRun = true) (hst : s.grd.st ≠ .responding) (hdef : s.boot.deferred = none) :
    exec .sequencerFlushDone s = .next (restart .sequencer .classA 0x0702 s.fcr.lastF (journalWrite s)) := by
  obtain ⟨jpos, n, b, c, l, p, hwrite⟩ := journalWrite_frame s
  show execSequencerFlushDone s = _
  simp [execSequencerFlushDone, hseq, hflush, hwrite, hst, hdef, Fcr.journalled]

/-- Beside a tamper response the recovery flush ends without a reset of its own. -/
theorem exec_sequencerFlushDone_responding (hseq : s.fcr.seqRun = true) (hst : s.grd.st = .responding) :
    ∃ u, exec .sequencerFlushDone s = .next u ∧ u.fcr.seqRun = false ∧ u.fcr.flushing = false ∧ u.grd = s.grd := by
  obtain ⟨jpos, n, b, c, l, p, hwrite⟩ := journalWrite_frame s
  refine ⟨{ journalWrite s with fcr := { (journalWrite s).fcr with seqRun := false } }, ?_, rfl, ?_, ?_⟩
  · show execSequencerFlushDone s = _
    simp [execSequencerFlushDone, hseq, hflush, hwrite, hst]
  · rw [hwrite]
    rfl
  · rw [hwrite]

theorem exec_journalFlushComplete (hseq : s.fcr.seqRun = false) (hdef : s.boot.deferred = none) :
    ∃ u, exec .journalFlushComplete s = .next u ∧ u.fcr.flushing = false ∧ u.fcr.flush = [] ∧
      ∀ x ∈ u.fcr.unfl, x ∈ s.fcr.unfl ∧ ∀ y ∈ s.fcr.flush, y.index ≠ x.index := by
  obtain ⟨jpos, n, b, c, l, p, hwrite⟩ := journalWrite_frame s
  have hrun : exec .journalFlushComplete s = .next (deferredReset (journalWrite s)) := if_pos (by simp [hflush, hseq])
  rw [deferredReset_of_none (by rw [hwrite]; exact hdef)] at hrun
  refine ⟨_, hrun, ?_, ?_, fun x hx => ?_⟩
  · rw [hwrite]
    rfl
  · rw [hwrite]
    rfl
  · rw [hwrite] at hx
    exact mem_journalled_unfl hx

end Flushing

theorem exec_flushResetTimeout {s : State} {c : ResetCause} {t : Nat} (h : s.boot.deferred = some (c, t)) :
    exec .flushResetTimeout s = .next (restart c .nothing 0x0701 0 (s.at_ t)) := by
  show execFlushResetTimeout s = _
  simp [execFlushResetTimeout, deferredReset, h]

/-- Settles O54: a report by what its wires say, a flush by what waits for it. -/
theorem faultCommandsWork : Obligations.FaultCommandsWork := by
  intro s t n r
  refine ⟨fun h => ⟨fun ht hc hcorr => ?_, fun ht hc hcorr hcause => ?_, fun hwires hnew => ?_, exec_faultReport_more h t r,
      fun hlast hst => ?_, exec_heartbeatWrite h, exec_heartbeatTimeout h, exec_journalFlush h⟩, rfl,
    fun hflush => ⟨exec_sequencerFlushDone_resets hflush, exec_sequencerFlushDone_responding hflush,
      exec_journalFlushComplete hflush⟩,
    fun hseq => ⟨_, if_pos hseq, sequencerError_halts s⟩, fun c => exec_flushResetTimeout⟩
  · rw [exec_faultReport_one h, report_corrected ht hc hcorr]
  · rw [exec_faultReport_one h, report_uncorrected ht hc hcorr hcause]
  · rw [exec_faultReport_one h, report_broken (s := s.at_ t) hwires hnew]
  · exact ⟨_, exec_isolationTimeout h hlast hst, rfl, fatalFault_starts ..⟩

end Sys2Proof.Machine

/-! # Pins, power states, SMBus and the TAP (16 R423, R427, 17 R437, 15 R400-R402, 18 R456, R464-R468) -/

namespace Sys2Proof.Machine

set_option Elab.async false

/-! ## The pins (16 R423, 18 R465-R468) -/

theorem record_boot (sev source code : Nat) (data : Bytes) (tenant : Nat) (late : Bool) (s : State) :
    (record sev source code data tenant late s).boot = s.boot := by
  obtain ⟨_, _, _, _, _, _, _, _, _, h⟩ := record_recordReaches sev source code data tenant late s
  rw [h]

/-- PWRFAIL_N is low since the instant `t`, and the record of it is written. -/
def pwrfailRecorded (t : Nat) (s : State) : State :=
  record 2 srcArmature 0x0003 (toBE 1 s.fcr.unfl.length) noTenant false
    { s.at_ t with boot := { s.boot with pwrfail := true, pwrfailAt := max s.now t } }

theorem pwrfailRecorded_boot (t : Nat) (s : State) :
    (pwrfailRecorded t s).boot = { s.boot with pwrfail := true, pwrfailAt := max s.now t } := record_boot ..

/-- PWRFAIL_N goes low: the whole unflushed set, with the record of the pin, is flushed. -/
theorem exec_pwrfailNAssert {s : State} (t : Nat) (hpow : s.powered = true) (hpin : s.boot.pwrfail = false)
    (hcoll : collecting s = true) : exec (.pwrfailNAssert t) s = .next { pwrfailRecorded t s with
      fcr := { (pwrfailRecorded t s).fcr with
        flush := (pwrfailRecorded t s).fcr.unfl, flushing := true, pwrFlush := !(pwrfailRecorded t s).fcr.seqRun } } := by
  have hrun : exec (.pwrfailNAssert t) s = _ := if_neg (by simp [hpow, hpin])
  exact hrun.trans (if_pos hcoll)

/-- A flush that RESET_N must not cut short holds its reset back, with the outputs closed. -/
theorem exec_resetNAssert_deferred {s : State} (t : Nat) (hpow : s.powered = true) (hflush : pinFlush s = true) :
    exec (.resetNAssert t) s = .next (deferReset .resetPin (s.at_ t)) := by
  have hrun : exec (.resetNAssert t) s = _ := if_neg (by simp [hpow])
  exact hrun.trans (if_pos hflush)

theorem exec_perstNRelease {s : State} (t : Nat) (env : BootEnv) (hpow : s.powered = true) (hperst : s.boot.perst = true) :
    exec (.perstNRelease t env) s = .next (startUp { s.at_ t with
      boot := { s.boot with perst := false, straps := some (env.role, env.id), env := env } }) := if_neg (by simp [hpow, hperst])

theorem exec_announcedPowerDown {s : State} {t : Nat} (hpow : s.powered = true) (hpin : s.boot.pwrfail = true)
    (hlow : s.boot.pwrfailAt + 1000000 ≤ t) : exec (.announcedPowerDown t) s = .next (powerOff (s.at_ t)) :=
  if_pos (by simp [hpow, hpin, hlow])

/-! ## SMBus and the TAP (16 R427, 18 R456) -/

section Ports

variable {s : State} (hpow : s.powered = true)

include hpow

theorem exec_healthGet :
    exec .healthGet s = .next (emit (.smbus (healthBytes s)) { s with fcr := { s.fcr with smbAlert := false } }) := if_pos hpow

theorem exec_mctpControl (msg : Bytes) : exec (.mctpControl msg) s = .next (emit (.smbus (Config.mctpAnswer msg)) s) := if_pos hpow

theorem exec_tapBypass (bits : List Bool) :
    exec (.tapBypass bits) s = .next (emit (.tdo ((false :: bits).take bits.length)) s) := if_pos hpow

theorem exec_tapIdcode : exec .tapIdcode s = .next (emit (.tdo idcodeOut) s) := if_pos hpow

/-- With the SCAN right the boundary register shifts out as many bits as come in. -/
theorem boundaryScan_shifts (hopen : s.grd.dbgOpen = true) (hscan : s.grd.rights.getLsbD 0 = true) (bits : List Bool) :
    ∃ l u, boundaryScan bits s = emit (.tdo l) u ∧ l.length = bits.length ∧ u = { s with free := u.free } :=
  ⟨_, _, if_pos (by simp [scanMay, hpow, hopen, hscan]), by simp [boundaryBits], rfl⟩

end Ports

/-! ## READY and the power states (17 R437, 15 R400-R402) -/

section Watching

variable {s : State} (hst : s.grd.st = .watching)

include hst

theorem exec_bootReady (hphase : s.boot.phase = 4) (hcoll : s.fcr.st = .startup) : exec .bootReady s = .next (ready s) :=
  if_pos (by simp [hst, hphase, hcoll])

theorem exec_p1Entry (hen : s.grd.p1en = true) (hpower : s.grd.power = .p0) (hphase : s.boot.phase = 5) (hidle : idle s = true) :
    exec .p1Entry s = .next (count 0x02 none { s with grd := { s.grd with power := .p1 } }) :=
  if_pos (by simp [hst, hen, hpower, hphase, hidle])

theorem exec_p2Entry (hgo : s.grd.p2go = true) (hpower : s.grd.power = .p0) : exec .p2Entry s = .next { s with
    grd := { s.grd with power := .p2, st := .dormant, p2go := false }, eng := { s.eng with cache := [], saved := [] } } :=
  if_pos (by simp [hst, hgo, hpower])

end Watching

theorem exec_p1Wake {s : State} (c : WakeCause) (hpower : s.grd.power = .p1) :
    exec (.p1Wake c) s = .next { s with grd := { s.grd with power := .p0, wake := wakeCode c } } := if_pos (by simp [hpower])

theorem exec_p2Wake {s : State} {c : WakeCause} (enough : Bool) (hpower : s.grd.power = .p2) (hwakes : wakesP2 c = true) :
    exec (.p2Wake c enough) s = .next (refillCache (wakeSources enough (checkpoint
      { s with grd := { s.grd with power := .p0, wake := wakeCode c, st := .watching } }))) := if_pos (by simp [hpower, hwakes])

/-- Settles O55: each clause is the command's branch in the state that its hypotheses name. -/
theorem pinAndPowerCommandsWork : Obligations.PinAndPowerCommandsWork := by
  intro s t env msg bits
  refine ⟨fun hpow => ⟨fun hpin hcoll => ⟨_, exec_pwrfailNAssert t hpow hpin hcoll, ?_, ?_, rfl, rfl⟩,
      fun hflush => ⟨exec_perstNAssert t hpow hflush, exec_resetNAssert t hpow hflush⟩,
      fun hflush => ⟨_, exec_resetNAssert_deferred t hpow hflush, rfl, rfl, rfl⟩, exec_perstNRelease t env hpow,
      exec_announcedPowerDown hpow, exec_healthGet hpow, exec_mctpControl hpow msg, exec_tapBypass hpow bits, exec_tapIdcode hpow,
      fun hopen hscan => ?_⟩, rfl,
    fun hst => ⟨exec_bootReady hst, exec_p1Entry hst, exec_p2Entry hst⟩, fun c => ⟨exec_p1Wake c, fun b => exec_p2Wake b⟩⟩
  · exact congrArg Boot.pwrfail (pwrfailRecorded_boot t s)
  · exact congrArg Boot.pwrfailAt (pwrfailRecorded_boot t s)
  · obtain ⟨l, u, hscans, hlen, hu⟩ := boundaryScan_shifts hpow hopen hscan bits
    have hnext : ∀ c ∈ [Instr.tapSamplePreload bits, .tapExtest bits], exec c s = .next (boundaryScan bits s) :=
      List.forall_mem_cons.2 ⟨rfl, List.forall_mem_singleton.2 rfl⟩
    exact fun c hc => ⟨l, u, (hnext c hc).trans (congrArg _ hscans), hlen, hu⟩

end Sys2Proof.Machine
